-- ==== Sys2Proof/Word.lean ====
section
/-! DEFINITION. The machine's words and bytes. -/

namespace Sys2Proof

/-- A scalar register's 64 bits (R47). -/
abbrev Word := BitVec 64

/-- A byte of memory (R64). -/
abbrev Byte := BitVec 8

/-- A vector register's 256 bits (R52). -/
abbrev VReg := BitVec 256

/-- A 32-bit instruction word, float register or RX element. -/
abbrev W32 := BitVec 32

end Sys2Proof
end

