-- ==== Sys2Proof/Config.lean ====
section
/-! DEFINITION. What an implementation fixes and the spec leaves open: constants with no body, so that no proof can
see their values. -/

namespace Sys2Proof.Config

/-- The vendor's public key, whose SHAKE256 digest is fused at manufacture (R405). -/
opaque vendorKey : List Byte

/-- The SHAKE256 digest of the vendor's key that is fused at manufacture (R405). -/
opaque vendorDigest : List Byte

/-- Whether every core, steward, Waystation and engine passes the self-test of a reset (R5, R404): a free function of a
counter. -/
opaque selfTestOk : (count : Nat) → Bool

/-- The random bytes of a quote's signature (R408): a free function of a counter. -/
opaque quoteRandom : (count : Nat) → List Byte

/-- The fused device secret (R407). -/
opaque deviceSecret : List Byte

/-- The module serial, 16 bytes (R405, R408), as one number. -/
opaque serial : BitVec 128

/-- The fused minimum security version at manufacture (R405). -/
opaque fusedSvn : BitVec 32

/-- The device identifier the fabric gives this module (R62). -/
opaque deviceId : BitVec 17

/-- What a remote module answers to a request for it (R371, R393): the fabric status as a fault code, 0 for success, as
a free function of the module, the physical address and a counter. -/
opaque remoteStatus : (dev pa count : Nat) → Nat

/-- The byte that a remote module's reply carries (R371): a free function of module, physical address and a counter. -/
opaque remoteByte : (dev pa count : Nat) → Byte

/-- TIME of a reply, an arrival packet or an acknowledgement of another module (R111, R364): that module's stamp clock when it made
it. -/
opaque remoteTime : (count : Nat) → BitVec 56

/-- TIME of a Lantern that a fabric link carries (R116, R130): the world decides it. -/
opaque fabricLantern : (count : Nat) → BitVec 56

/-- Whether another module that is a group's FBHOME refuses this module's arrival (R364): that module's own answer. -/
opaque fbRefused : (count : Nat) → Bool

/-- The bytes of a spilled held access in a cellar (R363), whose form the spec does not lay out. -/
opaque cellarByte : (count : Nat) → Byte

/-- How many 256-byte units of the command in progress are already written when its hold times out (R326). -/
opaque unitsDone : (count : Nat) → Nat

end Sys2Proof.Config
end

