-- ==== Sys2Proof/Syntax.lean ====
section
/-! DEFINITION. The instructions and events of the opcode table, one constructor per row. The 192 rows of 32-bit words
carry their guard first, the 23 rows of halfwords have none (R134), and the 98 rows without an encoding are the steps
of engines, homes, control pages and the world outside: their arguments name the packet, hart or unit they happen to. -/

namespace Sys2Proof

/-- A core, named as R6 names it: die 0 to 31, row 0 to 79, column 0 to 63. -/
structure CoreId where
  die : Nat
  row : Nat
  col : Nat
  deriving DecidableEq, Repr

/-- The harts of the module: thread sets of cores (R47), Porters (R336), NMU overlays (R325), stewards (R351). -/
inductive HartId where
  /-- Thread set `h` of a core (R1). -/
  | thread (core : CoreId) (h : Nat)
  /-- Porter 0 to 7 of a die (R336). -/
  | porter (die p : Nat)
  /-- The NMU of a module-wide channel number (R7, R317). -/
  | overlay (ch : Nat)
  /-- Steward 0 to 3 of a die (R351). -/
  | steward (die s : Nat)
  /-- The module steward in the west I/O die (R351). -/
  | moduleSteward
  deriving DecidableEq, Repr

/-- A notice ring: a die steward's or the module steward's (R351). -/
inductive RingId where
  | die (die s : Nat)
  | module
  deriving DecidableEq, Repr

/-- The 96-bit stamp of a fabric request (R110, R130): the host's own for a request marked ordered; with a nonzero FBID
the logical stamp of a partner module's held access in that fabric group (R114, R364). -/
structure FabricMark where
  time : Nat
  dev : Nat
  inj : Nat
  seq : Nat
  fbid : Nat
  deriving DecidableEq, Repr

/-- What a fabric request does at its physical address (R393, R401): the world outside chooses it. One without a mark is
bulk class (R130). -/
inductive FabricAct where
  /-- Read `n` bytes. -/
  | read (n : Nat) (mark : Option FabricMark)
  /-- Write bytes. -/
  | write (bytes : List Byte) (mark : Option FabricMark)
  /-- An atomic of code `op` (R169) and `size` bytes. -/
  | atomic (op size : Nat) (operand compare : Word) (mark : Option FabricMark)
  /-- The close of a superstep of a fabric group (R364). -/
  | close (fbid superstep : Nat)
  /-- A reduction packet: window, operation, count of the round, contributions merged into it and their value. -/
  | reduction (w op count merged : Nat) (operand : Word)
  deriving DecidableEq, Repr

/-- The guard of a 32-bit word: gn and gp (R133). -/
structure Guard where
  neg : Bool
  p : BitVec 3
  deriving DecidableEq, Repr

/-- The instructions and events, one constructor per row of the opcode table: first the rows with an encoding, in the
table's order, then the three events that step itself brings about, then the other events in the table's order. -/
inductive Instr where
  /-- ADD (R185): Writes x[a] + x[b], modulo 2^64, to x[d]. -/
  | add (g : Guard) (d : BitVec 5) (a : BitVec 5) (b : BitVec 5)
  /-- SUB (R185): Writes x[a] - x[b], modulo 2^64, to x[d]. -/
  | sub (g : Guard) (d : BitVec 5) (a : BitVec 5) (b : BitVec 5)
  /-- AND (R185): Writes the bitwise AND of x[a] and x[b] to x[d]. -/
  | and (g : Guard) (d : BitVec 5) (a : BitVec 5) (b : BitVec 5)
  /-- OR (R185): Writes the bitwise OR of x[a] and x[b] to x[d]. -/
  | or (g : Guard) (d : BitVec 5) (a : BitVec 5) (b : BitVec 5)
  /-- XOR (R185): Writes the bitwise XOR of x[a] and x[b] to x[d]. -/
  | xor (g : Guard) (d : BitVec 5) (a : BitVec 5) (b : BitVec 5)
  /-- ANDN (R185): Writes x[a] AND NOT x[b] to x[d]. -/
  | andn (g : Guard) (d : BitVec 5) (a : BitVec 5) (b : BitVec 5)
  /-- SLL (R185): Shifts x[a] left by the low 6 bits of x[b]. -/
  | sll (g : Guard) (d : BitVec 5) (a : BitVec 5) (b : BitVec 5)
  /-- SRL (R185): Shifts x[a] right by the low 6 bits of x[b], filling with zeros. -/
  | srl (g : Guard) (d : BitVec 5) (a : BitVec 5) (b : BitVec 5)
  /-- SRA (R185): Shifts x[a] right by the low 6 bits of x[b], copying bit 63. -/
  | sra (g : Guard) (d : BitVec 5) (a : BitVec 5) (b : BitVec 5)
  /-- ROR (R185): Rotates x[a] right by the low 6 bits of x[b]. -/
  | ror (g : Guard) (d : BitVec 5) (a : BitVec 5) (b : BitVec 5)
  /-- SLT (R185): Writes 1 to x[d] when x[a] < x[b] signed, and 0 otherwise. -/
  | slt (g : Guard) (d : BitVec 5) (a : BitVec 5) (b : BitVec 5)
  /-- SLTU (R185): Writes 1 to x[d] when x[a] < x[b] unsigned, and 0 otherwise. -/
  | sltu (g : Guard) (d : BitVec 5) (a : BitVec 5) (b : BitVec 5)
  /-- MIN (R185): Writes the signed lesser of x[a] and x[b] to x[d]. -/
  | min (g : Guard) (d : BitVec 5) (a : BitVec 5) (b : BitVec 5)
  /-- MAX (R185): Writes the signed greater of x[a] and x[b] to x[d]. -/
  | max (g : Guard) (d : BitVec 5) (a : BitVec 5) (b : BitVec 5)
  /-- MINU (R185): Writes the unsigned lesser of x[a] and x[b] to x[d]. -/
  | minu (g : Guard) (d : BitVec 5) (a : BitVec 5) (b : BitVec 5)
  /-- MAXU (R185): Writes the unsigned greater of x[a] and x[b] to x[d]. -/
  | maxu (g : Guard) (d : BitVec 5) (a : BitVec 5) (b : BitVec 5)
  /-- ADDSH1 (R185): Writes (x[a] << 1) + x[b] to x[d]. -/
  | addsh1 (g : Guard) (d : BitVec 5) (a : BitVec 5) (b : BitVec 5)
  /-- ADDSH2 (R185): Writes (x[a] << 2) + x[b] to x[d]. -/
  | addsh2 (g : Guard) (d : BitVec 5) (a : BitVec 5) (b : BitVec 5)
  /-- ADDSH3 (R185): Writes (x[a] << 3) + x[b] to x[d]. -/
  | addsh3 (g : Guard) (d : BitVec 5) (a : BitVec 5) (b : BitVec 5)
  /-- CLZ (R185): Writes the count of leading zero bits of x[a], or 64 when x[a] is 0. -/
  | clz (g : Guard) (d : BitVec 5) (a : BitVec 5)
  /-- CTZ (R185): Writes the count of trailing zero bits of x[a], or 64 when x[a] is 0. -/
  | ctz (g : Guard) (d : BitVec 5) (a : BitVec 5)
  /-- POPC (R185): Writes the number of one bits of x[a]. -/
  | popc (g : Guard) (d : BitVec 5) (a : BitVec 5)
  /-- BYTEREV (R185): Writes x[a] with its bytes reversed. -/
  | byterev (g : Guard) (d : BitVec 5) (a : BitVec 5)
  /-- SEXTW (R185): Writes the low 32 bits of x[a], sign-extended. -/
  | sextw (g : Guard) (d : BitVec 5) (a : BitVec 5)
  /-- ZEXTW (R185): Writes the low 32 bits of x[a], zero-extended. -/
  | zextw (g : Guard) (d : BitVec 5) (a : BitVec 5)
  /-- ADDW (R185): Writes sext(x[a] + x[b], 32) to x[d]. -/
  | addw (g : Guard) (d : BitVec 5) (a : BitVec 5) (b : BitVec 5)
  /-- SUBW (R185): Writes sext(x[a] - x[b], 32) to x[d]. -/
  | subw (g : Guard) (d : BitVec 5) (a : BitVec 5) (b : BitVec 5)
  /-- MUL (R187): Writes the low 64 bits of x[a]·x[b] to x[d]. -/
  | mul (g : Guard) (d : BitVec 5) (a : BitVec 5) (b : BitVec 5)
  /-- MULH (R187): Writes the high 64 bits of the signed 128-bit product. -/
  | mulh (g : Guard) (d : BitVec 5) (a : BitVec 5) (b : BitVec 5)
  /-- MULHU (R187): Writes the high 64 bits of the unsigned 128-bit product. -/
  | mulhu (g : Guard) (d : BitVec 5) (a : BitVec 5) (b : BitVec 5)
  /-- MULHSU (R187): Writes the high 64 bits of the product of signed x[a] and unsigned x[b]. -/
  | mulhsu (g : Guard) (d : BitVec 5) (a : BitVec 5) (b : BitVec 5)
  /-- DIV (R187): Writes the signed quotient, truncated, with the defined results for division by zero and overflow. -/
  | div (g : Guard) (d : BitVec 5) (a : BitVec 5) (b : BitVec 5)
  /-- DIVU (R187): Writes the unsigned quotient; division by zero gives all ones. -/
  | divu (g : Guard) (d : BitVec 5) (a : BitVec 5) (b : BitVec 5)
  /-- REM (R187): Writes the signed remainder, which takes the sign of the dividend. -/
  | rem (g : Guard) (d : BitVec 5) (a : BitVec 5) (b : BitVec 5)
  /-- REMU (R187): Writes the unsigned remainder; division by zero gives x[a]. -/
  | remu (g : Guard) (d : BitVec 5) (a : BitVec 5) (b : BitVec 5)
  /-- ADDI (R189): Writes x[a] + sext(imm11, 11) to x[d]. -/
  | addi (g : Guard) (d : BitVec 5) (a : BitVec 5) (i : BitVec 11)
  /-- ANDI (R189): Writes x[a] AND sext(imm11, 11) to x[d]. -/
  | andi (g : Guard) (d : BitVec 5) (a : BitVec 5) (i : BitVec 11)
  /-- ORI (R189): Writes x[a] OR sext(imm11, 11) to x[d]. -/
  | ori (g : Guard) (d : BitVec 5) (a : BitVec 5) (i : BitVec 11)
  /-- XORI (R189): Writes x[a] XOR sext(imm11, 11) to x[d]. -/
  | xori (g : Guard) (d : BitVec 5) (a : BitVec 5) (i : BitVec 11)
  /-- SLTI (R189): Writes 1 to x[d] when x[a] is below the immediate, compared signed. -/
  | slti (g : Guard) (d : BitVec 5) (a : BitVec 5) (i : BitVec 11)
  /-- SLTIU (R189): Writes 1 to x[d] when x[a] is below the sign-extended immediate, compared unsigned. -/
  | sltiu (g : Guard) (d : BitVec 5) (a : BitVec 5) (i : BitVec 11)
  /-- SLLI (R190): Shifts x[a] left by an immediate amount from 0 to 63. -/
  | slli (g : Guard) (d : BitVec 5) (a : BitVec 5) (h : BitVec 6)
  /-- SRLI (R190): Shifts x[a] right logically by an immediate amount. -/
  | srli (g : Guard) (d : BitVec 5) (a : BitVec 5) (h : BitVec 6)
  /-- SRAI (R190): Shifts x[a] right arithmetically by an immediate amount. -/
  | srai (g : Guard) (d : BitVec 5) (a : BitVec 5) (h : BitVec 6)
  /-- RORI (R190): Rotates x[a] right by an immediate amount. -/
  | rori (g : Guard) (d : BitVec 5) (a : BitVec 5) (h : BitVec 6)
  /-- LI (R191): Writes sext(imm16, 16) to x[d]. -/
  | li (g : Guard) (d : BitVec 5) (i : BitVec 16)
  /-- LIS (R191): Writes (x[d] << 16) | imm16 to x[d]. -/
  | lis (g : Guard) (d : BitVec 5) (i : BitVec 16)
  /-- ADDPC (R191): Writes pc + sext(imm16, 16)·2 to x[d]. -/
  | addpc (g : Guard) (d : BitVec 5) (i : BitVec 16)
  /-- CMP (R193): Evaluates an integer condition on x[a] and x[b] and writes pd and pe by its mode. -/
  | cmp (g : Guard) (m : BitVec 2) (d : BitVec 3) (a : BitVec 5) (b : BitVec 5) (e : BitVec 3) (c : BitVec 3)
  /-- CMPI (R193): Evaluates an integer condition on x[a] and a 5-bit immediate and writes pd and pe by its mode. -/
  | cmpi (g : Guard) (m : BitVec 2) (d : BitVec 3) (a : BitVec 5) (i : BitVec 5) (e : BitVec 3) (c : BitVec 3)
  /-- PAND (R194): Writes P[a] AND P[b] to P[d]. -/
  | pand (g : Guard) (d : BitVec 3) (a : BitVec 3) (b : BitVec 3)
  /-- POR (R194): Writes P[a] OR P[b] to P[d]. -/
  | por (g : Guard) (d : BitVec 3) (a : BitVec 3) (b : BitVec 3)
  /-- PXOR (R194): Writes P[a] XOR P[b] to P[d]. -/
  | pxor (g : Guard) (d : BitVec 3) (a : BitVec 3) (b : BitVec 3)
  /-- PANDN (R194): Writes P[a] AND NOT P[b] to P[d]. -/
  | pandn (g : Guard) (d : BitVec 3) (a : BitVec 3) (b : BitVec 3)
  /-- PORN (R194): Writes P[a] OR NOT P[b] to P[d]. -/
  | porn (g : Guard) (d : BitVec 3) (a : BitVec 3) (b : BitVec 3)
  /-- PNOT (R194): Writes NOT P[a] to P[d]. -/
  | pnot (g : Guard) (d : BitVec 3) (a : BitVec 3)
  /-- PFROMX (R194): Writes the low 32 bits of x[a] to P[d]. -/
  | pfromx (g : Guard) (d : BitVec 3) (a : BitVec 5)
  /-- PTOX (R194): Writes P[a], zero-extended, to x[d]. -/
  | ptox (g : Guard) (d : BitVec 5) (a : BitVec 3)
  /-- PFIRST (R194): Writes the lowest set bit of P[a] alone to P[d]. -/
  | pfirst (g : Guard) (d : BitVec 3) (a : BitVec 3)
  /-- PCNT (R194): Writes the number of one bits of P[a] to x[d]. -/
  | pcnt (g : Guard) (d : BitVec 5) (a : BitVec 3)
  /-- FCMP (R233): Evaluates a float condition on f[a] and f[b] and writes pd and pe by its mode, with the NV rules of R233. -/
  | fcmp (g : Guard) (m : BitVec 2) (d : BitVec 3) (a : BitVec 4) (b : BitVec 4) (e : BitVec 3) (c : BitVec 3)
  /-- VCMP (R237): Evaluates an integer condition per enabled lane and writes the pd and pe bits. -/
  | vcmp (g : Guard) (t : BitVec 2) (d : BitVec 3) (a : BitVec 5) (b : BitVec 5) (e : BitVec 3) (c : BitVec 3)
  /-- VFCMP (R237): Evaluates a float condition per enabled lane and writes the pd and pe bits. -/
  | vfcmp (g : Guard) (t : BitVec 2) (d : BitVec 3) (a : BitVec 5) (b : BitVec 5) (e : BitVec 3) (c : BitVec 3)
  /-- J (R195): Branches to pc + sext(imm21)·2 when the guard allows; in a troupe, a member whose outcome differs leaves. -/
  | j (g : Guard) (i : BitVec 21)
  /-- JAL (R195): Branches to a pc-relative target and writes pc + 4 to x1. -/
  | jal (g : Guard) (i : BitVec 21)
  /-- JALR (R196): Jumps to x[a] + sext(imm11)·2 and writes pc + 4 to x[d], trapping on an odd target. -/
  | jalr (g : Guard) (d : BitVec 5) (a : BitVec 5) (i : BitVec 11)
  /-- DJNZ (R197): Decrements x[d] and branches when the result is nonzero. -/
  | djnz (g : Guard) (d : BitVec 5) (i : BitVec 16)
  /-- REP (R200): Checks the body and then runs it x[a] times, renaming fields by the stagger descriptor. -/
  | rep (g : Guard) (a : BitVec 5) (l : BitVec 4) (e : BitVec 3)
  /-- TRP_FORM (R206): Arrives at the forming of a troupe of width x[a] and skew x[b], and stalls until all members arrive. -/
  | trpForm (g : Guard) (a : BitVec 5) (b : BitVec 5)
  /-- TRP_SPLIT (R207): Dissolves the troupe, and each member continues under its own program counter. -/
  | trpSplit (g : Guard)
  /-- TRP_POS (R208): Writes the member's troupe position to x[d]. -/
  | trpPos (g : Guard) (d : BitVec 5)
  /-- TRP_WIDTH (R208): Writes the troupe width to x[d]. -/
  | trpWidth (g : Guard) (d : BitVec 5)
  /-- LD (R210): Loads a sign-extended value of 1 to 8 bytes; local loads act at issue, remote loads are counted and scoreboarded. -/
  | ld (g : Guard) (d : BitVec 5) (a : BitVec 5) (i : BitVec 7) (s : BitVec 2) (c : BitVec 2)
  /-- LDU (R210): Loads a zero-extended value of 1, 2 or 4 bytes. -/
  | ldu (g : Guard) (d : BitVec 5) (a : BitVec 5) (i : BitVec 7) (s : BitVec 2) (c : BitVec 2)
  /-- ST (R211): Stores the low bytes of x[d]: locally at issue, or through the store buffer. -/
  | st (g : Guard) (d : BitVec 5) (a : BitVec 5) (i : BitVec 7) (s : BitVec 2) (c : BitVec 2)
  /-- STO (R212): Stores as a release, waiting first for earlier stores and value-returning accesses. -/
  | sto (g : Guard) (d : BitVec 5) (a : BitVec 5) (i : BitVec 7) (s : BitVec 2) (c : BitVec 2)
  /-- FLD (R213): Loads an FP16, BF16 or FP32 value into f[d], widening it exactly. -/
  | fld (g : Guard) (d : BitVec 4) (a : BitVec 5) (i : BitVec 7) (s : BitVec 2) (c : BitVec 2)
  /-- FST (R213): Stores f[d], rounded once to FP16 or BF16, or unchanged as FP32. -/
  | fst (g : Guard) (d : BitVec 4) (a : BitVec 5) (i : BitVec 7) (s : BitVec 2) (c : BitVec 2)
  /-- VLD (R239): Loads the enabled elements, unit-stride or strided by e1, into the lanes of v[d]. -/
  | vld (g : Guard) (d : BitVec 5) (a : BitVec 5) (i : BitVec 7) (m : BitVec 1) (c : BitVec 2)
  /-- VST (R240): Stores the enabled elements of v[d], unit-stride or strided by e1. -/
  | vst (g : Guard) (d : BitVec 5) (a : BitVec 5) (i : BitVec 7) (m : BitVec 1) (c : BitVec 2)
  /-- AMO_ADD (R216): Atomically adds x[b] to the word at x[a] and returns the old value. -/
  | amoAdd (g : Guard) (d : BitVec 5) (a : BitVec 5) (b : BitVec 5) (o : BitVec 2) (z : BitVec 1)
  /-- AMO_AND (R216): Atomically ANDs x[b] into the word at x[a] and returns the old value. -/
  | amoAnd (g : Guard) (d : BitVec 5) (a : BitVec 5) (b : BitVec 5) (o : BitVec 2) (z : BitVec 1)
  /-- AMO_OR (R216): Atomically ORs x[b] into the word at x[a] and returns the old value. -/
  | amoOr (g : Guard) (d : BitVec 5) (a : BitVec 5) (b : BitVec 5) (o : BitVec 2) (z : BitVec 1)
  /-- AMO_XOR (R216): Atomically XORs x[b] into the word at x[a] and returns the old value. -/
  | amoXor (g : Guard) (d : BitVec 5) (a : BitVec 5) (b : BitVec 5) (o : BitVec 2) (z : BitVec 1)
  /-- AMO_MIN (R216): Atomically keeps the signed lesser of the word and x[b]. -/
  | amoMin (g : Guard) (d : BitVec 5) (a : BitVec 5) (b : BitVec 5) (o : BitVec 2) (z : BitVec 1)
  /-- AMO_MAX (R216): Atomically keeps the signed greater of the word and x[b]. -/
  | amoMax (g : Guard) (d : BitVec 5) (a : BitVec 5) (b : BitVec 5) (o : BitVec 2) (z : BitVec 1)
  /-- AMO_SWAP (R216): Atomically replaces the word with x[b] and returns the old value. -/
  | amoSwap (g : Guard) (d : BitVec 5) (a : BitVec 5) (b : BitVec 5) (o : BitVec 2) (z : BitVec 1)
  /-- AMO_CAS (R216): Atomically writes x[b] when the word equals x[d], and returns the old value. -/
  | amoCas (g : Guard) (d : BitVec 5) (a : BitVec 5) (b : BitVec 5) (o : BitVec 2) (z : BitVec 1)
  /-- FENCE (R124): Waits for earlier counted stores and value-returning accesses within its scope, and holds back all later accesses. -/
  | fence (g : Guard) (s : BitVec 3)
  /-- FENCE_ST (R124): Waits for earlier counted stores within its scope, and holds back later stores. -/
  | fenceSt (g : Guard) (s : BitVec 3)
  /-- FENCE_LD (R124): Waits for earlier value-returning accesses within its scope, and holds back all later accesses. -/
  | fenceLd (g : Guard) (s : BitVec 3)
  /-- SYNC (R28): Arrives at the barrier of its level and waits for the occurrence to complete. -/
  | sync (g : Guard) (l : BitVec 5)
  /-- ARRIVE (R28): Records the thread's arrival at its level and continues. -/
  | arrive (g : Guard) (l : BitVec 5)
  /-- ARRIVED (R28): Continues at once and arranges the arrival for when the named counter reads zero. -/
  | arrived (g : Guard) (l : BitVec 5) (c : BitVec 2)
  /-- WAIT (R28): Stalls until the occurrence of the thread's last arrival at its level completes. -/
  | wait (g : Guard) (l : BitVec 5)
  /-- WAITDC (R226): Stalls until the named dependence counter is at or below the threshold. -/
  | waitdc (g : Guard) (c : BitVec 2) (h : BitVec 5)
  /-- RGN (R227): Makes the next instruction the region entry, with the live-in mask taken from e[a]. -/
  | rgn (g : Guard) (e : BitVec 3)
  /-- YIELD (R228): Makes the thread not ready for one cycle and restarts the 256-cycle count. -/
  | yield (g : Guard)
  /-- PHASE_X (R229): Opens an exchange phase at its level. -/
  | phaseX (g : Guard) (l : BitVec 5)
  /-- CPY (R221): Checks both ranges and starts a packetized block copy with optional conversion, counted on its counter. -/
  | cpy (g : Guard) (d : BitVec 5) (a : BitVec 5) (b : BitVec 5) (v : BitVec 3) (o : BitVec 1) (c : BitVec 2)
  /-- FADD (R230): Adds f[a] and f[b] and rounds once to the type. -/
  | fadd (g : Guard) (d : BitVec 4) (a : BitVec 4) (b : BitVec 4) (t : BitVec 3)
  /-- FSUB (R230): Subtracts f[b] from f[a] and rounds once to the type. -/
  | fsub (g : Guard) (d : BitVec 4) (a : BitVec 4) (b : BitVec 4) (t : BitVec 3)
  /-- FMUL (R230): Multiplies f[a] by f[b] and rounds once to the type. -/
  | fmul (g : Guard) (d : BitVec 4) (a : BitVec 4) (b : BitVec 4) (t : BitVec 3)
  /-- FMIN (R84): Selects the lesser operand under the NaN and signed-zero rules. -/
  | fmin (g : Guard) (d : BitVec 4) (a : BitVec 4) (b : BitVec 4) (t : BitVec 3)
  /-- FMAX (R84): Selects the greater operand under the NaN and signed-zero rules. -/
  | fmax (g : Guard) (d : BitVec 4) (a : BitVec 4) (b : BitVec 4) (t : BitVec 3)
  /-- FDIV (R230): Divides f[a] by f[b] and rounds once to the type. -/
  | fdiv (g : Guard) (d : BitVec 4) (a : BitVec 4) (b : BitVec 4) (t : BitVec 3)
  /-- FSQRT (R230): Takes the square root of f[a] and rounds once to the type. -/
  | fsqrt (g : Guard) (d : BitVec 4) (a : BitVec 4) (t : BitVec 3)
  /-- FFMA (R230): Computes f[a]·f[b] + f[d] exactly and rounds once to the type. -/
  | ffma (g : Guard) (d : BitVec 4) (a : BitVec 4) (b : BitVec 4) (t : BitVec 3)
  /-- FMVXF (R231): Moves the raw bits of f[a] to x[d]. -/
  | fmvxf (g : Guard) (d : BitVec 5) (a : BitVec 4)
  /-- FMVFX (R231): Moves the low 32 bits of x[a] to f[d] as raw bits. -/
  | fmvfx (g : Guard) (d : BitVec 4) (a : BitVec 5)
  /-- FCVT_F_X (R231): Converts signed 64-bit x[a] to binary32 under fcsr.RM. -/
  | fcvtFX (g : Guard) (d : BitVec 4) (a : BitVec 5)
  /-- FCVT_X_F (R231): Converts f[a] to signed 64-bit, saturating, under fcsr.RM. -/
  | fcvtXF (g : Guard) (d : BitVec 5) (a : BitVec 4)
  /-- FKEY (R88): Writes the total-order key of f[a] to x[d]. -/
  | fkey (g : Guard) (d : BitVec 5) (a : BitVec 4)
  /-- FCLASS (R232): Writes the one-hot class mask of f[a] to x[d]. -/
  | fclass (g : Guard) (d : BitVec 5) (a : BitVec 4)
  /-- VADD (R235): Adds lanes, modulo 2^w. -/
  | vadd (g : Guard) (d : BitVec 5) (a : BitVec 5) (b : BitVec 5) (t : BitVec 2)
  /-- VSUB (R235): Subtracts lanes, modulo 2^w. -/
  | vsub (g : Guard) (d : BitVec 5) (a : BitVec 5) (b : BitVec 5) (t : BitVec 2)
  /-- VMUL (R235): Writes the low w bits of each lane product. -/
  | vmul (g : Guard) (d : BitVec 5) (a : BitVec 5) (b : BitVec 5) (t : BitVec 2)
  /-- VMIN (R235): Writes the signed lesser of each pair of lanes. -/
  | vmin (g : Guard) (d : BitVec 5) (a : BitVec 5) (b : BitVec 5) (t : BitVec 2)
  /-- VMAX (R235): Writes the signed greater of each pair of lanes. -/
  | vmax (g : Guard) (d : BitVec 5) (a : BitVec 5) (b : BitVec 5) (t : BitVec 2)
  /-- VMINU (R235): Writes the unsigned lesser of each pair of lanes. -/
  | vminu (g : Guard) (d : BitVec 5) (a : BitVec 5) (b : BitVec 5) (t : BitVec 2)
  /-- VMAXU (R235): Writes the unsigned greater of each pair of lanes. -/
  | vmaxu (g : Guard) (d : BitVec 5) (a : BitVec 5) (b : BitVec 5) (t : BitVec 2)
  /-- VAND (R235): Writes the bitwise AND of each pair of lanes. -/
  | vand (g : Guard) (d : BitVec 5) (a : BitVec 5) (b : BitVec 5) (t : BitVec 2)
  /-- VOR (R235): Writes the bitwise OR of each pair of lanes. -/
  | vor (g : Guard) (d : BitVec 5) (a : BitVec 5) (b : BitVec 5) (t : BitVec 2)
  /-- VXOR (R235): Writes the bitwise XOR of each pair of lanes. -/
  | vxor (g : Guard) (d : BitVec 5) (a : BitVec 5) (b : BitVec 5) (t : BitVec 2)
  /-- VSLL (R235): Shifts each lane left by the low bits of the matching lane of v[b]. -/
  | vsll (g : Guard) (d : BitVec 5) (a : BitVec 5) (b : BitVec 5) (t : BitVec 2)
  /-- VSRL (R235): Shifts each lane right logically. -/
  | vsrl (g : Guard) (d : BitVec 5) (a : BitVec 5) (b : BitVec 5) (t : BitVec 2)
  /-- VSRA (R235): Shifts each lane right arithmetically. -/
  | vsra (g : Guard) (d : BitVec 5) (a : BitVec 5) (b : BitVec 5) (t : BitVec 2)
  /-- VABS (R235): Writes the absolute value of each lane, modulo 2^w. -/
  | vabs (g : Guard) (d : BitVec 5) (a : BitVec 5) (t : BitVec 2)
  /-- VADDS (R235): Adds lanes with signed saturation. -/
  | vadds (g : Guard) (d : BitVec 5) (a : BitVec 5) (b : BitVec 5) (t : BitVec 2)
  /-- VSUBS (R235): Subtracts lanes with signed saturation. -/
  | vsubs (g : Guard) (d : BitVec 5) (a : BitVec 5) (b : BitVec 5) (t : BitVec 2)
  /-- VFADD (R236): Adds float lanes, rounding once. -/
  | vfadd (g : Guard) (d : BitVec 5) (a : BitVec 5) (b : BitVec 5) (t : BitVec 2)
  /-- VFSUB (R236): Subtracts float lanes, rounding once. -/
  | vfsub (g : Guard) (d : BitVec 5) (a : BitVec 5) (b : BitVec 5) (t : BitVec 2)
  /-- VFMUL (R236): Multiplies float lanes, rounding once. -/
  | vfmul (g : Guard) (d : BitVec 5) (a : BitVec 5) (b : BitVec 5) (t : BitVec 2)
  /-- VFMIN (R236): Writes the lesser of each pair of float lanes, under R84. -/
  | vfmin (g : Guard) (d : BitVec 5) (a : BitVec 5) (b : BitVec 5) (t : BitVec 2)
  /-- VFMAX (R236): Writes the greater of each pair of float lanes, under R84. -/
  | vfmax (g : Guard) (d : BitVec 5) (a : BitVec 5) (b : BitVec 5) (t : BitVec 2)
  /-- VFFMA (R236): Computes A·B + Z per lane, rounding once. -/
  | vffma (g : Guard) (d : BitVec 5) (a : BitVec 5) (b : BitVec 5) (t : BitVec 2)
  /-- VFDIV (R236): Divides float lanes, rounding once. -/
  | vfdiv (g : Guard) (d : BitVec 5) (a : BitVec 5) (b : BitVec 5) (t : BitVec 2)
  /-- VFSQRT (R236): Takes the square root of each float lane, rounding once. -/
  | vfsqrt (g : Guard) (d : BitVec 5) (a : BitVec 5) (t : BitVec 2)
  /-- VFABS (R236): Clears the sign bit of each lane; a NaN gives the canonical NaN. -/
  | vfabs (g : Guard) (d : BitVec 5) (a : BitVec 5) (t : BitVec 2)
  /-- VFNEG (R236): Inverts the sign bit of each lane; a NaN gives the canonical NaN. -/
  | vfneg (g : Guard) (d : BitVec 5) (a : BitVec 5) (t : BitVec 2)
  /-- VBCAST (R241): Writes the low w bits of x[a] to every enabled lane. -/
  | vbcast (g : Guard) (d : BitVec 5) (a : BitVec 5) (t : BitVec 2)
  /-- VBCASTF (R241): Writes f[a], rounded to the lane type, to every enabled lane. -/
  | vbcastf (g : Guard) (d : BitVec 5) (a : BitVec 4) (t : BitVec 2)
  /-- VEXT (R242): Writes the selected lane of v[a], sign-extended, to x[d]. -/
  | vext (g : Guard) (d : BitVec 5) (a : BitVec 5) (b : BitVec 5) (t : BitVec 2)
  /-- VINS (R242): Writes x[a] into the selected lane of v[d]. -/
  | vins (g : Guard) (d : BitVec 5) (a : BitVec 5) (b : BitVec 5) (t : BitVec 2)
  /-- VPERM (R241): Writes to each enabled lane the lane of v[a] that v[b] selects. -/
  | vperm (g : Guard) (d : BitVec 5) (a : BitVec 5) (b : BitVec 5) (t : BitVec 2)
  /-- VREDADD (R243): Sums the enabled lanes in ascending order into f[d]. -/
  | vredadd (g : Guard) (d : BitVec 4) (a : BitVec 5) (t : BitVec 2)
  /-- VREDMAX (R243): Takes the maximum of the enabled lanes in ascending order into f[d]. -/
  | vredmax (g : Guard) (d : BitVec 4) (a : BitVec 5) (t : BitVec 2)
  /-- VCVT (R244): Converts lanes between float types. -/
  | vcvt (g : Guard) (d : BitVec 5) (a : BitVec 5) (u : BitVec 2) (t : BitVec 2)
  /-- VKEY (R241): Writes the total-order key of each enabled lane. -/
  | vkey (g : Guard) (d : BitVec 5) (a : BitVec 5) (t : BitVec 2)
  /-- VMOV (R241): Copies the enabled lanes of v[a] to v[d]. -/
  | vmov (g : Guard) (d : BitVec 5) (a : BitVec 5) (t : BitVec 2)
  /-- VZERO (R241): Writes zero to the enabled lanes. -/
  | vzero (g : Guard) (d : BitVec 5) (t : BitVec 2)
  /-- VIOTA (R241): Writes its lane index to each enabled lane. -/
  | viota (g : Guard) (d : BitVec 5) (t : BitVec 2)
  /-- MMA (R248): Multiplies the A tile in TCM by b0 in residue form and adds the result into the accumulator by align_add. -/
  | mma (g : Guard) (c : BitVec 1) (a : BitVec 5) (f : BitVec 4) (p : BitVec 6)
  /-- MZ (R251): Resets the accumulator tile to EMPTY with zero sums. -/
  | mz (g : Guard) (c : BitVec 1)
  /-- MRD_F32 (R252): Writes the tile, rounded to FP32, as a 256-byte block. -/
  | mrdF32 (g : Guard) (c : BitVec 1) (a : BitVec 5) (k : BitVec 2)
  /-- MRD_BF16 (R252): Writes the tile, rounded to BF16, as a 128-byte block. -/
  | mrdBf16 (g : Guard) (c : BitVec 1) (a : BitVec 5) (k : BitVec 2)
  /-- MRD_F16 (R252): Writes the tile, rounded to FP16, as a 128-byte block. -/
  | mrdF16 (g : Guard) (c : BitVec 1) (a : BitVec 5) (k : BitVec 2)
  /-- MEXP (R251): Writes the tile's exponent and flags to x[d]. -/
  | mexp (g : Guard) (d : BitVec 5) (c : BitVec 1)
  /-- MSETE (R251): Adds a zero contribution at the exponent taken from x[a]. -/
  | msete (g : Guard) (c : BitVec 1) (a : BitVec 5)
  /-- MRED (R254): Writes the tile as a 528-byte reduction message. -/
  | mred (g : Guard) (c : BitVec 1) (a : BitVec 5) (k : BitVec 2)
  /-- MACC (R255): Applies x[b] reduction messages from TCM in ascending slot order. -/
  | macc (g : Guard) (c : BitVec 1) (a : BitVec 5) (b : BitVec 5)
  /-- MCVT_I8 (R256): Writes the tile as clamped I8 integers at a target exponent. -/
  | mcvtI8 (g : Guard) (c : BitVec 1) (a : BitVec 5) (b : BitVec 5)
  /-- GEOM (R257): Computes the position and size of an output tile from its index and the geometry. -/
  | geom (g : Guard) (d : BitVec 5) (a : BitVec 5) (b : BitVec 5)
  /-- GEOMG (R259): Computes a tile's position within grouped output from the group table at e4. -/
  | geomg (g : Guard) (d : BitVec 4) (a : BitVec 5)
  /-- MCVT_I4 (R256): Writes the tile as clamped I4 integers at a target exponent. -/
  | mcvtI4 (g : Guard) (c : BitVec 1) (a : BitVec 5) (b : BitVec 5)
  /-- BLD (R261): Starts loading a B tile into b1, which becomes FILLING. -/
  | bld (g : Guard) (a : BitVec 5) (k : BitVec 2)
  /-- BROT (R262): Copies b0 into the member's outgoing tile buffer, to be sent to the next member. -/
  | brot (g : Guard)
  /-- BSWAP (R263): Exchanges b0 and a FULL b1, waiting or trapping by the state of b1. -/
  | bswap (g : Guard)
  /-- BST (R261): Writes b0's header and body, converted to BFMT, in packets. -/
  | bst (g : Guard) (a : BitVec 5) (k : BitVec 2)
  /-- DESC (R291): Sends a descend command for the node named by x[a] to the pool's node engine. -/
  | desc (g : Guard) (d : BitVec 4) (a : BitVec 5) (k : BitVec 2)
  /-- BKUP (R291): Sends a back-up command with an edge and a value. -/
  | bkup (g : Guard) (d : BitVec 5) (a : BitVec 5) (b : BitVec 5) (k : BitVec 2)
  /-- UNMK (R291): Sends a command to remove one mark from an edge. -/
  | unmk (g : Guard) (d : BitVec 5) (a : BitVec 5) (b : BitVec 5) (k : BitVec 2)
  /-- EXPND (R296): Reads the expansion block and sends the expansion as a release. -/
  | expnd (g : Guard) (d : BitVec 5) (a : BitVec 5) (b : BitVec 5) (k : BitVec 2)
  /-- NALLOC (R291): Sends an allocation command with a parent handle. -/
  | nalloc (g : Guard) (d : BitVec 5) (a : BitVec 5) (b : BitVec 5) (k : BitVec 2)
  /-- RCYC (R291): Sends a recycle command for a node. -/
  | rcyc (g : Guard) (d : BitVec 5) (a : BitVec 5) (k : BitVec 2)
  /-- NSTAT (R291): Sends a snapshot command for a node's header words. -/
  | nstat (g : Guard) (d : BitVec 4) (a : BitVec 5) (k : BitVec 2)
  /-- NINIT (R301): Translates a page and sends a command to format its pool nodes. -/
  | ninit (g : Guard) (d : BitVec 5) (a : BitVec 5) (k : BitVec 2)
  /-- NMSEND (R330): Copies a 256-byte command block, consumes a ticket and sends the block as a release to its channel unit. -/
  | nmsend (g : Guard) (a : BitVec 5) (k : BitVec 2)
  /-- NMOVL (R330): Copies an overlay descriptor, consumes a ticket and sends it to its channel unit. -/
  | nmovl (g : Guard) (a : BitVec 5) (k : BitVec 2)
  /-- NMRST (R333): Sends a stream reset, with NEXT taken from e5, and holds later accesses until it is applied. -/
  | nmrst (g : Guard) (a : BitVec 5) (k : BitVec 2)
  /-- ECALL (R339): Stops the thread and raises ECALL to the die's steward. -/
  | ecall (g : Guard)
  /-- EBREAK (R339): Stops the thread and raises EBREAK to the die's steward. -/
  | ebreak (g : Guard)
  /-- HALT (R340): Ends the task, first waiting for the counters to drain. -/
  | halt (g : Guard)
  /-- WFE (R341): Clears the event latch and continues when it is set, or else waits for it. -/
  | wfe (g : Guard)
  /-- FAULT (R342): Raises the task fault FAULT_REQ with FADDR := x[a]. -/
  | fault (g : Guard) (a : BitVec 5)
  /-- TRET (R343): Returns from a supervisor trap, restoring pc and privilege. -/
  | tret (g : Guard)
  /-- CSRRW (R344): Swaps a CSR with x[a]. -/
  | csrrw (g : Guard) (d : BitVec 5) (a : BitVec 5) (i : BitVec 11)
  /-- CSRRS (R344): Reads a CSR and sets the bits that x[a] names. -/
  | csrrs (g : Guard) (d : BitVec 5) (a : BitVec 5) (i : BitVec 11)
  /-- CSRRC (R344): Reads a CSR and clears the bits that x[a] names. -/
  | csrrc (g : Guard) (d : BitVec 5) (a : BitVec 5) (i : BitVec 11)
  /-- SETE (R345): Writes x[a] to e[d]. -/
  | sete (g : Guard) (d : BitVec 3) (a : BitVec 5)
  /-- GETE (R345): Writes e[a] to x[d]. -/
  | gete (g : Guard) (d : BitVec 5) (a : BitVec 3)
  /-- RAND (R346): Writes a counter-based random word from seed x[a], counter x[b] and word select w. -/
  | rand (g : Guard) (d : BitVec 5) (a : BitVec 5) (b : BitVec 5) (w : BitVec 2)
  /-- MV_N (R209): 16-bit form of add d, x0, s. -/
  | mvN (d : BitVec 5) (s : BitVec 5)
  /-- ADD_N (R209): 16-bit form of add d, d, s. -/
  | addN (d : BitVec 5) (s : BitVec 5)
  /-- SUB_N (R209): 16-bit form of sub d, d, s. -/
  | subN (d : BitVec 5) (s : BitVec 5)
  /-- AND_N (R209): 16-bit form of and d, d, s. -/
  | andN (d : BitVec 5) (s : BitVec 5)
  /-- OR_N (R209): 16-bit form of or d, d, s. -/
  | orN (d : BitVec 5) (s : BitVec 5)
  /-- XOR_N (R209): 16-bit form of xor d, d, s. -/
  | xorN (d : BitVec 5) (s : BitVec 5)
  /-- SLL_N (R209): 16-bit form of sll d, d, s. -/
  | sllN (d : BitVec 5) (s : BitVec 5)
  /-- SRL_N (R209): 16-bit form of srl d, d, s. -/
  | srlN (d : BitVec 5) (s : BitVec 5)
  /-- SRA_N (R209): 16-bit form of sra d, d, s. -/
  | sraN (d : BitVec 5) (s : BitVec 5)
  /-- ADDI_N (R209): 16-bit form of addi d, d, simm5. -/
  | addiN (d : BitVec 5) (i : BitVec 5)
  /-- LI_N (R209): 16-bit form of li d, simm5. -/
  | liN (d : BitVec 5) (i : BitVec 5)
  /-- SLLI_N (R209): 16-bit form of slli d, d, amount. -/
  | slliN (d : BitVec 5) (h : BitVec 5)
  /-- SRLI_N (R209): 16-bit form of srli d, d, amount. -/
  | srliN (d : BitVec 5) (h : BitVec 5)
  /-- SRAI_N (R209): 16-bit form of srai d, d, amount. -/
  | sraiN (d : BitVec 5) (h : BitVec 5)
  /-- LD_D_N (R209): 16-bit form of ld.d d, 0(s), dc0. -/
  | ldDN (d : BitVec 5) (s : BitVec 5)
  /-- ST_D_N (R209): 16-bit form of st.d d, 0(s), dc0. -/
  | stDN (d : BitVec 5) (s : BitVec 5)
  /-- LD_W_N (R209): 16-bit form of ld.w d, 0(s), dc0. -/
  | ldWN (d : BitVec 5) (s : BitVec 5)
  /-- ST_W_N (R209): 16-bit form of st.w d, 0(s), dc0. -/
  | stWN (d : BitVec 5) (s : BitVec 5)
  /-- VMOV_N (R209): 16-bit form of vmov.i32 vd, vs over all 256 bits. -/
  | vmovN (d : BitVec 5) (s : BitVec 5)
  /-- JR_N (R209): 16-bit form of jalr x0, 0(s). -/
  | jrN (s : BitVec 5)
  /-- JALR_N (R209): 16-bit form of jalr d, 0(s), linking pc + 2. -/
  | jalrN (d : BitVec 5) (s : BitVec 5)
  /-- NOP_N (R182): Does nothing for one issue cycle. -/
  | nopN
  /-- HALT_N (R209): 16-bit form of halt. -/
  | haltN
  /-- RESERVED_ENCODING (R159): Executing a word or halfword whose major, sub-code, op5 or other field value is reserved (including 0x0000) traps with ILLEGAL before its guard is read. -/
  | reservedEncoding (word : BitVec 32)
  /-- FETCH_FAULT (R378): A fetch that fails translation or lacks X, including either page of a straddling instruction, raises FETCH when the instruction is to be executed. -/
  | fetchFault (faddr : Word) (straddle : Bool) (iword : BitVec 32)
  /-- THREAD_SWITCH_QUANTUM (R16): After 256 consecutive issue cycles with another thread ready, the core switches to the next ready thread. -/
  | threadSwitchQuantum (core : CoreId)
  /-- PORT_WORD_ARRIVAL (R49): A word pushed to a port arrives, after its link time, in the neighbour's arrival queue of the same thread set. -/
  | portWordArrival (h : HartId) (port : BitVec 2)
  /-- PORT_TIMEOUT (R50): A pop or push stalled longer than the port-wait limit traps with PORT_TIMEOUT. -/
  | portTimeout (h : HartId)
  /-- TROUPE_FORMED (R18): When the last of w members arrives in TRP.FORM, the troupe forms and the members' other threads are suspended. -/
  | troupeFormed (h : HartId)
  /-- TRP_FORM_TIMEOUT (R19): A TRP.FORM that has waited longer than the port-wait limit traps with PORT_TIMEOUT. -/
  | trpFormTimeout (h : HartId)
  /-- RING_DELIVERY_START (R262): A tile in an outgoing buffer starts delivery once the receiver's b1 is EMPTY, and b1 becomes FILLING. -/
  | ringDeliveryStart (h : HartId)
  /-- RING_DELIVERY_DONE (R262): A ring delivery completes: b1 becomes FULL and the sender's buffer frees. -/
  | ringDeliveryDone (h : HartId)
  /-- BLD_FILL_DONE (R260): A BLD's header and converted body are written: b1 becomes FULL and the counter decrements. -/
  | bldFillDone (h : HartId)
  /-- BSWAP_TIMEOUT (R263): A BSWAP that has waited longer than the port-wait limit traps with PORT_TIMEOUT. -/
  | bswapTimeout (h : HartId)
  /-- ARRIVED_ARRIVAL (R28): The arrival of an ARRIVED is recorded at the first moment its counter reads zero. -/
  | arrivedArrival (h : HartId) (level : Nat)
  /-- BARRIER_COMPLETE (R27): A barrier occurrence completes once every member has arrived and every covered access is performed; waiting threads resume. -/
  | barrierComplete (lid level group : Nat)
  /-- HOLD_ACCEPT (R118): A home accepts a DET held access into its hold queue or cellar, or refuses it; acceptance decrements the counter. -/
  | holdAccept (id : Nat)
  /-- HOLD_APPLY (R118): On a close, a home applies the superstep's held accesses in logical stamp order and acknowledges. -/
  | holdApply (lid : Nat)
  /-- FB_ARRIVAL (R364): FBHOME counts a level-4 arrival packet and closes the occurrence, acknowledging all, when FBN are counted. -/
  | fbArrival (dev fbid fbn occ count : Nat)
  /-- FB_ACK (R364): A module receives the acknowledgement of its level-4 arrival and completes the occurrence for its members. -/
  | fbAck (lid : Nat)
  /-- STORE_BUFFER_DRAIN (R119): A store leaves the FIFO store buffer for the network, stamped if it is ordered class. -/
  | storeBufferDrain (core : CoreId)
  /-- CPY_PACKET_INJECT (R107): A CPY packet is injected once a permit frees. -/
  | cpyPacketInject (id : Nat)
  /-- STRIDED_REQUEST_INJECT (R107): The next request of an oversized strided VLD or VST is injected once its permit or buffer entry frees. -/
  | stridedRequestInject (h : HartId)
  /-- ROUTER_FORWARD (R115): An output port forwards an ordered packet once its stamp is at or below the port's watermark. -/
  | routerForward (id : Nat)
  /-- BULK_PERFORM (R122): A bulk packet is performed at its home on arrival. -/
  | bulkPerform (id : Nat)
  /-- ORDERED_PERFORM (R115): A home performs a held ordered packet once its stamp is at or below the home's watermark. -/
  | orderedPerform (id : Nat)
  /-- HBM_CHANNEL_SERVICE (R403): The channel controller serves an access in its round, charging it to its slot's share. -/
  | hbmChannelService (id : Nat)
  /-- LANTERN (R116): A link idle for its interval carries a Lantern bearing a lower bound on its later stamps. -/
  | lantern (port : Nat) (input : Nat)
  /-- LANTERN_RECEIVE (R115): A received Lantern raises its input's latest stamp and the watermark. -/
  | lanternReceive (port : Nat) (input : Nat)
  /-- WATERMARK (R117): A watermark holding waiting packets, and stalled for the threshold, raises WATERMARK to the die's steward. -/
  | watermark (port : Nat)
  /-- LOAD_REPLY (R102): A remote load's reply writes its destination and decrements its counter. -/
  | loadReply (id : Nat)
  /-- REPLY_PORT_PUSH (R214): A reply waiting for room in a full output queue is pushed once there is space. -/
  | replyPortPush (id : Nat)
  /-- STORE_ACK (R102): A home's acknowledgement of a store, packet or AMO decrements the counters. -/
  | storeAck (id : Nat)
  /-- NEGATIVE_REPLY (R103): A failed translation or attribute check returns a negative reply, which faults the thread. -/
  | negativeReply (id : Nat)
  /-- FAULT_RECORD_WRITE (R41): Once outstanding operations complete and the notice ring has room, the CONTAIN fault record is written. -/
  | faultRecordWrite (h : HartId)
  /-- REAPER_START (R42): The thread restarts at the reaper entry in the reaper start state, after the superstep barrier in a DET launch. -/
  | reaperStart (h : HartId)
  /-- HALT_COMPLETE (R340): Once the counters drain, the task ends, B-latch traffic settles, and the thread takes its next task or exits. -/
  | haltComplete (h : HartId)
  /-- WFE_WAKE (R341): A waiting WFE continues when the event latch is set. -/
  | wfeWake (h : HartId)
  /-- WFE_TIMEOUT (R341): A WFE waiting longer than the port-wait limit clears the latch and continues. -/
  | wfeTimeout (h : HartId)
  /-- TABLE_WALK (R372): A Waystation table walk completes and returns a leaf or a TRANSLATE failure to all joined misses. -/
  | tableWalk (id : Nat)
  /-- DESC_APPLY (R294): The node engine applies a DESC: claims a leaf or selects and marks an edge. -/
  | descApply (id : Nat)
  /-- BKUP_APPLY (R295): The node engine adds a visit and a value to an edge and removes one mark. -/
  | bkupApply (id : Nat)
  /-- UNMK_APPLY (R295): The node engine removes one mark from an edge, or sets UFL. -/
  | unmkApply (id : Nat)
  /-- EXPND_APPLY (R297): The node engine ends a claim by expanding, terminating or abandoning the node. -/
  | expndApply (id : Nat)
  /-- NALLOC_APPLY (R298): The node engine pops a free node as a LEAF with the given parent. -/
  | nallocApply (id : Nat)
  /-- RCYC_APPLY (R299): The node engine frees an unmarked node, bumping its generation. -/
  | rcycApply (id : Nat)
  /-- NSTAT_APPLY (R300): The node engine returns an atomic snapshot of a node's header words. -/
  | nstatApply (id : Nat)
  /-- NINIT_APPLY (R301): The node engine formats a page's pool nodes as FREE and links them into the free list. -/
  | ninitApply (id : Nat)
  /-- NODE_REPLY (R291): A node command's reply writes its destinations and decrements its counter. -/
  | nodeReply (id : Nat)
  /-- NMU_BLOCK_ARRIVE (R320): A block or overlay descriptor reaches its stream and executes, waits or is discarded by its ticket. -/
  | nmuBlockArrive (id : Nat)
  /-- NMU_FILL (R324): A FILL command checks its operands and writes its pattern over DST. -/
  | nmuFill (ch stream : Nat)
  /-- NMU_GATH (R324): A GATH command checks its operands and copies the indexed rows to DST. -/
  | nmuGath (ch stream : Nat)
  /-- NMU_IRED (R324): An IRED command checks its operands and sums or maxes the indexed rows into one row. -/
  | nmuIred (ch stream : Nat)
  /-- NMU_RUN (R325): A RUN command starts the loaded overlay, or is rejected with NOOVL. -/
  | nmuRun (ch stream : Nat)
  /-- NMU_OVERLAY_LOAD (R332): An NMOVL replaces the unit's overlay memory and identifier and writes its completion word. -/
  | nmuOverlayLoad (ch stream : Nat)
  /-- HOLD_TIMEOUT (R326): A hold standing 64 µs stops the command in progress and ends the block with HOLD_TIMEOUT. -/
  | holdTimeout (ch stream : Nat)
  /-- RUN_LIMIT (R325): An overlay running 2^20 cycles ends its command with RUNFAULT. -/
  | runLimit (ch : Nat)
  /-- NMU_COMPLETION (R327): Once the block's writes are performed, its completion word is written as a release and the hold is released. -/
  | nmuCompletion (ch stream : Nat)
  /-- NMU_STREAM_RESET (R333): The unit applies an NMRST: it clears HALTED, discards waiting blocks and sets NEXT. -/
  | nmuStreamReset (id : Nat)
  /-- KICK (R337): A store to a Porter's KICK register starts the Porter at PROG, or sets LOST while it runs. -/
  | kick (id : Nat)
  /-- NOTICE_APPEND (R351): A held notice is appended to a steward's ring once the ring has room, setting the steward's event latch. -/
  | noticeAppend (ring : RingId)
  /-- LAUNCH_RECORD (R355): The module queue checks a launch record, copies its arguments and accepts or rejects it. -/
  | launchRecord (id : Nat)
  /-- LAUNCH_PLACEMENT (R359): The dispatcher places the head ready launch on the first fitting rectangle and reserves its resources. -/
  | launchPlacement
  /-- LAUNCH_RELEASE (R360): After the slowest wipe engine finishes, argument blocks are copied, registers zeroed and threads released. -/
  | launchRelease (lid : Nat)
  /-- DONE_EMPTY (R361): A ready launch with TASKS = 0 completes with DONE_EMPTY and sets its event. -/
  | doneEmpty (lid : Nat)
  /-- LAUNCH_COMPLETION (R365): After the last thread exits, or an abort drains, the completion record is written and DONEEV is set. -/
  | launchCompletion (lid : Nat)
  /-- TCTL_RESUME (R377): Resumes a STOPPED thread at FPC + 4. -/
  | tctlResume (id : Nat)
  /-- TCTL_KILL (R377): Turns a STOPPED thread's stop into a task fault with code KCODE. -/
  | tctlKill (id : Nat)
  /-- TCTL_PREEMPT (R380): Puts a RUNNING thread into PENDING pre-emption. -/
  | tctlPreempt (id : Nat)
  /-- TCTL_RESTORE (R382): Reloads a SAVED context, replays its guestbook and resumes it, waiting for all members of a troupe. -/
  | tctlRestore (id : Nat)
  /-- PREEMPT_SAVE (R380): Once no exchange phase or pending arrival holds it, a PENDING thread is saved and its thread set freed. -/
  | preemptSave (h : HartId)
  /-- GUESTBOOK_APPEND (R383): An arrival aimed at a swapped-out TCM piece is appended to the guestbook, or refused or stalled. -/
  | guestbookAppend (id : Nat)
  /-- NMU_PREEMPT (R386): A PREEMPT command in NMUCMD starts saving a RUNNING channel unit. -/
  | nmuPreempt (id : Nat)
  /-- NMU_RESTORE (R386): A RESTORE command in NMUCMD starts restoring a SAVED channel unit. -/
  | nmuRestore (id : Nat)
  /-- NMU_SAVE_DONE (R387): The unit's context is written to the save area, NSTATE becomes SAVED and a notice is appended. -/
  | nmuSaveDone (ch : Nat)
  /-- NMU_RESTORE_DONE (R387): The unit is reloaded and runs again, NSTATE becomes RUNNING and a notice is appended. -/
  | nmuRestoreDone (ch : Nat)
  /-- INVC (R373): A write to INVC starts an invalidation of translation and optionally instruction-cache entries. -/
  | invc (id : Nat)
  /-- INVALIDATION_DONE (R373): Once every cache has dropped the entries and earlier walks have ended, the INVC store is acknowledged. -/
  | invalidationDone
  /-- EXCL (R388): A write to EXCL removes a die input from the watermark and discards its later packets. -/
  | excl (id : Nat)
  /-- FEXCL (R399): A write to FEXCL takes a fabric port down until reset. -/
  | fexcl (id : Nat)
  /-- CECNT_CLEAR (R369): Any write to a die's CECNT clears its corrected-error count. -/
  | cecntClear (id : Nat)
  /-- REGISTER_WRITE (R369): A write to a control-page or control-block register with no row of its own updates its RW fields. -/
  | registerWrite (id : Nat)
  /-- SCRUB (R389): Background scrubbing corrects single-bit errors and reports double-bit errors as MCHECK. -/
  | scrub (pa : Nat)
  /-- MCHECK_STATE_ERROR (R389): An uncorrectable link error or an error in steward, Innkeeper or Waystation state fails the module. -/
  | mcheckStateError (die : Nat)
  /-- FLIT_RETRY (R392): A flit that fails its CRC is retried, and a failure after 8 retries is reported as MCHECK. -/
  | flitRetry (port : Nat) (failures : Nat)
  /-- FABRIC_REQUEST (R393): A receiving port checks a fabric request against memory, the frame table and exclusion, and admits or refuses it. -/
  | fabricRequest (port : Nat) (pa : Nat) (act : FabricAct)
  /-- PORT_DOWN (R398): A port that loses training goes down, and its pending requests complete with PORT_DOWN. -/
  | portDown (port : Nat)
  /-- TIME_MESSAGE (R396): A time message disciplines the stamp clock by slewing, and sets LOCKED when it is within 4 ns. -/
  | timeMessage (offset : Int)
  /-- CLOCK_LOCK_LOST (R396): After 2^20 ns out of lock or without time messages, LOST is set and the module steward is notified. -/
  | clockLockLost
  /-- REDUCTION_PACKET (R401): The home merges a reduction contribution and applies the round once COUNT contributions are counted. -/
  | reductionPacket (id : Nat)
  /-- REDUCTION_TIMEOUT (R401): A round incomplete for 2^20 ns is applied partially, acknowledged and reported. -/
  | reductionTimeout (window : Nat) (pa : Nat)
  /-- RESET (R404): Power-on or reset wipes memory, runs self-test, trains ports and enters AWAIT. -/
  | reset
  /-- FWGO (R404): A write to FWGO in AWAIT starts the check of the delivered image. -/
  | fwgo (id : Nat)
  /-- IMAGE_CHECK (R405): The image check completes: the firmware runs, the life cycle advances, or the image is rejected. -/
  | imageCheck
  /-- QREQ (R408): A 64-byte write to QREQ asks for a quote, or is discarded when malformed. -/
  | qreq (id : Nat)
  /-- QUOTE_WRITE (R408): The ROM writes the signed quote, with bytes 0–191 last as a release. -/
  | quoteWrite
  /-- BLADE_FAILURE (R409): A power blade fails; on a third failure the module powers off. -/
  | bladeFailure (blade : Nat)
  /-- THERMAL_MCHECK (R409): A die sensor above 105 °C raises MCHECK and the module fails. -/
  | thermalMcheck (die : Nat)
  /-- THERMAL_POWER_OFF (R409): A die sensor above 115 °C makes the hardware remove power. -/
  | thermalPowerOff (die : Nat)
  /-- PORT_UP (R398): A fabric port whose link regains training comes up again, rejoins watermarks and routing, and sets its FPORTS bit. -/
  | portUp (port : Nat)
  /-- SUPERVISOR_ABORT (R27): The supervisor aborts a launch whose barrier can never complete, for example one whose member or fabric-group partner never arrives. -/
  | supervisorAbort (lid : Nat) (code : BitVec 8)
  deriving DecidableEq, Repr

end Sys2Proof
end

