-- ==== Sys2Proof/Machine/State.lean ====
section
/-! DEFINITION. The state of the module as plain data: every hart with its registers, the cores' shared parts, the
network and its requests in flight, the homes, memory, the channel units, the Innkeeper's launches and the control
pages. Collections that are large and mostly at their reset value are lists of exceptions, read through functions that
give the reset value to what is not listed. -/

namespace Sys2Proof.Machine

/-! ### Why a step may have no next state -/

/-- Faults of the model itself. No instruction raises one. -/
inductive Fault where
  /-- Raised by step alone: the module has no power (R409), so nothing executes until the platform powers it on, which is
  the RESET event. Safe: the hardware has no behaviour there. -/
  | poweredOff
  deriving DecidableEq, Repr

/-- Refusals of the model. -/
inductive Refusal where
  /-- Raised by an arm of exec whose instruction has no meaning in the model yet. Safe: nothing is claimed. -/
  | notModelled (mnemonic : String)
  deriving DecidableEq, Repr

/-! ### Matrix state (R59, R70, R71) -/

/-- An accumulator tile: 64 sums of 36 bits, an exponent and three flags (R59). -/
structure Tile where
  sums : Vector (BitVec 36) 64
  exp : BitVec 16
  empty : Bool
  sat : Bool
  nan : Bool
  deriving DecidableEq, Repr

/-- A tile as MZ and task start leave it (R14, R251). -/
def Tile.zero : Tile := ⟨Vector.replicate 64 0, 0, true, false, false⟩

/-- A B latch, or an outgoing tile buffer: a header and 256 RX elements (R71). -/
structure Latch where
  header : Word
  body : Vector (BitVec 32) 256
  deriving DecidableEq, Repr

/-- A latch that was never loaded (R71). -/
def Latch.zero : Latch := ⟨0, Vector.replicate 256 0⟩

/-- The fill state of b1 (R260). A filling latch remembers whether a BLD fills it. -/
inductive Fill where
  | empty
  | filling (byBld : Bool)
  | full
  deriving DecidableEq, Repr

/-! ### A thread's own parts -/

/-- A local load whose value is not yet visible (R99): the register, the value and how many instructions still read the
old one. -/
structure Pending where
  dest : Sum (BitVec 5) (Sum (BitVec 4) (BitVec 5))
  value : VReg
  left : Nat
  deriving DecidableEq, Repr

/-- The repeat context of REP (R200, R204): the body's address and words, the length in instructions, the copy of the
stagger descriptor, the pass number, the passes that remain and the position in the body. -/
structure RepCtx where
  body : Word
  insns : List (W32 × Nat)
  desc : Word
  pass : Nat
  remaining : Nat
  pos : Nat
  deriving DecidableEq, Repr

/-- The region entry with its live-in mask and the copies made there (R34, R35, R204). -/
structure Region where
  entry : Word
  mask : Word
  c0 : Tile
  c1 : Tile
  b0 : Latch
  b1 : Latch
  fill : Fill
  rep : Option RepCtx
  deriving DecidableEq, Repr

/-- A place to which the region entry moves (R34, R38): the troupe slot after the instruction, 0 outside a troupe, the node commands
that move it there as far as no Waystation has refused them, by tag (R303), whether anything else does, and the entry. -/
structure Mark where
  slot : Nat
  cmds : List Nat
  firm : Bool
  region : Region
  deriving DecidableEq, Repr

/-- A thread's arrival at one barrier level (R28). -/
inductive Arrival where
  /-- No arrival without its WAIT. -/
  | none
  /-- An ARRIVED waits for its counter to read zero. -/
  | pending (dc : BitVec 2)
  /-- The thread has arrived; every access with a lower issue number is covered. -/
  | arrived (upto : Nat)
  /-- The occurrence arrived at has completed, and no WAIT has returned yet. -/
  | passed
  deriving DecidableEq, Repr

/-- What a hart waits for, where something other than its own next attempt depends on it (R16, R19, R50, R341). -/
inductive Wait where
  /-- A pop (false) or push (true) of a port (R50). -/
  | port (p : Fin 4) (push : Bool)
  /-- TRP.FORM with its width and skew (R18). -/
  | form (width skew : Nat)
  /-- TRP.FORM on a core where another thread waits in TRP.FORM or belongs to a troupe (R19). -/
  | formBlocked
  /-- BSWAP (R263). -/
  | swap
  /-- WFE (R341). -/
  | event
  /-- A barrier of a level (R20, R225). -/
  | barrier (level : Nat)
  /-- Any other cause of R16. -/
  | other
  deriving DecidableEq, Repr

/-- A reply of a dead task (R41, R46): the issue number of its request, kind, register, counter, WORDA, WORDB. -/
structure Captured where
  issue : Nat
  kind : Nat
  reg : Nat
  dcn : Nat
  a : Word
  b : Word
  deriving DecidableEq, Repr

/-- The fault context of a dying or stopped task (R41, R45): everything its fault record will hold. -/
structure FaultCtx where
  code : BitVec 8
  fpc : Word
  faddr : Word
  straddle : Bool
  troupe : Bool
  forced : Bool
  ftime : Word
  iword : W32
  tpos : Nat
  twidth : Nat
  tskew : Nat
  rentry : Word
  dcs : BitVec 32
  /-- Replies that arrived (R41), and the 8 that the record stores (R46). -/
  nreply : Nat
  replies : List Captured
  /-- R365: the logical stamp key of the faulting instruction: superstep, DEV, logical core, h with index. -/
  key : Nat × Nat × Nat × Nat
  deriving DecidableEq, Repr

/-- TSTAT.STATE of a thread set (R376). -/
inductive TState where
  | free | running | stopped | pending | saved
  deriving DecidableEq, Repr

/-- Where a task of a running thread stands beyond issuing (R39, R41, R339, R340). -/
inductive Stage where
  /-- It issues instructions. -/
  | active
  /-- It executed HALT and waits to end (R340). -/
  | halting
  /-- It raised ECALL or EBREAK and waits for room in its steward's ring (R351). -/
  | stopping
  /-- A Porter or overlay that trapped and waits for its operations (R338, R325). -/
  | trapped
  /-- Its task died under CONTAIN and its record is not written yet (R41). -/
  | dying
  /-- Its record is written and the reaper has not started (R41, R42). -/
  | reaperDue
  /-- Its launch was aborted: it issues nothing further (R375). -/
  | aborted
  /-- RESTORE of a troupe member waits for the others (R382). -/
  | restoring
  deriving DecidableEq, Repr

/-- A steward's trap registers and privilege (R352). -/
structure SupRegs where
  spp : Bool
  sepc : Word
  scause : Word
  stval : Word
  stvec : Word
  sscratch : Word
  /-- The privilege level: true for supervisor. -/
  priv : Bool
  deriving DecidableEq, Repr

/-- A Porter's control slot (R336). -/
structure PorterRegs where
  prog : Word
  fcode : BitVec 8
  fault : Bool
  lost : Bool
  run : Bool
  deriving DecidableEq, Repr

/-- The context registers of a thread control block (R376). -/
structure CtxRegs where
  savea : Word
  gba : Word
  gblen : Word
  scode : BitVec 8
  /-- The SWAPTCM choice of the PREEMPT command. -/
  swap : Bool
  /-- The ring of the steward that sent the PREEMPT command (R374). -/
  asker : Option RingId
  /-- A PREEMPT command was accepted and not carried out yet (R380): a stop or a fault does not lose it (log 128). -/
  asked : Bool
  deriving DecidableEq, Repr

/-- A hart: its registers (R47), its place in its launch, and what stands between it and its next instruction. -/
structure Thread where
  id : HartId
  x : Vector Word 32
  f : Vector W32 16
  v : Vector VReg 32
  p : Vector W32 8
  e : Vector Word 8
  dc : Vector (BitVec 6) 4
  c0 : Tile
  c1 : Tile
  b0 : Latch
  b1 : Latch
  fill : Fill
  /-- The outgoing tile buffer and whether its delivery has started, with the receiving core (R262). -/
  outTile : Option (Latch × Bool × Option CoreId)
  fcsr : Word
  pc : Word
  /-- MODEL: the instruction being executed, its address's successor, for IWORD and the retirement (log 5). -/
  iword : W32
  npc : Word
  /-- MODEL: the instruction being executed transfers control (R22, R198). -/
  taken : Bool
  rep : Option RepCtx
  region : Region
  /-- R38: the troupe slot after the one that closed the current region; 0 when it began before the troupe. -/
  entrySlot : Nat
  /-- The places that the region entry may still move to or back to, newest first, down to the newest one that is certain: slots
  whose closing instruction no member of its troupe has enabled yet (R38), and node commands that a Waystation may refuse
  (R303). Empty when the region is certain. -/
  marks : List Mark
  pend : List Pending
  /-- Arrival queues and output queues of the ports N, E, S, W (R49). -/
  arrivals : Vector (List Word) 4
  outputs : Vector (List Word) 4
  /-- The event latch (R341). -/
  latch : Bool
  /-- Open exchange phases, levels 1 to 4 (R29). -/
  phases : Vector Bool 4
  /-- Arrivals at levels 1 to 4 (R28). -/
  arrived : Vector Arrival 4
  /-- The unacknowledged-store counter (R122). -/
  unack : Nat
  /-- Held accesses issued in the current superstep, and the superstep its next access belongs to (R31, R114). -/
  heldIdx : Nat
  superstep : Nat
  state : TState
  stage : Stage
  /-- What it waits for and since when. -/
  wait : Option (Wait × Nat)
  /-- Issue numbers of acquires whose reply holds back every later access (R123, R333). -/
  acquires : List Nat
  fault : Option FaultCtx
  /-- Launch, thread-set number h of R12, task index, and whether it runs the reaper (R42). -/
  lid : Nat
  h : Nat
  task : Nat
  reaper : Bool
  /-- Troupe, position and next slot (R20). -/
  troupe : Option Nat
  tpos : Nat
  slotNo : Nat
  /-- The address space it acts in: its launch's, or the kicker's for a Porter (R337, R366). -/
  space : Nat
  /-- Cycles an overlay has run (R325). -/
  cycles : Nat
  /-- Its core has ended a task and not joined a troupe since: ring deliveries are discarded (R340). -/
  deaf : Bool
  /-- How many elements of a local vector access that its banks serve word by word are done, with its base address and the bytes
  that it has read or its register's (R101); or the bytes that NMSEND, NMOVL or EXPND copied and waits with as a release, with
  its address (R296, R330). -/
  part : Option (Nat × Word × List Byte)
  ctx : CtxRegs
  sup : SupRegs
  porter : PorterRegs
  deriving DecidableEq, Repr

/-- A hart at reset: every register zero but p0 (R47), every slot and context register as R336, R352 and R376 give it;
a steward is at supervisor privilege (R351). -/
def Thread.fresh (id : HartId) : Thread :=
  { id, x := Vector.replicate 32 0, f := Vector.replicate 16 0, v := Vector.replicate 32 0,
    p := Vector.replicate 8 0, e := Vector.replicate 8 0, dc := Vector.replicate 4 0,
    c0 := Tile.zero, c1 := Tile.zero, b0 := Latch.zero, b1 := Latch.zero, fill := .empty, outTile := none,
    fcsr := 0, pc := 0, iword := 0, npc := 0, taken := false, rep := none,
    region := ⟨0, BitVec.allOnes 64, Tile.zero, Tile.zero, Latch.zero, Latch.zero, .empty, none⟩, entrySlot := 0,
    marks := [], pend := [], arrivals := Vector.replicate 4 [], outputs := Vector.replicate 4 [], latch := false,
    phases := Vector.replicate 4 false, arrived := Vector.replicate 4 .none, unack := 0, heldIdx := 0, superstep := 0,
    state := .free, stage := .active, wait := none, acquires := [], fault := none, lid := 0, h := 0, task := 0,
    reaper := false, troupe := none, tpos := 0, slotNo := 0, space := 0, cycles := 0, deaf := false, part := none,
    ctx := ⟨0, 0, 0, 0, false, none, false⟩, sup := ⟨true, 0, 0, 0, 0, 0, true⟩, porter := ⟨0, 0, false, false, false⟩ }

/-! ### Stamps and requests -/

/-- A 96-bit stamp (R110). -/
structure Stamp where
  time : BitVec 56
  dev : BitVec 17
  inj : BitVec 18
  seq : BitVec 5
  deriving DecidableEq, Repr

/-- An injector's previous time and sequence, and the greatest time it has received (R111). -/
structure Injector where
  t : BitVec 56
  q : BitVec 5
  g : BitVec 56
  deriving DecidableEq, Repr

/-- The class of an access on its way (R108, R118). -/
inductive Cls where
  | bulk | ordered | held
  deriving DecidableEq, Repr

/-- Who issued a request. -/
inductive Src where
  | hart (h : HartId)
  /-- A channel unit's own write, such as a completion word (R327). -/
  | unit (ch : Nat)
  /-- The Innkeeper's module queue (R355, R365). -/
  | queue
  /-- The world beyond a fabric port: the host or another module (R393). -/
  | fabric (port : Nat)
  deriving DecidableEq, Repr

/-- Where a load's value goes. -/
inductive Dest where
  /-- An x register with the access size and whether it is sign-extended (R210). -/
  | x (d : BitVec 5) (signed : Bool)
  /-- An f register: 0 FP16, 1 BF16, 2 FP32 (R213). -/
  | f (d : BitVec 4) (fmt : BitVec 2)
  /-- Bytes of a v register: for each byte read, its place in the register image (R239). -/
  | v (d : BitVec 5) (places : List Nat)
  deriving DecidableEq, Repr

/-- The node commands (R291). -/
inductive NodeOp where
  | desc | bkup | unmk | expnd | nalloc | rcyc | nstat | ninit
  deriving DecidableEq, Repr

/-- What a request asks of its home. -/
inductive Body where
  /-- Read `n` bytes. -/
  | load (n : Nat) (dest : Dest)
  /-- Read only the given places of the bytes from the address (a masked vector access). -/
  | loadAt (offs : List Nat) (dest : Dest)
  /-- Write the bytes that are present. -/
  | store (bytes : List (Option Byte))
  /-- An atomic: operation (R169), size, operand, comparand, destination. -/
  | amo (op : BitVec 3) (size : Nat) (y cmp : Word) (d : BitVec 5)
  /-- A node command with its operands, the expansion block EXPND read, and its destinations (R291, R292, R296). -/
  | node (op : NodeOp) (a b : Word) (block : List Byte) (d d2 : BitVec 5)
  /-- A command block or overlay descriptor with its ticket (R330). -/
  | block (ovl : Bool) (stream : Nat) (seq : BitVec 32) (bytes : List Byte)
  /-- A stream reset (R333). -/
  | nmrst (stream : Nat) (seq : BitVec 32)
  /-- A fabric reduction contribution: window, operation, count, merged contributions, value (R401). -/
  | reduction (w op count merged : Nat) (v : Word)
  deriving DecidableEq, Repr

/-- How far a request has come. -/
inductive Phase where
  /-- On its way. An ordered one waits at its home router's output port (R115). -/
  | sent
  /-- Forwarded to its home. -/
  | atHome
  /-- Accepted into the home's hold queue, or the cellar (R118, R363). -/
  | accepted (spilled : Bool)
  /-- Performed, with what its reply carries: bytes of a load, or result words, and the time of R111. -/
  | performed (data : List Byte) (time : BitVec 56)
  /-- A reply that waits for room in a full output queue (R214). -/
  | pushing (data : List Byte)
  /-- The reply has come, and the rest of its instruction's replies have not. -/
  | gathered (data : List Byte)
  /-- A negative reply: fault code and failing byte address (R103). -/
  | refused (code : BitVec 8) (faddr : Word)
  deriving DecidableEq, Repr

/-- A request in flight or in a store buffer (R102, R106). -/
structure Req where
  /-- MODEL tag, and the tag of the instruction it belongs to (log 5). -/
  id : Nat
  grp : Nat
  src : Src
  lid : Nat
  /-- The issuing task's index, a dead task's for its reaper (R42, R291); of a completion word its stream (R327). -/
  task : Nat
  space : Nat
  /-- A steward's request is not translated (R366). -/
  phys : Bool
  cls : Cls
  stamp : Stamp
  dc : Option (BitVec 2)
  /-- It counts in the unacknowledged-store counter (R122). -/
  counted : Bool
  /-- Its acquire holds back later accesses until it completes (R123). -/
  acquire : Bool
  addr : Word
  body : Body
  phase : Phase
  /-- The channel controller has served it (R403). -/
  served : Bool
  /-- The counter that a held access named, once its home has accepted it (R46, R118). -/
  dcn : Option (BitVec 2) := none
  /-- The fabric port that it left through (R392, R398). -/
  via : Option Nat := none
  /-- The byte key that its home accepted it for (R118). -/
  akey : Option Nat := none
  /-- The page that NINIT's translation found: virtual start, size in bytes and the start's byte key (R301). -/
  page : Option (Nat × Nat × Nat) := none
  /-- It belongs to a vector access or carries a copy's packet: no aligned load or store of a doubleword (R336). -/
  wide : Bool := false
  /-- It carries a packet of a copy: no load of its hart waits for it (R221). -/
  packet : Bool := false
  /-- Its instruction is a release, ordered at any home (R108, R401). -/
  forced : Bool := false
  /-- Its refusal has no consequence: another request of its instruction was refused before (R104), or it is the word of a block that
  was discarded (R328). -/
  failed : Bool := false
  /-- The held accesses that its thread had issued in the superstep before its instruction (R365). -/
  idx : Nat := 0
  /-- The fabric group of a partner module's held access, 0 for any other request (R364). -/
  fbid : Nat := 0
  /-- Superstep it belongs to (R31). -/
  superstep : Nat
  /-- The issuing instruction, for the fault record (R103). -/
  pc : Word
  iword : W32
  deriving DecidableEq, Repr

/-- The source read of a copy's next packet (R221): not begun, on its way in ordered class with its stamp, or done. -/
inductive SourceRead where
  | idle
  | stamped (st : Stamp)
  | got (bytes : List Byte)
  deriving DecidableEq, Repr

/-- A copy whose packets are still to be injected: a CPY, or a BST with its bytes (R221, R261). -/
structure Copy where
  id : Nat
  hart : HartId
  lid : Nat
  space : Nat
  /-- None once a packet has failed: the counter never falls then (R103). -/
  dc : Option (BitVec 2)
  ordered : Bool
  conv : BitVec 3
  src : Word
  dst : Word
  /-- Destination bytes in all, and those already injected. -/
  len : Nat
  done : Nat
  /-- The bytes of a BST, known at issue. -/
  data : Option (List Byte)
  /-- How far the source read of the next packet is (R121). -/
  read : SourceRead := .idle
  superstep : Nat
  /-- In a DET launch, the index of its first packet among the thread's held accesses (R114). -/
  idx : Nat
  pc : Word
  iword : W32
  deriving DecidableEq, Repr

/-- A BLD in flight (R261). -/
structure Bld where
  id : Nat
  hart : HartId
  dc : BitVec 2
  addr : Word
  superstep : Nat
  /-- The held accesses issued before it in its superstep (R365). -/
  idx : Nat
  /-- The stamp of its read, once it is on its way in ordered class to a home of its own die (R108, R111). -/
  stamp : Option Stamp := none
  pc : Word
  iword : W32
  deriving DecidableEq, Repr

/-- The rest of an oversized strided access (R107): the requests not yet injected, in ascending element order. -/
structure Strided where
  hart : HartId
  rest : List Req
  deriving DecidableEq, Repr

/-- An output port's or receiving interface's watermark record (R115, R117). -/
structure PortRec where
  /-- Latest stamp received per input. -/
  latest : List (Nat × Stamp)
  /-- Lanterns on their way per input (R116). -/
  lanterns : List (Nat × Stamp)
  /-- Inputs excluded, each with the requests that were in the network then: packets that come later are discarded (R388). -/
  excluded : List (Nat × List Nat)
  /-- When the watermark last advanced, or a stall was last reported (R117, R388). -/
  since : Nat
  deriving DecidableEq, Repr

/-! ### Channel units (R317 to R329) -/

/-- A command block or overlay descriptor that reached a unit (R320, R332). -/
structure Block where
  src : Src
  grp : Nat
  lid : Nat
  space : Nat
  ovl : Bool
  stream : Nat
  seq : BitVec 32
  bytes : List Byte
  deriving DecidableEq, Repr

/-- The block a stream executes: the command it stands at, the units it holds, since when and at which stamp time (R387),
whether its overlay runs, and how it ended (status and failing command, R327). -/
structure Active where
  block : Block
  idx : Nat
  held : List Nat
  start : Option Nat
  began : BitVec 56
  running : Bool
  ended : Option (Nat × Nat)
  /-- Channel accesses of the current command charged to the launch's slot, and when that began (R403, R411). -/
  paid : Nat := 0
  since : Nat := 0
  /-- Its completion word is on its way: the block has executed (R320, R327). -/
  sent : Bool := false
  /-- The stream was reset while it executed: its end leaves NEXT alone (R333). -/
  reset : Bool := false
  deriving DecidableEq, Repr

/-- A stream (R320). -/
structure Stream where
  next : BitVec 32
  halted : Bool
  waiting : List Block
  active : Option Active
  deriving DecidableEq, Repr

/-- NSTATE of a channel unit (R370). -/
inductive NState where
  | running | saving | saved | restoring
  deriving DecidableEq, Repr

/-- A channel unit (R317, R370). -/
structure ChUnit where
  overlay : Option (BitVec 16)
  streams : List (Nat × Stream)
  nstate : NState
  nmusave : Word
  /-- Share table of the channel: CAP and WEIGHT per slot (R402). -/
  shares : Vector (Bool × BitVec 8) 16
  /-- The entries as the current round took them: a write counts from the next round (R402). -/
  inRound : Vector (Bool × BitVec 8) 16
  /-- Bytes left to each slot in the round, and whether the round has begun (R403). -/
  credit : Vector Nat 16
  /-- The stream whose block ran the overlay last: the overlay's writes are that block's (R325, R326). -/
  runner : Option Nat := none
  deriving DecidableEq, Repr

/-- A channel unit at reset (R320, R325, R370, R402). -/
def ChUnit.fresh : ChUnit :=
  { overlay := none, streams := [], nstate := .running, nmusave := 0,
    shares := Vector.replicate 16 (false, 1), inRound := Vector.replicate 16 (false, 1), credit := Vector.replicate 16 0 }

/-! ### The Innkeeper -/

/-- A launch record's fields (R353). -/
structure LaunchRec where
  slot : Nat
  prio : Nat
  det : Bool
  contain : Bool
  lid : Nat
  entry : Word
  reaper : Word
  tasks : Nat
  dh : Nat
  dw : Nat
  sdh : Nat
  sdw : Nat
  fbid : Nat
  fbn : Nat
  tcml : Nat
  tc : Nat
  acc : Nat
  spb : Nat
  nmbase : Nat
  nmcount : Nat
  geom : Word
  pred0 : Nat
  pred1 : Nat
  doneev : Nat
  crec : Word
  accrec : Word
  args : Word
  arglen : Nat
  fbhome : Nat
  deriving DecidableEq, Repr

/-- How far a launch has come (R357 to R365). -/
inductive LStage where
  | queued | placed | running | aborting
  deriving DecidableEq, Repr

/-- A live launch (R354). -/
structure Launch where
  info : LaunchRec
  /-- Order in which the module queue applied it, time of acceptance, and when it became ready (R358). -/
  seqNo : Nat
  atime : BitVec 56
  readySince : Option Nat
  stage : LStage
  /-- Placement: top-left cluster, TCM offset, scratchpad offset per cluster, hardware thread sets per core (R359). -/
  crow : Nat
  ccol : Nat
  tcmOff : Nat
  spOffs : List (Nat × Nat)
  sets : List (CoreId × List Nat)
  /-- The argument bytes copied at acceptance (R355). -/
  argBytes : List Byte
  /-- Task ranges of the dies: die, next index, end (R362). -/
  ranges : List (Nat × Nat × Nat)
  /-- Completed supersteps (R30), and completed level-4 occurrences (R364). -/
  sstep : Nat
  fbCount : Nat
  /-- The level-4 arrival packet has been sent and not acknowledged, and the acknowledgement has come (R364). -/
  fbSent : Bool
  /-- The fabric port that its level-4 arrival left through (R392, R398). -/
  fbVia : Option Nat
  fbAcked : Bool
  /-- A superstep-ending barrier has closed and held accesses are being applied (R118). -/
  closing : Bool
  ncont : Nat
  fcode : BitVec 8
  ftask : Nat
  /-- The key of the first task fault in a DET launch (R365). -/
  fkey : Option (Nat × Nat × Nat × Nat)
  tstart : BitVec 56
  /-- R31: in a DET launch, TCM bytes that a thread changed at issue: key, the superstep of the change, and the byte before
  it, oldest first. Window loads of that superstep read these. -/
  was : List (Nat × Nat × Byte)
  deriving DecidableEq, Repr

/-- One slot of a troupe's stream (R20): the word, its address, its length, where the leader went next, and the repeat
context that a REP at the slot opened in the leader (R205). -/
structure SlotRec where
  pc : Word
  word : W32
  len : Nat
  npc : Word
  /-- The leader's instruction transferred control (R22). -/
  taken : Bool
  rep : Option RepCtx
  deriving DecidableEq, Repr

/-- A troupe (R18 to R24). -/
structure Troupe where
  die : Nat
  row : Nat
  col : Nat
  width : Nat
  skew : Nat
  /-- Member harts by position; a departed one is absent. -/
  members : List (Option HartId)
  stream : List SlotRec
  /-- The slot from which on the ring is broken: the least at which a member left (R23). -/
  broken : Option Nat
  /-- The slot of an executed TRP.SPLIT, where every member leaves (R24). -/
  splitAt : Option Nat
  /-- Slots at which some member's closing instruction or RGN was enabled (R38), each with the tag of a node command that a
  Waystation may refuse (R303), or none for any other instruction. -/
  closed : List (Nat × Option Nat) := []
  deriving DecidableEq, Repr

/-- A notice (R351): SRC, CODE, LID and ARG. -/
structure Notice where
  src : BitVec 18
  code : BitVec 8
  lid : Nat
  arg : Word
  deriving DecidableEq, Repr

/-- A notice ring's registers (NRBASE and NRPTR, MRBASE and MRPTR) and the notices held for it (R351, R370, R395). -/
structure Ring where
  base : Nat
  en : Bool
  head : BitVec 16
  tail : BitVec 16
  held : List Notice
  deriving DecidableEq, Repr

/-! ### Control pages -/

/-- A reduction window (R400). -/
structure Window where
  count : BitVec 16
  op : BitVec 3
  en : Bool
  home : BitVec 17
  frame : Nat
  deriving DecidableEq, Repr

/-- An open reduction round: window, word address, operation, contributions needed and counted, merge, contributors'
requests, opening time (R401). -/
structure Round where
  window : Nat
  pa : Nat
  op : Nat
  count : Nat
  got : Nat
  value : Word
  ids : List Nat
  opened : Nat
  deriving DecidableEq, Repr

/-- An open level-4 occurrence counted at this module as FBHOME: FBID, number, FBN and arrivals with the module and
count of each (R364). -/
structure FbRound where
  fbid : Nat
  occ : Nat
  fbn : Nat
  got : Nat
  devs : List Nat
  deriving DecidableEq, Repr

/-- BOOTSTAT.STATE (R395). -/
inductive Boot where
  | wipe | selftest | await | checking | running | failed
  deriving DecidableEq, Repr

/-- The module control page and what stands behind it (R369, R395). -/
structure ModuleRegs where
  /-- SROOT per slot: table address and EN. -/
  sroot : Vector (Nat × Bool) 16
  inva : Word
  /-- A pending invalidation: the store's request, and INVA when it began (R373). -/
  invPending : Option (Nat × Word)
  cecnt : Vector W32 32
  boot : Boot
  reject : BitVec 8
  /-- The image length of the FWGO being checked (R404). -/
  fwgo : Nat
  lcs : BitVec 2
  fftb : Nat
  fslot : BitVec 4
  fports : BitVec 64
  /-- Ports excluded through FEXCL until reset (R399). -/
  fexcl : BitVec 64
  locked : Bool
  lost : Bool
  offset : Int
  /-- Since when the clock is out of lock or without messages (R396), and the slew still to apply. -/
  unlockedSince : Nat
  slew : Int
  /-- Nanoseconds that have passed towards the next one that may be slewed (R396). -/
  slewRest : Nat
  pwlim : BitVec 6
  wmstall : BitVec 6
  mring : Ring
  wins : Vector Window 256
  /-- The running image's SVN minimum and digest (R405, R408). -/
  svn : BitVec 32
  digest : List Byte
  /-- The device secret is erased in RETURNED (R407). -/
  secretGone : Bool
  /-- A quote asked for: nonce and destination (R408). -/
  quote : Option (List Byte × Nat)
  deriving DecidableEq, Repr

/-- A die control page (R370). -/
structure DieRegs where
  cellarb : Nat
  cellarl : BitVec 32
  rings : Vector Ring 4
  deriving DecidableEq, Repr

/-! ### The machine -/

/-- Whose turn the world gives next: an event, or a hart to issue (log 1). -/
inductive Turn where
  | event (e : Instr)
  | issue (h : HartId)
  deriving DecidableEq, Repr

/-- A cached translation (R367): slot, virtual page number in 64 KiB units, pages covered, and the leaf. -/
structure TlbEntry where
  space : Nat
  page : Nat
  pages : Nat
  leaf : Word
  deriving DecidableEq, Repr

/-- Which Waystation (R366): number 0 to 7 of a die, or a stack's. -/
inductive Station where
  | die (die b : Nat)
  | stack (s : Nat)
  deriving DecidableEq, Repr

/-- The module's state. -/
structure State where
  /-- The hart that issues, and the other harts that differ from their reset state (log 1). -/
  focus : Thread
  parked : List Thread
  /-- Saved contexts whose thread set another launch uses (R380). -/
  evicted : List Thread
  /-- All memories in one space of byte keys (log 14): bytes that are not zero, ascending. -/
  mem : List Host.Cell
  /-- Words with an ECC error: byte key of the word and whether it is a double-bit error (R389). -/
  ecc : List (Nat × Bool)
  /-- Stamp state of injectors, by the 18-bit injector number (R111). -/
  injectors : List (BitVec 18 × Injector)
  /-- Store buffers, oldest first, by injector (R211). -/
  buffers : List (BitVec 18 × List Req)
  /-- The hart that runs on a core and its consecutive issues (R16). -/
  streaks : List (CoreId × (Nat × Nat))
  net : List Req
  copies : List Copy
  blds : List Bld
  strided : List Strided
  ports : List (Nat × PortRec)
  tlb : List (Station × TlbEntry)
  /-- Instruction caches: cluster, slot, address, halfword (R98, R378). -/
  icache : List ((Nat × Nat × Word) × BitVec 16)
  units : List (Nat × ChUnit)
  launches : List Launch
  /-- Launches applied, and events that are CLEAR: slot and identifier (R355, R357). -/
  seqNo : Nat
  clear : List (Nat × Nat)
  /-- Last holder of reserved TCM and scratchpad bytes: first key, length, slot (R15, R360). -/
  holders : List (Nat × Nat × Nat)
  troupes : List (Nat × Troupe)
  fbRounds : List FbRound
  /-- Closes of supersteps that partner modules have sent: FBID and superstep (R364). -/
  fbCloses : List (Nat × Nat)
  rounds : List Round
  mc : ModuleRegs
  dies : Vector DieRegs 32
  /-- The stamp clock (R112) and the time since reset in ns, and blades lost (R409). -/
  clk : BitVec 56
  now : Nat
  blades : List Nat
  off : Bool
  /-- The module has failed (R390). -/
  failed : Bool
  /-- MODEL: the world's choices (logs 1 and 2), and the next request tag and free-value counter (log 5). -/
  agenda : List Turn
  delays : List Nat
  nextId : Nat
  deriving DecidableEq, Repr

def Ring.fresh : Ring := ⟨0, false, 0, 0, []⟩

/-- The module control page at reset (R369, R395): the boot stands before its first step (R404). -/
def ModuleRegs.fresh : ModuleRegs :=
  { sroot := Vector.replicate 16 (0, false), inva := 0, invPending := none, cecnt := Vector.replicate 32 0,
    boot := .wipe, reject := 0, fwgo := 0, lcs := 2, fftb := 0, fslot := 0, fports := 0, fexcl := 0,
    locked := false, lost := false, offset := 0, unlockedSince := 0, slew := 0, slewRest := 0, pwlim := 20, wmstall := 20,
    mring := Ring.fresh, wins := Vector.replicate 256 ⟨0, 0, false, 0, 0⟩, svn := Config.fusedSvn, digest := [],
    secretGone := false, quote := none }

/-- R404: the module at reset, before its boot steps: every byte zero, as WIPE leaves it, every register at its reset
value, no launch, nothing in flight. The first core thread is the one that would issue. -/
def State.reset : State :=
  { focus := Thread.fresh (.thread ⟨0, 0, 0⟩ 0), parked := [], evicted := [], mem := [], ecc := [], injectors := [],
    buffers := [], streaks := [], net := [], copies := [], blds := [], strided := [], ports := [], tlb := [],
    icache := [], units := [], launches := [], seqNo := 0, clear := [], holders := [], troupes := [], fbRounds := [], fbCloses := [],
    rounds := [], mc := ModuleRegs.fresh,
    dies := Vector.replicate 32 ⟨0, 0, Vector.replicate 4 Ring.fresh⟩, clk := 0, now := 0, blades := [], off := false,
    failed := false, agenda := [], delays := [], nextId := 0 }

end Sys2Proof.Machine
end

