-- ==== Sys2Proof/Machine/Bits.lean ====
section
/-! DEFINITION. The bit-field, sign-extension, byte-order and association-list helpers of the machine (R9, R64). -/

namespace Sys2Proof.Machine

/-! ### Fields and extensions -/

/-- bits(v, lo + n - 1, lo) of a natural number (R9). -/
def fieldN (v lo n : Nat) : Nat := v / 2 ^ lo % 2 ^ n

/-- sext(v, n) (R9): the low n bits read as two's complement, extended to 64 bits. -/
def sext (n : Nat) (v : Nat) : Word := (BitVec.ofNat n v).signExtend 64

/-- A signed n-bit reading of the low n bits. -/
def sint (n : Nat) (v : Nat) : Int := (BitVec.ofNat n v).toInt

/-- A truth value as a bit of a word. -/
def flag (b : Bool) : Nat := if b then 1 else 0

/-- ceil(a / b), 0 when b is 0. -/
def ceilDiv (a b : Nat) : Nat := if b = 0 then 0 else (a + b - 1) / b

/-- The greatest multiple of 256 at or below a number: where packets are cut (R105). -/
def floor256 (a : Nat) : Nat := a / 256 * 256

/-! ### Little-endian bytes (R64) -/

/-- The low n bytes of a number, lowest first. -/
def leBytes : (n : Nat) → (v : Nat) → List Byte
  | 0, _ => []
  | n + 1, v => BitVec.ofNat 8 v :: leBytes n (v / 256)

/-- The number whose bytes are given, lowest first. -/
def ofBytes : List Byte → Nat
  | [] => 0
  | b :: r => b.toNat + 256 * ofBytes r

/-- Byte `i` of a list, zero beyond its end. -/
def byteAt (bs : List Byte) (i : Nat) : Byte := bs.getD i 0

/-- The little-endian number of `n` bytes from offset `off`. -/
def numAt (bs : List Byte) (off n : Nat) : Nat := ofBytes ((bs.drop off).take n)

/-- The bits [hi:lo] of the doubleword at byte offset `off`. -/
def dfield (bs : List Byte) (off lo n : Nat) : Nat := fieldN (numAt bs off 8) lo n

/-! ### Association lists: what is not listed has its reset value -/

/-- The value of a key, if listed. -/
def lookup? {κ α : Type} [DecidableEq κ] (k : κ) : List (κ × α) → Option α
  | [] => none
  | (k', a) :: r => if k' = k then some a else lookup? k r

/-- The value of a key, or the default. -/
def lookupD {κ α : Type} [DecidableEq κ] (d : α) (k : κ) (m : List (κ × α)) : α := (lookup? k m).getD d

/-- Gives a key a value. -/
def insertKey {κ α : Type} [DecidableEq κ] (k : κ) (a : α) : List (κ × α) → List (κ × α)
  | [] => [(k, a)]
  | (k', b) :: r => if k' = k then (k, a) :: r else (k', b) :: insertKey k a r

/-- Removes a key. -/
def eraseKey {κ α : Type} [DecidableEq κ] (k : κ) (m : List (κ × α)) : List (κ × α) := m.filter fun e => e.1 ≠ k

/-! ### Bit counts (R185) -/

/-- Number of one bits among the low n bits. -/
def popCount : (n : Nat) → Nat → Nat
  | 0, _ => 0
  | n + 1, v => v % 2 + popCount n (v / 2)

/-- Leading zeros of an n-bit number; n when it is zero. -/
def leadingZeros (n v : Nat) : Nat := if v = 0 then n else n - 1 - Nat.log2 v

/-- Trailing zeros of an n-bit number; n when it is zero. -/
def trailingZeros : (n : Nat) → Nat → Nat
  | 0, _ => 0
  | n + 1, v => if v % 2 = 1 then 0 else 1 + trailingZeros n (v / 2)

/-- The bytes of a word reversed. -/
def byteReverse (w : Word) : Word := BitVec.ofNat 64 (ofBytes (leBytes 8 w.toNat).reverse)

/-! ### Lanes of a vector register (R52) -/

/-- Lane i of width w. -/
def lane (w : Nat) (v : VReg) (i : Nat) : BitVec w := v.extractLsb' (w * i) w

/-- The register with lane i of width w replaced. -/
def setLane (w : Nat) (v : VReg) (i : Nat) (x : BitVec w) : VReg :=
  let m : VReg := ((BitVec.allOnes w).setWidth 256) <<< (w * i)
  (v &&& ~~~ m) ||| ((x.setWidth 256) <<< (w * i))

/-- Bit i of a predicate. -/
def bit (p : W32) (i : Nat) : Bool := p.getLsbD i

/-- A predicate with bit i replaced. -/
def setBit (p : W32) (i : Nat) (b : Bool) : W32 :=
  let m : W32 := 1#32 <<< i
  if b then p ||| m else p &&& ~~~ m

/-- Bytes of a vector register, lane 0 lowest (R53). -/
def vBytes (v : VReg) : List Byte := leBytes 32 v.toNat

/-! ### Stamp order (R112) -/

/-- TIME a precedes TIME b, modulo 2^56. -/
def timeLt (a b : BitVec 56) : Bool := 1 ≤ (b - a).toNat && (b - a).toNat ≤ 2 ^ 55

/-- The later of two times. -/
def timeMax (a b : BitVec 56) : BitVec 56 := if timeLt a b then b else a

/-- Lexicographic stamp order by TIME, DEV, INJ, SEQ (R112). -/
def Stamp.lt (a b : Stamp) : Bool :=
  timeLt a.time b.time ||
  (a.time == b.time && (a.dev < b.dev || (a.dev == b.dev && (a.inj < b.inj || (a.inj == b.inj && a.seq < b.seq)))))

/-- At or below (R115). -/
def Stamp.le (a b : Stamp) : Bool := a == b || a.lt b

/-- Superstep of a logical stamp (R114), the fields of a logical stamp's key: superstep, DEV, INJ, TIME [63:40]. -/
def Stamp.logicalKey (a : Stamp) : Nat × Nat × Nat × Nat :=
  (fieldN a.time.toNat 24 32, a.dev.toNat, a.inj.toNat, fieldN a.time.toNat 0 24)

/-- Lexicographic order of four numbers. -/
def keyLt (a b : Nat × Nat × Nat × Nat) : Bool :=
  a.1 < b.1 || (a.1 == b.1 && (a.2.1 < b.2.1 || (a.2.1 == b.2.1 &&
    (a.2.2.1 < b.2.2.1 || (a.2.2.1 == b.2.2.1 && a.2.2.2 < b.2.2.2)))))

end Sys2Proof.Machine
end

