-- ==== Sys2Proof/Machine/Memory.lean ====
section
/-! DEFINITION. Memory as one canonical list of bytes, the physical map of R368 with the memories that have no physical
address behind it, the homes of bytes, and the address regions of a hart (R90 to R96, R335, R366). -/

namespace Sys2Proof

/-! ### Places in the module grid -/

/-- Module grid row of a core (R6). -/
def CoreId.grow (c : CoreId) : Nat := 80 * (c.die / 8) + c.row
/-- Module grid column of a core (R6). -/
def CoreId.gcol (c : CoreId) : Nat := 64 * (c.die % 8) + c.col
/-- The core at a grid position (R6). -/
def coreAt (grow gcol : Nat) : CoreId := ⟨8 * (grow / 80) + gcol / 64, grow % 80, gcol % 64⟩
/-- The core's number in grid order, below 163,840. -/
def CoreId.index (c : CoreId) : Nat := c.grow * 512 + c.gcol
/-- Cluster row and column of a core (R1, R359). -/
def CoreId.crow (c : CoreId) : Nat := c.grow / 4
def CoreId.ccol (c : CoreId) : Nat := c.gcol / 4
/-- The cluster's number in grid order, below 10,240. -/
def CoreId.cluster (c : CoreId) : Nat := c.crow * 128 + c.ccol

/-- The die that carries a stack (R7). -/
def stackDie (s : Nat) : Nat := if s < 16 then s / 2 else 24 + (s - 16) / 2

/-- The core of a hart, if it is a thread set. -/
def HartId.core? : HartId → Option CoreId
  | .thread c _ => some c
  | _ => none

/-- The die that a hart's accesses leave from (R1, R108, R113): 0 to 31 a compute die, 32 the west I/O die. -/
def HartId.die : HartId → Nat
  | .thread c _ => c.die
  | .porter d _ => d
  | .overlay ch => stackDie (ch / 32)
  | .steward d _ => d
  | .moduleSteward => 32

/-- R366: the global addresses of a steward are physical. -/
def HartId.physical : HartId → Bool
  | .steward _ _ => true
  | .moduleSteward => true
  | _ => false

/-- The number of a thread set within its core (R12). -/
def HartId.set : HartId → Nat
  | .thread _ h => h
  | _ => 0

/-- The steward that a ring belongs to. -/
def RingId.hart : RingId → HartId
  | .die d t => .steward d t
  | .module => .moduleSteward

end Sys2Proof

namespace Sys2Proof.Machine

/-! ### One canonical list -/

/-- What a byte that is not listed reads as: the WIPE step of reset writes zero to every byte (R404). -/
def unlisted : Byte := 0

/-- Reading one byte. -/
def Memory.read : List Host.Cell → Nat → Byte
  | [], _ => unlisted
  | (k, b) :: r, a => if k = a then b else if a < k then unlisted else Memory.read r a

/-- Puts a listed byte before a rest, unless it is what an unlisted address reads as. -/
def Memory.put (a : Nat) (b : Byte) (r : List Host.Cell) : List Host.Cell := if b = unlisted then r else (a, b) :: r

/-- Writing one byte keeps the canonical form: ascending addresses, no byte that reads as unlisted. -/
def Memory.write (a : Nat) (b : Byte) : List Host.Cell → List Host.Cell
  | [] => Memory.put a b []
  | (k, c) :: r =>
    if a < k then Memory.put a b ((k, c) :: r)
    else if a = k then Memory.put a b r
    else (k, c) :: Memory.write a b r

/-- Every address above a bound, strictly rising, and no entry equal to what an unlisted address reads as. -/
def Memory.wfFrom : (lo : Nat) → List Host.Cell → Bool
  | _, [] => true
  | lo, (k, b) :: r => decide (lo ≤ k) && decide (b ≠ unlisted) && Memory.wfFrom (k + 1) r

/-- The canonical form of memory. -/
def Memory.wf (m : List Host.Cell) : Bool := Memory.wfFrom 0 m

/-- Reading n bytes upward. -/
def Memory.readN (m : List Host.Cell) (a : Nat) : (n : Nat) → List Byte
  | 0 => []
  | n + 1 => Memory.read m a :: Memory.readN m (a + 1) n

/-- Writing the bytes that are present, upward from an address. -/
def Memory.writeN (m : List Host.Cell) (a : Nat) : List (Option Byte) → List Host.Cell
  | [] => m
  | none :: r => Memory.writeN m (a + 1) r
  | some b :: r => Memory.writeN (Memory.write a b m) (a + 1) r

/-! ### Byte keys (log 14): physical addresses below 2^47, then the memories without one -/

/-- Byte `off` of a core's TCM. -/
def tcmKey (c : CoreId) (off : Nat) : Nat := 2 ^ 47 + c.index * 2 ^ 19 + off
/-- Byte `off` of a cluster's scratchpad. -/
def padKey (cluster off : Nat) : Nat := 2 ^ 48 + cluster * 2 ^ 20 + off
/-- Byte `off` of a channel's NMU data scratch (R317). -/
def scratchKey (ch off : Nat) : Nat := 2 ^ 49 + ch * 2 ^ 16 + off
/-- Byte `off` of a channel's overlay memory (R317, R325). -/
def overlayKey (ch off : Nat) : Nat := 2 ^ 49 + 2 ^ 40 + ch * 2 ^ 12 + off
/-- Byte of a remote module as this module sees it (R371, log 7). -/
def remoteKey (dev pa : Nat) : Nat := 2 ^ 50 + dev * 2 ^ 47 + pa

/-- What a physical address names (R368). -/
inductive Phys where
  | hbm (ch off : Nat)
  | sram (die slice off : Nat)
  | porterPage (die off : Nat)
  | tcb (core : CoreId) (h off : Nat)
  | modulePage (off : Nat)
  | diePage (die off : Nat)
  /-- An address in none of the ranges. -/
  | none
  deriving DecidableEq, Repr

/-- R368: the physical map. -/
def phys (pa : Nat) : Phys :=
  if pa < 2 ^ 41 then
    if pa % 2 ^ 31 < 2000000000 then .hbm (32 * (pa / 2 ^ 36) + pa / 2 ^ 31 % 32) (pa % 2 ^ 31) else .none
  else if 0x400000000000 ≤ pa ∧ pa < 0x400000000000 + 32 * 2 ^ 28 then
    let o := pa - 0x400000000000
    .sram (o / 2 ^ 28) (o / 2 ^ 24 % 16) (o % 2 ^ 24)
  else if 0x600000000000 ≤ pa ∧ pa < 0x600000000000 + 32 * 2 ^ 16 then
    let o := pa - 0x600000000000
    .porterPage (o / 2 ^ 16) (o % 2 ^ 16)
  else if 0x600100000000 ≤ pa ∧ pa < 0x600100000000 + 32 * 2 ^ 24 then
    let o := pa - 0x600100000000
    if o / 2 ^ 17 % 128 < 80 then .tcb ⟨o / 2 ^ 24, o / 2 ^ 17 % 128, o / 2 ^ 11 % 64⟩ (o / 2 ^ 9 % 4) (o % 2 ^ 9) else .none
  else if 0x600200000000 ≤ pa ∧ pa < 0x600200000000 + 2 ^ 16 then .modulePage (pa - 0x600200000000)
  else if 0x600300000000 ≤ pa ∧ pa < 0x600300000000 + 32 * 2 ^ 16 then
    let o := pa - 0x600300000000
    .diePage (o / 2 ^ 16) (o % 2 ^ 16)
  else .none

/-- Whether a physical address names plain memory: HBM or shared SRAM. -/
def isPlain (pa : Nat) : Bool := match phys pa with | .hbm _ _ => true | .sram _ _ _ => true | _ => false

/-- Whether a physical address is a control-page register. -/
def isPage (pa : Nat) : Bool := match phys pa with | .porterPage _ _ => true | .tcb _ _ _ => true | .modulePage _ => true | .diePage _ _ => true | _ => false

/-- Base physical address of a channel (R368). -/
def channelBase (ch : Nat) : Nat := ch / 32 * 2 ^ 36 + ch % 32 * 2 ^ 31

/-- The channel whose unit is number u of a die's control page (R370), if the die carries the stack. -/
def unitChannel (die u : Nat) : Option Nat :=
  if die < 8 then some (32 * (2 * die + u / 32) + u % 32)
  else if 24 ≤ die ∧ die < 32 then some (32 * (16 + 2 * (die - 24) + u / 32) + u % 32)
  else none

/-- Makes every byte of a range read as unlisted. -/
def Memory.clear (m : List Host.Cell) (a n : Nat) : List Host.Cell := m.filter fun c => !(decide (a ≤ c.1) && decide (c.1 < a + n))

/-- Whether a key is a control-page register. -/
def onPage (key : Nat) : Bool := decide (key < 2 ^ 47) && isPage key

/-! ### Homes (R90, R96, R106) -/

/-- The home of a byte: where accesses to it are performed. -/
inductive Home where
  | tcm (core : CoreId)
  | slice (die sl : Nat)
  | channel (ch : Nat)
  | page (die : Nat)
  | remote (dev : Nat)
  deriving DecidableEq, Repr

/-- The cluster whose scratchpad holds a key. -/
def padCluster (key : Nat) : Option Nat := if 2 ^ 48 ≤ key ∧ key < 2 ^ 49 then some ((key - 2 ^ 48) / 2 ^ 20) else none

/-- The first core of a cluster. -/
def clusterCore (cluster : Nat) : CoreId := coreAt (4 * (cluster / 128)) (4 * (cluster % 128))

/-- The home of a byte key; a scratchpad's stands for the interfaces of its cluster's cores. The module control page is the west I/O die's, 32 (log 12). -/
def homeOf (key : Nat) : Home :=
  if 2 ^ 50 ≤ key then .remote ((key - 2 ^ 50) / 2 ^ 47)
  else if 2 ^ 48 ≤ key then .tcm (clusterCore ((key - 2 ^ 48) / 2 ^ 20))
  else if 2 ^ 47 ≤ key then .tcm (coreAt ((key - 2 ^ 47) / 2 ^ 19 / 512) ((key - 2 ^ 47) / 2 ^ 19 % 512))
  else match phys key with
    | .hbm ch _ => .channel ch
    | .sram d sl _ => .slice d sl
    | .porterPage d _ => .page d
    | .tcb c _ _ => .page c.die
    | .diePage d _ => .page d
    | .modulePage _ => .page 32
    | .none => .page 32

/-- The die a home lies on for R108 and R127: an HBM channel and a remote module lie on none. -/
def Home.die? : Home → Option Nat
  | .tcm c => some c.die
  | .slice d _ => some d
  | .page d => some d
  | .channel _ => none
  | .remote _ => none

/-- A number for the home's receiving interface, in the layout of R388's port identifier: input 0, output, router, die.
Block routers are 8·(row of block) + column, slice routers follow as 80 to 87 (R106); a stack's router and a remote
module's port router take the numbers 88 and 89 above the die's own, and a control page counts on slice router 0 of its die
(log 12). -/
def Home.port : Home → Nat
  | .tcm c => c.die * 2 ^ 24 + (8 * (c.row / 8) + c.col / 8) * 2 ^ 16 + (8 * (c.row % 8) + c.col % 8) * 2 ^ 8
  | .slice d sl => d * 2 ^ 24 + (80 + sl / 2) * 2 ^ 16 + (sl % 2) * 2 ^ 8
  | .page d => d * 2 ^ 24 + 80 * 2 ^ 16 + 2 * 2 ^ 8
  | .channel ch => stackDie (ch / 32) * 2 ^ 24 + (88 + ch / 32 % 2) * 2 ^ 16 + (ch % 32) * 2 ^ 8
  | .remote dev => 2 ^ 29 + 88 * 2 ^ 16 + (dev % 64) * 2 ^ 8

/-- The home router of R106. -/
def Home.router (h : Home) : Nat := h.port / 2 ^ 16

/-! ### Where an address of a hart leads -/

/-- What an address is to the hart that uses it, before any translation (R90, R92 to R95, R335, R366). -/
inductive Place where
  /-- A local byte, performed at issue. -/
  | loc (key : Nat)
  /-- A byte of another core's TCM, or the own core's, through the window. -/
  | window (core : CoreId) (off : Nat)
  /-- A global virtual address, or a steward's physical one. -/
  | glob (va : Nat)
  /-- No region, or outside its limits: ACCESS. -/
  | bad
  deriving DecidableEq, Repr

/-- Bytes of TCM per thread (R353). -/
def Launch.tcmlBytes (l : Launch) : Nat := l.info.tcml * 256

/-- Whether a core lies in the launch's domain rectangle (R11, R95). -/
def Launch.hasCore (l : Launch) (c : CoreId) : Bool :=
  decide (c.die < 32) && decide (c.row < 80) && decide (c.col < 64) &&
  decide (4 * l.crow ≤ c.grow) && decide (c.grow < 4 * (l.crow + l.info.dh)) &&
  decide (4 * l.ccol ≤ c.gcol) && decide (c.gcol < 4 * (l.ccol + l.info.dw))

/-- Whether TCM offset `off` lies in the launch's area (R92). -/
def Launch.inArea (l : Launch) (off : Nat) : Bool :=
  decide (l.tcmOff ≤ off) && decide (off < l.tcmOff + l.info.tc * l.tcmlBytes)

/-- The physical scratchpad offset of the reservation's byte o in a cluster (R93). -/
def Launch.padOff (l : Launch) (cluster o : Nat) : Nat := lookupD 0 cluster l.spOffs + o

/-- R12: the logical core index. -/
def Launch.lcore (l : Launch) (c : CoreId) : Nat := (c.grow - 4 * l.crow) * (4 * l.info.dw) + (c.gcol - 4 * l.ccol)

/-- R94, R95: a core-window address against a launch's domain and area. -/
def windowPlace (l : Option Launch) (a : Nat) : Place :=
  let c : CoreId := ⟨fieldN a 33 5, fieldN a 26 7, fieldN a 20 6⟩
  let off := fieldN a 0 20
  match l with
  | some l => if fieldN a 38 10 = 0 ∧ l.hasCore c ∧ off ≤ 0x5ffff ∧ l.inArea off then .window c off else .bad
  | none => .bad

/-- R92, R93: a local address of a core thread. -/
def localPlace (l : Option Launch) (c : CoreId) (a : Nat) : Place :=
  match l with
  | some l =>
    if a ≤ 0x5ffff then if l.inArea a then .loc (tcmKey c a) else .bad
    else if 0x100000 ≤ a ∧ a ≤ 0x1fffff then
      if a - 0x100000 < l.info.spb then .loc (padKey c.cluster (l.padOff c.cluster (a - 0x100000))) else .bad
    else .bad
  | none => .bad

/-- R90: the region of an address for a hart of a launch. A Porter has no local region (R335), a steward has no launch
and so no area and no domain (log 15), an overlay sees its scratch and its code (R335). -/
def placeOf (h : HartId) (l : Option Launch) (a : Word) : Place :=
  let n := a.toNat
  let region := n / 2 ^ 48
  if region = 0x0100 then .glob (n % 2 ^ 48)
  else if region = 1 then
    match h with
    | .overlay _ => .bad
    | _ => windowPlace l n
  else if region = 0 then
    match h with
    | .thread c _ => localPlace l c n
    | .overlay ch =>
      if n < 0x8000 then .loc (scratchKey ch n)
      else if 0x10000 ≤ n ∧ n < 0x11000 then .loc (overlayKey ch (n - 0x10000))
      else .bad
    | _ => .bad
  else .bad

/-- Whether the home is the hart's own local memory (R108). -/
def Place.isLoc : Place → Bool
  | .loc _ => true
  | _ => false

end Sys2Proof.Machine
end

