-- ==== Sys2Proof/Machine/Ops.lean ====
section
/-! DEFINITION. The named operations over the state: harts, launches, memory bytes, notice rings, stamps, translation,
troupes, and taking an exception with the return from one. -/

namespace Sys2Proof.Machine

/-! ### Harts -/

/-- Puts a hart among the parked ones, in place of its earlier self. -/
def putThread (t : Thread) : List Thread → List Thread
  | [] => [t]
  | u :: r => if u.id = t.id then t :: r else u :: putThread t r

/-- A hart by name: what is not listed is as at reset (R47). -/
def State.hart (s : State) (h : HartId) : Thread :=
  if s.focus.id = h then s.focus else (s.parked.find? fun t => t.id = h).getD (Thread.fresh h)

/-- Every hart that differs from its reset state, the issuing one first. -/
def State.harts (s : State) : List Thread := s.focus :: s.parked

/-- Replaces a hart. -/
def State.setHart (s : State) (t : Thread) : State :=
  if s.focus.id = t.id then { s with focus := t } else { s with parked := putThread t s.parked }

/-- Changes one hart. -/
def State.mapHart (s : State) (h : HartId) (f : Thread → Thread) : State := s.setHart (f (s.hart h))

/-- Changes every listed hart that a test picks. -/
def State.mapHarts (s : State) (p : Thread → Bool) (f : Thread → Thread) : State :=
  { s with focus := if p s.focus then f s.focus else s.focus
           parked := s.parked.map fun t => if p t then f t else t }

/-- Makes a hart the one that issues. -/
def State.focusOn (s : State) (h : HartId) : State :=
  if s.focus.id = h then s
  else { s with focus := s.hart h, parked := putThread s.focus (s.parked.filter fun t => t.id ≠ h) }

/-- Does something as another hart, and gives the turn back. -/
def State.onHart (s : State) (h : HartId) (f : State → State) : State := (f (s.focusOn h)).focusOn s.focus.id

/-- R50: the port-wait limit has passed since a time. -/
def State.waitedOut (s : State) (since : Nat) : Bool := decide (2 ^ s.mc.pwlim.toNat < s.now - since)

/-- Changes the issuing hart. -/
def State.mapFocus (s : State) (f : Thread → Thread) : State := { s with focus := f s.focus }

/-- Whether the hart runs at steward level: it is a steward at supervisor privilege (R351, R352). -/
def Thread.isSteward (t : Thread) : Bool :=
  match t.id with | .steward _ _ => true | .moduleSteward => true | _ => false

/-- R113: the injector number of a hart, die, row and column. -/
def injOf : HartId → BitVec 18
  | .thread c _ => BitVec.ofNat 18 (c.die * 2 ^ 13 + c.row * 2 ^ 6 + c.col)
  | .porter d p => BitVec.ofNat 18 (d * 2 ^ 13 + 88 * 2 ^ 6 + p)
  | .overlay ch => BitVec.ofNat 18 (stackDie (ch / 32) * 2 ^ 13 + 96 * 2 ^ 6 + 32 * (ch / 32 % 2) + ch % 32)
  | .steward d s => BitVec.ofNat 18 (d * 2 ^ 13 + 80 * 2 ^ 6 + s)
  | .moduleSteward => BitVec.ofNat 18 (124 * 2 ^ 6)

/-- R113: the injector number of a die's Innkeeper dispatch engine. -/
def injDispatch (die : Nat) : BitVec 18 := BitVec.ofNat 18 (die * 2 ^ 13 + 81 * 2 ^ 6)

/-- R113: the injector number of a Waystation. -/
def injStation : Station → BitVec 18
  | .die d b => BitVec.ofNat 18 (d * 2 ^ 13 + 90 * 2 ^ 6 + b)
  | .stack s => BitVec.ofNat 18 (stackDie s * 2 ^ 13 + 98 * 2 ^ 6 + s % 2)

/-- R113: the injector number of the Innkeeper's module queue. -/
def injQueue : BitVec 18 := BitVec.ofNat 18 (124 * 2 ^ 6 + 1)

/-- R113: the injector number of a source of requests; the world's own stamps come with its packets (R130). -/
def Src.inj : Src → BitVec 18
  | .hart h => injOf h
  | .unit ch => injOf (.overlay ch)
  | .queue => injQueue
  | .fabric _ => 0

/-! ### Launches -/

/-- A live launch by its identifier. -/
def State.launch? (s : State) (lid : Nat) : Option Launch := s.launches.find? fun l => l.info.lid = lid

/-- Changes one launch. -/
def State.mapLaunch (s : State) (lid : Nat) (f : Launch → Launch) : State :=
  { s with launches := s.launches.map fun l => if l.info.lid = lid then f l else l }

/-- The launch of a hart: the one whose task it runs, or the one a Porter acts for (R337). -/
def State.launchOf (s : State) (t : Thread) : Option Launch := s.launch? t.lid

/-- Whether a hart's launch is deterministic (R30); Porters are not held (R338). -/
def State.isDet (s : State) (t : Thread) : Bool :=
  match t.id with
  | .thread _ _ => ((s.launchOf t).map fun l => l.info.det).getD false
  | _ => false

/-- R12: the thread's TCM reservation base. -/
def Thread.tcmb (t : Thread) (l : Launch) : Nat := l.tcmOff + t.h * l.tcmlBytes

/-- Threads of a launch that have not exited (R26): running sets, and saved contexts (R380). -/
def State.members (s : State) (lid : Nat) : List Thread :=
  (s.harts ++ s.evicted).filter fun t =>
    (match t.id with | .thread _ _ => true | _ => false) && decide (t.lid = lid) && decide (t.state ≠ .free)

/-! ### Memory bytes -/

/-- A write of the bytes that are present, upward from a key, writes in the 8-byte word at a key. -/
def writesWord (key : Nat) (bytes : List (Option Byte)) (word : Nat) : Bool :=
  bytes.zipIdx.any fun (b, i) => b.isSome && decide (word ≤ key + i) && decide (key + i < word + 8)

/-- Writes bytes upward from a key. A write gives the words that it writes in valid ECC again (R389). -/
def State.poke (s : State) (key : Nat) (bytes : List (Option Byte)) : State :=
  { s with mem := Memory.writeN s.mem key bytes, ecc := s.ecc.filter fun e => !writesWord key bytes e.1 }

/-- Writes whole bytes. -/
def State.pokeBytes (s : State) (key : Nat) (bytes : List Byte) : State := s.poke key (bytes.map some)

/-- Zeroes a range of bytes at once (R360, R404). -/
def State.wipe (s : State) (key n : Nat) : State :=
  { s with mem := Memory.clear s.mem key n, ecc := s.ecc.filter fun e => !(key ≤ e.1 + 7 && e.1 < key + n) }

/-- Reads n bytes upward from a key. -/
def State.peek (s : State) (key n : Nat) : List Byte := Memory.readN s.mem key n

/-- Reads the n-byte little-endian number at a key. -/
def State.peekN (s : State) (key n : Nat) : Nat := ofBytes (s.peek key n)

/-- R341: a remote store performed into a thread's TCM reservation sets its event latch. -/
def State.latchAt (s : State) (key len : Nat) : State :=
  match homeOf key with
  | .tcm c =>
    let off := key - tcmKey c 0
    s.mapHarts
      (fun t => decide (t.id.core? = some c) && decide (t.state ≠ .free) &&
        (match s.launchOf t with
         | some l => decide (t.tcmb l < off + len) && decide (off < t.tcmb l + l.tcmlBytes)
         | none => false))
      (fun t => { t with latch := true })
  | _ => s

/-! ### Notices (R351) -/

/-- The ring is full, or not enabled. -/
def Ring.full (r : Ring) : Bool := !r.en || decide ((r.head - r.tail).toNat = 256)

/-- A notice's 16 bytes. -/
def Notice.bytes (n : Notice) : List Byte :=
  leBytes 8 (n.src.toNat + n.code.toNat * 2 ^ 24 + n.lid % 65536 * 2 ^ 32) ++ leBytes 8 n.arg.toNat

/-- A ring's registers. -/
def State.ring (s : State) : RingId → Ring
  | .die d t => (s.dies.toArray.getD d ⟨0, 0, Vector.replicate 4 Ring.fresh⟩).rings.toArray.getD t Ring.fresh
  | .module => s.mc.mring

/-- Replaces a ring. -/
def State.setRing (s : State) (id : RingId) (r : Ring) : State :=
  match id with
  | .die d t => { s with dies := s.dies.setIfInBounds d { s.dies.toArray.getD d ⟨0, 0, Vector.replicate 4 Ring.fresh⟩ with
      rings := (s.dies.toArray.getD d ⟨0, 0, Vector.replicate 4 Ring.fresh⟩).rings.setIfInBounds t r } }
  | .module => { s with mc := { s.mc with mring := r } }

/-- R326: the 256-byte units that blocks hold, each with the channel and stream that hold it. -/
def State.holds (s : State) : List (Nat × Nat × Nat) :=
  s.units.flatMap fun (ch, u) => u.streams.flatMap fun (k, st) =>
    match st.active with
    | some a => a.held.map fun w => (w, ch, k)
    | none => []

/-- R326: a block holds a unit of n bytes from a key, so that a write there waits. -/
def State.unitsHeld (s : State) (key n : Nat) : Bool :=
  decide (n ≠ 0) && s.holds.any fun (w, _, _) => decide (key / 256 ≤ w) && decide (w ≤ (key + n - 1) / 256)

/-- R326: a block's hold has stood for 64 µs. -/
def State.holdOver (s : State) (a : Active) : Bool := match a.start with | some t => decide (t + 64000 ≤ s.now) | none => false

/-- R326: the overlay of a channel runs for a block whose hold has stood for 64 µs: it executes nothing more. -/
def State.runOver (s : State) (ch : Nat) : Bool :=
  (lookupD ChUnit.fresh ch s.units).streams.any fun e => (e.2.active.map fun a => a.running && s.holdOver a).getD false

/-- R326, R351: a ring takes no notice now: it is full or not enabled, or a block holds the place of its next notice. -/
def State.ringShut (s : State) (id : RingId) : Bool :=
  (s.ring id).full || s.unitsHeld ((s.ring id).base + 16 * ((s.ring id).head.toNat % 256)) 16

/-- Appends a notice to a ring with room: the 16 bytes, HEAD, and the steward's event latch. -/
def State.appendNotice (s : State) (id : RingId) (n : Notice) : State :=
  let r := s.ring id
  let s := s.pokeBytes (r.base + 16 * (r.head.toNat % 256)) n.bytes
  let s := s.setRing id { r with head := r.head + 1 }
  s.mapHart id.hart fun t => { t with latch := true }

/-- Reports a notice: appended when the ring takes it and none is held before it, else held (R326, R351). -/
def State.report (s : State) (id : RingId) (n : Notice) : State :=
  let r := s.ring id
  if s.ringShut id || !r.held.isEmpty then s.setRing id { r with held := r.held ++ [n] } else s.appendNotice id n

/-- R351: the steward that receives a hart's reports. -/
def ringFor : HartId → RingId
  | .thread c _ => .die c.die (c.row / 20)
  | .porter d p => .die d (p / 2)
  | .overlay _ => .module
  | .steward d s => .die d s
  | .moduleSteward => .module

/-- R412: a SYSTEM report to the module steward. -/
def State.reportSystem (s : State) (kind : Nat) (src : BitVec 18) (lid status detail : Nat) : State :=
  s.report .module ⟨src, 0x15, lid, BitVec.ofNat 64 (kind + status % 256 * 2 ^ 8 + detail % 2 ^ 48 * 2 ^ 16)⟩

/-! ### Stamps (R111, R114) -/

/-- The stamp state of an injector. -/
def State.injector (s : State) (i : BitVec 18) : Injector := lookupD ⟨0, 0, 0⟩ i s.injectors

/-- A new stamp under R111. -/
def State.stamp (s : State) (i : BitVec 18) : Stamp × State :=
  let j := s.injector i
  let time := timeMax s.clk (timeMax (j.g + 1) j.t)
  let (time, q) := if time = j.t then (if j.q = 31 then (j.t + 1, 0) else (time, j.q + 1)) else (time, 0)
  (⟨time, Config.deviceId, i, q⟩, { s with injectors := insertKey i ⟨time, q, j.g⟩ s.injectors })

/-- R111: a received time raises G. -/
def State.receiveTime (s : State) (i : BitVec 18) (time : BitVec 56) : State :=
  let j := s.injector i
  { s with injectors := insertKey i { j with g := timeMax j.g time } s.injectors }

/-- R116: the bound below every stamp an injector can still give. -/
def State.stampBound (s : State) (i : BitVec 18) : Stamp :=
  let j := s.injector i
  let m := timeMax s.clk (timeMax (j.g + 1) j.t)
  ⟨(if m = j.t ∧ j.q = 31 then j.t + 1 else m) - 1, Config.deviceId, i, 31⟩

/-- R114: the logical stamp of a thread's next held access. -/
def logicalStamp (superstep h idx lcore : Nat) : Stamp :=
  ⟨BitVec.ofNat 56 (superstep % 2 ^ 32 * 2 ^ 24 + h % 4 * 2 ^ 22 + idx % 2 ^ 22), Config.deviceId, BitVec.ofNat 18 lcore, 0⟩

/-! ### Translation (R366 to R372) -/

/-- Kinds of access with their own attribute needs (R97, R330). -/
inductive Need where
  | read | write | amo | node | unit | fetch
  deriving DecidableEq, Repr

/-- The bits of a table entry (R371). -/
def entryV (e : Nat) : Bool := e % 2 = 1
def entryT (e : Nat) : Bool := e / 2 % 2 = 1
def entryR (e : Nat) : Bool := e / 4 % 2 = 1
def entryW (e : Nat) : Bool := e / 8 % 2 = 1
def entryX (e : Nat) : Bool := e / 16 % 2 = 1
def entryC (e : Nat) : Bool := e / 32 % 2 = 1
def entryN (e : Nat) : Bool := e / 64 % 2 = 1
def entrySA (e : Nat) : Bool := e / 128 % 2 = 1
def entryP (e : Nat) : Bool := e / 256 % 2 = 1
def entryRem (e : Nat) : Bool := e / 512 % 2 = 1

/-- R372: a doubleword of a page table, read at its home. A table address that names no memory reads as an entry that is
not valid. -/
def State.tableEntry (s : State) (pa : Nat) : Nat := if isPlain pa then s.peekN pa 8 else 0

/-- R371: must-be-zero bits of a leaf at a level. -/
def leafZeros (e level : Nat) : Bool :=
  (entryRem e || decide (fieldN e 47 17 = 0)) && decide (fieldN e 10 6 = 0) &&
  (level != 3 || decide (fieldN e 16 5 = 0))

/-- R372: whether the frame of a leaf, of this module or a remote one, names memory or Porter pages that it may name. -/
def frameOk (e level : Nat) : Bool :=
  let base := fieldN e 16 31 * 2 ^ 16
  let last := base + (if level = 3 then 2 ^ 21 else 2 ^ 16) - 1
  match phys base, phys last with
  | .hbm _ _, .hbm _ _ => true
  | .sram _ _ _, .sram _ _ _ => true
  | .porterPage _ _, .porterPage _ _ => !entryC e && !entryN e && !entryX e
  | _, _ => false

/-- R372: the conditions on a C leaf. -/
def computeOk (e level : Nat) : Bool :=
  !entryC e || (decide (level = 3) && entryP e && !entryN e && !entryRem e &&
    (match phys (fieldN e 16 31 * 2 ^ 16), phys (fieldN e 16 31 * 2 ^ 16 + 2 ^ 21 - 1) with
     | .hbm c _, .hbm c' _ => decide (c = c')
     | _, _ => false))

/-- R371: the index into a level's table. -/
def walkIndex (level va : Nat) : Nat :=
  match level with
  | 1 => fieldN va 39 9
  | 2 => fieldN va 30 9
  | 3 => fieldN va 21 9
  | _ => fieldN va 16 5

/-- R372: the walk from a level with its table's address. Answers the leaf and its level, or none for TRANSLATE. -/
def State.walkFrom (s : State) (va : Nat) : (fuel level t : Nat) → Option (Nat × Nat)
  | 0, _, _ => none
  | fuel + 1, level, t =>
    let e := s.tableEntry (t + 8 * walkIndex level va)
    if !entryV e then none
    else if entryT e then
      let next := fieldN e 8 40 * 2 ^ 8
      if level = 4 ∨ fieldN e 2 6 ≠ 0 ∨ fieldN e 48 16 ≠ 0 ∨ next % (if level = 3 then 256 else 4096) ≠ 0 then none
      else s.walkFrom va fuel (level + 1) next
    else if level < 3 ∨ !leafZeros e level ∨ !computeOk e level ∨ !frameOk e level then none
    else some (e, level)

/-- R372: a walk for a slot. -/
def State.walk (s : State) (slot va : Nat) : Option (Nat × Nat) :=
  let (t, en) := s.mc.sroot.toArray.getD slot (0, false)
  if en then s.walkFrom va 4 1 t else none

/-- R97, R330: whether a leaf grants an access. -/
def grants (need : Need) (e : Nat) : Bool :=
  match need with
  | .read => entryR e
  | .write => entryW e && !entryN e
  | .amo => entryR e && entryW e && !entryN e && (!entryRem e || entrySA e)
  | .node => entryN e && entryR e && entryW e
  | .unit => entryC e && entryR e
  | .fetch => entryX e

/-- The byte key a leaf gives a virtual address (R371). -/
def leafKey (e level va : Nat) : Nat :=
  let pa := if level = 3 then fieldN e 21 26 * 2 ^ 21 + va % 2 ^ 21 else fieldN e 16 31 * 2 ^ 16 + va % 2 ^ 16
  if entryRem e then remoteKey (fieldN e 47 17) pa else pa

/-- What becomes of an address on its way to its home. -/
inductive Xlat where
  | hit (key : Nat)
  /-- The Waystation has no entry: a walk is needed. -/
  | miss
  | fail (code : BitVec 8)
  deriving DecidableEq, Repr

/-- R103, R372: translating and checking without a cache, for class at issue, fetches and the Innkeeper. -/
def State.xlatWalk (s : State) (slot va : Nat) (need : Need) : Xlat :=
  match s.walk slot va with
  | none => .fail 0x06
  | some (e, level) => if grants need e then .hit (leafKey e level va) else .fail 0x07

/-- R366: the Waystation of a source of requests. -/
def Src.station : Src → Station
  | .hart (.thread c _) => .die c.die (c.col / 8)
  | .hart (.porter d p) => .die d p
  | .hart (.overlay ch) => .stack (ch / 32)
  | .hart (.steward d _) => .die d 0
  | .hart .moduleSteward => .die 0 0
  | .unit ch => .stack (ch / 32)
  | .queue => .die 0 0
  | .fabric _ => .die 0 0

/-- R367: a cached entry that covers a page. -/
def State.cached (s : State) (st : Station) (slot va : Nat) : Option TlbEntry :=
  (s.tlb.find? fun (st', e) => decide (st' = st) && decide (e.space = slot) &&
    decide (e.page ≤ va / 65536) && decide (va / 65536 < e.page + e.pages)).map (·.2)

/-- R369: a slot's EN. -/
def State.slotOn (s : State) (slot : Nat) : Bool := (s.mc.sroot.toArray.getD slot (0, false)).2

/-- R103, R367, R369: a virtual address at a Waystation: its entry, checked for an access, or a miss; in a slot whose EN is
clear every translation fails. -/
def State.xlatAt (s : State) (st : Station) (slot va : Nat) (need : Need) : Xlat :=
  if !s.slotOn slot then .fail 0x06
  else match s.cached st slot va with
  | none => .miss
  | some e => if grants need e.leaf.toNat then .hit (leafKey e.leaf.toNat (if e.pages = 1 then 4 else 3) va) else .fail 0x07

/-- The byte key of a local address of a source, for the local element of a remote vector access and for the network
interface's own local accesses (R221, R239). -/
def State.localKey? (s : State) (src : Src) (lid : Nat) (a : Word) : Option Nat :=
  match src with
  | .hart (.thread c _) => match localPlace (s.launch? lid) c a.toNat with | .loc key => some key | _ => none
  | _ => none

/-- R103, R366: translating an access of a request at its Waystation. A steward's global access is physical, and a
physical address that names nothing is refused with ACCESS (log 16). -/
def State.xlat (s : State) (r : Req) (addr : Word) (need : Need) : Xlat :=
  let n := addr.toNat
  if n / 2 ^ 48 = 1 then .hit (tcmKey ⟨fieldN n 33 5, fieldN n 26 7, fieldN n 20 6⟩ (fieldN n 0 20))
  else if n / 2 ^ 48 = 0 then
    match s.localKey? r.src r.lid addr with
    | some key => .hit key
    | none => .fail 0x04
  else if r.phys then
    let pa := n % 2 ^ 48
    if phys pa = .none then .fail 0x04 else .hit pa
  else s.xlatAt r.src.station r.space (n % 2 ^ 48) need

/-! ### Troupes (R18 to R24) -/

/-- A member's troupe. -/
def State.troupeOf (s : State) (t : Thread) : Option Troupe := t.troupe.bind fun i => lookup? i s.troupes

/-- A mark that no slot of a troupe numbers. -/
def Mark.outside (m : Mark) : Mark := { m with slot := 0 }

/-- Removes a hart from its troupe's bookkeeping. -/
def Thread.leave (t : Thread) : Thread := { t with troupe := none, tpos := 0, slotNo := 0, entrySlot := 0, marks := t.marks.map Mark.outside }

/-- R23: the ring is broken at a slot. -/
def Troupe.brokenAt (tr : Troupe) (slot : Nat) : Bool := (tr.broken.map fun n => decide (n ≤ slot)).getD false

/-- R23: the ring is broken from a slot on. -/
def Troupe.breakAt (tr : Troupe) (slot : Nat) : Option Nat := some (match tr.broken with | some n => min n slot | none => slot)

/-- R23, R24: a member leaves. The ring breaks from its slot on; when the leader leaves, or no member is left, the troupe dissolves and
each member goes on under its own program counter. -/
def State.leaveTroupe (s : State) (h : HartId) : State :=
  match (s.hart h).troupe with
  | none => s
  | some i =>
    match lookup? i s.troupes with
    | none => s.mapHart h Thread.leave
    | some tr =>
      let k := (s.hart h).tpos
      let members := tr.members.set k none
      if k = 0 ∨ members.all Option.isNone then
        { s.mapHarts (fun t => t.troupe = some i) Thread.leave with troupes := eraseKey i s.troupes }
      else
        { s.mapHart h Thread.leave with troupes := insertKey i { tr with members, broken := tr.breakAt (s.hart h).slotNo } s.troupes }

/-- R18: a thread is suspended while another thread of its core belongs to a troupe, unless that one is saved (R380). -/
def State.suspended (s : State) (t : Thread) : Bool :=
  match t.id.core? with
  | some c => s.harts.any fun u => decide (u.id.core? = some c) && decide (u.id ≠ t.id) && u.troupe.isSome && decide (u.state ≠ .saved)
  | none => false

/-- R23, R63: trinfo of a hart; BROKEN from the slot on at which the ring broke. -/
def State.trinfo (s : State) (t : Thread) : Word :=
  match s.troupeOf t with
  | none => 0
  | some tr => BitVec.ofNat 64 (flag (tr.brokenAt t.slotNo) * 2 ^ 26 + flag (t.tpos = 0) * 2 ^ 25 + 2 ^ 24 + tr.skew * 2 ^ 16 + tr.width * 2 ^ 8 + t.tpos)

/-! ### Faults of tasks (R39 to R46, R365, R375) -/

/-- R365: keeps the first task fault of a launch; in a DET launch the one with the least key. -/
def Launch.noteFault (l : Launch) (code : BitVec 8) (task : Nat) (key : Nat × Nat × Nat × Nat) : Launch :=
  if l.info.det then
    match l.fkey with
    | some k => if keyLt key k then { l with fcode := code, ftask := task, fkey := some key } else l
    | none => { l with fcode := code, ftask := task, fkey := some key }
  else if l.fkey.isNone then { l with fcode := code, ftask := task, fkey := some key } else l

/-- R39, R375: aborting a launch. Every thread of it stops at its next issue, saved contexts included, and its running Porters
stop; their slots read RUN until the completion record (R338). -/
def State.abortLaunch (s : State) (lid : Nat) (code : BitVec 8) (task : Nat) (key : Nat × Nat × Nat × Nat) : State :=
  let s := s.mapLaunch lid fun l =>
    if l.stage = .aborting then (if l.info.det then l.noteFault code task key else l)
    else { (l.noteFault code task key) with stage := .aborting }
  let s := s.mapHarts (fun t => decide (t.lid = lid) && decide (t.state ≠ .free) && (match t.id with | .thread _ _ => true | _ => false))
    fun t => { t with stage := .aborted, wait := none, state := if t.state = .saved then .saved else .running }
  let s := s.mapHarts (fun t => decide (t.lid = lid) && (match t.id with | .porter _ _ => t.porter.run | _ => false))
    fun t => { t with stage := .aborted, wait := none }
  { s with evicted := s.evicted.map fun t => if t.lid = lid then { t with stage := .aborted, wait := none } else t }

/-- R27, R364, R389: aborting a launch for another reason than a task fault, with its own FCODE and FTASK. -/
def State.abortWith (s : State) (lid : Nat) (code : BitVec 8) (task : Nat) : State :=
  match s.launch? lid with
  | some l =>
    if l.stage = .aborting then s
    else (s.abortLaunch lid code task (0, 0, 0, 0)).mapLaunch lid fun l => { l with fcode := code, ftask := task, fkey := some (0, 0, 0, 0) }
  | none => s

/-- R365: the logical stamp key that an instruction of the thread took or would take: its superstep, and how many held
accesses the thread had issued in it before, up to 2^22 (R114). -/
def State.faultKey (s : State) (t : Thread) (superstep idx : Nat) : Nat × Nat × Nat × Nat :=
  match s.launchOf t, t.id.core? with
  | some l, some c => (superstep, Config.deviceId.toNat, l.lcore c, t.h * 2 ^ 23 + idx)
  | _, _ => (0, 0, 0, 0)

/-- R45: the fault context of a hart at an exception. -/
def State.faultCtx (s : State) (t : Thread) (code : BitVec 8) (fpc faddr : Word) (straddle : Bool) (iword : W32) : FaultCtx :=
  { code, fpc, faddr, straddle, troupe := t.troupe.isSome, forced := s.isDet t,
    ftime := if s.isDet t then BitVec.ofNat 64 (((s.launchOf t).map (·.sstep)).getD 0 % 2 ^ 32) else s.clk.setWidth 64,
    iword, tpos := t.tpos, twidth := ((s.troupeOf t).map (·.width)).getD 0, tskew := ((s.troupeOf t).map (·.skew)).getD 0,
    rentry := t.region.entry,
    dcs := BitVec.ofNat 32 ((t.dc[0]).toNat + (t.dc[1]).toNat * 2 ^ 8 + (t.dc[2]).toNat * 2 ^ 16 + (t.dc[3]).toNat * 2 ^ 24),
    nreply := 0, replies := [], key := s.faultKey t t.superstep t.heldIdx }

/-- R39, R41, R43, R44: a task fault with its context. Under CONTAIN the task is discarded and its record is due; an
ABORT launch, or a reaper's fault, aborts the launch, and the steward receives one notice for the first fault (R375). A PREEMPT
that was accepted stays due (log 128). A task that has issued nothing held in a superstep that the launch has not begun dies in
the launch's own (R43, log 110). Ring deliveries that have not started are discarded from then on (R10, R262, R340).
A stop turned into a fault appends no second notice (R377). -/
def State.taskFault (s : State) (h : HartId) (ctx : FaultCtx) (notify : Bool) : State :=
  let t := s.hart h
  let key := ctx.key
  let s := s.leaveTroupe h
  match s.launchOf t with
  | none => s.mapHart h fun t => { t with stage := .aborted, wait := none }
  | some l =>
    if l.info.contain && !t.reaper then
      let s := s.mapLaunch l.info.lid fun l => { (l.noteFault ctx.code t.task key) with ncont := l.ncont + 1 }
      s.mapHart h fun t => { t with stage := .dying, state := if t.ctx.asked then .pending else .running, wait := none,
                                    fault := some ctx, pend := [], deaf := true,
                                    arrived := if l.info.det then Vector.replicate 4 .none else t.arrived,
                                    superstep := if t.heldIdx = 0 then min t.superstep l.sstep else t.superstep }
    else
      let first := l.stage ≠ .aborting
      let s := s.abortLaunch l.info.lid ctx.code t.task key
      if first && notify then s.report (ringFor h) ⟨injOf h, ctx.code, l.info.lid, ctx.fpc⟩ else s

/-- R339, R351: an ECALL or EBREAK stop takes effect: the notice is appended and the thread is STOPPED. -/
def State.stopNow (s : State) (h : HartId) : State :=
  match (s.hart h).fault with
  | some ctx =>
    let s := s.appendNotice (ringFor h) ⟨injOf h, ctx.code, (s.hart h).lid, ctx.fpc⟩
    s.mapHart h fun t => { t with state := .stopped, stage := .active, wait := none, ctx := { t.ctx with scode := ctx.code } }
  | none => s

/-- Ends an overlay's RUN with a status (R325): the command it runs records it, and the NMU stops. -/
def State.endRun (s : State) (ch : Nat) (status : Option Nat) : State :=
  let u := lookupD ChUnit.fresh ch s.units
  let streams := u.streams.map fun (k, st) => (k, match st.active with
    | some a => if a.running then
        { st with active := some { a with running := false, idx := if status.isNone then a.idx + 1 else a.idx, paid := 0,
                                          ended := status.map fun c => (c, a.idx) } }
      else st
    | none => st)
  let s := { s with units := insertKey ch { u with streams } s.units }
  s.mapHart (.overlay ch) fun t => { t with state := .free, stage := .active, wait := none }

/-! ### Taking an exception, and returning from one -/

/-- The exception of an instruction of the issuing hart, whose address is the saved pc and whose word is `iword`; `at?` gives
its superstep and held-access index where it was issued before (R365). A task's
ECALL or EBREAK stops it (R339); any other code is a task fault (R39, R41); a Porter's program ends (R338); an overlay's
RUN ends with RUNFAULT (R325); a steward saves sepc, scause, stval and SPP and goes to stvec at supervisor privilege
(R352). The instruction has no effect. -/
def State.raiseOf (s : State) (at? : Option (Nat × Nat)) (code : BitVec 8) (faddr : Word) (straddle : Bool) (iword : W32) : State :=
  let t := s.focus
  match t.id with
  | .thread _ _ =>
    let ctx := s.faultCtx t code t.pc faddr straddle iword
    let ctx := match at? with | some (n, i) => { ctx with key := s.faultKey t n i } | none => ctx
    if code = 0x0C ∨ code = 0x0D then
      let s := s.leaveTroupe t.id
      let s := s.mapHart t.id fun t => { t with fault := some ctx, stage := .stopping, wait := some (.other, s.now) }
      if s.ringShut (ringFor t.id) then s else s.stopNow t.id
    else s.taskFault t.id ctx true
  | .porter _ _ =>
    s.mapFocus fun t => { t with stage := .trapped, wait := none, fault := some (s.faultCtx t code t.pc faddr straddle iword) }
  | .overlay ch => s.endRun ch (some 9)
  | _ =>
    s.mapFocus fun t => { t with
      sup := { t.sup with sepc := t.pc, scause := code.setWidth 64, stval := faddr, spp := t.sup.priv, priv := true }
      pc := t.sup.stvec, wait := none, rep := none }

/-- The exception of the issuing hart's current instruction. -/
def State.raiseAt (s : State) (code : BitVec 8) (faddr : Word) (straddle : Bool) (iword : W32) : State :=
  s.raiseOf none code faddr straddle iword

/-- The exception with the issuing hart's current word. -/
def State.raise (s : State) (code : BitVec 8) (faddr : Word) : State := s.raiseAt code faddr false s.focus.iword

/-- R352: TRET sets pc := sepc, the privilege to SPP, and then SPP := 0. -/
def State.tret (s : State) : State :=
  s.mapFocus fun t => { t with npc := t.sup.sepc, sup := { t.sup with priv := t.sup.spp, spp := false } }

end Sys2Proof.Machine
end

