-- ==== Sys2Proof/Machine/Operands.lean ====
section
/-! DEFINITION. Operands: the register forms with their ports, scoreboards and load distances (R47 to R57, R99, R100,
R102, R214), the guard (R134), and the issue of one instruction with its retirement, stall or trap (R16, R134, R135). -/

namespace Sys2Proof.Machine

/-- Why an instruction does not retire: a trap with its code and FADDR, a wait after which it is tried again, a wait that keeps what it
has done at issue (R296, R330), a cycle of a strided access that needs more of them (R101), or a failing fetch of a repeat's body,
whose reads are charged (R201, R403). -/
inductive Stop where
  | trap (code : BitVec 8) (faddr : Word)
  | wait (w : Wait)
  | keep (w : Wait)
  | again
  | fetch (faddr : Word)
  deriving DecidableEq, Repr

/-- An instruction's effect: it changes the state, or stops; a trap and a plain wait discard the changes. -/
abbrev M := EStateM Stop State

/-- trap(code) of R9. -/
def trap {α : Type} (code : BitVec 8) (faddr : Word := 0) : M α := throw (.trap code faddr)

/-- A stall (R16). -/
def waitFor {α : Type} (w : Wait) : M α := throw (.wait w)

/-- Traps when a condition fails. -/
def check (ok : Bool) (code : BitVec 8) (faddr : Word := 0) : M Unit := if ok then pure () else trap code faddr

/-- Waits until a condition holds. -/
def await (ok : Bool) (w : Wait := .other) : M Unit := if ok then pure () else waitFor w

/-- The issuing hart. -/
def focus : M Thread := do return (← get).focus

/-- Changes the issuing hart. -/
def setFocus (f : Thread → Thread) : M Unit := modify fun s => s.mapFocus f

/-- ILLEGAL and its companions (R40). -/
def ILLEGAL : BitVec 8 := 0x01
def PRIV : BitVec 8 := 0x02
def MISALIGN : BitVec 8 := 0x03
def ACCESS : BitVec 8 := 0x04
def FETCH : BitVec 8 := 0x05
def TRANSLATE : BitVec 8 := 0x06
def ATTR : BitVec 8 := 0x07
def PORT_ABSENT : BitVec 8 := 0x08
def PORT_TIMEOUT : BitVec 8 := 0x09
def RING_BROKEN : BitVec 8 := 0x0A
def BARRIER_LEVEL : BitVec 8 := 0x0B
def DET_ORDER : BitVec 8 := 0x14

/-! ### Scoreboard (R102, R218, R32) -/

/-- A register that an access in flight will write. -/
inductive Reg where
  | x (n : BitVec 5) | f (n : BitVec 4) | v (n : BitVec 5)
  deriving DecidableEq, Repr

/-- The registers a request's reply writes; x0 is none. -/
def Body.dests : Body → List Reg
  | .load _ (.x d _) => if d = 0 then [] else [.x d]
  | .load _ (.f d _) => [.f d]
  | .load _ (.v d _) => [.v d]
  | .loadAt _ (.x d _) => if d = 0 then [] else [.x d]
  | .loadAt _ (.f d _) => [.f d]
  | .loadAt _ (.v d _) => [.v d]
  | .amo _ _ _ _ d => if d = 0 then [] else [.x d]
  | .node _ _ _ _ d d2 => (if d = 0 then [] else [.x d]) ++ (if d2 = 0 then [] else [.x d2])
  | _ => []

/-- Whether a request is a hart's own. -/
def Req.isOf (r : Req) (h : HartId) : Bool := decide (r.src = .hart h)

/-- Whether a request is that of the task or program a hart runs now: a saved context's held accesses are not (R380). -/
def Req.ofThread (r : Req) (t : Thread) : Bool := r.isOf t.id && decide (r.lid = t.lid)

/-- Requests in flight that will write a register of a hart. -/
def State.writers (s : State) (t : Thread) (reg : Reg) : List Req :=
  s.net.filter fun r => r.ofThread t && decide (reg ∈ r.body.dests)

/-- R102, R32: a read or write of a register that awaits a reply waits; when the reply is a held result, it traps. -/
def scoreboard (reg : Reg) : M Unit := do
  let s ← get
  let w := s.writers s.focus reg
  if w.any fun r => decide (r.cls = .held) then trap DET_ORDER else await w.isEmpty

/-! ### Ports (R49, R50, R214) -/

/-- The port of an x register of a thread set: x28 north, x29 east, x30 south, x31 west. In an engine they are ordinary
registers (R335). -/
def portOf (h : HartId) (r : BitVec 5) : Option (Fin 4) :=
  match h with
  | .porter _ _ => none
  | .overlay _ => none
  | _ => if 28 ≤ r.toNat then some ⟨r.toNat % 4, Nat.mod_lt _ (by decide)⟩ else none

/-- The neighbour across a port, where the module grid has one (R1). -/
def neighbour (c : CoreId) (p : Fin 4) : Option CoreId :=
  match p with
  | 0 => if c.grow = 0 then none else some (coreAt (c.grow - 1) c.gcol)
  | 1 => if c.gcol = 511 then none else some (coreAt c.grow (c.gcol + 1))
  | 2 => if c.grow = 319 then none else some (coreAt (c.grow + 1) c.gcol)
  | 3 => if c.gcol = 0 then none else some (coreAt c.grow (c.gcol - 1))

/-- R50: the port leads to a core of the issuing launch's domain. A steward has no grid core and no launch, and none of its ports
is present (log 132). -/
def State.portOk (s : State) (t : Thread) (p : Fin 4) : Bool :=
  match t.id.core?, s.launchOf t with
  | some c, some l => ((neighbour c p).map l.hasCore).getD false
  | _, _ => false

/-- R50: PORT_ABSENT for any named port register, before any pop or push. -/
def checkPorts (regs : List (BitVec 5)) : M Unit := do
  let s ← get
  check (regs.all fun r => match portOf s.focus.id r with | some p => s.portOk s.focus p | none => true) PORT_ABSENT

/-- Pops a word of an arrival queue, or waits. -/
def popPort (p : Fin 4) : M Word := do
  let t ← focus
  match t.arrivals[p] with
  | [] => waitFor (.port p false)
  | w :: r => do
    setFocus fun t => { t with arrivals := t.arrivals.set p r }
    return w

/-- Pushes a word to an output queue, or waits. -/
def pushPort (p : Fin 4) (w : Word) : M Unit := do
  let t ← focus
  await (decide (t.outputs[p].length < 2)) (.port p true)
  setFocus fun t => { t with outputs := t.outputs.set p (t.outputs[p] ++ [w]) }

/-! ### Register access -/

/-- x[r] as a source: x0 is zero, any other is interlocked, and a port register pops (R48, R49, R102, R214). -/
def readX (r : BitVec 5) : M Word := do
  let t ← focus
  if r = 0 then return 0
  scoreboard (.x r)
  match portOf t.id r with
  | some p => popPort p
  | none => return t.x.toArray.getD r.toNat 0

/-- The register file with one x register changed. -/
def Thread.setX (t : Thread) (r : BitVec 5) (w : Word) : Thread :=
  if r = 0 then t else { t with x := t.x.setIfInBounds r.toNat w }

/-- R100: a later write discards a local load's pending value. -/
def Thread.cancel (t : Thread) (d : Sum (BitVec 5) (Sum (BitVec 4) (BitVec 5))) : Thread :=
  { t with pend := t.pend.filter fun q => q.dest ≠ d }

/-- R214: the pending pushes of local loads to a port are made before a later push (log 17). -/
def flushPort (r : BitVec 5) (p : Fin 4) : M Unit := do
  let t ← focus
  (t.pend.filter fun q => q.dest = .inl r).forM fun q => pushPort p (q.value.setWidth 64)
  setFocus fun t => t.cancel (.inl r)

/-- x[r] := w: x0 discards, a port register pushes, any other is interlocked and later than a pending local load. -/
def writeX (r : BitVec 5) (w : Word) : M Unit := do
  let t ← focus
  if r = 0 then return ()
  match portOf t.id r with
  | some p => do
    scoreboard (.x r)
    flushPort r p
    pushPort p w
  | none => do
    scoreboard (.x r)
    setFocus fun t => (t.cancel (.inl r)).setX r w

/-- f[r] as a source. -/
def readF (r : BitVec 4) : M W32 := do
  scoreboard (.f r)
  return (← focus).f.toArray.getD r.toNat 0

/-- f[r] := w. -/
def writeF (r : BitVec 4) (w : W32) : M Unit := do
  scoreboard (.f r)
  setFocus fun t => { t.cancel (.inr (.inl r)) with f := t.f.setIfInBounds r.toNat w }

/-- v[r] as a source. -/
def readV (r : BitVec 5) : M VReg := do
  scoreboard (.v r)
  return (← focus).v.toArray.getD r.toNat 0

/-- v[r] := w, whole. -/
def writeV (r : BitVec 5) (w : VReg) : M Unit := do
  scoreboard (.v r)
  setFocus fun t => { t.cancel (.inr (.inr r)) with v := t.v.setIfInBounds r.toNat w }

/-- p[r] of a hart: p0 reads all ones (R53). -/
def Thread.pred (t : Thread) (r : BitVec 3) : W32 := if r = 0 then BitVec.allOnes 32 else t.p.toArray.getD r.toNat 0

/-- p[r] as a source. -/
def readP (r : BitVec 3) : M W32 := do return (← focus).pred r

/-- p[r] := w: p0 ignores writes. -/
def writeP (r : BitVec 3) (w : W32) : M Unit :=
  setFocus fun t => if r = 0 then t else { t with p := t.p.setIfInBounds r.toNat w }

/-- e[r] as a source. -/
def readE (r : BitVec 3) : M Word := do return (← focus).e.toArray.getD r.toNat 0

/-- e[r] := w. -/
def writeE (r : BitVec 3) (w : Word) : M Unit :=
  setFocus fun t => { t with e := t.e.setIfInBounds r.toNat w }

/-- A dependence counter. -/
def Thread.counter (t : Thread) (c : BitVec 2) : BitVec 6 := t.dc.toArray.getD c.toNat 0

/-- A hart with one counter changed. -/
def Thread.setCounter (t : Thread) (c : BitVec 2) (n : BitVec 6) : Thread := { t with dc := t.dc.setIfInBounds c.toNat n }

/-- R57: counting an asynchronous operation; at 63 it stalls. -/
def countUp (c : BitVec 2) : M Unit := do
  let t ← focus
  await (decide (t.counter c ≠ 63))
  setFocus fun t => t.setCounter c (t.counter c + 1)

/-- R57, R341: a counter decrements and sets the event latch; it never goes below zero. -/
def Thread.countDown (t : Thread) (c : BitVec 2) : Thread :=
  { t.setCounter c (if t.counter c = 0 then 0 else t.counter c - 1) with latch := true }

/-! ### Local loads becoming visible (R99) -/

/-- One pending value reaches its register, or its port's output queue when there is room. -/
def Thread.commit (t : Thread) (q : Pending) : Thread :=
  match q.dest with
  | .inl r =>
    match portOf t.id r with
    | some p =>
      if t.outputs[p].length < 2 then { t with outputs := t.outputs.set p (t.outputs[p] ++ [q.value.setWidth 64]) }
      else { t with pend := t.pend ++ [q] }
    | none => t.setX r (q.value.setWidth 64)
  | .inr (.inl r) => { t with f := t.f.setIfInBounds r.toNat (q.value.setWidth 32) }
  | .inr (.inr r) => { t with v := t.v.setIfInBounds r.toNat q.value }

/-- R99: one instruction passes; values whose distance is reached become visible. -/
def Thread.age (t : Thread) : Thread :=
  let aged := t.pend.map fun q => { q with left := q.left - 1 }
  (aged.filter fun q => q.left = 0).foldl Thread.commit { t with pend := aged.filter fun q => q.left ≠ 0 }

/-- R99, R100: a local load's value, visible to the third following instruction; it replaces an older pending value. -/
def loadLocal (d : Sum (BitVec 5) (Sum (BitVec 4) (BitVec 5))) (v : VReg) : M Unit :=
  setFocus fun t => { t.cancel d with pend := (t.cancel d).pend ++ [⟨d, v, 3⟩] }

/-! ### Regions (R34, R38) -/

/-- The region entry that a hart would take at its next instruction, with the copies of R35. -/
def Thread.regionHere (t : Thread) (mask : Word) : Region :=
  ⟨t.pc, mask, t.c0, t.c1, t.b0, t.b1, t.fill, t.rep⟩

/-- Whether and how an instruction moves the region entry. -/
inductive Closing where
  /-- It never does. -/
  | no
  /-- A closing instruction of R34. -/
  | yes
  /-- A node command with its tag: it closes unless a Waystation refuses it (R303). -/
  | node (tag : Nat)
  /-- RGN with its live-in mask. -/
  | rgn (mask : Word)
  /-- A closing instruction that closes nothing for this hart: it moves with a troupe whose other member it closes (R38). -/
  | other
  deriving DecidableEq, Repr

/-- What an instruction that closes stands for in a mark: the tag of a node command, which a Waystation may refuse, or none. -/
def Closing.closer : Closing → Option (Option Nat)
  | .no => none
  | .other => none
  | .yes => some none
  | .rgn _ => some none
  | .node tag => some (some tag)

/-- The region entry moves here, as far as is known. -/
def Mark.live (m : Mark) : Bool := m.firm || !m.cmds.isEmpty

/-- One more instruction moves the entry here. -/
def Mark.close (m : Mark) (cmd? : Option Nat) : Mark :=
  match cmd? with | some tag => { m with cmds := tag :: m.cmds } | none => { m with firm := true }

/-- The marks, newest first, down to the newest certain one. -/
def marksDown : List Mark → List Mark
  | [] => []
  | m :: r => if m.firm then [m] else m :: marksDown r

/-- R34, R38, R303: the region entry is that of the newest mark that moves it; marks older than a certain one are dropped. -/
def Thread.settleMarks (t : Thread) : Thread :=
  let t := match t.marks.find? Mark.live with | some m => { t with region := m.region, entrySlot := m.slot } | none => t
  let ms := marksDown t.marks
  { t with marks := if ms.length ≤ 1 then [] else ms }

/-- A hart passes a place to which its region entry moves, or may move later. -/
def Thread.mark (t : Thread) (m : Mark) : Thread :=
  { t with marks := m :: (if t.marks.isEmpty then [⟨t.entrySlot, [], true, t.region⟩] else t.marks) }.settleMarks

/-- R38: the entry moves to a place that a troupe member has passed. -/
def Thread.closeMark (t : Thread) (slot : Nat) (cmd? : Option Nat) : Thread :=
  { t with marks := t.marks.map fun (m : Mark) => if m.slot = slot then m.close cmd? else m }.settleMarks

/-- R303: no Waystation can refuse the node command with a tag any more. -/
def State.passed (s : State) (tag : Nat) : Bool := !(s.net.any fun r => decide (r.id = tag) && decide (r.phase = .sent) && r.akey.isNone)

/-- Marks become certain once one of their node commands has passed its Waystation. -/
def State.certain (s : State) (t : Thread) : Thread :=
  { t with marks := t.marks.map fun (m : Mark) => { m with firm := m.firm || m.cmds.any s.passed } }.settleMarks

/-- R38: one member enabled the closing slot: members that passed it move to the place they kept for it, and members that
have not reached it will move there. -/
def State.closeSlot (s : State) (i slot : Nat) (cmd? : Option Nat) (self : HartId) : State :=
  let s := s.mapHarts (fun t => decide (t.troupe = some i) && decide (t.id ≠ self)) fun t => t.closeMark (slot + 1) cmd?
  match lookup? i s.troupes with
  | some tr => { s with troupes := insertKey i { tr with closed := (slot, cmd?) :: tr.closed } s.troupes }
  | none => s

/-- R34, R38: the region entry moves after a slot that moves it. `enabled` says that the issuing hart's own guard enabled
the instruction; `slot` is the slot it executed in troupe `i`. -/
def State.moveRegion (s : State) (cl : Closing) (enabled : Bool) (was : Option (Nat × Nat)) : State :=
  match cl with
  | .no => s
  | _ =>
    let closer := if enabled then cl.closer else none
    let mask : Word := match cl with | .rgn m => if enabled then m else BitVec.allOnes 64 | _ => BitVec.allOnes 64
    match was with
    | none =>
      (match closer with
       | some b => s.mapFocus fun t => (s.certain t).mark ((⟨0, [], false, t.regionHere mask⟩ : Mark).close b)
       | none => s)
    | some (i, slot) =>
      let s := match closer with | some b => s.closeSlot i slot b s.focus.id | none => s
      let known := (((lookup? i s.troupes).map (·.closed)).getD []).filter fun e => e.1 = slot
      s.mapFocus fun t => (s.certain t).mark (known.foldl (fun m e => m.close e.2) ⟨slot + 1, [], false, t.regionHere mask⟩)

/-- R303: a Waystation refuses a node command, which then closes nothing: the region entries that it moved move back, and a fault
that is not recorded yet names the entry that stands (R45). -/
def Thread.unclose (t : Thread) (tag : Nat) : Thread :=
  let t := { t with marks := t.marks.map fun (m : Mark) => { m with cmds := m.cmds.filter fun c => c ≠ tag } }.settleMarks
  { t with fault := t.fault.map fun c => { c with rentry := t.region.entry } }

/-- R38, R303: a refused node command closes nothing for any member. -/
def State.unclose (s : State) (tag : Nat) : State :=
  { s.mapHarts (fun t => t.marks.any fun m => decide (tag ∈ m.cmds)) (fun t => t.unclose tag) with
    troupes := s.troupes.map fun (e : Nat × Troupe) => (e.1, { e.2 with closed := e.2.closed.filter fun c => c.2 ≠ some tag }) }

/-! ### Retirement, stall, issue -/

/-- R200: the program counter and the repeat context after an instruction that does not transfer control. -/
def Thread.advance (t : Thread) (before : Option RepCtx) : Thread :=
  match before with
  | none => { t with pc := t.npc }
  | some c =>
    if c.pos + 1 < c.insns.length then { t with pc := t.npc, rep := some { c with pos := c.pos + 1 } }
    else if 1 < c.remaining then
      { t with pc := c.body, rep := some { c with pos := 0, pass := c.pass + 1, remaining := c.remaining - 1 } }
    else { t with pc := t.npc, rep := none }

/-- R24: a member goes on by itself after the slot of a TRP.SPLIT; the last one ends the troupe. -/
def State.splitOff (s : State) (h : HartId) : State :=
  match (s.hart h).troupe with
  | some i =>
    match lookup? i s.troupes with
    | some tr =>
      let members := tr.members.set (s.hart h).tpos none
      { s.mapHart h Thread.leave with
        troupes := if members.all Option.isNone then eraseKey i s.troupes else insertKey i { tr with members } s.troupes }
    | none => s.mapHart h Thread.leave
  | none => s

/-- R20, R22, R24, R198: a troupe member's slot is done: the leader adds it to the stream, another member compares its
outcome, taken or not taken and where to, and the repeat count that it opens (R205, log 108); after the slot of a TRP.SPLIT the member goes on by itself.
A member whose own pc is another than the leader's, since it formed the troupe at another address, leaves at the first slot (log 143). -/
def State.slotDone (s : State) (before : Thread) (len : Nat) : State :=
  let t := s.focus
  match before.troupe, s.troupeOf t with
  | some i, some tr =>
    let opened := if before.rep.isNone then t.rep else none
    let next (s : State) : State :=
      let s := s.mapFocus fun t => { t with slotNo := t.slotNo + 1 }
      if tr.splitAt = some t.slotNo then s.splitOff t.id else s
    if t.tpos = 0 then
      let tr := { tr with stream := tr.stream ++ [⟨before.pc, t.iword, len, t.pc, t.taken, opened⟩] }
      next { s with troupes := insertKey i tr s.troupes }
    else match tr.stream[t.slotNo]? with
      | some r =>
        let same := decide (r.npc = t.pc) && decide (r.taken = t.taken) && decide ((r.rep.map (·.remaining)) = (opened.map (·.remaining)))
        if same then next s else s.leaveTroupe t.id
      | none => next s
  | _, _ => s

/-- R16: one more consecutive issue of a core's running thread. -/
def State.countIssue (s : State) : State :=
  match s.focus.id with
  | .thread c h =>
    let (h', n) := lookupD (h, 0) c s.streaks
    { s with streaks := insertKey c (h, if h' = h then n + 1 else 1) s.streaks }
  | _ => s

/-- An instruction retires: pc, load distances, repeat context, troupe slot and region (R34, R99, R200). An overlay's cycles are its
own steps, issues and stalls (R325, log 136). -/
def State.retire (s : State) (before : Thread) (len : Nat) (cl : Closing) (enabled : Bool) : State :=
  let s := s.mapFocus fun t => { (t.advance before.rep).age with wait := none, part := none, cycles := t.cycles + 1 }
  let s := s.slotDone before len
  let s := s.moveRegion cl enabled (before.troupe.map fun i => (i, before.slotNo))
  s.countIssue

/-- A hart whose wait for a port or a latch may be over tries again before it can time out (R50, R263). -/
def Thread.unwait (t : Thread) (w : Wait) : Thread :=
  match t.wait with
  | some (w', _) => if w' = w then { t with wait := none } else t
  | none => t

/-- The members that are pre-empted together: a troupe's, or the thread alone (R38). -/
def State.together (s : State) (t : Thread) : List Thread :=
  match t.troupe with
  | some i => s.harts.filter fun u => decide (u.troupe = some i)
  | none => [t]

/-- R380: nothing keeps the thread PENDING. -/
def Thread.mayYield (t : Thread) : Bool :=
  decide (t.stage = .active) && t.phases.all (fun b => !b) && t.arrived.all (fun a => decide (a = .none)) && decide (t.ctx.savea ≠ 0)

/-- R37, R38, R380: the thread, or its whole troupe, is being pre-empted: nothing keeps it PENDING, and it stands behind the
newest region entry of its troupe. It issues nothing more. -/
def State.yielding (s : State) (t : Thread) : Bool :=
  let all := s.together t
  all.any (fun u => decide (u.state = .pending)) && all.all Thread.mayYield && all.all fun u => decide (u.entrySlot ≤ t.entrySlot)

/-- Whether a thread may issue when its turn comes: it runs a task, is not suspended nor being pre-empted, and has no
strided access left to inject (R16, R18, R37, R107). An overlay has not run for 2^20 cycles, its block's hold has not stood too long,
and its unit runs (R325, R326, R386). -/
def State.ready (s : State) (t : Thread) : Bool :=
  decide (t.state = .running ∨ t.state = .pending) && decide (t.stage = .active) && !s.suspended t && !s.yielding t &&
  !(s.strided.any fun q => decide (q.hart = t.id)) &&
  (match t.id with
   | .overlay ch => decide (t.cycles < 2 ^ 20) && !s.runOver ch && decide ((lookupD ChUnit.fresh ch s.units).nstate = .running)
   | _ => true)

/-- R225: a hart holds at a SYNC or WAIT whose instance has not completed. -/
def Thread.holding (t : Thread) : Bool :=
  match t.wait with
  | some (.barrier n, _) => decide (t.arrived.toArray.getD (n - 1) .none ≠ .passed)
  | _ => false

/-- R16: nothing keeps a thread that runs a task from issuing: no wait of it goes on, but the one of a barrier that has completed. -/
def State.canIssue (s : State) (t : Thread) : Bool :=
  s.ready t && (match t.wait with | none => true | some (.barrier _, _) => !t.holding | some _ => false)

/-- R16: the next ready thread of a core after thread set h, wrapping around. -/
def State.nextReady (s : State) (c : CoreId) (h : Nat) : Option HartId :=
  ([1, 2, 3].map fun k => HartId.thread c ((h + k) % 4)).find? fun id =>
    (s.harts.any fun t => decide (t.id = id)) && s.canIssue (s.hart id)

/-- R16: the core turns to its next ready thread, if it has one; the count of consecutive issues starts again. -/
def State.switch (s : State) : State :=
  match s.focus.id with
  | .thread c h =>
    match s.nextReady c h with
    | some id => { s.focusOn id with streaks := insertKey c (id.set, 0) s.streaks }
    | none => { s with streaks := insertKey c (h, 0) s.streaks }
  | _ => s

/-- Whether a wait goes on as the same one: the same cause, or TRP.FORM before and after its core is free (R19). -/
def Wait.goesOn : Wait → Wait → Bool
  | .form _ _, .formBlocked => true
  | .formBlocked, .form _ _ => true
  | a, b => decide (a = b)

/-- R16: a stall. The instruction is tried again later; the wait keeps its beginning while its cause stays the same. -/
def State.stall (s : State) (w : Wait) : State :=
  let since := match s.focus.wait with | some (w', n) => if w'.goesOn w then n else s.now | none => s.now
  (s.mapFocus fun t => { t with wait := some (w, since), cycles := t.cycles + 1 }).switch

/-- Which harts may execute an instruction (R335): cores and stewards every one, Porters and overlays a subset. -/
inductive Avail where
  | core | porter | engine
  deriving DecidableEq, Repr

/-- R335. -/
def Avail.allows (a : Avail) (h : HartId) : Bool :=
  match h with
  | .porter _ _ => decide (a ≠ .core)
  | .overlay _ => decide (a = .engine)
  | _ => true

/-- The guard predicate's value (R134). -/
def Thread.guard (t : Thread) (g : Guard) : W32 := if g.neg then ~~~ t.pred g.p else t.pred g.p

/-- R58: ownership: how many accumulators a hart's launch gives each of its threads. -/
def State.accCount (s : State) : Nat := ((s.launchOf s.focus).map (·.info.acc)).getD 0

/-- Nothing is refused before the guard but an engine's foreign word. -/
def noPre (_ : State) : Option (BitVec 8) := none

/-- R49, R99: the port of a local load's push that is due and finds its output queue full. -/
def Thread.pushDue (t : Thread) : Option (Fin 4) :=
  t.pend.findSome? fun q => if q.left = 0 then (match q.dest with | .inl r => portOf t.id r | _ => none) else none

/-- R49, R99: pushes that found a full output queue are made when there is room. -/
def Thread.pushLate (t : Thread) : Thread :=
  (t.pend.filter fun q => q.left = 0).foldl Thread.commit { t with pend := t.pend.filter fun q => q.left ≠ 0 }

/-- R49: before the next instruction issues, pushes that are due are made, or the thread stalls on the full queue. -/
def State.pushStep (s : State) : State :=
  let s := s.mapFocus Thread.pushLate
  match s.focus.pushDue with
  | some p => s.stall (.port p true)
  | none => s

/-- Issue of one instruction: R335 and the checks before the guard first (R135); an instruction that nothing enables
retires without effect (R134); an enabled one has its effect and retires, or traps without effect, or stalls. -/
def State.issue (s : State) (av : Avail) (len : Nat) (pre : State → Option (BitVec 8)) (enabled : Bool) (cl : Closing)
    (m : M Unit) : State :=
  if !av.allows s.focus.id then s.raise ILLEGAL 0
  else match pre s with
    | some code => s.raise code 0
    | none =>
      let s0 := s.mapFocus fun t => { t with npc := t.pc + BitVec.ofNat 64 len, taken := false }
      if enabled then
        match m s0 with
        | .ok _ s' => s'.retire s.focus len cl true
        | .error (.trap code faddr) _ => s.raise code faddr
        | .error (.wait w) _ => s.stall w
        | .error (.keep w) s' => s'.stall w
        | .error (.fetch faddr) s' => s'.raise FETCH faddr
        | .error .again s' => s'.mapFocus fun t => { t with wait := none, cycles := t.cycles + 1 }
      else s0.retire s.focus len cl false

/-- A scalar 32-bit instruction: bit 0 of the guard enables it (R134). -/
def State.scalar (s : State) (av : Avail) (g : Guard) (m : M Unit) (pre : State → Option (BitVec 8) := noPre)
    (cl : Closing := .no) : State :=
  s.issue av 4 pre (bit (s.focus.guard g) 0) cl m

/-- A vector instruction of n lanes: it acts in the lanes whose guard bit is 1, and none makes it a null (R134). -/
def State.vector (s : State) (g : Guard) (n : Nat) (m : (mask : W32) → M Unit) : State :=
  let mask := s.focus.guard g &&& BitVec.ofNat 32 (2 ^ n - 1)
  s.issue .core 4 noPre (mask != 0) .no (m mask)

/-- A 16-bit instruction: it has no guard (R134). -/
def State.compact (s : State) (av : Avail) (m : M Unit) (cl : Closing := .no) : State := s.issue av 2 noPre true cl m

/-- The outcome of an instruction: it always has a next state, a trap's entry included. -/
abbrev Result := Host.Outcome State Fault Refusal

end Sys2Proof.Machine
end

