-- ==== Sys2Proof/Machine/Flags.lean ====
section
/-! DEFINITION. Conditions and flags: the integer conditions (R192), the combining of predicates (R193), the rounding
modes and sticky flags of fcsr (R61), and the accumulator tile's flags word (R251). -/

namespace Sys2Proof.Machine

/-- R192: an integer condition on two w-bit operands. -/
def intCond {w : Nat} (cond : BitVec 3) (x y : BitVec w) : Bool :=
  match cond with
  | 0#3 => x == y
  | 1#3 => x != y
  | 2#3 => x.slt y
  | 3#3 => !x.slt y
  | 4#3 => x.ult y
  | 5#3 => !x.ult y
  | 6#3 => (x &&& y) != 0
  | 7#3 => (x &&& y) == 0

/-- R193: the new predicates of a scalar compare, pd's and pe's, by its mode. -/
def combine (mode : BitVec 2) (c : Bool) (oldD oldE : W32) : W32 × W32 :=
  let m : W32 := if c then BitVec.allOnes 32 else 0
  match mode with
  | 0#2 => (m, ~~~ m)
  | 1#2 => (oldD &&& m, oldE ||| ~~~ m)
  | _ => (oldD ||| m, oldE &&& ~~~ m)

/-- R193: a scalar compare writes pd and pe; the old values are read before any write, and register 0 discards. -/
def writePreds (mode : BitVec 2) (c : Bool) (pd pe : BitVec 3) : M Unit := do
  let oldD ← readP pd
  let oldE ← readP pe
  let (nd, ne) := combine mode c oldD oldE
  writeP pd nd
  writeP pe ne

/-- The rounding modes (R61). -/
inductive RM where
  | rne | rtz | rdn | rup
  deriving DecidableEq, Repr

/-- fcsr.RM (R61). -/
def rmOf (fcsr : Word) : RM :=
  match fieldN fcsr.toNat 5 2 with
  | 0 => .rne
  | 1 => .rtz
  | 2 => .rdn
  | _ => .rup

/-- The five exception flags an operation raises (R61). -/
structure FFlags where
  nv : Bool
  dz : Bool
  of : Bool
  uf : Bool
  nx : Bool
  deriving DecidableEq, Repr

/-- No flag. -/
def FFlags.none : FFlags := ⟨false, false, false, false, false⟩
/-- Invalid operation alone. -/
def FFlags.invalid : FFlags := ⟨true, false, false, false, false⟩
/-- Flags of two operations. -/
def FFlags.or (a b : FFlags) : FFlags := ⟨a.nv || b.nv, a.dz || b.dz, a.of || b.of, a.uf || b.uf, a.nx || b.nx⟩
/-- The flags as bits [4:0] of fcsr. -/
def FFlags.bits (f : FFlags) : Nat := flag f.nv * 16 + flag f.dz * 8 + flag f.of * 4 + flag f.uf * 2 + flag f.nx

/-- R61: operations only set flags. -/
def Thread.raiseFlags (t : Thread) (f : FFlags) : Thread := { t with fcsr := t.fcsr ||| BitVec.ofNat 64 f.bits }

/-- Raises flags in the issuing hart's fcsr. -/
def raiseFlags (f : FFlags) : M Unit := setFocus fun t => t.raiseFlags f

/-- The issuing hart's rounding mode. -/
def roundingMode : M RM := do return rmOf (← focus).fcsr

/-- R251: MEXP's word. -/
def Tile.word (c : Tile) : Word :=
  BitVec.ofNat 64 (c.exp.toNat + flag c.empty * 2 ^ 16 + flag c.sat * 2 ^ 17 + flag c.nan * 2 ^ 18)

end Sys2Proof.Machine
end

