-- ==== Sys2Proof/Machine/Access.lean ====
section
/-! DEFINITION. Data accesses as their instructions issue them: the region and range checks of R91, local accesses (R99,
R100), the classes of R108, permits (R106, R107), the store buffer (R119, R211), forwarding and the same-word order of
R119, stamps and held accesses (R31, R111, R114), and the wait of a release (R123). -/

namespace Sys2Proof.Machine

/-! ### Ranges (R91) -/

/-- R91: n bytes from an address lie in one region and within its limits. An overlay's code is read-only (R335). -/
def rangeOk (h : HartId) (l : Option Launch) (a : Word) (n : Nat) (write : Bool) : Bool :=
  decide (a.toNat + n ≤ 2 ^ 64) &&
  (match placeOf h l a, placeOf h l (a + BitVec.ofNat 64 (n - 1)) with
   | .loc k, .loc k' => decide (k' = k + (n - 1)) &&
       !(write && (match h with | .overlay _ => decide (0x10000 ≤ a.toNat) | _ => false))
   | .window c o, .window c' o' => decide (c = c') && decide (o' = o + (n - 1))
   | .glob v, .glob v' => decide (v' = v + (n - 1))
   | _, _ => false)

/-- R91: the place of an access of n bytes, or ACCESS with its first address (log 146). -/
def placeRange (a : Word) (n : Nat) (write : Bool) : M Place := do
  let s ← get
  let t := s.focus
  check (rangeOk t.id (s.launchOf t) a n write) ACCESS a
  return placeOf t.id (s.launchOf t) a

/-- R105. -/
def aligned (a : Word) (n : Nat) : M Unit := check (a.toNat % n = 0) MISALIGN a

/-! ### Keys, homes and classes -/

/-- The byte key that a translation gives an address of a source now, if it has one. -/
def State.keyAt? (s : State) (src : Src) (lid space : Nat) (physical : Bool) (a : Word) : Option Nat :=
  let n := a.toNat
  if n / 2 ^ 48 = 1 then some (tcmKey ⟨fieldN n 33 5, fieldN n 26 7, fieldN n 20 6⟩ (fieldN n 0 20))
  else if n / 2 ^ 48 = 0 then s.localKey? src lid a
  else if physical then some (n % 2 ^ 48)
  else (s.walk space (n % 2 ^ 48)).map fun (e, level) => leafKey e level (n % 2 ^ 48)

/-- The byte key of an address of a hart. -/
def State.keyFor? (s : State) (t : Thread) (a : Word) : Option Nat := s.keyAt? (.hart t.id) t.lid t.space t.isSteward a

/-- A request's byte key, if its address has one: the one that its home accepted, or the one its translation gives now. -/
def State.reqKey? (s : State) (r : Req) : Option Nat := r.akey.orElse fun _ => s.keyAt? r.src r.lid r.space r.phys r.addr

/-- A request's byte key, or a number that no key has. -/
def State.reqKey (s : State) (r : Req) : Nat := (s.reqKey? r).getD (2 ^ 80 + r.addr.toNat)

/-- The compute die that a key's home lies on; HBM, remote modules and the module control page lie on none (R108, R127). A die's control
page and its thread control blocks lie on their die, for a steward's accesses as well (log 144). -/
def dieOfKey (key : Nat) : Option Nat :=
  if 2 ^ 49 ≤ key then none
  else if 2 ^ 47 ≤ key then (homeOf key).die?
  else match phys key with
    | .modulePage _ => none
    | .none => none
    | _ => (homeOf key).die?

/-- R108: the class of an access of a hart that the network carries; an interface's own local accesses need none (R221) but
under the ordered bit of CPY (R223). -/
def State.clsOf (s : State) (t : Thread) (a : Word) (forced holdable : Bool) : Cls :=
  if a.toNat / 2 ^ 48 = 0 then (if forced then .ordered else .bulk)
  else if s.isDet t && holdable then .held
  else if forced then .ordered
  else match t.id with
    | .overlay _ => .bulk
    | _ => if ((s.keyFor? t a).bind dieOfKey) = some t.id.die then .ordered else .bulk

/-- R392: the port through which requests to a module leave: the first one up at or above DEV mod 64, wrapping. -/
def State.exitPort (s : State) (dev : Nat) : Option Nat :=
  ((List.range 64).map fun i => (dev + i) % 64).find? fun p => s.mc.fports.getLsbD p

/-- R106: the home router of a home: a remote module's is the port router of the I/O die whose port the request takes. -/
def State.homeRouter (s : State) (h : Home) : Nat :=
  match h with
  | .remote dev => (32 + (s.exitPort dev).getD (dev % 64) / 32) * 2 ^ 8 + 88
  | h => h.router

/-- R106: the home router of a request. -/
def State.routerOf (s : State) (r : Req) : Option Nat := (s.reqKey? r).map fun k => s.homeRouter (homeOf k)

/-! ### Same-word order (R119) -/

/-- Two byte ranges share an aligned 8-byte word. -/
def shareWord (k n k' n' : Nat) : Bool := decide (k / 8 ≤ (k' + n' - 1) / 8) && decide (k' / 8 ≤ (k + n - 1) / 8)

/-- How many bytes from its address a request covers. -/
def Body.len : Body → Nat
  | .load n _ => n
  | .loadAt offs _ => offs.foldl (fun m o => max m (o + 1)) 0
  | .store bytes => bytes.length
  | .amo _ size _ _ _ => size
  | .node .. => 64
  | .block .. => 8
  | .nmrst .. => 8
  | .reduction .. => 8

/-- The byte keys of n bytes from an address, one run for each 64 KiB page that they touch. -/
def State.spans (s : State) (src : Src) (lid space : Nat) (physical : Bool) (a : Word) (n : Nat) : List (Nat × Nat) :=
  (List.range ((a.toNat % 65536 + n + 65535) / 65536)).filterMap fun i =>
    let lo := if i = 0 then a.toNat else (a.toNat / 65536 + i) * 65536
    let hi := min (a.toNat + n) ((a.toNat / 65536 + i + 1) * 65536)
    (s.keyAt? src lid space physical (BitVec.ofNat 64 lo)).map fun k => (k, hi - lo)

/-- Two lists of runs share an aligned 8-byte word. -/
def spansMeet (xs ys : List (Nat × Nat)) : Bool := xs.any fun x => ys.any fun y => shareWord x.1 x.2 y.1 y.2

/-- R119: the runs of bytes that a request covers. A node command covers its pool's header and its node, NALLOC the node
that it would take, NINIT its page. -/
def State.reqSpans (s : State) (r : Req) : List (Nat × Nat) :=
  let key := s.reqKey r
  let runs (a n : Nat) : List (Nat × Nat) := s.spans r.src r.lid r.space r.phys (BitVec.ofNat 64 a) n
  (key, r.body.len) ::
  (match r.body with
   | .node .ninit a _ _ _ _ => runs (a.toNat / 65536 * 65536) 65536
   | .node .nalloc _ _ _ _ _ => runs (r.addr.toNat + 512 * s.peekN (key + 16) 4) 512
   | .node _ a _ _ _ _ => runs (r.addr.toNat + 512 * (a.toNat % 2 ^ 32)) 512
   | _ => [])

/-- Whether a request writes memory. -/
def Body.writes : Body → Bool
  | .load _ _ => false
  | .loadAt _ _ => false
  | _ => true

/-- R124: a value-returning access: a load, an AMO with a destination, a node command. -/
def Body.returns : Body → Bool
  | .load _ _ => true
  | .loadAt _ _ => true
  | .amo _ _ _ _ d => decide (d ≠ 0)
  | .node .. => true
  | _ => false

/-- The home has not performed or accepted it yet. -/
def Phase.underway : Phase → Bool
  | .sent => true
  | .atHome => true
  | _ => false

/-- R27, R118: a request no longer keeps a barrier open: performed at its home, or held and accepted there. -/
def Req.covered (r : Req) : Bool :=
  match r.phase with
  | .sent => false
  | .atHome => false
  | .refused _ _ => false
  | _ => true

/-- The core or engine that a request came from is this injector's. -/
def Req.from (r : Req) (i : BitVec 18) : Bool :=
  (match r.src with | .hart _ => true | _ => false) && decide (r.src.inj = i)

/-- The store buffer that a hart shares with its core. -/
def State.buffered (s : State) (h : HartId) : List Req := lookupD [] (injOf h) s.buffers

/-- Requests of a hart's core that are not performed and not held: buffered ones first. -/
def State.underway (s : State) (h : HartId) : List Req :=
  (s.buffered h ++ s.net.filter fun r => r.from (injOf h) && r.phase.underway).filter fun r => decide (r.cls ≠ .held)

/-- What the store buffer means for a load (R119). -/
inductive Forward where
  | home
  | wait
  | bytes (bs : List Byte)
  deriving DecidableEq, Repr

/-- The byte that the newest buffered store of a hart holds for a key. -/
def State.forwardByte (s : State) (stores : List Req) (key : Nat) : Option Byte :=
  stores.foldl (fun acc r => match r.body with
    | .store bs => let k := s.reqKey r
                   if k ≤ key ∧ key < k + bs.length then ((bs.getD (key - k) none).orElse fun _ => acc) else acc
    | _ => acc) none

/-- R119: a load waits for another thread's pending store to its words, and for own stores that cover it in part, until they
are performed; one whose bytes its own buffered stores all write takes their values, unless an own atomic or command there
is newer than such a store. A copy's own local packets hold no load back (R221). -/
def State.forward (s : State) (h : HartId) (key n : Nat) : Forward :=
  let touching := (s.underway h).filter fun r => r.body.writes && spansMeet [(key, n)] (s.reqSpans r)
  let isStore (r : Req) : Bool := match r.body with | .store _ => true | _ => false
  if touching.isEmpty then .home
  else if touching.any fun r => !r.isOf h then .wait
  else
    let own := (s.buffered h).filter fun r => r.isOf h && decide (r.cls ≠ .held)
    let bs := (List.range n).map fun i => s.forwardByte own (key + i)
    if bs.all Option.isSome then
      (if touching.any fun r => !isStore r && own.any fun b => decide (b.id < r.id) && spansMeet [(key, n)] (s.reqSpans b) then .wait
       else .bytes (bs.map fun b => b.getD 0))
    else if touching.any fun r => isStore r && decide (r.addr.toNat / 2 ^ 48 ≠ 0) then .wait
    else .home

/-- Source bytes that a copy reads for its destination bytes (R220). -/
def convSrcLen (conv : BitVec 3) (n : Nat) : Nat :=
  match conv.toNat with
  | 1 => n / 4
  | 2 => n / 8
  | 3 => 2 * n
  | 4 => n / 2
  | 5 => 2 * n
  | 6 => n / 2
  | _ => n

/-- What a copy has still to read and to write. -/
def State.copySpans (s : State) (c : Copy) : List (Nat × Nat) :=
  (if c.data.isSome then []
   else s.spans (.hart c.hart) c.lid c.space c.hart.physical (c.src + BitVec.ofNat 64 (convSrcLen c.conv c.done))
     (convSrcLen c.conv c.len - convSrcLen c.conv c.done)) ++
  s.spans (.hart c.hart) c.lid c.space c.hart.physical (c.dst + BitVec.ofNat 64 c.done) (c.len - c.done)

/-- R71, R261: the bytes that a tile load may read: a header and the longest body. -/
def State.bldSpans (s : State) (b : Bld) : List (Nat × Nat) :=
  s.spans (.hart b.hart) (s.hart b.hart).lid (s.hart b.hart).space b.hart.physical b.addr 1032

/-- R119, R221: an earlier copy or tile load of the hart still reads or writes these bytes. -/
def State.asyncBusy (s : State) (h : HartId) (before : Nat) (runs : List (Nat × Nat)) : Bool :=
  (s.copies.any fun c => decide (c.hart = h) && decide (c.id < before) && decide (c.done < c.len) && spansMeet runs (s.copySpans c)) ||
  (s.blds.any fun b => decide (b.hart = h) && decide (b.id < before) && spansMeet runs (s.bldSpans b))

/-- R119: something that a hart issued before `grp` to these words has not left for the network: a store in its buffer, a
request of an oversized access, a copy's packet or source read, or a tile load's read. -/
def State.unsent (s : State) (h : HartId) (grp : Nat) (runs : List (Nat × Nat)) : Bool :=
  ((s.buffered h ++ (s.strided.filter fun d => d.hart = h).flatMap (·.rest)).any fun r =>
    r.isOf h && r.body.writes && decide (r.grp < grp) && spansMeet runs (s.reqSpans r)) ||
  s.asyncBusy h grp runs

/-! ### ECC (R389) -/

/-- R369, R389: the die whose CECNT counts the errors of a key's word: the one that its SRAM lies on; HBM is no SRAM. -/
def eccDie (key : Nat) : Option Nat :=
  if 2 ^ 50 ≤ key then none
  else if 2 ^ 49 + 2 ^ 40 ≤ key then some (stackDie ((key - 2 ^ 49 - 2 ^ 40) / 2 ^ 12 / 32))
  else if 2 ^ 49 ≤ key then some (stackDie ((key - 2 ^ 49) / 2 ^ 16 / 32))
  else dieOfKey key

/-- R389: corrects the single-bit errors of the words that are read and counts them; whether a word had a double-bit error. -/
def State.eccRead (s : State) (key n : Nat) : Bool × State :=
  let hit (e : Nat × Bool) : Bool := shareWord key n e.1 8
  let single := s.ecc.filter fun e => hit e && !e.2
  let count (s : State) (e : Nat × Bool) : State :=
    match eccDie e.1 with
    | some d =>
      let c := s.mc.cecnt.toArray.getD d 0
      { s with mc := { s.mc with cecnt := s.mc.cecnt.setIfInBounds d (if c = BitVec.allOnes 32 then c else c + 1) } }
    | none => s
  (s.ecc.any fun e => hit e && e.2,
   single.foldl count { s with ecc := s.ecc.filter fun e => !(hit e && !e.2) })

/-- R389: a double-bit error read for a hart aborts its launch with MCHECK. -/
def State.poison (s : State) (t : Thread) : State :=
  match s.launchOf t with
  | some l => s.abortWith l.info.lid 0x10 t.task
  | none => s

/-- Reads memory for a hart under R389. -/
def State.readFor (s : State) (h : HartId) (key n : Nat) : List Byte × State :=
  let (bad, s) := s.eccRead key n
  (s.peek key n, if bad then s.poison (s.hart h) else s)

/-! ### Memory as a superstep found it (R31) -/

/-- Whether a key lies in some core's TCM. -/
def isTcm (key : Nat) : Bool := decide (2 ^ 47 ≤ key) && decide (key < 2 ^ 48)

/-- R31: a thread of a DET launch is about to change TCM bytes in a superstep: what they held is kept for window loads. -/
def State.keepOld (s : State) (lid superstep key n : Nat) : State :=
  match s.launch? lid with
  | some l =>
    if l.info.det && isTcm key then
      let new := ((List.range n).map (key + ·)).filter fun k => !(l.was.any fun e => decide (e.1 = k) && decide (e.2.1 = superstep))
      s.mapLaunch lid fun l => { l with was := l.was ++ new.map fun k => (k, superstep, Memory.read s.mem k) }
    else s
  | none => s

/-- R31: bytes read from a key for an access of a superstep to address `a`, as they stood when that superstep began. -/
def State.asBegun (s : State) (src : Src) (lid superstep : Nat) (a : Word) (key : Nat) (bs : List Byte) : List Byte :=
  match src, s.launch? lid with
  | .hart (.thread _ _), some l =>
    if l.info.det && decide (a.toNat / 2 ^ 48 ≠ 0) then
      bs.zipIdx.map fun (b, i) =>
        ((l.was.find? fun e => decide (e.1 = key + i) && decide (superstep ≤ e.2.1)).map (·.2.2)).getD b
    else bs
  | _, _ => bs

/-! ### Pieces that are swapped out (R383) -/

/-- A context of a launch whose TCM piece was swapped out and holds these bytes. What another launch, placed on the released range,
sends there goes to its own memory. -/
def State.pieceOf (s : State) (pick : Thread → Bool) (lid key n : Nat) : Option Thread :=
  if isTcm key then
    (s.harts ++ s.evicted).find? fun t =>
      pick t && t.ctx.swap && decide (t.lid = lid) &&
      (match t.id.core?, s.launchOf t with
       | some c, some l => decide (tcmKey c (t.tcmb l) < key + n) && decide (key < tcmKey c (t.tcmb l + l.tcmlBytes))
       | _, _ => false)
  else none

/-- The saved context whose swapped piece holds these bytes (R383). -/
def State.swappedAt (s : State) (lid key n : Nat) : Option Thread := s.pieceOf (fun t => decide (t.state = .saved)) lid key n

/-- R382, R385: these bytes lie in the piece of a troupe member that waits for the others to be restored: what arrives there waits
as well, since the restore will overwrite it. -/
def State.restoringAt (s : State) (lid key n : Nat) : Bool := (s.pieceOf (fun t => decide (t.stage = .restoring)) lid key n).isSome

/-! ### Local accesses: performed at issue -/

/-- R119: an earlier access of the hart through a window or a page to these words is not performed. A copy's own local
packets hold no load back (R221). -/
def State.ownBusy (s : State) (key n : Nat) : Bool :=
  (s.underway s.focus.id).any fun r => r.isOf s.focus.id && decide (r.addr.toNat / 2 ^ 48 ≠ 0) && spansMeet [(key, n)] (s.reqSpans r)

/-- A local read; it takes pending bytes of the own store buffer, or waits (R119). -/
def readLocal (key n : Nat) : M (List Byte) := do
  let s ← get
  match s.forward s.focus.id key n with
  | .wait => waitFor .other
  | .bytes bs => return bs
  | .home => do
    await (!s.ownBusy key n)
    let (bs, s) := s.readFor s.focus.id key n
    set s
    return bs

/-- R119: a local write or AMO comes after the hart's earlier accesses to its words. -/
def orderLocal (key n : Nat) : M Unit := do
  let s ← get
  await (!((s.underway s.focus.id).any fun r => r.isOf s.focus.id && spansMeet [(key, n)] (s.reqSpans r)) &&
         !s.asyncBusy s.focus.id s.nextId [(key, n)])

/-- A local write. -/
def writeLocal (key : Nat) (bytes : List (Option Byte)) : M Unit := do
  orderLocal key bytes.length
  modify fun s => (s.keepOld s.focus.lid s.focus.superstep key bytes.length).poke key bytes

/-- R123, R107: an access issues only when no acquire holds it back. -/
def openGate : M Unit := do let t ← focus; await t.acquires.isEmpty

/-! ### Sending requests -/

/-- What an instruction asks for at one address. -/
structure Ask where
  addr : Word
  body : Body
  deriving DecidableEq, Repr

/-- What all requests of an instruction share: its counter, whether they count as stores (R122), hold later accesses
back (R123), are ordered at any home (R108), are held in a DET launch (R31), and go through the store buffer (R211). -/
structure Manner where
  dc : Option (BitVec 2)
  counted : Bool
  acquire : Bool
  ordered : Bool
  holdable : Bool
  buffered : Bool
  /-- Its requests belong to a vector access (R336). -/
  wide : Bool := false
  deriving DecidableEq, Repr

/-- A stamp that is not set yet. -/
def Stamp.zero : Stamp := ⟨0, 0, 0, 0⟩

/-- The requests of an instruction, numbered from the next tag; held ones carry their logical stamps (R114). -/
def State.mkReqs (s : State) (m : Manner) (asks : List Ask) : List Req :=
  let t := s.focus
  asks.zipIdx.map fun (a, i) =>
    let cls := s.clsOf t a.addr m.ordered m.holdable
    { id := s.nextId + i, grp := s.nextId, src := .hart t.id, lid := t.lid, task := t.task, space := t.space, phys := t.isSteward, cls,
      stamp := match cls, s.launchOf t, t.id.core? with
        | .held, some l, some c => logicalStamp t.superstep t.h (t.heldIdx + i) (l.lcore c)
        | _, _, _ => Stamp.zero
      dc := m.dc, counted := m.counted, acquire := m.acquire, addr := a.addr, body := a.body, phase := .sent,
      served := false, wide := m.wide, forced := m.ordered, idx := t.heldIdx, superstep := t.superstep, pc := t.pc, iword := t.iword }

/-- Whether an injector is bound to permits: a core or a Porter (R106, R337). -/
def limited : HartId → Bool
  | .thread _ _ => true
  | .porter _ _ => true
  | _ => false

/-- R106: a request holds its permit until its reply or acknowledgement reaches the core, one that waits for a port's room
until then (R214); a held one until its home accepted it (R118). A forwarded load holds one like any other (log 139); a read that an
interface made by itself, of no bytes here, holds none (logs 114 and 130). -/
def Req.permit (r : Req) : Bool :=
  match r.phase with
  | .sent => true
  | .atHome => true
  | .refused _ _ => (match r.body with | .load 0 _ => false | _ => true)
  | .gathered _ => false
  | _ => decide (r.cls ≠ .held)

/-- Requests of a hart's core that hold permits, those in its store buffer included. -/
def State.permitted (s : State) (h : HartId) : List Req :=
  s.buffered h ++ s.net.filter fun r => r.from (injOf h) && r.permit

/-- R106: the permits that new requests need are free: 16 in all, 4 for one home router. -/
def State.permitsFree (s : State) (h : HartId) (reqs : List Req) : Bool :=
  let all := s.permitted h ++ reqs
  !limited h ||
  (decide (all.length ≤ 16) &&
   reqs.all fun r => (s.routerOf r).isNone || decide ((all.filter fun q => s.routerOf q = s.routerOf r).length ≤ 4))

/-- R107: the instruction could never take everything at once. -/
def State.oversized (s : State) (h : HartId) (m : Manner) (reqs : List Req) : Bool :=
  limited h &&
  (decide (16 < reqs.length) || (m.buffered && decide (8 < reqs.length)) ||
   reqs.any fun r => (s.routerOf r).isSome && decide (4 < (reqs.filter fun q => s.routerOf q = s.routerOf r).length))

/-- Only cores have store buffers (R119). -/
def hasBuffer : HartId → Bool
  | .thread _ _ => true
  | _ => false

/-- R119, R121: an ordered write that leaves at issue is stamped then, so it waits for what its hart issued before it to its words
and has not sent. -/
def State.inOrder (s : State) (h : HartId) (reqs : List Req) : Bool :=
  reqs.all fun r => decide (r.cls ≠ .ordered) || !r.body.writes || !s.unsent h r.grp (s.reqSpans r)

/-- A request leaves for the network; an ordered one is stamped (R111). -/
def State.inject (s : State) (r : Req) : State :=
  match r.cls with
  | .ordered => let (st, s) := s.stamp r.src.inj; { s with net := s.net ++ [{ r with stamp := st }] }
  | _ => { s with net := s.net ++ [r] }

/-- A request enters the store buffer, or the network. -/
def State.enter (s : State) (h : HartId) (buffered : Bool) (r : Req) : State :=
  if buffered && hasBuffer h then { s with buffers := insertKey (injOf h) (s.buffered h ++ [r]) s.buffers } else s.inject r

/-- There is room in the store buffer for n more (R211). -/
def State.bufferRoom (s : State) (h : HartId) (buffered : Bool) (n : Nat) : Bool :=
  !(buffered && hasBuffer h) || decide ((s.buffered h).length + n ≤ 8)

/-- R102, R106, R107, R114, R119: sends the requests of an instruction, all at once when their permits and buffer entries are
free, one by one when they never could be; an ordered write that no buffer holds leaves in program order. A load whose bytes
the store buffer gave needs no home (R119). -/
def send (m : Manner) (asks : List Ask) (given : Option (List Byte) := none) : M Unit := do
  let s ← get
  let h := s.focus.id
  let reqs := s.mkReqs m asks
  let held := (reqs.filter fun r => decide (r.cls = .held)).length
  check (s.focus.heldIdx + held ≤ 4194304) DET_ORDER
  match m.dc with
  | some c => countUp c
  | none => pure ()
  setFocus fun t => { t with
    heldIdx := t.heldIdx + held
    unack := if m.counted then t.unack + reqs.length else t.unack
    acquires := if m.acquire then t.acquires ++ [s.nextId] else t.acquires }
  modify fun s' => { s' with nextId := s.nextId + reqs.length }
  if given.isSome then
    let r (q : Req) : Req := { q with phase := .performed (given.getD []) (s.injector (injOf h)).g }
    modify fun s' => { s' with net := s'.net ++ reqs.map r }
  else if s.oversized h m reqs then
    modify fun s' => { s' with strided := s'.strided ++ [⟨h, reqs⟩] }
  else do
    await (s.permitsFree h reqs && s.bufferRoom h m.buffered reqs.length && ((m.buffered && hasBuffer h) || s.inOrder h reqs))
    modify fun s' => reqs.foldl (fun s r => s.enter h m.buffered r) s'

/-- R123, R212: what a release waits for: every counted store acknowledged and every value-returning access returned. A
held access counts as returned once its home has accepted it (R118). -/
def State.released (s : State) (t : Thread) : Bool :=
  decide (t.unack = 0) &&
  s.net.all fun r => !(r.isOf t.id && r.body.returns) || (decide (r.cls = .held) && r.covered)

/-- Waits as a release (R123). -/
def waitReleased : M Unit := do let s ← get; await (s.released s.focus)

/-- R296, R330: the bytes that an instruction copied at issue, where it waits as a release with them; else they are copied now. -/
def copied (read : M (List Byte)) : M (List Byte) := do
  match (← focus).part with
  | some (_, _, bs) => return bs
  | none => read

/-- R296, R330: waits as a release with the bytes that were copied at issue. A word of a port that it took is taken when the wait is
over. -/
def releaseAfter (before : Thread) (bs : List Byte) : M Unit := do
  let s ← get
  if s.released s.focus then pure ()
  else do
    setFocus fun t => { t with arrivals := before.arrivals, part := some (0, 0, bs) }
    throw (.keep .other)

end Sys2Proof.Machine
end

