-- ==== Sys2Proof/Machine/Float.lean ====
section
/-! DEFINITION. Floating point: values of the three formats as exact dyadic numbers, one rounding (R81, R82), the
operations (R81 to R86) and the keys of R88. -/

namespace Sys2Proof.Machine

/-! ### Formats (R67) -/

/-- A format: exponent bits and significand bits with the hidden one. -/
structure Fmt where
  eb : Nat
  p : Nat
  deriving DecidableEq, Repr

def Fmt.f32 : Fmt := ⟨8, 24⟩
def Fmt.f16 : Fmt := ⟨5, 11⟩
def Fmt.bf16 : Fmt := ⟨8, 8⟩

/-- Width in bits. -/
def Fmt.width (f : Fmt) : Nat := f.eb + f.p
/-- Exponent bias. -/
def Fmt.bias (f : Fmt) : Int := 2 ^ (f.eb - 1) - 1
/-- Exponent of the smallest normal number. -/
def Fmt.emin (f : Fmt) : Int := 1 - f.bias
/-- Exponent of the largest finite number. -/
def Fmt.emax (f : Fmt) : Int := f.bias

/-- A value: a NaN with whether it signals, an infinity, a zero, or m·2^e with m positive. -/
inductive FVal where
  | nan (signalling : Bool)
  | inf (neg : Bool)
  | zero (neg : Bool)
  | fin (neg : Bool) (m : Nat) (e : Int)
  deriving DecidableEq, Repr

/-- The canonical NaN's encoding (R67, R83). -/
def Fmt.canon (f : Fmt) : Nat := (2 ^ f.eb - 1) * 2 ^ (f.p - 1) + 2 ^ (f.p - 2)
/-- An infinity's encoding. -/
def Fmt.infBits (f : Fmt) (neg : Bool) : Nat := flag neg * 2 ^ (f.width - 1) + (2 ^ f.eb - 1) * 2 ^ (f.p - 1)
/-- A zero's encoding. -/
def Fmt.zeroBits (f : Fmt) (neg : Bool) : Nat := flag neg * 2 ^ (f.width - 1)
/-- The largest finite number's encoding. -/
def Fmt.maxBits (f : Fmt) (neg : Bool) : Nat := f.infBits neg - 1

/-- The value of an encoding (R67). -/
def Fmt.val (f : Fmt) (x : Nat) : FVal :=
  let frac := fieldN x 0 (f.p - 1)
  let ex := fieldN x (f.p - 1) f.eb
  let neg := decide (fieldN x (f.width - 1) 1 = 1)
  if ex = 2 ^ f.eb - 1 then
    if frac = 0 then .inf neg else .nan (decide (frac < 2 ^ (f.p - 2)))
  else if ex = 0 then
    if frac = 0 then .zero neg else .fin neg frac (f.emin - f.p + 1)
  else .fin neg (2 ^ (f.p - 1) + frac) (ex - f.bias - f.p + 1)

/-! ### Rounding (R82) -/

/-- Whether a rounding mode goes up from n when a remainder is left: rem out of 2^k. -/
def roundsUp (rm : RM) (neg : Bool) (n rem k : Nat) : Bool :=
  if rem = 0 then false
  else match rm with
    | .rne => decide (2 ^ k < 2 * rem) || (decide (2 * rem = 2 ^ k) && decide (n % 2 = 1))
    | .rtz => false
    | .rdn => neg
    | .rup => !neg

/-- m / 2^k rounded, with whether it was inexact; a negative k shifts left. -/
def roundShift (rm : RM) (neg : Bool) (m : Nat) (k : Int) : Nat × Bool :=
  match k with
  | .ofNat k =>
    let n := m / 2 ^ k
    let rem := m % 2 ^ k
    (if roundsUp rm neg n rem k then n + 1 else n, decide (rem ≠ 0))
  | .negSucc j => (m * 2 ^ (j + 1), false)

/-- R82: what overflow delivers. -/
def Fmt.overflow (f : Fmt) (rm : RM) (neg : Bool) : Nat :=
  match rm with
  | .rne => f.infBits neg
  | .rtz => f.maxBits neg
  | .rdn => if neg then f.infBits neg else f.maxBits neg
  | .rup => if neg then f.maxBits neg else f.infBits neg

/-- R81, R82: the number ±m·2^e, m positive, rounded once to a format, with its flags. -/
def Fmt.round (f : Fmt) (rm : RM) (neg : Bool) (m : Nat) (e : Int) : Nat × FFlags :=
  let top : Int := e + Nat.log2 m
  let q : Int := max (top - f.p + 1) (f.emin - f.p + 1)
  let (r, nx) := roundShift rm neg m (q - e)
  let (r, q) := if 2 ^ f.p ≤ r then (r / 2, q + 1) else (r, q)
  let (r', _) := roundShift rm neg m (top - f.p + 1 - e)
  let tiny := decide ((if 2 ^ f.p ≤ r' then top + 1 else top) < f.emin)
  if f.emax - f.p + 1 < q then (f.overflow rm neg, ⟨false, false, true, false, true⟩)
  else
    let bits := if r < 2 ^ (f.p - 1) then r else ((q + f.p - 1 + f.bias).toNat) * 2 ^ (f.p - 1) + (r - 2 ^ (f.p - 1))
    (f.zeroBits neg + bits, ⟨false, false, false, tiny && nx, nx⟩)

/-- A value rounded to a format: a NaN becomes canonical, and raises NV when it signals. -/
def Fmt.ofVal (f : Fmt) (rm : RM) (v : FVal) : Nat × FFlags :=
  match v with
  | .nan sg => (f.canon, if sg then .invalid else .none)
  | .inf n => (f.infBits n, .none)
  | .zero n => (f.zeroBits n, .none)
  | .fin n m e => f.round rm n m e

/-- A signed integer multiple of 2^e rounded to a format; zero takes the given sign. -/
def Fmt.ofInt (f : Fmt) (rm : RM) (z : Int) (e : Int) (zeroNeg : Bool) : Nat × FFlags :=
  if z = 0 then (f.zeroBits zeroNeg, .none) else f.round rm (decide (z < 0)) z.natAbs e

/-! ### Operations on values -/

def FVal.isNan : FVal → Bool | .nan _ => true | _ => false
def FVal.signals : FVal → Bool | .nan true => true | _ => false
def FVal.neg? : FVal → Bool | .nan _ => false | .inf n => n | .zero n => n | .fin n _ _ => n
def FVal.negate : FVal → FVal | .nan g => .nan g | .inf n => .inf !n | .zero n => .zero !n | .fin n m e => .fin (!n) m e
def FVal.isZero : FVal → Bool | .zero _ => true | _ => false
def FVal.isInf : FVal → Bool | .inf _ => true | _ => false

/-- A finite value as a signed multiple of 2^e. -/
def FVal.signed : FVal → Int × Int
  | .fin n m e => (if n then -(m : Int) else m, e)
  | _ => (0, 0)

/-- A canonical NaN, with NV when asked. -/
def Fmt.nanRes (f : Fmt) (nv : Bool) : Nat × FFlags := (f.canon, if nv then .invalid else .none)

/-- The sum of two multiples of powers of two: the multiple of the lower power. -/
def alignSum (a b : Int × Int) : Int × Int :=
  let e := min a.2 b.2
  (a.1 * 2 ^ (a.2 - e).toNat + b.1 * 2 ^ (b.2 - e).toNat, e)

/-- x + y rounded once (R81): an exact zero sum is +0, or -0 under RDN; zeros of one sign keep it. -/
def Fmt.add (f : Fmt) (rm : RM) (x y : FVal) : Nat × FFlags :=
  if x.isNan || y.isNan then f.nanRes (x.signals || y.signals)
  else match x, y with
    | .inf a, .inf b => if a = b then (f.infBits a, .none) else f.nanRes true
    | .inf a, _ => (f.infBits a, .none)
    | _, .inf b => (f.infBits b, .none)
    | .zero a, .zero b => (f.zeroBits (if a = b then a else decide (rm = .rdn)), .none)
    | .zero _, y => f.ofVal rm y
    | x, .zero _ => f.ofVal rm x
    | x, y =>
      let (z, e) := alignSum x.signed y.signed
      f.ofInt rm z e (decide (rm = .rdn))

/-- x - y. -/
def Fmt.sub (f : Fmt) (rm : RM) (x y : FVal) : Nat × FFlags := f.add rm x y.negate

/-- The exact product of two values that are not NaN and not 0·∞. -/
def FVal.times (x y : FVal) : FVal :=
  let n := x.neg? != y.neg?
  match x, y with
  | .fin _ a e, .fin _ b e' => .fin n (a * b) (e + e')
  | x, y => if x.isInf || y.isInf then .inf n else .zero n

/-- 0 · ∞. -/
def invalidProduct (x y : FVal) : Bool := (x.isZero && y.isInf) || (x.isInf && y.isZero)

/-- x · y rounded once. -/
def Fmt.mul (f : Fmt) (rm : RM) (x y : FVal) : Nat × FFlags :=
  if x.isNan || y.isNan then f.nanRes (x.signals || y.signals)
  else if invalidProduct x y then f.nanRes true
  else f.ofVal rm (x.times y)

/-- x · y + d computed exactly and rounded once (R81); 0 · ∞ raises NV whatever the addend (R82). -/
def Fmt.fma (f : Fmt) (rm : RM) (x y d : FVal) : Nat × FFlags :=
  if x.isNan || y.isNan then f.nanRes (x.signals || y.signals || d.signals)
  else if invalidProduct x y then f.nanRes true
  else f.add rm (x.times y) d

/-- x / y rounded once. The quotient is taken to 64 bits beyond the format, its last bit sticky. -/
def Fmt.div (f : Fmt) (rm : RM) (x y : FVal) : Nat × FFlags :=
  let n := x.neg? != y.neg?
  if x.isNan || y.isNan then f.nanRes (x.signals || y.signals)
  else match x, y with
    | .inf _, .inf _ => f.nanRes true
    | .zero _, .zero _ => f.nanRes true
    | .inf _, _ => (f.infBits n, .none)
    | _, .inf _ => (f.zeroBits n, .none)
    | .zero _, _ => (f.zeroBits n, .none)
    | _, .zero _ => (f.infBits n, ⟨false, true, false, false, false⟩)
    | .fin _ a e, .fin _ b e' =>
      let q := a * 2 ^ 96 / b
      let sticky := if a * 2 ^ 96 % b = 0 then 0 else 1
      f.round rm n (2 * q + sticky) (e - e' - 97)
    | _, _ => f.nanRes false

/-- isqrt (R9): the greatest integer whose square does not exceed n, bit by bit from 2^k. -/
def isqrtFrom : (k : Nat) → (r n : Nat) → Nat
  | 0, r, n => if (r + 1) * (r + 1) ≤ n then r + 1 else r
  | k + 1, r, n => isqrtFrom k (if (r + 2 ^ (k + 1)) * (r + 2 ^ (k + 1)) ≤ n then r + 2 ^ (k + 1) else r) n

/-- isqrt (R9). -/
def isqrt (n : Nat) : Nat := isqrtFrom (Nat.log2 n / 2 + 1) 0 n

/-- The square root rounded once (R81): of -0 it is -0, of another negative number a NaN with NV. -/
def Fmt.sqrt (f : Fmt) (rm : RM) (x : FVal) : Nat × FFlags :=
  match x with
  | .nan g => f.nanRes g
  | .zero n => (f.zeroBits n, .none)
  | .inf true => f.nanRes true
  | .inf false => (f.infBits false, .none)
  | .fin true _ _ => f.nanRes true
  | .fin false m e =>
    let odd := e % 2 = 1
    let m := (if odd then 2 * m else m) * 2 ^ 96
    let e := (if odd then e - 1 else e) - 96
    let r := isqrt m
    f.round rm false (2 * r + (if r * r = m then 0 else 1)) (e / 2 - 1)

/-- Whether x < y for values that are not NaN, with -0 below +0 when `signedZero`. -/
def FVal.lt (signedZero : Bool) (x y : FVal) : Bool :=
  match x, y with
  | .inf true, .inf true => false
  | .inf true, _ => true
  | _, .inf true => false
  | .inf false, _ => false
  | _, .inf false => true
  | .zero a, .zero b => signedZero && a && !b
  | x, y => decide ((alignSum x.signed (y.negate.signed)).1 < 0)

/-- FMIN and FMAX (R84): the selected operand rounded to the type. -/
def Fmt.minMax (f : Fmt) (rm : RM) (max : Bool) (x y : FVal) : Nat × FFlags :=
  let nv : FFlags := if x.signals || y.signals then .invalid else .none
  let pick : FVal :=
    if x.isNan && y.isNan then .nan false
    else if x.isNan then y
    else if y.isNan then x
    else if max then (if x.lt true y then y else x)
    else (if y.lt true x then y else x)
  let (r, fl) := f.ofVal rm pick
  (r, fl.or nv)

/-- A float condition (EQ 0, LT 1, LE 2, UN 3) on two values, -0 equal to +0. -/
def floatCond (cond : Nat) (x y : FVal) : Bool :=
  let un := x.isNan || y.isNan
  match cond with
  | 0 => !un && !x.lt false y && !y.lt false x
  | 1 => !un && x.lt false y
  | 2 => !un && !y.lt false x
  | _ => un

/-! ### Conversions (R86, R87) -/

/-- From one format to another, rounded once. -/
def convert (src dst : Fmt) (rm : RM) (x : Nat) : Nat × FFlags := dst.ofVal rm (src.val x)

/-- R51, R86: a format's encoding widened to binary32; exact. -/
def widen (src : Fmt) (x : Nat) : Nat × FFlags := convert src .f32 .rne x

/-- FCVT.X.F (R86): binary32 to a signed 64-bit integer. -/
def toInt64 (rm : RM) (x : FVal) : Word × FFlags :=
  let lo : Int := -(2 ^ 63)
  let hi : Int := 2 ^ 63 - 1
  match x with
  | .nan _ => (0, .invalid)
  | .zero _ => (0, .none)
  | .inf n => (BitVec.ofInt 64 (if n then lo else hi), .invalid)
  | .fin n m e =>
    let (r, nx) := roundShift rm n m (-e)
    let z : Int := if n then -(r : Int) else r
    if z < lo then (BitVec.ofInt 64 lo, .invalid)
    else if hi < z then (BitVec.ofInt 64 hi, .invalid)
    else (BitVec.ofInt 64 z, ⟨false, false, false, false, nx⟩)

/-- R88: the key of an encoding of a format. -/
def Fmt.key (f : Fmt) (x : Nat) : Nat :=
  let x := match f.val x with | .nan _ => f.canon | _ => x
  if fieldN x (f.width - 1) 1 = 0 then x + 2 ^ (f.width - 1) else 2 ^ f.width - 1 - x

end Sys2Proof.Machine
end

