-- ==== Sys2Proof/Machine/Replies.lean ====
section
/-! DEFINITION. What a reply does at its hart: destinations and ports (R102, R213, R214), captured replies of a dead task
(R41, R46), counters, acquires and pending arrivals (R28, R57, R122, R123), and the fault of a negative reply (R103). -/

namespace Sys2Proof.Machine

/-- The value of a loaded integer (R210). -/
def loadedInt (signed : Bool) (bs : List Byte) : Word :=
  if signed then sext (8 * bs.length) (ofBytes bs) else BitVec.ofNat 64 (ofBytes bs)

/-- R213: an f register's value for loaded bytes, FP16, BF16 or FP32, with its flags. -/
def loadedFloat (fmt : BitVec 2) (bs : List Byte) : W32 × FFlags :=
  match fmt.toNat with
  | 0 => let (r, fl) := widen .f16 (ofBytes bs); (BitVec.ofNat 32 r, fl)
  | 1 => let (r, fl) := widen .bf16 (ofBytes bs); (BitVec.ofNat 32 r, fl)
  | _ => (BitVec.ofNat 32 (ofBytes bs), .none)

/-- Byte i of a vector register's image replaced (R53). -/
def setByte (v : VReg) (i : Nat) (b : Byte) : VReg := setLane 8 v i b

/-- Bytes placed in a vector register's image (R239). -/
def placeBytes (v : VReg) (places : List Nat) (bs : List Byte) : VReg :=
  (places.zip bs).foldl (fun v (i, b) => setByte v i b) v

/-- The x registers that a reply writes, with their words. -/
def Body.words (body : Body) (data : List Byte) : List (BitVec 5 × Word) :=
  match body with
  | .load _ (.x d signed) => [(d, loadedInt signed data)]
  | .loadAt _ (.x d signed) => [(d, loadedInt signed data)]
  | .amo _ _ _ _ d => [(d, loadedInt true data)]
  | .node _ _ _ _ d d2 =>
    [(d, BitVec.ofNat 64 (numAt data 0 8)), (d2, BitVec.ofNat 64 (numAt data 8 8))]
  | _ => []

/-- Writes an x register or pushes its port. -/
def Thread.land (t : Thread) (r : BitVec 5) (w : Word) : Thread :=
  if r = 0 then t
  else match portOf t.id r with
    | some p => { t with outputs := t.outputs.set p (t.outputs[p] ++ [w]) }
    | none => t.setX r w

/-- R214: every port that the words go to has room for all of them. -/
def Thread.room (t : Thread) (ws : List (BitVec 5 × Word)) : Bool :=
  ws.all fun (r, _) => r = 0 || (match portOf t.id r with
    | some p => decide (t.outputs[p].length + (ws.filter fun w => w.1 = r).length ≤ 2)
    | none => true)

/-- A reply written to its destinations. -/
def Thread.deliver (t : Thread) (body : Body) (data : List Byte) : Thread :=
  match body with
  | .load _ (.f d fmt) =>
    let (w, fl) := loadedFloat fmt data
    { t with f := t.f.setIfInBounds d.toNat w }.raiseFlags fl
  | .load _ (.v d places) => { t with v := t.v.setIfInBounds d.toNat (placeBytes (t.v.toArray.getD d.toNat 0) places data) }
  | .loadAt _ (.v d places) => { t with v := t.v.setIfInBounds d.toNat (placeBytes (t.v.toArray.getD d.toNat 0) places data) }
  | body => (body.words data).foldl (fun t (r, w) => t.land r w) t

/-- Whether a hart's replies still reach its registers: a dead or aborted task's do not (R41, R375). -/
def Thread.listens (t : Thread) : Bool :=
  match t.stage with
  | .dying => false
  | .reaperDue => false
  | .aborted => false
  | _ => decide (t.state ≠ .free)

/-- R292: the commands that write a pair of registers d and d + 1. -/
def NodeOp.pair : NodeOp → Bool
  | .desc => true
  | .nstat => true
  | _ => false

/-- R46: a dead task's captured reply; vector loads and stores are never captured, and an AMO without a destination has no
reply. -/
def captured (r : Req) (data : List Byte) : Option Captured :=
  let dcn := ((r.dc.orElse fun _ => r.dcn).map (·.toNat)).getD 0
  match r.body with
  | .load _ (.x d signed) => some ⟨r.id, 1, d.toNat, dcn, loadedInt signed data, r.addr⟩
  | .load _ (.f d fmt) => some ⟨r.id, 1, d.toNat, dcn, (loadedFloat fmt data).1.setWidth 64, r.addr⟩
  | .amo _ _ _ _ d => if d = 0 then none else some ⟨r.id, 2, d.toNat, 0, loadedInt true data, r.addr⟩
  | .node op _ _ _ d _ =>
    some ⟨r.id, 3, d.toNat, dcn, BitVec.ofNat 64 (numAt data 0 8), if op.pair then BitVec.ofNat 64 (numAt data 8 8) else 0⟩
  | _ => none

/-- R41: a captured reply takes its place: in order of arrival, or in a DET launch in the order of issue, which is the
logical order of one thread (R31). -/
def insertCaptured (det : Bool) (e : Captured) : List Captured → List Captured
  | [] => [e]
  | q :: r => if det && decide (e.issue < q.issue) then e :: q :: r else q :: insertCaptured det e r

/-- R41: a dead task captures the first eight replies and counts all. -/
def Thread.capture (t : Thread) (r : Req) (data : List Byte) : Thread :=
  match t.stage, t.fault, captured r data with
  | .dying, some c, some e =>
    { t with fault := some { c with nreply := c.nreply + 1, replies := (insertCaptured c.forced e c.replies).take 8 } }
  | _, _, _ => t

/-! ### Counters -/

/-- R28: a pending ARRIVED whose counter reads zero becomes an arrival now. -/
def Thread.settle (t : Thread) (next : Nat) : Thread :=
  { t with arrived := t.arrived.map fun a => match a with
      | .pending c => if t.counter c = 0 then .arrived next else a
      | a => a }

/-- One counter of a hart falls (R28, R57, R341). -/
def State.countDown (s : State) (h : HartId) (c : BitVec 2) : State :=
  s.mapHart h fun t => (t.countDown c).settle s.nextId

/-- Another request or packet of the same instruction still counts on its counter. -/
def State.groupCounts (s : State) (r : Req) : Bool :=
  let same (q : Req) : Bool := decide (q.src = r.src) && decide (q.grp = r.grp) && decide (q.id ≠ r.id) && q.dc.isSome
  s.net.any same || s.buffers.any (fun b => b.2.any same) || s.strided.any (fun d => d.rest.any same) ||
  s.copies.any fun c => decide (Src.hart c.hart = r.src) && decide (c.id = r.grp) && c.dc.isSome && decide (c.done < c.len)

/-- Another request of the same instruction has not completed. -/
def State.groupAlive (s : State) (r : Req) : Bool :=
  let same (q : Req) : Bool := decide (q.src = r.src) && decide (q.grp = r.grp) && decide (q.id ≠ r.id)
  s.net.any same || s.buffers.any (fun b => b.2.any same) || s.strided.any fun d => d.rest.any same

/-- A request is acknowledged: its counter falls with the last of its instruction, its store is counted off, and its
acquire holds nothing back any longer (R102, R122, R123). -/
def State.acknowledge (s : State) (r : Req) : State :=
  match r.src with
  | .hart h =>
    let s := match r.dc with
      | some c => if s.groupCounts r then s else s.countDown h c
      | none => s
    s.mapHart h fun t => { t with
      unack := if r.counted then t.unack - 1 else t.unack
      acquires := if r.acquire then t.acquires.filter fun n => n ≠ r.grp else t.acquires }
  | _ => s

/-- Takes a request out of the network. -/
def State.drop (s : State) (id : Nat) : State := { s with net := s.net.filter fun r => r.id ≠ id }

/-- Replaces a request by tag. -/
def State.putReq (s : State) (r : Req) : State := { s with net := s.net.map fun q => if q.id = r.id then r else q }

/-- A request by tag. -/
def State.req? (s : State) (id : Nat) : Option Req := s.net.find? fun r => r.id = id

/-- A request is gone, and its copy forgotten when that was its last packet. -/
def State.forget (s : State) (r : Req) : State :=
  let s := s.drop r.id
  if s.groupAlive r then s
  else { s with copies := s.copies.filter fun c => !(decide (Src.hart c.hart = r.src) && decide (c.id = r.grp) && decide (c.len ≤ c.done)) }

/-- A request ends: acknowledged and gone. -/
def State.finish (s : State) (r : Req) : State := (s.acknowledge r).forget r

/-- The requests of an instruction whose replies have come. -/
def State.gathered (s : State) (r : Req) : List (Req × List Byte) :=
  s.net.filterMap fun q =>
    if q.src = r.src ∧ q.grp = r.grp ∧ q.id ≠ r.id then
      match q.phase with | .gathered data => some (q, data) | _ => none
    else none

/-- R103: a request of an instruction has failed: what is left of the instruction no longer counts its counter down nor faults
its hart again, and replies that waited for the failed one are written nowhere (R104). -/
def State.failGroup (s : State) (r : Req) : State :=
  let same (src : Src) (grp : Nat) : Bool := decide (src = r.src) && decide (grp = r.grp)
  let mute (q : Req) : Req :=
    if same q.src q.grp then
      { q with dc := none, failed := true, body := match q.body with
          | .load n (.v d _) => .load n (.v d [])
          | .loadAt offs (.v d _) => .loadAt offs (.v d [])
          | b => b }
    else q
  let kept (q : Req) : Bool := !(same q.src q.grp && (match q.phase with | .gathered _ => true | _ => false))
  { s with net := (s.net.filter kept).map mute
           buffers := s.buffers.map fun (i, rs) => (i, rs.map mute)
           strided := s.strided.map fun (d : Strided) => ⟨d.hart, d.rest.map mute⟩
           copies := s.copies.map fun (c : Copy) => if same (.hart c.hart) c.id then { c with dc := none } else c }

/-- R102, R104, R214, R239: a reply with its data reaches its hart. One that returns a value waits for the other replies of
its instruction, then all are written together; a full output queue keeps it waiting; a dead task's replies are
captured. -/
def State.replied (s : State) (r : Req) (data : List Byte) : State :=
  match r.src with
  | .hart h =>
    let t := s.hart h
    let others := s.gathered r
    if r.body.returns && s.groupAlive r && (decide ((s.net.filter fun q => q.src = r.src ∧ q.grp = r.grp).length ≠ others.length + 1) ||
        s.strided.any fun d => d.rest.any fun q => decide (q.src = r.src) && decide (q.grp = r.grp)) then
      s.putReq { r with phase := .gathered data }
    else if !t.listens then
      (others.foldl (fun s (q, _) => s.finish q) (s.mapHart h fun t => t.capture r data)).finish r
    else if t.room (r.body.words data) then
      let s := s.mapHart h fun t => ((others.foldl (fun t (q, d) => t.deliver q.body d) t).deliver r.body data)
      (others.foldl (fun s (q, _) => s.finish q) s).finish r
    else s.putReq { r with phase := .pushing data }
  | _ => s.drop r.id

/-! ### Negative replies (R103) -/

/-- R365: a failed access of a thread that an abort has stopped: in a DET launch it is a task fault of the launch, and the first one
where its key is the least. What such a thread would have executed later raises nothing (log 129). -/
def State.lateFault (s : State) (t : Thread) (place : Nat × Nat) (code : BitVec 8) : State :=
  match s.launchOf t, t.id with
  | some l, .thread _ _ =>
    if l.info.det && decide (l.stage = .aborting) && decide (t.stage = .aborted) then
      s.mapLaunch l.info.lid fun l => l.noteFault code t.task (s.faultKey t place.1 place.2)
    else s
  | _, _ => s

/-- R103, R365: the fault of a failed access is raised on its hart, naming the access by its place, its word and, in a DET
launch, its superstep and index; a hart that has already faulted takes no second one. -/
def State.faultAt (s : State) (h : HartId) (at? : Option (Nat × Nat)) (pc : Word) (iword : W32) (code : BitVec 8) (faddr : Word) : State :=
  s.onHart h fun s =>
    if s.focus.listens && decide (s.focus.stage ≠ .trapped) then (s.mapFocus fun t => { t with pc, iword }).raiseOf at? code faddr false iword
    else s.lateFault s.focus (at?.getD (s.focus.superstep, s.focus.heldIdx)) code

/-- Whether a fault can be raised on a hart now: a stopped or saved one takes it when it runs again. -/
def Thread.faultable (t : Thread) : Bool :=
  match t.stage with
  | .stopping => false
  | .restoring => false
  | _ => decide (t.state ≠ .stopped) && decide (t.state ≠ .saved)

/-- R339, R338: every operation of a hart has completed, a held one once its home has accepted it (R118). -/
def State.quiet (s : State) (h : HartId) : Bool :=
  !(s.net.any fun r => r.isOf h && (decide (r.cls ≠ .held) || !r.covered)) &&
  !((s.buffered h).any fun r => r.isOf h) && !(s.copies.any fun c => decide (c.hart = h)) &&
  !(s.blds.any fun b => decide (b.hart = h)) && !(s.strided.any fun d => decide (d.hart = h))

/-- R41: every operation of a task has completed, held ones applied as well. -/
def State.quietAll (s : State) (h : HartId) : Bool := s.quiet h && !(s.net.any fun r => r.ofThread (s.hart h))

/-! ### Held results (R32) -/

/-- R32, R214, R218: a hart's held results of the supersteps before a number are written, in logical order; one that finds a
port full waits there, as a reply does. -/
def State.deliverHeld (s : State) (h : HartId) (below : Nat) : State :=
  let due := s.net.filter fun r => r.ofThread (s.hart h) && decide (r.cls = .held) && decide (r.superstep < below)
  due.foldl (fun s r => match r.phase with
    | .performed data _ =>
      if !(s.hart h).listens then s.drop r.id
      else if (s.hart h).room (r.body.words data) then (s.mapHart h fun t => t.deliver r.body data).drop r.id
      else s.putReq { r with phase := .pushing data, cls := .bulk }
    | _ => s) s

/-- Held results that a hart leaves behind when its task ends are written nowhere. -/
def State.forgetHeld (s : State) (h : HartId) : State :=
  { s with net := s.net.map fun r =>
      if r.ofThread (s.hart h) && decide (r.cls = .held) then
        { r with body := match r.body with
            | .amo op size y cmp _ => .amo op size y cmp 0
            | .node op a b block _ _ => .node op a b block 0 0
            | b => b }
      else r }

end Sys2Proof.Machine
end

