-- ==== Sys2Proof/Machine/LoadStore.lean ====
section
/-! DEFINITION. Scalar loads and stores: LD, LDU, ST, STO, FLD, FST and the 16-bit forms' shared effects (R210 to R215). -/

namespace Sys2Proof.Machine

/-- The destination of a load is interlocked, a port's earlier pushes are made first, and an older local load's pending
value is discarded (R100, R102, R214). -/
def claimX (d : BitVec 5) : M Unit := do
  if d = 0 then return ()
  let t ← focus
  scoreboard (.x d)
  match portOf t.id d with
  | some p => flushPort d p
  | none => setFocus fun t => t.cancel (.inl d)

/-- How a remote load's request travels. -/
def loadManner (c : BitVec 2) : Manner := ⟨some c, false, false, false, false, false, false⟩

/-- How a remote store's request travels (R211, R212). -/
def storeManner (c : BitVec 2) (ordered : Bool) : Manner := ⟨some c, true, false, ordered, true, true, false⟩

/-- A remote load of n bytes (R102, R119). -/
def loadRemote (ea : Word) (n : Nat) (dest : Dest) (c : BitVec 2) : M Unit := do
  let s ← get
  let fwd : Forward := match s.keyFor? s.focus ea with
    | some key => s.forward s.focus.id key n
    | none => .home
  match fwd with
  | .wait => waitFor .other
  | .bytes bs => send (loadManner c) [⟨ea, .load n dest⟩] (some bs)
  | .home => send (loadManner c) [⟨ea, .load n dest⟩]

/-- R210: loads n bytes from an address into x[d]. -/
def loadX (signed : Bool) (d : BitVec 5) (ea : Word) (n : Nat) (c : BitVec 2) : M Unit := do
  openGate
  let p ← placeRange ea n false
  aligned ea n
  claimX d
  match p with
  | .loc key => do
    let bs ← readLocal key n
    if d = 0 then return () else loadLocal (.inl d) ((loadedInt signed bs).setWidth 256)
  | _ => loadRemote ea n (.x d signed) c

/-- R211, R212: stores the low n bytes of a word; a release waits first. -/
def storeBytes (release : Bool) (ea : Word) (bs : List Byte) (c : BitVec 2) : M Unit := do
  openGate
  let p ← placeRange ea bs.length true
  aligned ea bs.length
  if release then waitReleased
  match p with
  | .loc key => writeLocal key (bs.map some)
  | _ => send (storeManner c release) [⟨ea, .store (bs.map some)⟩]

/-- R139: the address of an M-format access: the offset is scaled by the access size. -/
def offset (x : Word) (i : BitVec 7) (n : Nat) : Word := x + i.signExtend 64 * BitVec.ofNat 64 n

/-- LD and LDU (R210). -/
def loadInt (signed : Bool) (d a : BitVec 5) (i : BitVec 7) (n : Nat) (c : BitVec 2) : M Unit := do
  checkPorts [a, d]
  let x ← readX a
  loadX signed d (offset x i n) n c

/-- ST and STO (R211, R212): the address pops before the data (R214). -/
def storeInt (release : Bool) (d a : BitVec 5) (i : BitVec 7) (n : Nat) (c : BitVec 2) : M Unit := do
  checkPorts [a, d]
  let x ← readX a
  let y ← readX d
  storeBytes release (offset x i n) (leBytes n y.toNat) c

/-- LD (R210). -/
def execLd (g : Guard) (d a : BitVec 5) (i : BitVec 7) (sz c : BitVec 2) (s : State) : Result :=
  .next (s.scalar .engine g (loadInt true d a i (2 ^ sz.toNat) c))
/-- LDU (R210). -/
def execLdu (g : Guard) (d a : BitVec 5) (i : BitVec 7) (sz c : BitVec 2) (s : State) : Result :=
  .next (s.scalar .engine g (loadInt false d a i (2 ^ sz.toNat) c))
/-- ST (R211). -/
def execSt (g : Guard) (d a : BitVec 5) (i : BitVec 7) (sz c : BitVec 2) (s : State) : Result :=
  .next (s.scalar .engine g (storeInt false d a i (2 ^ sz.toNat) c))
/-- STO (R212). -/
def execSto (g : Guard) (d a : BitVec 5) (i : BitVec 7) (sz c : BitVec 2) (s : State) : Result :=
  .next (s.scalar .engine g (storeInt true d a i (2 ^ sz.toNat) c))

/-- Bytes of a float access: FP16, BF16, FP32 (R210). -/
def fltSize (fmt : BitVec 2) : Nat := if fmt.toNat = 2 then 4 else 2

/-- FLD (R213): a local FLD raises its flags at issue. -/
def execFld (g : Guard) (d : BitVec 4) (a : BitVec 5) (i : BitVec 7) (sz c : BitVec 2) (s : State) : Result :=
  .next (s.scalar .core g (do
    openGate
    checkPorts [a]
    let x ← readX a
    let n := fltSize sz
    let ea := offset x i n
    let p ← placeRange ea n false
    aligned ea n
    scoreboard (.f d)
    setFocus fun t => t.cancel (.inr (.inl d))
    match p with
    | .loc key => do
      let bs ← readLocal key n
      let (w, fl) := loadedFloat sz bs
      raiseFlags fl
      loadLocal (.inr (.inl d)) (w.setWidth 256)
    | _ => loadRemote ea n (.f d sz) c))

/-- The stored bytes of an f register, with their flags (R213). -/
def storedFloat (fmt : BitVec 2) (rm : RM) (w : W32) : List Byte × FFlags :=
  match fmt.toNat with
  | 0 => let (r, fl) := convert .f32 .f16 rm w.toNat; (leBytes 2 r, fl)
  | 1 => let (r, fl) := convert .f32 .bf16 rm w.toNat; (leBytes 2 r, fl)
  | _ => (leBytes 4 w.toNat, .none)

/-- FST (R213): flags are raised at issue. -/
def execFst (g : Guard) (d : BitVec 4) (a : BitVec 5) (i : BitVec 7) (sz c : BitVec 2) (s : State) : Result :=
  .next (s.scalar .core g (do
    checkPorts [a]
    let x ← readX a
    let y ← readF d
    let rm ← roundingMode
    let (bs, fl) := storedFloat sz rm y
    storeBytes false (offset x i (fltSize sz)) bs c
    raiseFlags fl))

end Sys2Proof.Machine
end

