-- ==== Sys2Proof/Machine/Atomic.lean ====
section
/-! DEFINITION. Atomic operations (R216 to R218). -/

namespace Sys2Proof.Machine

/-- R216: the new value of an atomic on n bytes, or none where a compare-and-swap fails. -/
def amoNew (op : BitVec 3) (n : Nat) (old y cmp : Word) : Option Word :=
  let w := 8 * n
  let so := sint w old.toNat
  let sy := sint w y.toNat
  match op.toNat with
  | 0 => some (old + y)
  | 1 => some (old &&& y)
  | 2 => some (old ||| y)
  | 3 => some (old ^^^ y)
  | 4 => some (if sy < so then y else old)
  | 5 => some (if so < sy then y else old)
  | 6 => some y
  | _ => if old.toNat % 2 ^ w = cmp.toNat % 2 ^ w then some y else none

/-- R128, R216: an atomic performed on memory: the old bytes, and the memory after it. -/
def State.amoAt (s : State) (key : Nat) (op : BitVec 3) (n : Nat) (y cmp : Word) : List Byte × State :=
  let old := s.peek key n
  match amoNew op n (BitVec.ofNat 64 (ofBytes old)) y cmp with
  | some w => (old, s.pokeBytes key (leBytes n w.toNat))
  | none => (old, s)

/-- R123: acq is bit 0 of the order code and rel bit 1: 0 relaxed, 1 acq, 2 rel, 3 ar. -/
def isAcquire (o : BitVec 2) : Bool := o.toNat % 2 = 1
def isRelease (o : BitVec 2) : Bool := 2 ≤ o.toNat

/-- R216, R217: an AMO. Only a compare-and-swap reads x[d]. -/
def amo (op : BitVec 3) (d a b : BitVec 5) (o : BitVec 2) (z : BitVec 1) : M Unit := do
  openGate
  checkPorts [a, b, d]
  let n := if z = 1 then 8 else 4
  let ea ← readX a
  let y ← readX b
  let cmp ← if op = 7 then readX d else pure 0
  let p ← placeRange ea n true
  aligned ea n
  if isRelease o then waitReleased
  match p with
  | .loc key => do
    orderLocal key n
    let s ← get
    let (_, s) := s.readFor s.focus.id key n
    let (old, s) := (s.keepOld s.focus.lid s.focus.superstep key n).amoAt key op n y cmp
    set s
    writeX d (loadedInt true old)
  | _ => do
    claimX d
    send ⟨none, true, isAcquire o, isRelease o, true, false, false⟩ [⟨ea, .amo op n y cmp d⟩]

/-- AMO.ADD (R216); a closing instruction (R34). -/
def execAmoAdd (g : Guard) (d a b : BitVec 5) (o : BitVec 2) (z : BitVec 1) (s : State) : Result :=
  .next (s.scalar .porter g (amo 0 d a b o z) noPre .yes)
/-- AMO.AND (R216); a closing instruction (R34). -/
def execAmoAnd (g : Guard) (d a b : BitVec 5) (o : BitVec 2) (z : BitVec 1) (s : State) : Result :=
  .next (s.scalar .porter g (amo 1 d a b o z) noPre .yes)
/-- AMO.OR (R216); a closing instruction (R34). -/
def execAmoOr (g : Guard) (d a b : BitVec 5) (o : BitVec 2) (z : BitVec 1) (s : State) : Result :=
  .next (s.scalar .porter g (amo 2 d a b o z) noPre .yes)
/-- AMO.XOR (R216); a closing instruction (R34). -/
def execAmoXor (g : Guard) (d a b : BitVec 5) (o : BitVec 2) (z : BitVec 1) (s : State) : Result :=
  .next (s.scalar .porter g (amo 3 d a b o z) noPre .yes)
/-- AMO.MIN (R216); a closing instruction (R34). -/
def execAmoMin (g : Guard) (d a b : BitVec 5) (o : BitVec 2) (z : BitVec 1) (s : State) : Result :=
  .next (s.scalar .porter g (amo 4 d a b o z) noPre .yes)
/-- AMO.MAX (R216); a closing instruction (R34). -/
def execAmoMax (g : Guard) (d a b : BitVec 5) (o : BitVec 2) (z : BitVec 1) (s : State) : Result :=
  .next (s.scalar .porter g (amo 5 d a b o z) noPre .yes)
/-- AMO.SWAP (R216); a closing instruction (R34). -/
def execAmoSwap (g : Guard) (d a b : BitVec 5) (o : BitVec 2) (z : BitVec 1) (s : State) : Result :=
  .next (s.scalar .porter g (amo 6 d a b o z) noPre .yes)
/-- AMO.CAS (R216); a closing instruction (R34). -/
def execAmoCas (g : Guard) (d a b : BitVec 5) (o : BitVec 2) (z : BitVec 1) (s : State) : Result :=
  .next (s.scalar .porter g (amo 7 d a b o z) noPre .yes)

end Sys2Proof.Machine
end

