-- ==== Sys2Proof/Machine/Shake.lean ====
section
/-! DEFINITION. SHAKE128 and SHAKE256 (FIPS 202), which the rules of images and quotes name without restating them, or use
through ML-DSA-65 (R405, R407, R408); their construction comes from that standard (log 127). -/

namespace Sys2Proof.Machine

/-- The 25 lanes of the Keccak state; lane x + 5·y. -/
abbrev Lanes := Vector (BitVec 64) 25

/-- Lane (x, y), with both coordinates modulo 5. -/
def Lanes.at (a : Lanes) (x y : Nat) : BitVec 64 := a.toArray.getD (x % 5 + 5 * (y % 5)) 0

/-- Rotation offsets of the lanes. -/
def keccakOffsets : List Nat := [0, 1, 62, 28, 27, 36, 44, 6, 55, 20, 3, 10, 43, 25, 39, 41, 45, 15, 21, 8, 18, 2, 61, 56, 14]

/-- Round constants. -/
def keccakConstants : List (BitVec 64) :=
  [0x1, 0x8082, 0x800000000000808A, 0x8000000080008000, 0x808B, 0x80000001, 0x8000000080008081, 0x8000000000008009] ++
  [0x8A, 0x88, 0x80008009, 0x8000000A, 0x8000808B, 0x800000000000008B, 0x8000000000008089, 0x8000000000008003] ++
  [0x8000000000008002, 0x8000000000000080, 0x800A, 0x800000008000000A, 0x8000000080008081, 0x8000000000008080, 0x80000001, 0x8000000080008008]

/-- The column parities, mixed into every lane. -/
def keccakTheta (a : Lanes) : Lanes :=
  let c (x : Nat) : BitVec 64 := a.at x 0 ^^^ a.at x 1 ^^^ a.at x 2 ^^^ a.at x 3 ^^^ a.at x 4
  Vector.ofFn fun i => a.at (i.val % 5) (i.val / 5) ^^^ c (i.val % 5 + 4) ^^^ (c (i.val % 5 + 1)).rotateLeft 1

/-- Every lane rotated and moved to its place. -/
def keccakRhoPi (a : Lanes) : Lanes :=
  Vector.ofFn fun i =>
    let x := (i.val % 5 + 3 * (i.val / 5)) % 5
    let y := i.val % 5
    (a.at x y).rotateLeft (keccakOffsets.getD (x + 5 * y) 0)

/-- The rows combined. -/
def keccakChi (b : Lanes) : Lanes :=
  Vector.ofFn fun i => b.at (i.val % 5) (i.val / 5) ^^^ (~~~ b.at (i.val % 5 + 1) (i.val / 5) &&& b.at (i.val % 5 + 2) (i.val / 5))

/-- One round. -/
def keccakRound (a : Lanes) (rc : BitVec 64) : Lanes :=
  let b := keccakChi (keccakRhoPi (keccakTheta a))
  b.setIfInBounds 0 (b.at 0 0 ^^^ rc)

/-- The permutation of 24 rounds. -/
def keccakF (a : Lanes) : Lanes := keccakConstants.foldl keccakRound a

/-- One block of the rate absorbed. -/
def keccakAbsorb (rate : Nat) (a : Lanes) (block : List Byte) : Lanes :=
  keccakF (Vector.ofFn fun i => a.at (i.val % 5) (i.val / 5) ^^^ (if i.val < rate / 8 then BitVec.ofNat 64 (numAt block (8 * i.val) 8) else 0))

/-- The message with SHAKE's suffix and padding. -/
def shakePad (rate : Nat) (bs : List Byte) : List Byte :=
  let k := rate - 1 - bs.length % rate
  if k = 0 then bs ++ [0x9F] else bs ++ [0x1F] ++ List.replicate (k - 1) 0 ++ [0x80]

/-- A message absorbed block by block. -/
def shakeAbsorb (rate : Nat) : (fuel : Nat) → Lanes → List Byte → Lanes
  | 0, a, _ => a
  | fuel + 1, a, bs => if bs.isEmpty then a else shakeAbsorb rate fuel (keccakAbsorb rate a (bs.take rate)) (bs.drop rate)

/-- Blocks of output, one after another. -/
def shakeSqueeze (rate : Nat) : (blocks : Nat) → Lanes → List Byte
  | 0, _ => []
  | n + 1, a => ((List.range (rate / 8)).flatMap fun i => leBytes 8 (a.at i (i / 5)).toNat) ++ shakeSqueeze rate n (keccakF a)

/-- The first bytes of an output, by the rate in bytes: 168 for SHAKE128, 136 for SHAKE256. -/
def shakeOut (rate n : Nat) (bs : List Byte) : List Byte :=
  (shakeSqueeze rate (ceilDiv n rate) (shakeAbsorb rate (bs.length / rate + 1) (Vector.replicate 25 0) (shakePad rate bs))).take n

/-- The first n bytes of SHAKE256. -/
def shake256n (n : Nat) (bs : List Byte) : List Byte := shakeOut 136 n bs

/-- The first 64 bytes of SHAKE256. -/
def shake256 (bs : List Byte) : List Byte := shake256n 64 bs

end Sys2Proof.Machine
end

