-- ==== Sys2Proof/Machine/Dsa.lean ====
section
/-! DEFINITION. ML-DSA-65 (FIPS 204), which the rules of images and quotes name without restating it: the check of a signature
(R405), the key pair of a seed (R407) and the signature of a message (R408). Its construction comes from that standard
(log 10). -/

namespace Sys2Proof.Machine

/-! ### Polynomials modulo q and x ^ 256 + 1 -/

/-- The modulus q. -/
def dsaQ : Nat := 8380417

/-- The 256 coefficients of a polynomial, or its values at the 256 roots, below q. -/
abbrev Poly := List Nat

/-- An integer modulo q. -/
def modQ (v : Int) : Nat := (v % (dsaQ : Int)).toNat

/-- The representative modulo m that is nearest to zero. -/
def centered (m v : Nat) : Int := if v % m ≤ m / 2 then ((v % m : Nat) : Int) else ((v % m : Nat) : Int) - m

/-- The bits of a byte reversed. -/
def brv8 (i : Nat) : Nat := ((List.range 8).map fun k => i / 2 ^ k % 2 * 2 ^ (7 - k)).sum

/-- The powers of the 512th root of unity 1753. -/
def zetaTable : Array Nat := (Array.range 512).map fun e => 1753 ^ e % dsaQ

/-- A power of that root. -/
def zetaPow (e : Nat) : Nat := zetaTable.getD (e % 512) 0

/-- The exponent of root i. -/
def rootExp (i : Nat) : Nat := 2 * brv8 i + 1

/-- The number-theoretic transform: the values at the roots. -/
def ntt (w : Poly) : Poly :=
  (List.range 256).map fun i => let z := zetaPow (rootExp i); w.foldr (fun c acc => (c + z * acc) % dsaQ) 0

/-- The coefficients for values at the roots; 8347681 inverts 256. -/
def invNtt (w : Poly) : Poly :=
  let es := w.zipIdx.map fun (c, i) => (c, 512 - rootExp i)
  (List.range 256).map fun j => 8347681 * es.foldl (fun acc (c, e) => (acc + c * zetaPow (e * j)) % dsaQ) 0 % dsaQ

/-- Sum, difference and product, place by place. -/
def Poly.add (a b : Poly) : Poly := List.zipWith (fun x y => (x + y) % dsaQ) a b
def Poly.sub (a b : Poly) : Poly := List.zipWith (fun x y => (x + dsaQ - y) % dsaQ) a b
def Poly.mul (a b : Poly) : Poly := List.zipWith (fun x y => x * y % dsaQ) a b

/-- A matrix times a vector, of values at the roots. -/
def mulVec (m : List (List Poly)) (v : List Poly) : List Poly :=
  m.map fun row => (List.zipWith Poly.mul row v).foldl Poly.add (List.replicate 256 0)

/-- The greatest distance from zero of a coefficient. -/
def normOf (v : List Poly) : Nat := v.foldl (fun m p => p.foldl (fun m c => max m (centered dsaQ c).natAbs) m) 0

/-! ### Bytes -/

/-- Values of b bits each, packed into bytes. -/
def packBits (b : Nat) (vs : List Nat) : List Byte := leBytes (b * vs.length / 8) (vs.foldr (fun v acc => v + acc * 2 ^ b) 0)

/-- 256 values of b bits each. -/
def unpackBits (b : Nat) (bs : List Byte) : List Nat :=
  let n := ofBytes bs
  (List.range 256).map fun i => fieldN n (b * i) b

/-- The i-th piece of n bytes. -/
def pieceOf (bs : List Byte) (n i : Nat) : List Byte := (bs.drop (n * i)).take n

/-! ### Sampling -/

/-- Samples from a growing number of blocks until there are enough. -/
def untilEnough (want : Nat) (sample : Nat → List Nat) : (fuel blocks : Nat) → List Nat
  | 0, n => (sample n).take want
  | fuel + 1, n => if want ≤ (sample n).length then (sample n).take want else untilEnough want sample fuel (n + 1)

/-- RejNTTPoly: values below q from 23 bits of three bytes each. -/
def rejNtt (seed : List Byte) : Poly :=
  let sample (n : Nat) : List Nat :=
    let bs := shakeOut 168 (168 * n) seed
    ((List.range (56 * n)).map fun i => numAt bs (3 * i) 3 % 2 ^ 23).filter fun z => decide (z < dsaQ)
  untilEnough 256 sample 64 5

/-- RejBoundedPoly: values from -4 to 4 from half bytes. -/
def rejBounded (seed : List Byte) : Poly :=
  let half (z : Nat) : List Nat := if z < 9 then [modQ (4 - (z : Int))] else []
  untilEnough 256 (fun n => (shake256n (136 * n) seed).flatMap fun b => half (b.toNat % 16) ++ half (b.toNat / 16)) 64 2

/-- ExpandA: the matrix of a seed, 6 rows of 5. -/
def expandA (rho : List Byte) : List (List Poly) :=
  (List.range 6).map fun r => (List.range 5).map fun c => rejNtt (rho ++ [BitVec.ofNat 8 c, BitVec.ofNat 8 r])

/-- ExpandMask: five polynomials with coefficients from -2^19 + 1 to 2^19. -/
def expandMask (seed : List Byte) (kappa : Nat) : List Poly :=
  (List.range 5).map fun r => (unpackBits 20 (shake256n 640 (seed ++ leBytes 2 (kappa + r)))).map fun v => modQ (2 ^ 19 - (v : Int))

/-- The places of a challenge, drawn one by one with their signs. -/
def ballFrom (signs : Nat) : List Byte → (i : Nat) → Poly → Poly
  | [], _, c => c
  | b :: bs, i, c =>
    if i = 256 then c
    else if i < b.toNat then ballFrom signs bs i c
    else ballFrom signs bs (i + 1) ((c.set i (c.getD b.toNat 0)).set b.toNat (if fieldN signs (i - 207) 1 = 1 then dsaQ - 1 else 1))

/-- SampleInBall: a challenge with 49 coefficients 1 or -1. -/
def sampleInBall (seed : List Byte) : Poly :=
  let bs := shake256n 1088 seed
  ballFrom (numAt bs 0 8) (bs.drop 8) 207 (List.replicate 256 0)

/-! ### Rounding and hints -/

/-- Power2Round: the high part, and the low 13 bits around zero. -/
def power2Round (r : Nat) : Nat × Int := (((r - centered 8192 r) / 8192).toNat, centered 8192 r)

/-- Decompose for gamma2 = 261888: the high part from 0 to 15, and the low part around zero. -/
def decompose (r : Nat) : Nat × Int :=
  let r0 := centered 523776 r
  if (r : Int) - r0 = (dsaQ : Int) - 1 then (0, r0 - 1) else (((r - r0) / 523776).toNat, r0)

/-- UseHint. -/
def useHint (h : Bool) (r : Nat) : Nat :=
  let (r1, r0) := decompose r
  if !h then r1 else if 0 < r0 then (r1 + 1) % 16 else (r1 + 15) % 16

/-- The high parts of a vector, packed. -/
def encodeHigh (w : List (List Nat)) : List Byte := w.flatMap (packBits 4)

/-- HintBitPack: the places of the hints of each polynomial, and where each one's end. -/
def packHints (h : List (List Bool)) : List Byte :=
  let places := h.map fun p => p.zipIdx.filterMap fun (b, j) => if b then some j else none
  let all := places.flatten
  let ends := (List.range 6).map fun i => (places.take (i + 1)).flatten.length
  ((all ++ List.replicate (55 - all.length) 0) ++ ends).map (BitVec.ofNat 8)

/-- Places that rise. -/
def rising : List Nat → Bool
  | a :: b :: r => decide (a < b) && rising (b :: r)
  | _ => true

/-- HintBitUnpack: none where the bytes are not those of hints. -/
def unpackHints (y : List Byte) : Option (List (List Bool)) :=
  let ends := (List.range 6).map fun i => (byteAt y (55 + i)).toNat
  let starts := 0 :: ends
  let places := (List.range 6).map fun i => ((y.take 55).drop (starts.getD i 0)).take (ends.getD i 0 - starts.getD i 0) |>.map BitVec.toNat
  if (List.range 6).all (fun i => decide (starts.getD i 0 ≤ ends.getD i 0) && decide (ends.getD i 0 ≤ 55)) && places.all rising &&
      ((y.take 55).drop (ends.getD 5 0)).all (fun b => b = 0) then
    some (places.map fun p => (List.range 256).map fun j => decide (j ∈ p))
  else none

/-! ### Keys, signatures and their check -/

/-- A key pair: the encoded public key, and what signs. -/
structure DsaKey where
  rho : List Byte
  mix : List Byte
  s1 : List Poly
  s2 : List Poly
  t0 : List Poly
  pub : List Byte
  deriving DecidableEq, Repr

/-- The key pair of a 32-byte seed. -/
def dsaKey (seed : List Byte) : DsaKey :=
  let h := shake256n 128 (seed ++ [6, 5])
  let rho := h.take 32
  let small (r : Nat) : Poly := rejBounded ((h.drop 32).take 64 ++ leBytes 2 r)
  let s1 := (List.range 5).map small
  let s2 := (List.range 6).map fun r => small (r + 5)
  let t := List.zipWith Poly.add ((mulVec (expandA rho) (s1.map ntt)).map invNtt) s2
  { rho, mix := h.drop 96, s1, s2, t0 := t.map fun p => p.map fun c => modQ (power2Round c).2,
    pub := rho ++ t.flatMap fun p => packBits 10 (p.map fun c => (power2Round c).1) }

/-- What is signed for a message, with an empty context: bound to the encoded public key. -/
def dsaMu (pub message : List Byte) : List Byte := shake256n 64 (shake256n 64 pub ++ [0, 0] ++ message)

/-- The challenge of a message and high parts. -/
def dsaChallenge (mu : List Byte) (w1 : List (List Nat)) : List Byte := shake256n 48 (mu ++ encodeHigh w1)

/-- A challenge times each polynomial of a vector. -/
def Poly.times (c : Poly) (v : List Poly) : List Poly := v.map fun p => invNtt ((ntt c).mul (ntt p))

/-- Attempts at a signature, until one is short enough to show nothing of the key. -/
def dsaAttempts (key : DsaKey) (a : List (List Poly)) (mu seed : List Byte) : (fuel kappa : Nat) → List Byte
  | 0, _ => []
  | fuel + 1, kappa =>
    let y := expandMask seed kappa
    let w := (mulVec a (y.map ntt)).map invNtt
    let tag := dsaChallenge mu (w.map fun p => p.map fun c => (decompose c).1)
    let c := sampleInBall tag
    let z := List.zipWith Poly.add y (c.times key.s1)
    let r := List.zipWith Poly.sub w (c.times key.s2)
    let low := r.foldl (fun m p => p.foldl (fun m c => max m (decompose c).2.natAbs) m) 0
    let ct0 := c.times key.t0
    let hints := List.zipWith (fun p q => List.zipWith (fun x e => decide ((decompose x).1 ≠ (decompose ((x + e) % dsaQ)).1)) p q) r ct0
    if normOf z < 2 ^ 19 - 196 ∧ low < 261888 - 196 ∧ normOf ct0 < 261888 ∧ (hints.flatten.filter id).length ≤ 55 then
      tag ++ z.flatMap (fun p => packBits 20 (p.map fun c => (2 ^ 19 - centered dsaQ c).toNat)) ++ packHints hints
    else dsaAttempts key a mu seed fuel (kappa + 5)

/-- The 3,309-byte signature of a message under a key, with 32 random bytes. -/
def dsaSign (key : DsaKey) (message rnd : List Byte) : List Byte :=
  let mu := dsaMu key.pub message
  dsaAttempts key (expandA key.rho) mu (shake256n 64 (key.mix ++ rnd ++ mu)) 13107 0

/-- Whether a signature of a message is one under an encoded public key. -/
def dsaVerify (pub message sig : List Byte) : Bool :=
  let tag := sig.take 48
  let z := (List.range 5).map fun i => (unpackBits 20 (pieceOf (sig.drop 48) 640 i)).map fun v => modQ (2 ^ 19 - (v : Int))
  let t1 := (List.range 6).map fun i => (unpackBits 10 (pieceOf (pub.drop 32) 320 i)).map fun v => v * 8192 % dsaQ
  match unpackHints (sig.drop 3248) with
  | none => false
  | some h =>
    let w := List.zipWith Poly.sub ((mulVec (expandA (pub.take 32)) (z.map ntt)).map invNtt) ((sampleInBall tag).times t1)
    let w1 := List.zipWith (fun hs p => List.zipWith useHint hs p) h w
    decide (pub.length = 1952) && decide (sig.length = 3309) && decide (normOf z < 2 ^ 19 - 196) &&
      decide (dsaChallenge (dsaMu pub message) w1 = tag)

end Sys2Proof.Machine
end

