-- ==== Sys2Proof/Machine/Channel.lean ====
section
/-! DEFINITION. The channels' share tables (R402) and the charging of every access to a slot in rounds of weighted deficit
round robin (R403). -/

namespace Sys2Proof.Machine

/-- A channel's unit. -/
def State.unit (s : State) (ch : Nat) : ChUnit := lookupD ChUnit.fresh ch s.units

/-- Replaces a channel's unit. -/
def State.setUnit (s : State) (ch : Nat) (u : ChUnit) : State := { s with units := insertKey ch u s.units }

/-- The channel of a key. -/
def channelOfKey (key : Nat) : Option Nat := match homeOf key with | .channel ch => some ch | _ => none

/-- The channel that a request waits for. -/
def State.channelOf (s : State) (r : Req) : Option Nat := (s.reqKey? r).bind channelOfKey

/-- R403: the slot that a request is charged to. -/
def State.slotOf (s : State) (r : Req) : Nat :=
  match r.src with
  | .fabric _ => s.mc.fslot.toNat
  | _ => r.space

/-- R403: an access is charged its bytes, and at least 64; a node command its pool's header here, and what its engine reads and
writes beyond it when it performs it. -/
def Req.charge (r : Req) : Nat := max 64 r.body.len

/-- Requests that wait for a channel's controller; held ones are charged when they are applied. -/
def State.queueOf (s : State) (ch : Nat) : List Req :=
  s.net.filter fun q => q.phase.underway && !q.served && decide (q.cls ≠ .held) && decide (s.channelOf q = some ch)

/-- Bytes left to a slot in the round. -/
def ChUnit.left (u : ChUnit) (slot : Nat) : Nat := u.credit.toArray.getD slot 0

/-- R402: CAP of a slot, as the round took it. -/
def ChUnit.capped (u : ChUnit) (slot : Nat) : Bool := (u.inRound.toArray.getD slot (false, 1)).1

/-- The grants of a round's bytes: a slot takes from other slots' bytes in slot order. -/
def takeFrom (credit : Vector Nat 16) : (n : Nat) → List Nat → Vector Nat 16
  | _, [] => credit
  | n, q :: qs =>
    let c := credit.toArray.getD q 0
    takeFrom (credit.setIfInBounds q (c - min c n)) (n - min c n) qs

/-- The slots for which nothing waits. -/
def idleSlots (busy : List Nat) : List Nat := (List.range 16).filter fun q => decide (q ∉ busy)

/-- R403: the first waiting slot with CAP clear, which idle time goes to. -/
def ChUnit.heir (u : ChUnit) (busy : List Nat) : Option Nat :=
  (List.range 16).find? fun q => decide (q ∈ busy) && !u.capped q

/-- R403: the bytes left when a slot is served n bytes within the round: of its own grant, or, when no waiting slot can be
served from its own, of its own and the idle slots' if it is the first one with CAP clear. -/
def ChUnit.grant (u : ChUnit) (busy : List Nat) (slot n : Nat) (others : Bool) : Option (Vector Nat 16) :=
  let idle := idleSlots busy
  if n ≤ u.left slot then some (u.credit.setIfInBounds slot (u.left slot - n))
  else if !others && decide (u.heir busy = some slot) && decide (n ≤ u.left slot + (idle.map u.left).sum) then
    some (takeFrom (u.credit.setIfInBounds slot 0) (n - u.left slot) idle)
  else none

/-- R402, R403: a round begins with the table as it stands: every slot gets its grant, a waiting slot keeps what it had left,
and what idle slots left goes to the first waiting slot with CAP clear. -/
def ChUnit.newRound (u : ChUnit) (busy : List Nat) : ChUnit :=
  let spare := ((idleSlots busy).map u.left).sum
  { u with
    inRound := u.shares
    credit := Vector.ofFn fun (i : Fin 16) =>
      (if i.val ∈ busy then u.left i.val else 0) + (if u.heir busy = some i.val then spare else 0) +
      (u.shares.toArray.getD i.val (false, 1)).2.toNat * 64 }

/-- R403: a slot's access of n bytes is served, in this round or a following one, unless waiting accesses can be served
before it or its slot is never served. `queue` lists the slots and charges that wait. -/
def ChUnit.charge (queue : List (Nat × Nat)) (slot n : Nat) : (fuel : Nat) → ChUnit → Option ChUnit
  | 0, _ => none
  | fuel + 1, u =>
    let busy := (slot :: queue.map (·.1)).dedup
    let able := queue.any fun q => decide (q.2 ≤ u.left q.1)
    match u.grant busy slot n able with
    | some c => some { u with credit := c }
    | none => if able then none else ChUnit.charge queue slot n fuel (u.newRound busy)

/-- R403: an access of at most 256 bytes charged to a slot at a channel; none while it has to wait. -/
def State.payChannel (s : State) (slot : Nat) (c : Nat × Nat) : Option State :=
  (ChUnit.charge ((s.queueOf c.1).map fun q => (s.slotOf q, q.charge)) slot (max 64 c.2) 8 (s.unit c.1)).map (s.setUnit c.1)

/-- R403: several accesses of a slot, channel and bytes of each; none while one of them has to wait. -/
def State.payAll (slot : Nat) : List (Nat × Nat) → State → Option State
  | [], s => some s
  | c :: cs, s => (s.payChannel slot c).bind (State.payAll slot cs)

/-- R403, R411: the channel accesses of runs of bytes, one for each 256-byte unit. -/
def chargesOf (runs : List (Nat × Nat)) : List (Nat × Nat) :=
  runs.flatMap fun (k, n) =>
    match channelOfKey k with
    | none => []
    | some ch =>
      if n = 0 then []
      else (List.range ((k + n - 1) / 256 - k / 256 + 1)).map fun i =>
        (ch, min (k + n) ((k / 256 + i + 1) * 256) - max k ((k / 256 + i) * 256))

end Sys2Proof.Machine
end

