-- ==== Sys2Proof/Machine/Residue.lean ====
section
/-! DEFINITION. Residue arithmetic and accumulator tiles (R65, R66, R68, R70 to R80), and the conversions of the network
interfaces (R87). -/

namespace Sys2Proof.Machine

/-! ### Residue words -/

/-- A residue triple modulo 127, 128 and 129. -/
structure Res where
  c127 : Nat
  c128 : Nat
  c129 : Nat
  deriving DecidableEq, Repr

/-- R72: the residue triple of a signed integer. -/
def resOf (v : Int) : Res := ⟨(v % 127).toNat, (v % 128).toNat, (v % 129).toNat⟩

/-- R66: the channels of an RX word on input. -/
def resIn (w : W32) : Res :=
  let n := w.toNat
  let a := fieldN n 0 7
  let c := fieldN n 16 8
  ⟨if a = 127 then 0 else a, fieldN n 8 7, if 128 < c then c - 128 else c⟩

/-- R66: the RX word of a signed integer. -/
def rxOf (v : Int) : W32 :=
  let r := resOf v
  BitVec.ofNat 32 (r.c127 + r.c128 * 2 ^ 8 + r.c129 * 2 ^ 16)

/-- crt (R9, R73). -/
def crt (a b c : Nat) : Nat := (1056768 * a + 2080641 * b + 1056640 * c) % 2097024

/-- R73: the signed value of a triple. -/
def signedCrt (r : Res) : Int :=
  let v := crt r.c127 r.c128 r.c129
  if v < 1048512 then v else (v : Int) - 2097024

/-- The signed value of an RX word. -/
def rxValue (w : W32) : Int := signedCrt (resIn w)

/-! ### The tile dot product (R74) -/

/-- One element: the channel sums of the products, converted once. -/
def dot (xs : List (Res × Res)) : Int :=
  let t := xs.foldl (fun (t : Res) (p : Res × Res) =>
    (⟨(t.c127 + p.1.c127 * p.2.c127) % 127, (t.c128 + p.1.c128 * p.2.c128) % 128, (t.c129 + p.1.c129 * p.2.c129) % 129⟩ : Res)) ⟨0, 0, 0⟩
  signedCrt t

/-- R74: the 64 dot products of an 8 by 32 operand with a latch's 32 by 8 elements. -/
def dots (a : Nat → Nat → Res) (l : Latch) : List Int :=
  (List.range 64).map fun n => dot ((List.range 32).map fun k => (a (n / 8) k, resIn (l.body.toArray.getD (8 * k + n % 8) 0)))

/-- The formats of an A operand (R65, R66). -/
inductive AFmt where
  | i8 | i4 | rx
  deriving DecidableEq, Repr

/-- Bytes of an 8 by 32 A tile (R248). -/
def AFmt.bytes : AFmt → Nat
  | .i8 => 256
  | .i4 => 128
  | .rx => 1024

/-- Element (i, k) of an A tile in memory as a residue triple (R65, R66, R248). -/
def AFmt.elem (f : AFmt) (bs : List Byte) (i k : Nat) : Res :=
  match f with
  | .i8 => resOf (sint 8 (byteAt bs (32 * i + k)).toNat)
  | .i4 => resOf (sint 4 (fieldN (byteAt bs (16 * i + k / 2)).toNat (4 * (k % 2)) 4))
  | .rx => resIn (BitVec.ofNat 32 (numAt bs (4 * (32 * i + k)) 4))

/-! ### Scales (R68) -/

/-- The scale exponent of an E8 byte and whether it is a NaN scale. -/
def scaleByte (b : Nat) : Int × Bool := if b = 255 then (0, true) else ((b : Int) - 127, false)

/-- The scale of an f register: its exponent field alone. -/
def scaleF (w : W32) : Int × Bool := scaleByte (fieldN w.toNat 23 8)

/-- The scale of a latch: BSCALE of its header (R70). -/
def Latch.scale (l : Latch) : Int × Bool := scaleByte (fieldN l.header.toNat 0 8)

/-! ### Alignment (R77, R78) -/

/-- rne_shift (R78). -/
def rneShift (v : Int) (k : Nat) : Int :=
  if k = 0 then v
  else if 40 ≤ k then 0
  else
    let q := v / 2 ^ k
    let r := v % 2 ^ k
    if 2 ^ k < 2 * r then q + 1 else if 2 * r = 2 ^ k then (if q % 2 = 0 then q else q + 1) else q

/-- A sum limited to 36 bits, and whether it was limited (R77). -/
def clampSum (v : Int) : BitVec 36 × Bool :=
  let lo : Int := -(2 ^ 35)
  let hi : Int := 2 ^ 35 - 1
  (BitVec.ofInt 36 (max lo (min hi v)), decide (v < lo) || decide (hi < v))

/-- A tile's sums replaced by clamped values; a limit sets SAT. -/
def Tile.putSums (t : Tile) (e : BitVec 16) (vs : List Int) : Tile :=
  let cs := vs.map clampSum
  { t with sums := Vector.ofFn fun i => (cs.toArray.getD i.val (0, false)).1
           exp := e, empty := false, sat := t.sat || cs.any (·.2) }

/-- The sums as integers. -/
def Tile.values (t : Tile) : List Int := t.sums.toList.map BitVec.toInt

/-- align_add (R77). -/
def Tile.alignAdd (t : Tile) (s : List Int) (e : BitVec 16) (nanFlag : Bool) : Tile :=
  if t.nan then t
  else if nanFlag then { t with nan := true, empty := false }
  else if t.empty then t.putSums e s
  else if t.exp.toInt < e.toInt then
    let k := (e.toInt - t.exp.toInt).toNat
    t.putSums e ((t.values.zip s).map fun (v, x) => rneShift v k + x)
  else
    let k := (t.exp.toInt - e.toInt).toNat
    t.putSums t.exp ((t.values.zip s).map fun (v, x) => v + rneShift x k)

/-! ### Reading out (R80) -/

/-- R80: element n of a tile in a float format, with its flags. -/
def Tile.element (t : Tile) (f : Fmt) (rm : RM) (n : Nat) : Nat × FFlags :=
  if t.nan then (f.canon, .none)
  else if t.empty then (f.zeroBits false, .none)
  else f.ofInt rm (t.sums.toArray.getD n 0).toInt t.exp.toInt false

/-- R253, R254: the 528-byte reduction message of a tile. -/
def Tile.message (t : Tile) (lcore : Nat) : List Byte :=
  leBytes 8 (1 + flag t.empty * 2 ^ 8 + flag t.sat * 2 ^ 9 + flag t.nan * 2 ^ 10 + lcore % 2 ^ 32 * 2 ^ 32) ++
  leBytes 8 (if t.empty then 0 else (t.exp.signExtend 64).toNat) ++
  (t.sums.toList.flatMap fun v => leBytes 8 (if t.empty then 0 else (v.signExtend 64).toNat))

/-- R255: one message applied to a tile. -/
def Tile.applyMessage (t : Tile) (m : List Byte) : Tile :=
  let h := numAt m 0 8
  let nan := decide (fieldN h 10 1 = 1)
  if fieldN h 0 8 ≠ 1 then t
  else if fieldN h 8 1 = 1 ∧ !nan then t
  else
    let t := if fieldN h 9 1 = 1 then { t with sat := true } else t
    t.alignAdd ((List.range 64).map fun i => sint 36 (numAt m (16 + 8 * i) 8)) (BitVec.ofNat 16 (numAt m 8 8)) nan

/-- R256: element n of a tile as an integer of `bits` bits at a target exponent. -/
def Tile.integer (t : Tile) (bits : Nat) (target : Int) (n : Nat) : Int :=
  if t.empty || t.nan then 0
  else
    let v := (t.sums.toArray.getD n 0).toInt
    let q := if target ≤ t.exp.toInt then v * 2 ^ (min 40 (t.exp.toInt - target).toNat) else rneShift v (target - t.exp.toInt).toNat
    max (-(2 ^ (bits - 1))) (min (2 ^ (bits - 1) - 1) q)

/-! ### Conversions of the network interfaces (R87) -/

/-- A signed value limited to a width, as its low bits. -/
def clampBits (w : Nat) (v : Int) : Nat :=
  (BitVec.ofInt w (max (-(2 ^ (w - 1))) (min (2 ^ (w - 1) - 1) v))).toNat

/-- Cuts bytes into groups of n. -/
def chunks (n : Nat) : (fuel : Nat) → List Byte → List (List Byte)
  | 0, _ => []
  | fuel + 1, bs => if bs.isEmpty then [] else bs.take n :: chunks n fuel (bs.drop n)

/-- R87: the bytes that a conversion of CPY makes of source bytes, by its code (R220). -/
def convertBytes (conv : BitVec 3) (bs : List Byte) : List Byte :=
  match conv.toNat with
  | 1 => bs.flatMap fun b => leBytes 4 (rxOf b.toInt).toNat
  | 2 => bs.flatMap fun b => leBytes 4 (rxOf (sint 4 b.toNat)).toNat ++ leBytes 4 (rxOf (sint 4 (b.toNat / 16))).toNat
  | 3 => (chunks 4 bs.length bs).flatMap fun c => leBytes 2 (convert .f32 .bf16 .rne (ofBytes c)).1
  | 4 => (chunks 2 bs.length bs).flatMap fun c => leBytes 4 (convert .bf16 .f32 .rne (ofBytes c)).1
  | 5 => (chunks 4 bs.length bs).flatMap fun c => leBytes 2 (convert .f32 .f16 .rne (ofBytes c)).1
  | 6 => (chunks 2 bs.length bs).flatMap fun c => leBytes 4 (convert .f16 .f32 .rne (ofBytes c)).1
  | _ => bs

/-- BFMT of a header: any value but I4 and RX is read as I8 (R70). -/
def bfmt (header : Word) : AFmt :=
  match fieldN header.toNat 8 8 with
  | 2 => .i4
  | 5 => .rx
  | _ => .i8

/-- Bytes of a B tile's body (R70). -/
def bodyBytes (header : Word) : Nat := (bfmt header).bytes

/-- R71, R87: a latch from a tile's header and body. -/
def Latch.load (header : Word) (body : List Byte) : Latch :=
  ⟨header, Vector.ofFn fun n => match bfmt header with
    | .i8 => rxOf (sint 8 (byteAt body n.val).toNat)
    | .i4 => rxOf (sint 4 (fieldN (byteAt body (n.val / 2)).toNat (4 * (n.val % 2)) 4))
    | .rx => BitVec.ofNat 32 (numAt body (4 * n.val) 4)⟩

/-- R87, R261: the tile that a latch sends out, header and body in its BFMT. -/
def Latch.tile (l : Latch) : List Byte :=
  let v (n : Nat) : W32 := l.body.toArray.getD n 0
  leBytes 8 l.header.toNat ++
  (match bfmt l.header with
   | .i8 => (List.range 256).flatMap fun n => leBytes 1 (clampBits 8 (rxValue (v n)))
   | .i4 => (List.range 128).flatMap fun n => leBytes 1 (clampBits 4 (rxValue (v (2 * n))) + 16 * clampBits 4 (rxValue (v (2 * n + 1))))
   | .rx => (List.range 256).flatMap fun n => leBytes 4 (v n).toNat)

end Sys2Proof.Machine
end

