-- ==== Sys2Proof/Machine/Watermarks.lean ====
section
/-! DEFINITION. Ports and receiving interfaces: their inputs, latest stamps, Lanterns and watermarks (R115, R116), the injectors
that stand behind an interface (R111, R113), and the class and order of the reads that a network interface makes by itself
(R108, R121, R221, R261). -/

namespace Sys2Proof.Machine

/-! ### Ports, inputs and watermarks (R115, R116, log 12) -/

/-- The input of a router's output port on which a source's packets come: the die that it stands on, 32 the west and 33 the
east I/O die, 34 + p fabric port p. -/
def Src.input : Src → Nat
  | .hart h => h.die
  | .unit ch => stackDie (ch / 32)
  | .queue => 32
  | .fabric p => 34 + p

/-- The record of a port. -/
def State.portRec (s : State) (p : Nat) : PortRec := lookupD ⟨[], [], [], 0⟩ p s.ports

/-- Replaces the record of a port. -/
def State.setPort (s : State) (p : Nat) (r : PortRec) : State := { s with ports := insertKey p r s.ports }

/-- The port of a home's receiving interface; its one input 0 is the router. -/
def ifacePort (p : Nat) : Nat := 2 ^ 30 + p

/-- The inputs of a router's output port: the dies, the I/O dies and the fabric ports that are up. -/
def State.allInputs (s : State) : List Nat := List.range 34 ++ ((List.range 64).filter fun p => s.mc.fports.getLsbD p).map (34 + ·)

/-- The inputs that take part in a port's watermark (R115, R388, R398). -/
def State.presentInputs (s : State) (p : Nat) : List Nat :=
  if 2 ^ 30 ≤ p then [0] else s.allInputs.filter fun i => (lookup? i (s.portRec p).excluded).isNone

/-- The lesser of two stamps. -/
def Stamp.least (a b : Stamp) : Stamp := if b.lt a then b else a

/-- R115: a port's watermark: the least of the latest stamps of its present inputs, or none while one has received none. -/
def State.watermark (s : State) (p : Nat) : Option Stamp :=
  match (s.presentInputs p).map fun i => lookup? i (s.portRec p).latest with
  | [] => none
  | w :: ws => ws.foldl (fun a b => match a, b with | some x, some y => some (x.least y) | _, _ => none) w

/-- R116: a bound below every stamp that an input can still bring: each of its injectors' own bound, and the bound of
those that have not stamped yet. -/
def State.inputBound (s : State) (i : Nat) : Stamp :=
  if 34 ≤ i then ⟨Config.fabricLantern s.nextId, 0, 0, 31⟩
  else
    let mine (j : BitVec 18) : Bool :=
      if i = 32 then decide (fieldN j.toNat 6 7 = 124) else decide (fieldN j.toNat 13 5 = i ∧ fieldN j.toNat 6 7 ≠ 124)
    let silent : Stamp := ⟨timeMax s.clk 1 - 1, Config.deviceId, BitVec.ofNat 18 (if 32 ≤ i then 124 * 2 ^ 6 else i * 2 ^ 13), 31⟩
    (s.injectors.filter fun e => mine e.1).foldl (fun a e => a.least (s.stampBound e.1)) silent

/-- An input of a port receives a stamp; the time of the last advance of the watermark is kept (R115, R117). -/
def State.receiveStamp (s : State) (p i : Nat) (st : Stamp) : State :=
  let r := s.portRec p
  let latest := match lookup? i r.latest with | some old => if old.lt st then st else old | none => st
  let s' := s.setPort p { r with latest := insertKey i latest r.latest }
  if s'.watermark p = s.watermark p then s' else s'.setPort p { s'.portRec p with since := s.now }

/-- R115: an ordered packet is on its input of a port: the input's latest stamp is the packet's, once no lesser one can still
come there (R116). -/
def State.arriveAt (s : State) (input : Nat) (st : Stamp) (port : Nat) : State :=
  if 34 ≤ input || st.le (s.inputBound input) then s.receiveStamp port input st else s

/-! ### What an interface receives (R111) -/

/-- The injectors that receive what is sent to a home (R111, R113). A die's dispatch engine stands behind its control pages, the
module queue and the module steward behind the module control page (log 120). -/
def Home.injectors : Home → List (BitVec 18)
  | .tcm c => [injOf (.thread c 0)]
  | .slice d sl => [BitVec.ofNat 18 (d * 2 ^ 13 + 89 * 2 ^ 6 + sl)]
  | .channel ch => [injOf (.overlay ch), BitVec.ofNat 18 (stackDie (ch / 32) * 2 ^ 13 + 97 * 2 ^ 6 + 32 * (ch / 32 % 2) + ch % 32)]
  | .page d => if d = 32 then [injQueue, injOf .moduleSteward] else [injDispatch d]
  | .remote _ => []

/-- R111, R113: the injectors whose G rises by the Lanterns that a home's interface receives: those of the home, the Waystation of its
router, and with a die's control pages its Porters and stewards (log 120). -/
def Home.listeners : Home → List (BitVec 18)
  | .slice d sl => (Home.slice d sl).injectors ++ [injStation (.die d (sl / 2))]
  | .channel ch => (Home.channel ch).injectors ++ [injStation (.stack (ch / 32))]
  | .page d =>
    if d = 32 then (Home.page d).injectors ++ [BitVec.ofNat 18 (124 * 2 ^ 6 + 2)]
    else (Home.page d).injectors ++ (List.range 8).map (fun p => injOf (.porter d p)) ++ (List.range 4).map fun i => injOf (.steward d i)
  | h => h.injectors

/-- R111, R113: the injectors that receive what is sent to a byte: a control slot's Porter and a control block's core with their
page. -/
def injectorsAt (key : Nat) : List (BitVec 18) :=
  (homeOf key).injectors ++
  (if 2 ^ 47 ≤ key then []
   else match phys key with
     | .porterPage d off => [injOf (.porter d (off / 256 % 8))]
     | .tcb c _ _ => [injOf (.thread c 0)]
     | _ => [])

/-- R111: some injectors receive a time. -/
def State.receiveAll (s : State) (is : List (BitVec 18)) (time : BitVec 56) : State := is.foldl (fun s i => s.receiveTime i time) s

/-! ### Ordered reads of an interface (R108, R121, R221, R261) -/

/-- R105, R108: of the pieces that a hart's interface reads from an address on, those that go in ordered class: their homes lie on the
hart's own die. -/
def orderedRuns (h : HartId) (a : Word) (runs : List (Nat × Nat)) : List (Nat × Nat) :=
  if a.toNat / 2 ^ 48 = 0 then []
  else match h with
    | .overlay _ => []
    | _ => runs.filter fun x => decide (dieOfKey x.1 = some h.die)

/-- The next packet of a copy: its destination and how many bytes it writes. -/
def Copy.next (c : Copy) : Word × Nat :=
  let a := c.dst + BitVec.ofNat 64 c.done
  (a, min (c.len - c.done) (256 - a.toNat % 256))

/-- R220, R221: the source bytes of a packet of n destination bytes: their offset and length, and how many converted bytes come
before the packet's own, since a packet may begin between the two halves of an I4 byte. -/
def Copy.source (c : Copy) (n : Nat) : Nat × Nat × Nat :=
  if c.conv = 2 then (c.done / 8, (c.done + n + 7) / 8 - c.done / 8, c.done % 8)
  else (convSrcLen c.conv c.done, convSrcLen c.conv n, 0)

/-- The source address of a packet of n destination bytes. -/
def Copy.sourceAt (c : Copy) (n : Nat) : Word := c.src + BitVec.ofNat 64 (c.source n).1

/-- The runs of bytes that a packet of n destination bytes reads. -/
def State.sourceRuns (s : State) (c : Copy) (n : Nat) : List (Nat × Nat) :=
  s.spans (.hart c.hart) c.lid c.space c.hart.physical (c.sourceAt n) (c.source n).2.1

/-- R221: the pieces of the next packet's source that are read in ordered class. -/
def State.packetRuns (s : State) (c : Copy) : List (Nat × Nat) := orderedRuns c.hart (c.sourceAt c.next.2) (s.sourceRuns c c.next.2)

/-- R70, R261: how many bytes of a tile its load reads, as its header stands: the header, and the body when that stays in its region. -/
def State.tileLen (s : State) (b : Bld) : Nat :=
  match s.keyFor? (s.hart b.hart) b.addr with
  | some k =>
    let n := 8 + bodyBytes (BitVec.ofNat 64 (s.peekN k 8))
    if rangeOk b.hart (s.launch? (s.hart b.hart).lid) b.addr n false then n else 8
  | none => 8

/-- The runs of bytes that a tile load reads. -/
def State.tileRuns (s : State) (b : Bld) : List (Nat × Nat) :=
  s.spans (.hart b.hart) (s.hart b.hart).lid (s.hart b.hart).space b.hart.physical b.addr (s.tileLen b)

/-- R261: the pieces of a tile that are read in ordered class. -/
def State.tileOrdered (s : State) (b : Bld) : List (Nat × Nat) := orderedRuns b.hart b.addr (s.tileRuns b)

/-- R121: the ordered reads that interfaces have on their way, with their stamps: of tile loads and of copies' packets. -/
def State.readsUnderway (s : State) : List (Stamp × List (Nat × Nat)) :=
  (s.blds.filterMap fun b => b.stamp.map fun st => (st, s.tileOrdered b)) ++
  s.copies.filterMap fun c => match c.read with | .stamped st => some (st, s.packetRuns c) | _ => none

/-- R121: an interface's ordered read with a lesser stamp is on its way to a home. -/
def State.lesserRead (s : State) (st : Stamp) (home : Home) : Bool :=
  s.readsUnderway.any fun q => q.1.lt st && q.2.any fun x => decide (homeOf x.1 = home)

/-- R388: a read comes in on an input of a home's port that was excluded: the port's number with the input. -/
def State.readShut (s : State) (input : Nat) (keys : List Nat) : Option Nat :=
  keys.findSome? fun k =>
    let p := (homeOf k).port
    if (lookup? input (s.portRec p).excluded).isSome then some (p + input) else none

/-- R388, R412: a read that comes in on an excluded input is discarded and reported. -/
def State.readLost (s : State) (detail : Nat) : State := s.reportSystem 6 0 0 0 detail

/-- R111, R115: an interface's ordered read reaches its homes' ports, and raises the G of what stands there. -/
def State.readArrives (s : State) (input : Nat) (st : Stamp) (runs : List (Nat × Nat)) : State :=
  runs.foldl (fun s x => (s.arriveAt input st (homeOf x.1).port).receiveAll (injectorsAt x.1) st.time) s

/-- R121: an ordered access with a lesser stamp is under way to a home of these bytes. -/
def State.lesserUnderway (s : State) (st : Stamp) (runs : List (Nat × Nat)) : Bool :=
  (runs.any fun x => s.lesserRead st (homeOf x.1)) || s.net.any fun q => decide (q.cls = .ordered) && q.phase.underway && q.stamp.lt st &&
    (match s.reqKey? q with | some k => runs.any fun x => decide (homeOf x.1 = homeOf k) | none => false)

/-- R115, R121: an ordered read may be performed: its stamp is at or below the watermark of each of its homes' ports, and no access
with a lesser stamp is still to be performed there. -/
def State.readInOrder (s : State) (st : Stamp) (runs : List (Nat × Nat)) : Bool :=
  (runs.all fun x => ((s.watermark (homeOf x.1).port).map fun w => st.le w).getD false) && !s.lesserUnderway st runs

end Sys2Proof.Machine
end

