-- ==== Sys2Proof/Machine/Piece.lean ====
section
/-! DEFINITION. What a network interface or an engine does by itself at an address: translation with its walk (R366, R367,
R372), the reads of CPY sources and B tiles (R221, R261), and writes by units. -/

namespace Sys2Proof.Machine

/-- R372: the addresses of the table entries that a walk reads from a level with its table's address. -/
def State.pathFrom (s : State) (va : Nat) : (fuel level t : Nat) → List Nat
  | 0, _, _ => []
  | fuel + 1, level, t =>
    let a := t + 8 * walkIndex level va
    let e := s.tableEntry a
    if entryV e && entryT e && decide (level < 4) then a :: s.pathFrom va fuel (level + 1) (fieldN e 8 40 * 2 ^ 8) else [a]

/-- R372: the table entries that a walk reads, where they lie in memory. -/
def State.walkPath (s : State) (slot va : Nat) : List Nat :=
  let (t, en) := s.mc.sroot.toArray.getD slot (0, false)
  if en then (s.pathFrom va 4 1 t).filter isPlain else []

/-- R403: what a walk is charged: one access for each entry that lies in a channel. -/
def State.walkCharges (s : State) (slot va : Nat) : List (Nat × Nat) := chargesOf ((s.walkPath slot va).map fun a => (a, 8))

/-- The die of a Waystation (R366). -/
def Station.onDie : Station → Nat
  | .die d _ => d
  | .stack k => stackDie k

/-- R111, R113, R389: a walk reads its entries, in no class (log 120): single-bit errors are corrected and counted, and every reply
raises the Waystation's G; whether one had a double-bit error. -/
def State.walkRead (s : State) (st : Station) (slot va : Nat) : Bool × State :=
  (s.walkPath slot va).foldl (fun (bad, s) a => let (bad', s) := (s.receiveTime (injStation st) s.clk).eccRead a 8; (bad || bad', s)) (false, s)

/-- R388: a walk's read comes in on an excluded input. -/
def State.walkShut (s : State) (st : Station) (slot va : Nat) : Option Nat := s.readShut st.onDie (s.walkPath slot va)

/-- R389: a walk for a hart whose read was poisoned aborts the hart's launch. -/
def State.walkFor (s : State) (src : Src) (slot va : Nat) : State :=
  let (bad, s) := s.walkRead src.station slot va
  match src with
  | .hart h => if bad then s.poison (s.hart h) else s
  | _ => s

/-- R367: a Waystation's cache keeps its newest entries. -/
def keepNewest (st : Station) : (n : Nat) → List (Station × TlbEntry) → List (Station × TlbEntry)
  | _, [] => []
  | n, e :: r =>
    if e.1 = st then (if n = 0 then keepNewest st 0 r else e :: keepNewest st (n - 1) r) else e :: keepNewest st n r

/-- R367, R372: a walk fills the cache of a Waystation, which holds 16,384 entries; a walk that fails fills nothing. -/
def State.fillTlb (s : State) (st : Station) (slot va : Nat) : State :=
  match s.walk slot va with
  | some (e, level) =>
    let page := if level = 3 then va / 2 ^ 21 * 32 else va / 65536
    { s with tlb := (st, ⟨slot, page, if level = 3 then 32 else 1, BitVec.ofNat 64 e⟩) :: keepNewest st 16383 s.tlb }
  | none => s

/-- R366, R367: a translation with the walk that a miss needs. -/
def State.xlatNow (s : State) (r : Req) (a : Word) (need : Need) : Xlat × State :=
  match s.xlat r a need with
  | .miss =>
    let s := (s.walkFor r.src r.space (a.toNat % 2 ^ 48)).fillTlb r.src.station r.space (a.toNat % 2 ^ 48)
    (match s.xlat r a need with | .miss => .fail TRANSLATE | x => x, s)
  | x => (x, s)

/-- A request that stands for an interface's own accesses on behalf of a hart. -/
def asReq (h : HartId) (lid space : Nat) : Req :=
  { id := 0, grp := 0, src := .hart h, lid, task := 0, space, phys := (Thread.fresh h).isSteward, cls := .bulk, stamp := Stamp.zero,
    dc := none, counted := false, acquire := false, addr := 0, body := .load 0 (.x 0 false), phase := .sent, served := true,
    superstep := 0, pc := 0, iword := 0 }

/-- A remote module's answer to a read of n bytes: its bytes are not this module's to know (R371, log 7). -/
def remoteBytes (dev pa count n : Nat) : List Byte := (List.range n).map fun i => Config.remoteByte dev (pa + i) count

/-- The fault code of a remote module's refusal (R393): ATOMIC_REFUSED gives ATTR, any other refusal ACCESS. -/
def remoteFault (status : Nat) : Option (BitVec 8) :=
  match status with
  | 0 => none
  | 3 => some ATTR
  | _ => some ACCESS

/-- The module and physical address of a remote key. -/
def remoteParts (key : Nat) : Nat × Nat := ((key - 2 ^ 50) / 2 ^ 47, (key - 2 ^ 50) % 2 ^ 47)

/-- A read of one piece by an interface: control pages give it zeros (R336), a remote module its own answer, and a piece that is
swapped out refuses it (R383). The reply of a
home that is not the own core raises G, another module's by that module's time (R111, log 142). -/
def State.pieceRead (s : State) (h : HartId) (r : Req) (a : Word) (n : Nat) (need : Need) : Except (BitVec 8) (List Byte) × State :=
  let repliedAt (s : State) (time : BitVec 56) : State := if a.toNat / 2 ^ 48 = 0 then s else s.receiveTime r.src.inj time
  let replied (s : State) : State := repliedAt s s.clk
  match s.xlatNow r a need with
  | (.hit key, s) =>
    if 2 ^ 50 ≤ key then
      let (dev, pa) := remoteParts key
      let s' := { s with nextId := s.nextId + 1 }
      match remoteFault (Config.remoteStatus dev pa s.nextId) with
      | some code => (.error code, s')
      | none => (.ok (remoteBytes dev pa s.nextId n), repliedAt s' (Config.remoteTime s.nextId))
    else if isPage key && decide (key < 2 ^ 47) then (.ok (List.replicate n 0), replied s)
    else if (s.swappedAt r.lid key n).isSome then (.error ACCESS, s)
    else
      let (bs, s) := s.readFor h key n
      (.ok (s.asBegun r.src r.lid r.superstep a key bs), replied s)
  | (.fail code, s) => (.error code, s)
  | (.miss, s) => (.error TRANSLATE, s)

/-- The virtual addresses of the pages of n bytes that an interface's Waystation does not hold. -/
def State.missPages (s : State) (r : Req) (a : Word) (n : Nat) : List Nat :=
  let pages := (List.range ((a.toNat % 65536 + n + 65535) / 65536)).map fun i => BitVec.ofNat 64 ((a.toNat / 65536 + i) * 65536)
  (pages.filter fun p => decide (s.xlat r p .read = .miss)).map fun p => p.toNat % 2 ^ 48

/-- R403: what an interface's accesses to n bytes are charged: walks of the pages that its Waystation does not hold, and the
bytes. -/
def State.readCharges (s : State) (r : Req) (a : Word) (n : Nat) : List (Nat × Nat) :=
  (s.missPages r a n).flatMap (fun va => s.walkCharges r.space va) ++ chargesOf (s.spans r.src r.lid r.space r.phys a n)

/-- R388: one of the reads that an interface makes for n bytes, its walks' among them, comes in on an excluded input. -/
def State.rangeShut (s : State) (r : Req) (a : Word) (n : Nat) : Option Nat :=
  if a.toNat / 2 ^ 48 = 0 then none
  else s.readShut r.src.input ((s.missPages r a n).flatMap (fun va => s.walkPath r.space va) ++ (s.spans r.src r.lid r.space r.phys a n).map (·.1))

/-- R392: every remote module that runs of bytes reach can be reached through a port. -/
def State.routed (s : State) (runs : List (Nat × Nat)) : Bool :=
  runs.all fun q => match homeOf q.1 with | .remote dev => (s.exitPort dev).isSome | _ => true

/-- A range read piece by piece, cut at 256-byte boundaries (R105): the bytes, or the code and address of the first
failure. -/
def State.rangeRead (h : HartId) (r : Req) (need : Need) :
    (fuel : Nat) → Word → Nat → State → Except (BitVec 8 × Word) (List Byte) × State
  | 0, _, _, s => (.ok [], s)
  | fuel + 1, a, n, s =>
    if n = 0 then (.ok [], s)
    else
      let k := min n (256 - a.toNat % 256)
      match s.pieceRead h r a k need with
      | (.error code, s) => (.error (code, a), s)
      | (.ok bs, s) =>
        match State.rangeRead h r need fuel (a + BitVec.ofNat 64 k) (n - k) s with
        | (.ok bs', s) => (.ok (bs ++ bs'), s)
        | e => e

/-- Whether a hart's access from a superstep may read shared memory now (R31). -/
def State.stepOpen (s : State) (lid superstep : Nat) : Bool :=
  match s.launch? lid with
  | some l => !l.info.det || decide (superstep ≤ l.sstep)
  | none => true

end Sys2Proof.Machine
end

