-- ==== Sys2Proof/Machine/NodeEngine.lean ====
section
/-! DEFINITION. Node objects and the node engine: pools, handles, layouts, selection, marks, claims, the free list, and each
command's effect on them (R272 to R285, R293 to R301). -/

namespace Sys2Proof.Machine

/-! ### Objects -/

/-- An edge of a node (R276). -/
structure Edge where
  w : Int
  n : Nat
  f : Nat
  p : Nat
  child : Nat
  epay : Nat
  deriving DecidableEq, Repr

def Edge.zero : Edge := ⟨0, 0, 0, 0, 0, 0⟩

/-- A node's states (R275). -/
inductive NState' where
  | free | leaf | expanding | expanded | terminal
  deriving DecidableEq, Repr

/-- The code of a state (R275). -/
def NState'.code : NState' → Nat
  | .free => 0
  | .leaf => 1
  | .expanding => 2
  | .expanded => 3
  | .terminal => 4

/-- R277: a STATE above 4 is read as FREE. -/
def nstateOf : Nat → NState'
  | 1 => .leaf
  | 2 => .expanding
  | 3 => .expanded
  | 4 => .terminal
  | _ => .free

/-- A node as read (R275 to R277). -/
structure Node where
  state : NState'
  ecount : Nat
  sat : Bool
  ufl : Bool
  gen : Nat
  clid : Nat
  cltask : Nat
  ntot : Nat
  ftot : Nat
  parent : Nat
  tval : Nat
  payload : List Byte
  edges : List Edge
  deriving DecidableEq, Repr

/-- R276: an edge from a node's bytes. -/
def readEdge (bs : List Byte) (e : Nat) : Edge :=
  let o := 64 + 32 * e
  ⟨sint 64 (numAt bs o 8), numAt bs (o + 8) 4, numAt bs (o + 12) 2, numAt bs (o + 14) 2, numAt bs (o + 16) 8, numAt bs (o + 24) 8⟩

/-- R275, R277: a node from its 512 bytes; only an EXPANDING node has a claimant. -/
def readNode (bs : List Byte) : Node :=
  { state := nstateOf (numAt bs 0 1), ecount := min 14 (numAt bs 1 1), sat := decide (dfield bs 0 16 1 = 1),
    ufl := decide (dfield bs 0 17 1 = 1), gen := numAt bs 4 4,
    clid := if nstateOf (numAt bs 0 1) = .expanding then numAt bs 8 2 else 0,
    cltask := if nstateOf (numAt bs 0 1) = .expanding then numAt bs 10 4 else 0,
    ntot := numAt bs 16 4, ftot := numAt bs 20 4, parent := numAt bs 24 8, tval := numAt bs 32 4,
    payload := (List.range 24).map fun i => byteAt bs (40 + i), edges := (List.range 14).map (readEdge bs) }

/-- Header word 0 of a node (R275). -/
def Node.word0 (n : Node) : Nat :=
  n.state.code + n.ecount * 2 ^ 8 + flag n.sat * 2 ^ 16 + flag n.ufl * 2 ^ 17 + n.gen * 2 ^ 32

/-- R276: an edge's 32 bytes. -/
def Edge.bytes (e : Edge) : List Byte :=
  leBytes 8 (BitVec.ofInt 64 e.w).toNat ++ leBytes 4 e.n ++ leBytes 2 e.f ++ leBytes 2 e.p ++ leBytes 8 e.child ++ leBytes 8 e.epay

/-- R275: a node's 512 bytes. -/
def Node.bytes (n : Node) : List Byte :=
  leBytes 8 n.word0 ++ leBytes 2 n.clid ++ leBytes 4 n.cltask ++ leBytes 2 0 ++ leBytes 4 n.ntot ++ leBytes 4 n.ftot ++
  leBytes 8 n.parent ++ leBytes 4 n.tval ++ leBytes 4 0 ++ n.payload ++ n.edges.flatMap Edge.bytes

/-- A node with every byte zero but its generation and its parent word, in a state. -/
def Node.blank (state : NState') (gen parent : Nat) : Node :=
  { state, ecount := 0, sat := false, ufl := false, gen, clid := 0, cltask := 0, ntot := 0, ftot := 0, parent, tval := 0,
    payload := List.replicate 24 0, edges := List.replicate 14 Edge.zero }

/-- The tree descriptor in node 0 (R273). -/
structure Pool where
  base : Nat
  nnodes : Nat
  freehead : Nat
  freecnt : Nat
  root : Nat
  kind : Nat
  skipnull : Bool
  c : Int
  vl : Int
  qinit : Int
  deriving DecidableEq, Repr

/-- R273: a descriptor from its first bytes. -/
def readPool (bs : List Byte) : Pool :=
  { base := numAt bs 0 8, nnodes := numAt bs 8 4, freehead := numAt bs 16 4, freecnt := numAt bs 20 4, root := numAt bs 24 8,
    kind := dfield bs 32 0 2, skipnull := decide (dfield bs 32 8 1 = 1), c := sint 32 (numAt bs 36 4),
    vl := sint 32 (numAt bs 40 4), qinit := sint 32 (numAt bs 44 4) }

/-- The bytes 16 to 31 of the header, which the engine writes: FREEHEAD, FREECNT and ROOT. -/
def Pool.bytes (p : Pool) : List Byte := leBytes 4 p.freehead ++ leBytes 4 p.freecnt ++ leBytes 8 p.root

/-! ### Selection (R280, R281) -/

/-- R280. -/
def Pool.eligible (p : Pool) (n : Node) (i : Nat) (e : Edge) : Bool :=
  decide (i < n.ecount) && decide (e.f < 65535) && (!p.skipnull || decide (e.child ≠ 0))

/-- R281: an edge's score for s = isqrt(NTOT + FTOT). -/
def Pool.score (p : Pool) (s : Nat) (e : Edge) : Int :=
  let n := e.n + e.f
  let q : Int := if n = 0 then p.qinit else (e.w - p.vl * e.f) / (n : Int)
  match p.kind with
  | 0 => q + (p.c * e.p * s) / (((1 + n) * 65536 : Nat) : Int)
  | 1 => e.n
  | 2 => e.p
  | _ => q

/-- R281: the eligible edge of greatest score, the lowest index on a tie. -/
def Pool.choose (p : Pool) (n : Node) : Option Nat :=
  let s := isqrt (n.ntot + n.ftot)
  let best := n.edges.zipIdx.foldl (fun (acc : Option (Nat × Int)) (e, i) =>
    if p.eligible n i e then
      match acc with
      | none => some (i, p.score s e)
      | some (j, b) => if b < p.score s e then some (i, p.score s e) else some (j, b)
    else acc) none
  best.map (·.1)

/-! ### Commands on a located node -/

/-- The outcome of a command: its status code and EDGE, an output word, a value, and the node if it changed. -/
structure NodeOut where
  st : Nat
  edge : Nat
  out : Nat
  val : Nat
  node : Option Node
  deriving DecidableEq, Repr

/-- A refusal or an answer that changes nothing. -/
def NodeOut.same (st : Nat) (edge : Nat := 0xFF) (out : Nat := 0) (val : Nat := 0) : NodeOut := ⟨st, edge, out, val, none⟩

/-- Edge i of a node changed. -/
def Node.mapEdge (n : Node) (i : Nat) (f : Edge → Edge) : Node := { n with edges := n.edges.modify i f }

/-- R282: FTOT rises, or stays at its limit and sets SAT. -/
def Node.ftotUp (n : Node) : Node := if n.ftot = 2 ^ 32 - 1 then { n with sat := true } else { n with ftot := n.ftot + 1 }
/-- R282: FTOT falls, or stays at 0 and sets UFL. -/
def Node.ftotDown (n : Node) : Node := if n.ftot = 0 then { n with ufl := true } else { n with ftot := n.ftot - 1 }

/-- DESC on a located node of the right generation (R278, R283, R294). -/
def descNode (p : Pool) (n : Node) (handle lid task : Nat) : NodeOut :=
  match n.state with
  | .free => .same 5
  | .leaf => ⟨1, 0xFF, handle, 0, some { n with clid := lid % 2 ^ 16, cltask := task % 2 ^ 32, state := .expanding }⟩
  | .expanding => .same 2
  | .terminal => .same 3 0xFF 0 n.tval
  | .expanded =>
    match p.choose n with
    | none => .same 4
    | some i =>
      let n' := (n.mapEdge i fun e => { e with f := e.f + 1 }).ftotUp
      ⟨0, i, (n.edges.getD i Edge.zero).child, 0, some n'⟩

/-- One mark removed from edge i (R282, R295): the status and the node. -/
def removeMark (n : Node) (i : Nat) : Nat × Node :=
  if (n.edges.getD i Edge.zero).f = 0 then (8, { n with ufl := true })
  else (0, (n.mapEdge i fun e => { e with f := e.f - 1 }).ftotDown)

/-- R282: a visit with value v added to edge i, with its limits. -/
def addVisit (n : Node) (i : Nat) (v : Int) : Node :=
  let e := n.edges.getD i Edge.zero
  let w := e.w + v
  let limited := decide (e.n = 2 ^ 32 - 1) || decide (n.ntot = 2 ^ 32 - 1) || decide (w < -(2 ^ 63)) || decide (2 ^ 63 - 1 < w)
  { n.mapEdge i (fun e => { e with n := min (e.n + 1) (2 ^ 32 - 1), w := max (-(2 ^ 63)) (min (2 ^ 63 - 1) w) }) with
    ntot := min (n.ntot + 1) (2 ^ 32 - 1), sat := n.sat || limited }

/-- BKUP and UNMK on a located node (R278, R295). -/
def markNode (backup : Bool) (n : Node) (b : Nat) : NodeOut :=
  let i := fieldN b 0 8
  match n.state with
  | .free => .same 5 i
  | .expanded =>
    if n.ecount ≤ i then .same 10 i
    else
      let n := if backup then addVisit n i (sint 32 (fieldN b 32 32)) else n
      let (st, n) := removeMark n i
      ⟨st, i, 0, 0, some n⟩
  | _ => .same 10 i

/-- R296: edge e of an expansion block. -/
def blockEdge (bs : List Byte) (e : Nat) : Edge :=
  { Edge.zero with p := numAt bs (8 + 24 * e) 2, child := numAt bs (16 + 24 * e) 8, epay := numAt bs (24 + 24 * e) 8 }

/-- EXPND on a located node (R278, R283, R297). -/
def expndNode (n : Node) (bs : List Byte) (lid task : Nat) : NodeOut :=
  let xcount := numAt bs 0 1
  let xterm := decide (dfield bs 0 8 1 = 1)
  if n.state = .free then .same 5
  else if n.state ≠ .expanding ∨ n.clid ≠ lid % 2 ^ 16 ∨ n.cltask ≠ task % 2 ^ 32 then .same 7
  else if !xterm ∧ 14 < xcount then .same 10
  else
    let n := { n with edges := List.replicate 14 Edge.zero, ntot := 0, ftot := 0, clid := 0, cltask := 0 }
    let n :=
      if xterm then { n with tval := numAt bs 4 4, ecount := 0, state := .terminal }
      else if xcount = 0 then { n with ecount := 0, state := .leaf }
      else { n with edges := (List.range 14).map fun e => if e < xcount then blockEdge bs e else Edge.zero
                    ecount := xcount, state := .expanded }
    ⟨0, 0xFF, 0, 0, some n⟩

/-- R293: a status word. -/
def statusWord (o : NodeOut) (obs : Nat) : Nat := o.st + o.edge * 2 ^ 8 + obs * 2 ^ 16 + o.val * 2 ^ 32

/-! ### The engine -/

/-- The Waystation at a pool's home (R366). -/
def Home.station : Home → Station
  | .slice d sl => .die d (sl / 2)
  | .channel ch => .stack (ch / 32)
  | _ => .die 0 0

/-- A translation at a station with the walk that a miss needs. -/
def State.xlatVia (s : State) (st : Station) (slot : Nat) (a : Nat) (need : Need) : Xlat × State :=
  if a / 2 ^ 48 ≠ 0x0100 then (.fail ACCESS, s)
  else match s.xlatAt st slot (a % 2 ^ 48) need with
    | .miss =>
      let s := (s.walkRead st slot (a % 2 ^ 48)).2.fillTlb st slot (a % 2 ^ 48)
      (match s.xlatAt st slot (a % 2 ^ 48) need with | .miss => .fail TRANSLATE | x => x, s)
    | x => (x, s)

/-- R291: the key of node i of a pool, where it can be located: in an N page with R and W at the engine's home. A steward's command
is located by its space's tables as well (log 141). -/
def State.locate (s : State) (slot base key i : Nat) : Option Nat × State :=
  match s.xlatVia (homeOf key).station slot ((base + 512 * i) % 2 ^ 64) .node with
  | (.hit k, s) => (if homeOf k = homeOf key then some k else none, s)
  | (_, s) => (none, s)

/-- Writes a node. -/
def State.putNode (s : State) (key : Nat) (n : Node) : State := s.pokeBytes key n.bytes

/-- Writes the fields of the header that the engine keeps (R273). -/
def State.putPool (s : State) (key : Nat) (p : Pool) : State := s.pokeBytes (key + 16) p.bytes

/-- R284: frees a located node. FREECNT wraps at 32 bits (log 112). -/
def State.freeNode (s : State) (poolKey : Nat) (p : Pool) (key i : Nat) (n : Node) : State :=
  let gen := if n.gen = 2 ^ 32 - 1 then 1 else n.gen + 1
  let s := s.putNode key (Node.blank .free gen p.freehead)
  s.putPool poolKey { p with freehead := i, freecnt := (p.freecnt + 1) % 2 ^ 32,
                             root := if p.root = i + n.gen * 2 ^ 32 then 0 else p.root }

/-- RCYC on a located node (R278, R284, R299). FTOT alone says whether an edge holds a mark (log 147). -/
def State.recycle (s : State) (poolKey : Nat) (p : Pool) (key i : Nat) (n : Node) : Nat × State :=
  match n.state with
  | .free => (10, s)
  | .expanding => (6, s)
  | .expanded => if n.ftot ≠ 0 then (6, s) else (0, s.freeNode poolKey p key i n)
  | _ => (0, s.freeNode poolKey p key i n)

/-- NALLOC (R285, R298): both result words. FREECNT wraps at 32 bits (log 112). -/
def State.allocNode (s : State) (slot base poolKey : Nat) (p : Pool) (parent : Nat) : Nat × Nat × State :=
  let f := p.freehead
  if f = 0 then (0, 9 + 0xFF * 2 ^ 8, s)
  else if p.nnodes ≤ f then (0, 10 + 0xFF * 2 ^ 8, s)
  else match s.locate slot base poolKey f with
    | (none, s) => (0, 10 + 0xFF * 2 ^ 8, s)
    | (some key, s) =>
      let n := readNode (s.peek key 512)
      if n.state ≠ .free then (0, 10 + 0xFF * 2 ^ 8, s)
      else
        let handle := f + n.gen * 2 ^ 32
        let s := s.putNode key (Node.blank .leaf n.gen parent)
        let s := s.putPool poolKey { p with freehead := n.parent % 2 ^ 32, freecnt := (p.freecnt + 2 ^ 32 - 1) % 2 ^ 32,
                                            root := if parent = 0 then handle else p.root }
        (handle, 0xFF * 2 ^ 8, s)

/-- R285, R301: formats the nodes lo to lo + n - 1 of a page, ascending, the last linked to the old free head. -/
def State.formatNodes (s : State) (base pageVa pageKey lo next : Nat) : (n : Nat) → State
  | 0 => s
  | n + 1 =>
    let i := lo + n
    let key := pageKey + (base + 512 * i - pageVa)
    (s.putNode key (Node.blank .free 1 next)).formatNodes base pageVa pageKey lo i n

/-- R301: the nodes of a pool that lie in a page: the first one, and the one after the last. -/
def Pool.nodesIn (p : Pool) (base pageVa size : Nat) : Nat × Nat :=
  (max 1 (if pageVa ≤ base then 0 else (pageVa - base) / 512),
   min p.nnodes (if pageVa + size ≤ base then 0 else (pageVa + size - base) / 512))

/-- NINIT (R285, R301): the page that the request carries, its virtual start, size and byte key, is formatted unless one of its
pool nodes has a generation. FREECNT wraps at 32 bits (log 112). -/
def State.initPage (s : State) (base poolKey : Nat) (p : Pool) (page : Option (Nat × Nat × Nat)) : Nat × State :=
  match page with
  | some (pageVa, size, pageKey) =>
    let (lo, hi) := p.nodesIn base pageVa size
    if homeOf pageKey ≠ homeOf poolKey then (10, s)
    else if (List.range (hi - lo)).any fun j => decide (s.peekN (pageKey + (base + 512 * (lo + j) - pageVa) + 4) 4 ≠ 0) then (10, s)
    else if hi ≤ lo then (0, s)
    else
      let s := s.formatNodes base pageVa pageKey lo p.freehead (hi - lo)
      (0, s.putPool poolKey { p with freehead := lo, freecnt := (p.freecnt + (hi - lo)) % 2 ^ 32 })
  | none => (10, s)

/-- R291, R293, R298 to R300: the node that a command reads beside the header, if it comes so far. -/
def Pool.nodeOf (p : Pool) (op : NodeOp) (base a : Nat) : Option Nat :=
  let i := match op with | .nalloc => p.freehead | .ninit => 0 | _ => a % 2 ^ 32
  let late := match op with | .nalloc => false | .nstat => false | _ => true
  if i = 0 ∨ p.nnodes ≤ i ∨ (base ≠ p.base ∧ !late) then none else some i

/-- A command on a named node after the checks of R293, in their order. -/
def State.namedNode (s : State) (op : NodeOp) (slot base poolKey : Nat) (p : Pool) (a b : Nat) (block : List Byte)
    (lid task : Nat) : Nat × Nat × State :=
  let i := a % 2 ^ 32
  let gen := a / 2 ^ 32
  let edge := match op with | .bkup => fieldN b 0 8 | .unmk => fieldN b 0 8 | _ => 0xFF
  let answer (o : NodeOut) (obs : Nat) : Nat × Nat :=
    match op with
    | .desc => (o.out, statusWord o obs)
    | _ => (statusWord o obs, 0)
  let fixed (st obs : Nat) (s : State) : Nat × Nat × State :=
    let (w0, w1) := answer (.same st edge) obs
    (w0, w1, s)
  if i = 0 ∨ p.nnodes ≤ i then fixed 5 0 s
  else match s.locate slot base poolKey i with
    | (none, s) => fixed 5 0 s
    | (some key, s) =>
      let n := readNode (s.peek key 512)
      let obs := n.state.code
      if gen = 0 ∨ gen ≠ n.gen then fixed 5 obs s
      else if base ≠ p.base then fixed 10 obs s
      else
        let apply (o : NodeOut) : Nat × Nat × State :=
          let s := match o.node with | some n' => s.putNode key n' | none => s
          let (w0, w1) := answer o obs
          (w0, w1, s)
        match op with
        | .desc => apply (descNode p n a lid task)
        | .bkup => apply (markNode true n b)
        | .unmk => apply (markNode false n b)
        | .expnd => apply (expndNode n block lid task)
        | _ =>
          let (st, s) := s.recycle poolKey p key i n
          (st + 0xFF * 2 ^ 8 + obs * 2 ^ 16, 0, s)

/-- NSTAT (R300): both header words, or zeros where no node is read. -/
def State.statNode (s : State) (slot base poolKey : Nat) (p : Pool) (a : Nat) : Nat × Nat × State :=
  let i := a % 2 ^ 32
  if i = 0 ∨ p.nnodes ≤ i ∨ base ≠ p.base then (0, 0, s)
  else match s.locate slot base poolKey i with
    | (none, s) => (0, 0, s)
    | (some key, s) =>
      let n := readNode (s.peek key 512)
      (n.word0, n.ntot + n.ftot * 2 ^ 32, s)

/-- R279: one node command applied whole at the home of its pool, whose header lies at a key: both reply words. -/
def State.nodeApply (s : State) (op : NodeOp) (slot base poolKey : Nat) (a b : Nat) (block : List Byte) (lid task : Nat)
    (page : Option (Nat × Nat × Nat)) : Nat × Nat × State :=
  let p := readPool (s.peek poolKey 64)
  match op with
  | .nalloc => if base ≠ p.base then (0, 10 + 0xFF * 2 ^ 8, s) else s.allocNode slot base poolKey p a
  | .ninit =>
    if base ≠ p.base then (10 + 0xFF * 2 ^ 8, 0, s)
    else
      let (st, s) := s.initPage base poolKey p page
      (st + 0xFF * 2 ^ 8, 0, s)
  | .nstat => s.statNode slot base poolKey p a
  | op => s.namedNode op slot base poolKey p a b block lid task

end Sys2Proof.Machine
end

