-- ==== Sys2Proof/Machine/Copy.lean ====
section
/-! DEFINITION. Block copies: CPY and the injection of their packets and of oversized strided accesses (R107, R220 to
R223). -/

namespace Sys2Proof.Machine

/-- Packets of a range cut at 256-byte boundaries (R106). -/
def packetCount (a n : Nat) : Nat := if n = 0 then 0 else (a + n - 1) / 256 - a / 256 + 1

/-- A copy begins: its counter rises once, and each packet counts as a store until it is acknowledged (R122, R221). In a
DET launch packets that leave the core are held accesses (R31, R114). -/
def startCopy (k : BitVec 2) (ordered : Bool) (conv : BitVec 3) (src dst : Word) (len : Nat) (data : Option (List Byte)) : M Unit := do
  let s ← get
  let t := s.focus
  let n := packetCount dst.toNat len
  let held := if s.isDet t ∧ dst.toNat / 2 ^ 48 ≠ 0 then n else 0
  check (t.heldIdx + held ≤ 4194304) DET_ORDER
  countUp k
  setFocus fun t => { t with unack := t.unack + n, heldIdx := t.heldIdx + held }
  modify fun s => { s with nextId := s.nextId + 1, copies := s.copies ++
    [⟨s.nextId, t.id, t.lid, t.space, some k, ordered, conv, src, dst, len, 0, data, .idle, t.superstep, t.heldIdx, t.pc, t.iword⟩] }

/-- R220: the destination length, source and destination alignments and length unit of a conversion. -/
def convShape (conv : BitVec 3) (n : Nat) : Nat × Nat × Nat × Nat :=
  match conv.toNat with
  | 1 => (4 * n, 1, 4, 1)
  | 2 => (8 * n, 1, 4, 1)
  | 3 => (n / 2, 4, 2, 4)
  | 4 => (2 * n, 2, 4, 2)
  | 5 => (n / 2, 4, 2, 4)
  | 6 => (2 * n, 2, 4, 2)
  | _ => (n, 1, 1, 1)

/-- CPY (R220, R221, R223): registers pop in the order a, b, d (R49). A length that breaks the table reports the source address
(log 111). -/
def execCpy (g : Guard) (d a b : BitVec 5) (v : BitVec 3) (o : BitVec 1) (c : BitVec 2) (s : State) : Result :=
  .next (s.scalar .porter g (do
    checkPorts [a, b, d]
    let src ← readX a
    let len ← readX b
    let dst ← readX d
    let n := len.toNat
    if n = 0 then return ()
    openGate
    check (n < 2 ^ 32) ACCESS src
    let (dn, sa, da, unit) := convShape v n
    let _ ← placeRange src n false
    let _ ← placeRange dst dn true
    aligned src sa
    aligned dst da
    check (n % unit = 0) MISALIGN src
    check (!(decide (src.toNat < dst.toNat + dn) && decide (dst.toNat < src.toNat + n))) ACCESS dst
    if o = 1 then waitReleased
    startCopy c (decide (o = 1)) v src dst dn none))

/-- Whether a hart's earlier stores to a range are still under way (R119). -/
def State.storesUnderway (s : State) (h : HartId) (before : Nat) (runs : List (Nat × Nat)) : Bool :=
  (s.buffered h ++ s.net.filter fun r => r.phase.underway).any fun r =>
    r.isOf h && r.body.writes && decide (r.cls ≠ .held) && decide (r.grp < before) && spansMeet runs (s.reqSpans r)

/-- The request that carries a packet's bytes; its permit is of the destination's router (log 114). -/
def State.packetReq (s : State) (c : Copy) (a : Word) (bs : List Byte) : Req :=
  let t := s.hart c.hart
  let cls := s.clsOf t a c.ordered true
  { asReq c.hart c.lid c.space with
    id := s.nextId, grp := c.id, task := t.task, cls, dc := c.dc, counted := true, addr := a, body := .store (bs.map some), served := false, wide := true, packet := true, failed := c.dc.isNone, idx := c.idx,
    stamp := match cls, s.launch? c.lid, c.hart.core? with
      | .held, some l, some core =>
        logicalStamp c.superstep t.h (c.idx + ((a.toNat / 256) - c.dst.toNat / 256)) (l.lcore core)
      | _, _, _ => Stamp.zero
    superstep := c.superstep, pc := c.pc, iword := c.iword }

/-- R221: a packet's source bytes, converted. -/
def State.packetBytes (s : State) (c : Copy) (n : Nat) : Except (BitVec 8 × Word) (List Byte) × State :=
  match State.rangeRead c.hart { asReq c.hart c.lid c.space with superstep := c.superstep } .read 4 (c.sourceAt n) (c.source n).2.1 s with
  | (.ok bs, s) => (.ok (((convertBytes c.conv bs).drop (c.source n).2.2).take n), s)
  | (.error e, s) => (.error e, s)

/-- R119, R221, R223: a packet's source may be read now: the hart's earlier stores there are performed, a superstep that it belongs
to has begun, a remote module's has a port that leads to it (R392), and no piece of it is being restored (R385). -/
def State.sourceOpen (s : State) (c : Copy) (n : Nat) : Bool :=
  !s.storesUnderway c.hart c.id (s.sourceRuns c n) && s.routed (s.sourceRuns c n) &&
  !((s.sourceRuns c n).any fun x => s.restoringAt c.lid x.1 x.2) &&
  (decide ((c.sourceAt n).toNat / 2 ^ 48 = 0) || s.stepOpen c.lid c.superstep)

/-- R403: a packet's source read is charged to its launch's slot; none while it has to wait at a channel. -/
def State.paySource (s : State) (c : Copy) (n : Nat) : Option State :=
  State.payAll c.space (s.readCharges (asReq c.hart c.lid c.space) (c.sourceAt n) (c.source n).2.1) s

/-- R388: the read of the next packet's source comes in on an excluded input. -/
def State.sourceShut (s : State) (c : Copy) : Option Nat :=
  s.rangeShut (asReq c.hart c.lid c.space) (c.sourceAt c.next.2) (c.source c.next.2).2.1

/-- Replaces a copy by tag. -/
def State.putCopy (s : State) (c : Copy) : State := { s with copies := s.copies.map fun q => if q.id = c.id then c else q }

/-- A packet's permit is free, and what its hart issued before it to its destination has been sent (R106, R119). -/
def State.packetOpen (s : State) (c : Copy) : Bool :=
  let probe := s.packetReq c c.next.1 (List.replicate c.next.2 0)
  s.permitsFree c.hart [probe] && s.inOrder c.hart [probe]

/-- A packet with its bytes leaves, and its copy goes on to the next one. -/
def State.sendPacket (s : State) (c : Copy) (bs : List Byte) : State :=
  ({ s.putCopy { c with done := c.done + c.next.2, read := .idle } with nextId := s.nextId + 1 }).inject (s.packetReq c c.next.1 bs)

/-- R103, R104: a packet's source fails: its negative reply is on its way to the hart, which the copy's first one faults, and its other
packets go on. -/
def State.failPacket (s : State) (c : Copy) (code : BitVec 8) (faddr : Word) : State :=
  let r := { s.packetReq c c.next.1 (List.replicate c.next.2 0) with body := .load 0 (.x 0 false), phase := .refused code faddr }
  { s.putCopy { c with done := c.done + c.next.2, read := .idle } with net := s.net ++ [r], nextId := s.nextId + 1 }

/-- A packet's source is read, and `act` goes on with its bytes. -/
def State.readPacket (s : State) (c : Copy) (act : State → List Byte → State) : State :=
  match s.paySource c c.next.2 with
  | none => s
  | some s =>
    match s.packetBytes c c.next.2 with
    | (.ok bs, s) => act s bs
    | (.error (code, fa), s) => s.failPacket c code fa

/-- The bytes of a copy's next packet, where they are known: of a BST, or read before. -/
def Copy.known (c : Copy) : Option (List Byte) :=
  match c.data, c.read with
  | some bs, _ => some ((bs.drop c.done).take c.next.2)
  | none, .got bs => some bs
  | none, _ => none

/-- CPY_PACKET_INJECT (R107, R121, R221, R222, R403): the next packet of copy `id` reads its source and leaves once a permit is free.
Where a piece of it is read in ordered class, the read is stamped and then performed in stamp order, and its packet leaves after it. A
failing source faults the task, and the copy's other packets go on. The permit is one of the packet's destination; the source read
takes none (log 114). A hart that is stopped does not stop its copies (R339). A read on an excluded input never returns, and its
packet is never written (R388). -/
def execCpyPacketInject (id : Nat) (s : State) : Result :=
  .next (match s.copies.find? fun c => c.id = id with
    | none => s
    | some c =>
      let n := c.next.2
      if n = 0 then s
      else match c.known, c.read with
        | some bs, _ => if s.packetOpen c then s.sendPacket c bs else s
        | none, .stamped st =>
          let s := s.readArrives c.hart.die st (s.packetRuns c)
          if s.sourceOpen c n && s.readInOrder st (s.packetRuns c) then s.readPacket c fun s bs => s.putCopy { c with read := .got bs } else s
        | none, _ =>
          if !s.sourceOpen c n then s
          else match s.sourceShut c with
            | some detail =>
              let s' := s.putCopy { c with done := c.done + n, dc := none }
              (s'.forget (s.packetReq c c.next.1 [])).readLost detail
            | none =>
              if !(s.packetRuns c).isEmpty then
                let (st, s) := s.stamp (injOf c.hart)
                s.putCopy { c with read := .stamped st }
              else if s.packetOpen c then s.readPacket c fun s bs => s.sendPacket c bs
              else s)

/-- STRIDED_REQUEST_INJECT (R107): the next request of a hart's oversized strided access leaves once its permit, and for a
store its buffer entry, is free. -/
def execStridedRequestInject (h : HartId) (s : State) : Result :=
  .next (match s.strided.find? fun d => d.hart = h with
    | none => s
    | some d =>
      match d.rest with
      | [] => { s with strided := s.strided.filter fun (q : Strided) => q.hart ≠ h }
      | r :: rest =>
        let buffered := r.body.writes
        if s.permitsFree h [r] && s.bufferRoom h buffered 1 then
          let s := { s with strided := if rest.isEmpty then s.strided.filter fun (q : Strided) => q.hart ≠ h
                                       else s.strided.map fun (q : Strided) => if q.hart = h then ⟨h, rest⟩ else q }
          s.enter h buffered r
        else s)

end Sys2Proof.Machine
end

