-- ==== Sys2Proof/Machine/Matrix.lean ====
section
/-! DEFINITION. Matrix instructions on tiles and tile geometry (R247 to R259). -/

namespace Sys2Proof.Machine

/-! ### Ownership and places -/

/-- R58: an accumulator tile that the thread does not own is ILLEGAL before the guard. -/
def needTile (c : BitVec 1) (s : State) : Option (BitVec 8) :=
  if s.accCount = 0 ∨ (c = 1 ∧ s.accCount = 1) then some ILLEGAL else none

/-- R58: a latch that the thread does not own is ILLEGAL before the guard. -/
def needLatch (s : State) : Option (BitVec 8) := if s.accCount = 0 then some ILLEGAL else none

/-- A tile of a hart. -/
def Thread.tile (t : Thread) (c : BitVec 1) : Tile := if c = 0 then t.c0 else t.c1
/-- A hart with one tile replaced. -/
def Thread.setTile (t : Thread) (c : BitVec 1) (x : Tile) : Thread := if c = 0 then { t with c0 := x } else { t with c1 := x }

/-- R92: n bytes within the launch's TCM area on the own core, or ACCESS; answers their key. -/
def tcmRange (a : Word) (n : Nat) : M Nat := do
  let s ← get
  match s.launchOf s.focus, s.focus.id.core? with
  | some l, some c => do
    check (a.toNat + n ≤ 0x60000 && l.inArea a.toNat && l.inArea (a.toNat + n - 1)) ACCESS a
    return tcmKey c a.toNat
  | _, _ => trap ACCESS a

/-! ### MMA, MZ, MSETE, MEXP -/

/-- The A format of a format pair (R248). -/
def pairA (p : BitVec 6) : AFmt :=
  match p.toNat with
  | 1 => .i8
  | 2 => .i8
  | 3 => .i4
  | 4 => .i4
  | _ => .rx

/-- MMA (R76, R248, R249). -/
def execMma (g : Guard) (c : BitVec 1) (a : BitVec 5) (f : BitVec 4) (p : BitVec 6) (s : State) : Result :=
  .next (s.scalar .core g (do
    openGate
    checkPorts [a]
    let ea ← readX a
    let fmt := pairA p
    let key ← tcmRange ea fmt.bytes
    aligned ea fmt.bytes
    let bs ← readLocal key fmt.bytes
    let fa ← readF f
    let t ← focus
    let (eA, nA) := scaleF fa
    let (eB, nB) := t.b0.scale
    setFocus fun t => t.setTile c ((t.tile c).alignAdd (dots (fmt.elem bs) t.b0) (BitVec.ofInt 16 (eA + eB)) (nA || nB)))
    (needTile c))

/-- MZ (R251). -/
def execMz (g : Guard) (c : BitVec 1) (s : State) : Result :=
  .next (s.scalar .core g (setFocus fun t => t.setTile c Tile.zero) (needTile c))

/-- MSETE (R76, R251). -/
def execMsete (g : Guard) (c : BitVec 1) (a : BitVec 5) (s : State) : Result :=
  .next (s.scalar .core g (do
    checkPorts [a]
    let x ← readX a
    setFocus fun t => t.setTile c ((t.tile c).alignAdd (List.replicate 64 0) (x.setWidth 16) false)) (needTile c))

/-- MEXP (R251). -/
def execMexp (g : Guard) (d : BitVec 5) (c : BitVec 1) (s : State) : Result :=
  .next (s.scalar .core g (do
    checkPorts [d]
    let t ← focus
    writeX d (t.tile c).word) (needTile c))

/-! ### Reading out -/

/-- R105: the pieces of a range, cut at every 256-byte boundary: address and bytes. -/
def pieces : (fuel : Nat) → Word → List Byte → List (Word × List Byte)
  | 0, _, _ => []
  | fuel + 1, a, bs =>
    if bs.isEmpty then []
    else
      let n := 256 - a.toNat % 256
      (a, bs.take n) :: pieces fuel (a + BitVec.ofNat 64 n) (bs.drop n)

/-- R252: writes a block: at a local home at issue, elsewhere as packets through the store buffer. -/
def writeBlock (ea : Word) (n : Nat) (bs : List Byte) (c : BitVec 2) : M Unit := do
  openGate
  let p ← placeRange ea bs.length true
  aligned ea n
  match p with
  | .loc key => writeLocal key (bs.map some)
  | _ => send { storeManner c false with wide := true } ((pieces bs.length ea bs).map fun (a, b) => ⟨a, .store (b.map some)⟩)

/-- R80, R252: MRD in a format of n bytes. -/
def mrd (f : Fmt) (n : Nat) (c : BitVec 1) (a : BitVec 5) (k : BitVec 2) : M Unit := do
  checkPorts [a]
  let ea ← readX a
  let rm ← roundingMode
  let t ← focus
  let rs := (List.range 64).map fun i => (t.tile c).element f rm i
  writeBlock ea 32 (rs.flatMap fun r => leBytes n r.1) k
  raiseFlags (rs.foldl (fun fl r => fl.or r.2) .none)

/-- MRD.F32 (R252). -/
def execMrdF32 (g : Guard) (c : BitVec 1) (a : BitVec 5) (k : BitVec 2) (s : State) : Result :=
  .next (s.scalar .core g (mrd .f32 4 c a k) (needTile c))
/-- MRD.BF16 (R252). -/
def execMrdBf16 (g : Guard) (c : BitVec 1) (a : BitVec 5) (k : BitVec 2) (s : State) : Result :=
  .next (s.scalar .core g (mrd .bf16 2 c a k) (needTile c))
/-- MRD.F16 (R252). -/
def execMrdF16 (g : Guard) (c : BitVec 1) (a : BitVec 5) (k : BitVec 2) (s : State) : Result :=
  .next (s.scalar .core g (mrd .f16 2 c a k) (needTile c))

/-! ### Reduction messages -/

/-- R12: the logical index of the issuing hart's core. -/
def State.lcore (s : State) : Nat :=
  match s.launchOf s.focus, s.focus.id.core? with
  | some l, some c => l.lcore c
  | _, _ => 0

/-- MRED (R253, R254). -/
def execMred (g : Guard) (c : BitVec 1) (a : BitVec 5) (k : BitVec 2) (s : State) : Result :=
  .next (s.scalar .core g (do
    checkPorts [a]
    let ea ← readX a
    let s ← get
    writeBlock ea 8 ((s.focus.tile c).message s.lcore) k) (needTile c))

/-- R255: applies messages in slot order. -/
def maccMessages (c : BitVec 1) (key : Nat) : (slots : List Nat) → M Unit
  | [] => pure ()
  | j :: r => do
    let m ← readLocal (key + 528 * j) 528
    setFocus fun t => t.setTile c ((t.tile c).applyMessage m)
    maccMessages c key r

/-- MACC (R79, R255). -/
def execMacc (g : Guard) (c : BitVec 1) (a b : BitVec 5) (s : State) : Result :=
  .next (s.scalar .core g (do
    checkPorts [a, b]
    let ea ← readX a
    let n ← readX b
    if n = 0 then return ()
    check (n.toNat ≤ 64) ILLEGAL
    openGate
    let key ← tcmRange ea (528 * n.toNat)
    aligned ea 8
    maccMessages c key (List.range n.toNat)) (needTile c))

/-! ### Narrow integers -/

/-- The bytes of row i of a tile as integers of `bits` bits (R65, R256). -/
def Tile.row (t : Tile) (bits : Nat) (target : Int) (i : Nat) : List Byte :=
  let q (j : Nat) : Nat := (BitVec.ofInt bits (t.integer bits target (8 * i + j))).toNat
  if bits = 8 then (List.range 8).map fun j => BitVec.ofNat 8 (q j)
  else (List.range 4).map fun j => BitVec.ofNat 8 (q (2 * j) + 16 * q (2 * j + 1))

/-- R256: a local destination of a row, or ACCESS. -/
def localRow (a : Word) (n : Nat) : M (Word × Nat) := do
  let p ← placeRange a n true
  match p with
  | .loc key => return (a, key)
  | _ => trap ACCESS a

/-- R256: MCVT with its element width, row distance and bytes per row. -/
def mcvt (bits row n : Nat) (c : BitVec 1) (a b : BitVec 5) : M Unit := do
  openGate
  checkPorts [a, b]
  let ea ← readX a
  let y ← readX b
  let keys ← (List.range 8).mapM fun i => localRow (ea + BitVec.ofNat 64 (row * i)) n
  aligned ea n
  let t ← focus
  let target := (y.setWidth 16 : BitVec 16).toInt
  keys.zipIdx.forM fun (p, i) => writeLocal p.2 (((t.tile c).row bits target i).map some)

/-- MCVT.I8 (R256). -/
def execMcvtI8 (g : Guard) (c : BitVec 1) (a b : BitVec 5) (s : State) : Result :=
  .next (s.scalar .core g (mcvt 8 32 8 c a b) (needTile c))
/-- MCVT.I4 (R256). -/
def execMcvtI4 (g : Guard) (c : BitVec 1) (a b : BitVec 5) (s : State) : Result :=
  .next (s.scalar .core g (mcvt 4 16 4 c a b) (needTile c))

/-! ### Geometry -/

/-- R257: the place of tile i in an output, 0 where the index names none. -/
def geomWord (w : Nat) (i : Nat) : Nat :=
  let tm := fieldN w 0 16
  let tn := fieldN w 16 16
  let m := fieldN w 32 16
  let n := fieldN w 48 16
  if tm = 0 ∨ tn = 0 ∨ m = 0 ∨ n = 0 then 0
  else
    let nt := ceilDiv n tn
    let mt := ceilDiv m tm
    if mt * nt ≤ i then 0
    else
      let row0 := i / nt * tm
      let col0 := i % nt * tn
      row0 + col0 * 2 ^ 16 + min tm (m - row0) * 2 ^ 32 + min tn (n - col0) * 2 ^ 48

/-- The geom CSR of the issuing hart (R60). -/
def State.geom (s : State) : Word := ((s.launchOf s.focus).map (·.info.geom)).getD 0

/-- GEOM (R257): the geometry is x[b], or the geom CSR where b names x0. -/
def execGeom (g : Guard) (d a b : BitVec 5) (s : State) : Result :=
  .next (s.scalar .core g (do
    checkPorts [a, b, d]
    let i ← readX a
    let s ← get
    let w ← if b = 0 then pure s.geom else readX b
    writeX d (BitVec.ofNat 64 (geomWord w.toNat i.toNat))))

/-- R259: the search of the group table, from group g with the tiles before it. -/
def geomgFrom (tm tn n nt i : Nat) : (groups : List (Nat × Nat)) → (g base : Nat) → Nat × Nat
  | [], _, _ => (0, 0xFFFFFFFF00000000)
  | (mg, fr) :: r, g, base =>
    let t := ceilDiv mg tm * nt
    if i < base + t then
      let k := i - base
      let row0 := (fr + k / nt * tm) % 2 ^ 32
      let col0 := k % nt * tn
      (row0 + col0 * 2 ^ 32, min tm (mg - k / nt * tm) + min tn (n - col0) * 2 ^ 16 + g * 2 ^ 32)
    else geomgFrom tm tn n nt i r (g + 1) (base + t)

/-- R259: both result words of GEOMG for a geometry and a group table. -/
def geomgWords (w i : Nat) (groups : List (Nat × Nat)) : Nat × Nat :=
  let tm := fieldN w 0 16
  let tn := fieldN w 16 16
  let n := fieldN w 48 16
  if tm = 0 ∨ tn = 0 ∨ n = 0 then (0, 0xFFFFFFFF00000000) else geomgFrom tm tn n (ceilDiv n tn) i groups 0 0

/-- GEOMG (R258, R259): the destination is the pair x[2d], x[2d + 1]. -/
def execGeomg (g : Guard) (d : BitVec 4) (a : BitVec 5) (s : State) : Result :=
  let lo : BitVec 5 := BitVec.ofNat 5 (2 * d.toNat)
  .next (s.scalar .core g (do
    openGate
    checkPorts [a, lo, lo + 1]
    let i ← readX a
    let e4 ← readE 4
    let key ← tcmRange e4 8
    let head ← readLocal key 8
    let n := fieldN (ofBytes head) 0 12
    let s ← get
    let key ← tcmRange e4 (8 + 8 * n)
    aligned e4 8
    let bs ← readLocal key (8 + 8 * n)
    let groups := (List.range n).map fun k => (numAt bs (8 + 8 * k) 4, numAt bs (12 + 8 * k) 4)
    let (r0, r1) := geomgWords s.geom.toNat i.toNat groups
    writeX lo (BitVec.ofNat 64 r0)
    writeX (lo + 1) (BitVec.ofNat 64 r1)))

end Sys2Proof.Machine
end

