-- ==== Sys2Proof/WellFormed.lean ====
section
/-! DEFINITION. Which instructions the word alone admits: the checks of R158 step 2 that are not already a matter of a
field's width. An instruction that fails one has no meaning of its own: its word is a reserved encoding (R159). -/

namespace Sys2Proof

/-- R133, R135: the guard "not p0" is reserved. -/
def Guard.ok (g : Guard) : Bool := !(g.neg && g.p == 0)

/-- R165: pe may not equal a nonzero pd. -/
def pairOk (pd pe : BitVec 3) : Bool := !(pd == pe && pd != 0)

/-- R170: a FENCE scope is 1 to 4. -/
def scopeOk (s : BitVec 3) : Bool := decide (1 ≤ s.toNat) && decide (s.toNat ≤ 4)

/-- R171: a barrier level is 1 to 4. -/
def levelOk (l : BitVec 5) : Bool := decide (1 ≤ l.toNat) && decide (l.toNat ≤ 4)

/-- R158 step 2, R159, R162 to R183: the word holds no reserved value. Events have no word and nothing to check. -/
def Instr.wellFormed : Instr → Bool
  | .add g _ _ _ => g.ok
  | .sub g _ _ _ => g.ok
  | .and g _ _ _ => g.ok
  | .or g _ _ _ => g.ok
  | .xor g _ _ _ => g.ok
  | .andn g _ _ _ => g.ok
  | .sll g _ _ _ => g.ok
  | .srl g _ _ _ => g.ok
  | .sra g _ _ _ => g.ok
  | .ror g _ _ _ => g.ok
  | .slt g _ _ _ => g.ok
  | .sltu g _ _ _ => g.ok
  | .min g _ _ _ => g.ok
  | .max g _ _ _ => g.ok
  | .minu g _ _ _ => g.ok
  | .maxu g _ _ _ => g.ok
  | .addsh1 g _ _ _ => g.ok
  | .addsh2 g _ _ _ => g.ok
  | .addsh3 g _ _ _ => g.ok
  | .clz g _ _ => g.ok
  | .ctz g _ _ => g.ok
  | .popc g _ _ => g.ok
  | .byterev g _ _ => g.ok
  | .sextw g _ _ => g.ok
  | .zextw g _ _ => g.ok
  | .addw g _ _ _ => g.ok
  | .subw g _ _ _ => g.ok
  | .mul g _ _ _ => g.ok
  | .mulh g _ _ _ => g.ok
  | .mulhu g _ _ _ => g.ok
  | .mulhsu g _ _ _ => g.ok
  | .div g _ _ _ => g.ok
  | .divu g _ _ _ => g.ok
  | .rem g _ _ _ => g.ok
  | .remu g _ _ _ => g.ok
  | .addi g _ _ _ => g.ok
  | .andi g _ _ _ => g.ok
  | .ori g _ _ _ => g.ok
  | .xori g _ _ _ => g.ok
  | .slti g _ _ _ => g.ok
  | .sltiu g _ _ _ => g.ok
  | .slli g _ _ _ => g.ok
  | .srli g _ _ _ => g.ok
  | .srai g _ _ _ => g.ok
  | .rori g _ _ _ => g.ok
  | .li g _ _ => g.ok
  | .lis g _ _ => g.ok
  | .addpc g _ _ => g.ok
  | .cmp g m d _ _ e _ => g.ok && m != 3 && pairOk d e
  | .cmpi g m d _ _ e _ => g.ok && m != 3 && pairOk d e
  | .pand g _ _ _ => g.ok
  | .por g _ _ _ => g.ok
  | .pxor g _ _ _ => g.ok
  | .pandn g _ _ _ => g.ok
  | .porn g _ _ _ => g.ok
  | .pnot g _ _ => g.ok
  | .pfromx g _ _ => g.ok
  | .ptox g _ _ => g.ok
  | .pfirst g _ _ => g.ok
  | .pcnt g _ _ => g.ok
  | .fcmp g m d _ _ e c => g.ok && m != 3 && c.toNat < 4 && pairOk d e
  | .vcmp g t d _ _ e _ => g.ok && t != 3 && pairOk d e
  | .vfcmp g t d _ _ e c => g.ok && t != 3 && c.toNat < 4 && pairOk d e
  | .j g _ => g.ok
  | .jal g _ => g.ok
  | .jalr g _ _ _ => g.ok
  | .djnz g _ _ => g.ok
  | .rep g _ _ _ => g.ok
  | .trpForm g _ _ => g.ok
  | .trpSplit g => g.ok
  | .trpPos g _ => g.ok
  | .trpWidth g _ => g.ok
  | .ld g _ _ _ _ _ => g.ok
  | .ldu g _ _ _ s _ => g.ok && s != 3
  | .st g _ _ _ _ _ => g.ok
  | .sto g _ _ _ _ _ => g.ok
  | .fld g _ _ _ s _ => g.ok && s != 3
  | .fst g _ _ _ s _ => g.ok && s != 3
  | .vld g _ _ _ _ _ => g.ok
  | .vst g _ _ _ _ _ => g.ok
  | .amoAdd g _ _ _ _ _ => g.ok
  | .amoAnd g _ _ _ _ _ => g.ok
  | .amoOr g _ _ _ _ _ => g.ok
  | .amoXor g _ _ _ _ _ => g.ok
  | .amoMin g _ _ _ _ _ => g.ok
  | .amoMax g _ _ _ _ _ => g.ok
  | .amoSwap g _ _ _ _ _ => g.ok
  | .amoCas g d _ _ _ _ => g.ok && d != 0
  | .fence g s => g.ok && scopeOk s
  | .fenceSt g s => g.ok && scopeOk s
  | .fenceLd g s => g.ok && scopeOk s
  | .sync g l => g.ok && levelOk l
  | .arrive g l => g.ok && levelOk l
  | .arrived g l _ => g.ok && levelOk l
  | .wait g l => g.ok && levelOk l
  | .waitdc g _ _ => g.ok
  | .rgn g _ => g.ok
  | .yield g => g.ok
  | .phaseX g l => g.ok && levelOk l
  | .cpy g _ _ _ v _ _ => g.ok && v != 7
  | .fadd g _ _ _ t => g.ok && t.toNat < 3
  | .fsub g _ _ _ t => g.ok && t.toNat < 3
  | .fmul g _ _ _ t => g.ok && t.toNat < 3
  | .fmin g _ _ _ t => g.ok && t.toNat < 3
  | .fmax g _ _ _ t => g.ok && t.toNat < 3
  | .fdiv g _ _ _ t => g.ok && t.toNat < 3
  | .fsqrt g _ _ t => g.ok && t.toNat < 3
  | .ffma g _ _ _ t => g.ok && t.toNat < 3
  | .fmvxf g _ _ => g.ok
  | .fmvfx g _ _ => g.ok
  | .fcvtFX g _ _ => g.ok
  | .fcvtXF g _ _ => g.ok
  | .fkey g _ _ => g.ok
  | .fclass g _ _ => g.ok
  | .vadd g _ _ _ t => g.ok && t != 3
  | .vsub g _ _ _ t => g.ok && t != 3
  | .vmul g _ _ _ t => g.ok && t != 3
  | .vmin g _ _ _ t => g.ok && t != 3
  | .vmax g _ _ _ t => g.ok && t != 3
  | .vminu g _ _ _ t => g.ok && t != 3
  | .vmaxu g _ _ _ t => g.ok && t != 3
  | .vand g _ _ _ t => g.ok && t != 3
  | .vor g _ _ _ t => g.ok && t != 3
  | .vxor g _ _ _ t => g.ok && t != 3
  | .vsll g _ _ _ t => g.ok && t != 3
  | .vsrl g _ _ _ t => g.ok && t != 3
  | .vsra g _ _ _ t => g.ok && t != 3
  | .vabs g _ _ t => g.ok && t != 3
  | .vadds g _ _ _ t => g.ok && t != 3
  | .vsubs g _ _ _ t => g.ok && t != 3
  | .vfadd g _ _ _ t => g.ok && t != 3
  | .vfsub g _ _ _ t => g.ok && t != 3
  | .vfmul g _ _ _ t => g.ok && t != 3
  | .vfmin g _ _ _ t => g.ok && t != 3
  | .vfmax g _ _ _ t => g.ok && t != 3
  | .vffma g _ _ _ t => g.ok && t != 3
  | .vfdiv g _ _ _ t => g.ok && t != 3
  | .vfsqrt g _ _ t => g.ok && t != 3
  | .vfabs g _ _ t => g.ok && t != 3
  | .vfneg g _ _ t => g.ok && t != 3
  | .vbcast g _ _ t => g.ok && t != 3
  | .vbcastf g _ _ t => g.ok && t != 3
  | .vext g _ _ _ t => g.ok && t != 3
  | .vins g _ _ _ t => g.ok && t != 3
  | .vperm g _ _ _ t => g.ok && t != 3
  | .vredadd g _ _ t => g.ok && t != 3
  | .vredmax g _ _ t => g.ok && t != 3
  | .vcvt g _ _ u t => g.ok && t != 3 && u != 3 && u != t
  | .vkey g _ _ t => g.ok && t != 3
  | .vmov g _ _ t => g.ok && t != 3
  | .vzero g _ t => g.ok && t != 3
  | .viota g _ t => g.ok && t != 3
  | .mma g _ _ _ p => g.ok && 1 ≤ p.toNat && p.toNat ≤ 6
  | .mz g _ => g.ok
  | .mrdF32 g _ _ _ => g.ok
  | .mrdBf16 g _ _ _ => g.ok
  | .mrdF16 g _ _ _ => g.ok
  | .mexp g _ _ => g.ok
  | .msete g _ _ => g.ok
  | .mred g _ _ _ => g.ok
  | .macc g _ _ _ => g.ok
  | .mcvtI8 g _ _ _ => g.ok
  | .geom g _ _ _ => g.ok
  | .geomg g _ _ => g.ok
  | .mcvtI4 g _ _ _ => g.ok
  | .bld g _ _ => g.ok
  | .brot g => g.ok
  | .bswap g => g.ok
  | .bst g _ _ => g.ok
  | .desc g _ _ _ => g.ok
  | .bkup g _ _ _ _ => g.ok
  | .unmk g _ _ _ _ => g.ok
  | .expnd g _ _ _ _ => g.ok
  | .nalloc g _ _ _ _ => g.ok
  | .rcyc g _ _ _ => g.ok
  | .nstat g _ _ _ => g.ok
  | .ninit g _ _ _ => g.ok
  | .nmsend g _ _ => g.ok
  | .nmovl g _ _ => g.ok
  | .nmrst g _ _ => g.ok
  | .ecall g => g.ok
  | .ebreak g => g.ok
  | .halt g => g.ok
  | .wfe g => g.ok
  | .fault g _ => g.ok
  | .tret g => g.ok
  | .csrrw g _ _ _ => g.ok
  | .csrrs g _ _ _ => g.ok
  | .csrrc g _ _ _ => g.ok
  | .sete g _ _ => g.ok
  | .gete g _ _ => g.ok
  | .rand g _ _ _ _ => g.ok
  | .mvN _ _ => true
  | .addN _ _ => true
  | .subN _ _ => true
  | .andN _ _ => true
  | .orN _ _ => true
  | .xorN _ _ => true
  | .sllN _ _ => true
  | .srlN _ _ => true
  | .sraN _ _ => true
  | .addiN _ _ => true
  | .liN _ _ => true
  | .slliN _ _ => true
  | .srliN _ _ => true
  | .sraiN _ _ => true
  | .ldDN _ _ => true
  | .stDN _ _ => true
  | .ldWN _ _ => true
  | .stWN _ _ => true
  | .vmovN _ _ => true
  | .jrN _ => true
  | .jalrN _ _ => true
  | .nopN => true
  | .haltN => true
  | .reservedEncoding _ => true
  | .fetchFault _ _ _ => true
  | .threadSwitchQuantum _ => true
  | .portWordArrival _ _ => true
  | .portTimeout _ => true
  | .troupeFormed _ => true
  | .trpFormTimeout _ => true
  | .ringDeliveryStart _ => true
  | .ringDeliveryDone _ => true
  | .bldFillDone _ => true
  | .bswapTimeout _ => true
  | .arrivedArrival _ _ => true
  | .barrierComplete _ _ _ => true
  | .holdAccept _ => true
  | .holdApply _ => true
  | .fbArrival _ _ _ _ _ => true
  | .fbAck _ => true
  | .storeBufferDrain _ => true
  | .cpyPacketInject _ => true
  | .stridedRequestInject _ => true
  | .routerForward _ => true
  | .bulkPerform _ => true
  | .orderedPerform _ => true
  | .hbmChannelService _ => true
  | .lantern _ _ => true
  | .lanternReceive _ _ => true
  | .watermark _ => true
  | .loadReply _ => true
  | .replyPortPush _ => true
  | .storeAck _ => true
  | .negativeReply _ => true
  | .faultRecordWrite _ => true
  | .reaperStart _ => true
  | .haltComplete _ => true
  | .wfeWake _ => true
  | .wfeTimeout _ => true
  | .tableWalk _ => true
  | .descApply _ => true
  | .bkupApply _ => true
  | .unmkApply _ => true
  | .expndApply _ => true
  | .nallocApply _ => true
  | .rcycApply _ => true
  | .nstatApply _ => true
  | .ninitApply _ => true
  | .nodeReply _ => true
  | .nmuBlockArrive _ => true
  | .nmuFill _ _ => true
  | .nmuGath _ _ => true
  | .nmuIred _ _ => true
  | .nmuRun _ _ => true
  | .nmuOverlayLoad _ _ => true
  | .holdTimeout _ _ => true
  | .runLimit _ => true
  | .nmuCompletion _ _ => true
  | .nmuStreamReset _ => true
  | .kick _ => true
  | .noticeAppend _ => true
  | .launchRecord _ => true
  | .launchPlacement => true
  | .launchRelease _ => true
  | .doneEmpty _ => true
  | .launchCompletion _ => true
  | .tctlResume _ => true
  | .tctlKill _ => true
  | .tctlPreempt _ => true
  | .tctlRestore _ => true
  | .preemptSave _ => true
  | .guestbookAppend _ => true
  | .nmuPreempt _ => true
  | .nmuRestore _ => true
  | .nmuSaveDone _ => true
  | .nmuRestoreDone _ => true
  | .invc _ => true
  | .invalidationDone => true
  | .excl _ => true
  | .fexcl _ => true
  | .cecntClear _ => true
  | .registerWrite _ => true
  | .scrub _ => true
  | .mcheckStateError _ => true
  | .flitRetry _ _ => true
  | .fabricRequest _ _ _ => true
  | .portDown _ => true
  | .timeMessage _ => true
  | .clockLockLost => true
  | .reductionPacket _ => true
  | .reductionTimeout _ _ => true
  | .reset => true
  | .fwgo _ => true
  | .imageCheck => true
  | .qreq _ => true
  | .quoteWrite => true
  | .bladeFailure _ => true
  | .thermalMcheck _ => true
  | .thermalPowerOff _ => true
  | .portUp _ => true
  | .supervisorAbort _ _ => true

end Sys2Proof
end

