-- ==== Sys2Proof/Decode.lean ====
section
/-! DEFINITION. From bits to instructions and back: the framing of R131, the formats of R136, the opcode map of
R161 to R183. A word that the map does not assign decodes to none and is a reserved encoding (R159). -/

namespace Sys2Proof

/-! ### Register fields (R137) -/

/-- A field that must be zero. -/
def zero5 (x : BitVec 5) : Option Unit := if x = 0 then some () else none

/-- An f register in a 5-bit field: bit 4 is zero. -/
def reg4 (x : BitVec 5) : Option (BitVec 4) := if x.toNat < 16 then some (x.setWidth 4) else none

/-- A p or e register in a 5-bit field: bits [4:3] are zero. -/
def reg3 (x : BitVec 5) : Option (BitVec 3) := if x.toNat < 8 then some (x.setWidth 3) else none

/-- A dependence counter, or VCVT's target type, in a 5-bit field: bits [4:2] are zero. -/
def reg2 (x : BitVec 5) : Option (BitVec 2) := if x.toNat < 4 then some (x.setWidth 2) else none

/-- An accumulator in a 5-bit field: bits [4:1] are zero. -/
def reg1 (x : BitVec 5) : Option (BitVec 1) := if x.toNat < 2 then some (x.setWidth 1) else none

/-- An even register of a pair (R180, R247): bit 0 is zero, and bits [4:1] number the pair. -/
def regEven (x : BitVec 5) : Option (BitVec 4) :=
  if x.extractLsb' 0 1 = 0 then some (x.extractLsb' 1 4) else none

/-- An f register's number in a 5-bit field. -/
def wide4 (x : BitVec 4) : BitVec 5 := x.setWidth 5
/-- A p or e register's number in a 5-bit field. -/
def wide3 (x : BitVec 3) : BitVec 5 := x.setWidth 5
/-- A counter's number in a 5-bit field. -/
def wide2 (x : BitVec 2) : BitVec 5 := x.setWidth 5
/-- An accumulator's number in a 5-bit field. -/
def wide1 (x : BitVec 1) : BitVec 5 := x.setWidth 5
/-- The even register of a pair in a 5-bit field. -/
def wideEven (x : BitVec 4) : BitVec 5 := x ++ 0#1

/-! ### Formats (R133, R136): bits [31:22] are the guard and the major, bits [21:1] the body -/

/-- The guard fields gn and gp. -/
def guardOf (w : W32) : Guard := ⟨w.extractLsb' 31 1 = 1#1, w.extractLsb' 28 3⟩

/-- A 32-bit word from its guard, major and body. -/
def word (g : Guard) (major : BitVec 6) (body : BitVec 21) : W32 :=
  BitVec.ofBool g.neg ++ g.p ++ major ++ body ++ 1#1

/-- A word of format A, and of format X, whose fields stand in the same places. -/
def wordA (g : Guard) (major : BitVec 6) (d a b : BitVec 5) (fn : BitVec 6) : W32 := word g major (d ++ a ++ b ++ fn)
/-- A word of format I. -/
def wordI (g : Guard) (major : BitVec 6) (d a : BitVec 5) (i : BitVec 11) : W32 := word g major (d ++ a ++ i)
/-- A word of format U. -/
def wordU (g : Guard) (major : BitVec 6) (d : BitVec 5) (i : BitVec 16) : W32 := word g major (d ++ i)
/-- A word of format B. -/
def wordB (g : Guard) (major : BitVec 6) (i : BitVec 21) : W32 := word g major i
/-- A word of format P. -/
def wordP (g : Guard) (major : BitVec 6) (m : BitVec 2) (pd : BitVec 3) (a b : BitVec 5) (pe cond : BitVec 3) : W32 :=
  word g major (m ++ pd ++ a ++ b ++ pe ++ cond)
/-- A word of format M. -/
def wordM (g : Guard) (major : BitVec 6) (d a : BitVec 5) (i : BitVec 7) (s c : BitVec 2) : W32 :=
  word g major (d ++ a ++ i ++ s ++ c)

/-! ### The majors, each from the fields of its format -/

/-- R162: the ALU codes. -/
def decodeAlu (g : Guard) (d a b : BitVec 5) (fn : BitVec 6) : Option Instr :=
  match fn with
  | 0x00#6 => some (.add g d a b)
  | 0x01#6 => some (.sub g d a b)
  | 0x02#6 => some (.and g d a b)
  | 0x03#6 => some (.or g d a b)
  | 0x04#6 => some (.xor g d a b)
  | 0x05#6 => some (.andn g d a b)
  | 0x06#6 => some (.sll g d a b)
  | 0x07#6 => some (.srl g d a b)
  | 0x08#6 => some (.sra g d a b)
  | 0x09#6 => some (.ror g d a b)
  | 0x0a#6 => some (.slt g d a b)
  | 0x0b#6 => some (.sltu g d a b)
  | 0x0c#6 => some (.min g d a b)
  | 0x0d#6 => some (.max g d a b)
  | 0x0e#6 => some (.minu g d a b)
  | 0x0f#6 => some (.maxu g d a b)
  | 0x10#6 => some (.addsh1 g d a b)
  | 0x11#6 => some (.addsh2 g d a b)
  | 0x12#6 => some (.addsh3 g d a b)
  | 0x13#6 => do let _ ← zero5 b; some (.clz g d a)
  | 0x14#6 => do let _ ← zero5 b; some (.ctz g d a)
  | 0x15#6 => do let _ ← zero5 b; some (.popc g d a)
  | 0x16#6 => do let _ ← zero5 b; some (.byterev g d a)
  | 0x17#6 => do let _ ← zero5 b; some (.sextw g d a)
  | 0x18#6 => do let _ ← zero5 b; some (.zextw g d a)
  | 0x19#6 => some (.addw g d a b)
  | 0x1a#6 => some (.subw g d a b)
  | _ => none

/-- R163: the MULDIV codes. -/
def decodeMulDiv (g : Guard) (d a b : BitVec 5) (fn : BitVec 6) : Option Instr :=
  match fn with
  | 0x00#6 => some (.mul g d a b)
  | 0x01#6 => some (.mulh g d a b)
  | 0x02#6 => some (.mulhu g d a b)
  | 0x03#6 => some (.mulhsu g d a b)
  | 0x04#6 => some (.div g d a b)
  | 0x05#6 => some (.divu g d a b)
  | 0x06#6 => some (.rem g d a b)
  | 0x07#6 => some (.remu g d a b)
  | _ => none

/-- R166: the PLOG codes. -/
def decodePlog (g : Guard) (d a b : BitVec 5) (fn : BitVec 6) : Option Instr :=
  match fn with
  | 0x00#6 => do let d ← reg3 d; let a ← reg3 a; let b ← reg3 b; some (.pand g d a b)
  | 0x01#6 => do let d ← reg3 d; let a ← reg3 a; let b ← reg3 b; some (.por g d a b)
  | 0x02#6 => do let d ← reg3 d; let a ← reg3 a; let b ← reg3 b; some (.pxor g d a b)
  | 0x03#6 => do let d ← reg3 d; let a ← reg3 a; let b ← reg3 b; some (.pandn g d a b)
  | 0x04#6 => do let d ← reg3 d; let a ← reg3 a; let b ← reg3 b; some (.porn g d a b)
  | 0x05#6 => do let d ← reg3 d; let a ← reg3 a; let _ ← zero5 b; some (.pnot g d a)
  | 0x08#6 => do let d ← reg3 d; let _ ← zero5 b; some (.pfromx g d a)
  | 0x09#6 => do let a ← reg3 a; let _ ← zero5 b; some (.ptox g d a)
  | 0x0a#6 => do let d ← reg3 d; let a ← reg3 a; let _ ← zero5 b; some (.pfirst g d a)
  | 0x0b#6 => do let a ← reg3 a; let _ ← zero5 b; some (.pcnt g d a)
  | _ => none

/-- R167: the TRP codes. -/
def decodeTrp (g : Guard) (d a b : BitVec 5) (fn : BitVec 6) : Option Instr :=
  match fn with
  | 0x00#6 => do let _ ← zero5 d; some (.trpForm g a b)
  | 0x01#6 => do let _ ← zero5 d; let _ ← zero5 a; let _ ← zero5 b; some (.trpSplit g)
  | 0x02#6 => do let _ ← zero5 a; let _ ← zero5 b; some (.trpPos g d)
  | 0x03#6 => do let _ ← zero5 a; let _ ← zero5 b; some (.trpWidth g d)
  | _ => none

/-- R171: the SYNC codes. RGN names an e register, WAITDC and ARRIVED a counter. -/
def decodeSync (g : Guard) (d a b : BitVec 5) (fn : BitVec 6) : Option Instr :=
  match fn with
  | 0x00#6 => do let _ ← zero5 d; let l := a; let _ ← zero5 b; some (.sync g l)
  | 0x01#6 => do let _ ← zero5 d; let l := a; let _ ← zero5 b; some (.arrive g l)
  | 0x02#6 => do let _ ← zero5 d; let l := a; let c ← reg2 b; some (.arrived g l c)
  | 0x03#6 => do let _ ← zero5 d; let l := a; let _ ← zero5 b; some (.wait g l)
  | 0x04#6 => do let _ ← zero5 d; let c ← reg2 a; let h := b; some (.waitdc g c h)
  | 0x05#6 => do let _ ← zero5 d; let e ← reg3 a; let _ ← zero5 b; some (.rgn g e)
  | 0x06#6 => do let _ ← zero5 d; let _ ← zero5 a; let _ ← zero5 b; some (.yield g)
  | 0x07#6 => do let _ ← zero5 d; let l := a; let _ ← zero5 b; some (.phaseX g l)
  | _ => none

/-- R174: the FMISC codes. -/
def decodeFmisc (g : Guard) (d a b : BitVec 5) (fn : BitVec 6) : Option Instr :=
  match fn with
  | 0x00#6 => do let a ← reg4 a; let _ ← zero5 b; some (.fmvxf g d a)
  | 0x01#6 => do let d ← reg4 d; let _ ← zero5 b; some (.fmvfx g d a)
  | 0x02#6 => do let d ← reg4 d; let _ ← zero5 b; some (.fcvtFX g d a)
  | 0x03#6 => do let a ← reg4 a; let _ ← zero5 b; some (.fcvtXF g d a)
  | 0x05#6 => do let a ← reg4 a; let _ ← zero5 b; some (.fkey g d a)
  | 0x06#6 => do let a ← reg4 a; let _ ← zero5 b; some (.fclass g d a)
  | _ => none

/-- R179: the MACC codes, with the field classes of R247. -/
def decodeMacc (g : Guard) (d a b : BitVec 5) (fn : BitVec 6) : Option Instr :=
  match fn with
  | 0x00#6 => do let c ← reg1 d; let _ ← zero5 a; let _ ← zero5 b; some (.mz g c)
  | 0x01#6 => do let c ← reg1 d; let k ← reg2 b; some (.mrdF32 g c a k)
  | 0x02#6 => do let c ← reg1 d; let k ← reg2 b; some (.mrdBf16 g c a k)
  | 0x03#6 => do let c ← reg1 d; let k ← reg2 b; some (.mrdF16 g c a k)
  | 0x04#6 => do let c ← reg1 a; let _ ← zero5 b; some (.mexp g d c)
  | 0x05#6 => do let c ← reg1 d; let _ ← zero5 b; some (.msete g c a)
  | 0x06#6 => do let c ← reg1 d; let k ← reg2 b; some (.mred g c a k)
  | 0x07#6 => do let c ← reg1 d; some (.macc g c a b)
  | 0x08#6 => do let c ← reg1 d; some (.mcvtI8 g c a b)
  | 0x09#6 => some (.geom g d a b)
  | 0x0a#6 => do let d ← regEven d; let _ ← zero5 b; some (.geomg g d a)
  | 0x0b#6 => do let c ← reg1 d; some (.mcvtI4 g c a b)
  | _ => none

/-- R179: the BLAT codes, with the field classes of R247. -/
def decodeBlat (g : Guard) (d a b : BitVec 5) (fn : BitVec 6) : Option Instr :=
  match fn with
  | 0x00#6 => do let _ ← zero5 d; let k ← reg2 b; some (.bld g a k)
  | 0x01#6 => do let _ ← zero5 d; let _ ← zero5 a; let _ ← zero5 b; some (.brot g)
  | 0x02#6 => do let _ ← zero5 d; let _ ← zero5 a; let _ ← zero5 b; some (.bswap g)
  | 0x03#6 => do let _ ← zero5 d; let k ← reg2 b; some (.bst g a k)
  | _ => none

/-- R181: the SYS codes. -/
def decodeSys (g : Guard) (d a b : BitVec 5) (fn : BitVec 6) : Option Instr :=
  match fn with
  | 0x00#6 => do let _ ← zero5 d; let _ ← zero5 a; let _ ← zero5 b; some (.ecall g)
  | 0x01#6 => do let _ ← zero5 d; let _ ← zero5 a; let _ ← zero5 b; some (.ebreak g)
  | 0x02#6 => do let _ ← zero5 d; let _ ← zero5 a; let _ ← zero5 b; some (.halt g)
  | 0x03#6 => do let _ ← zero5 d; let _ ← zero5 a; let _ ← zero5 b; some (.wfe g)
  | 0x04#6 => do let _ ← zero5 d; let _ ← zero5 b; some (.fault g a)
  | 0x10#6 => do let _ ← zero5 d; let _ ← zero5 a; let _ ← zero5 b; some (.tret g)
  | _ => none

/-- R181: the EREG codes. -/
def decodeEreg (g : Guard) (d a b : BitVec 5) (fn : BitVec 6) : Option Instr :=
  match fn with
  | 0x00#6 => do let d ← reg3 d; let _ ← zero5 b; some (.sete g d a)
  | 0x01#6 => do let a ← reg3 a; let _ ← zero5 b; some (.gete g d a)
  | _ => none

/-- R169: AMO fn6 is operation, ordering and size. -/
def decodeAmo (g : Guard) (d a b : BitVec 5) (fn : BitVec 6) : Option Instr :=
  let o := fn.extractLsb' 1 2
  let z := fn.extractLsb' 0 1
  match fn.extractLsb' 3 3 with
  | 0x0#3 => some (.amoAdd g d a b o z)
  | 0x1#3 => some (.amoAnd g d a b o z)
  | 0x2#3 => some (.amoOr g d a b o z)
  | 0x3#3 => some (.amoXor g d a b o z)
  | 0x4#3 => some (.amoMin g d a b o z)
  | 0x5#3 => some (.amoMax g d a b o z)
  | 0x6#3 => some (.amoSwap g d a b o z)
  | 0x7#3 => some (.amoCas g d a b o z)
  | _ => none

/-- R170: FENCE fn6 is scope and kind. -/
def decodeFence (g : Guard) (d a b : BitVec 5) (fn : BitVec 6) : Option Instr :=
  let s := fn.extractLsb' 3 3
  match fn.extractLsb' 0 3 with
  | 0x0#3 => do let _ ← zero5 d; let _ ← zero5 a; let _ ← zero5 b; some (.fence g s)
  | 0x1#3 => do let _ ← zero5 d; let _ ← zero5 a; let _ ← zero5 b; some (.fenceSt g s)
  | 0x2#3 => do let _ ← zero5 d; let _ ← zero5 a; let _ ← zero5 b; some (.fenceLd g s)
  | _ => none

/-- R173: FOP fn6 is operation and type. -/
def decodeFop (g : Guard) (d a b : BitVec 5) (fn : BitVec 6) : Option Instr :=
  let t := fn.extractLsb' 0 3
  match fn.extractLsb' 3 3 with
  | 0x0#3 => do let d ← reg4 d; let a ← reg4 a; let b ← reg4 b; some (.fadd g d a b t)
  | 0x1#3 => do let d ← reg4 d; let a ← reg4 a; let b ← reg4 b; some (.fsub g d a b t)
  | 0x2#3 => do let d ← reg4 d; let a ← reg4 a; let b ← reg4 b; some (.fmul g d a b t)
  | 0x3#3 => do let d ← reg4 d; let a ← reg4 a; let b ← reg4 b; some (.fmin g d a b t)
  | 0x4#3 => do let d ← reg4 d; let a ← reg4 a; let b ← reg4 b; some (.fmax g d a b t)
  | 0x5#3 => do let d ← reg4 d; let a ← reg4 a; let b ← reg4 b; some (.fdiv g d a b t)
  | 0x6#3 => do let d ← reg4 d; let a ← reg4 a; let _ ← zero5 b; some (.fsqrt g d a t)
  | 0x7#3 => do let d ← reg4 d; let a ← reg4 a; let b ← reg4 b; some (.ffma g d a b t)
  | _ => none

/-- R175: VINT fn6 is operation and type. -/
def decodeVint (g : Guard) (d a b : BitVec 5) (fn : BitVec 6) : Option Instr :=
  let t := fn.extractLsb' 0 2
  match fn.extractLsb' 2 4 with
  | 0x0#4 => some (.vadd g d a b t)
  | 0x1#4 => some (.vsub g d a b t)
  | 0x2#4 => some (.vmul g d a b t)
  | 0x3#4 => some (.vmin g d a b t)
  | 0x4#4 => some (.vmax g d a b t)
  | 0x5#4 => some (.vminu g d a b t)
  | 0x6#4 => some (.vmaxu g d a b t)
  | 0x7#4 => some (.vand g d a b t)
  | 0x8#4 => some (.vor g d a b t)
  | 0x9#4 => some (.vxor g d a b t)
  | 0xa#4 => some (.vsll g d a b t)
  | 0xb#4 => some (.vsrl g d a b t)
  | 0xc#4 => some (.vsra g d a b t)
  | 0xd#4 => do let _ ← zero5 b; some (.vabs g d a t)
  | 0xe#4 => some (.vadds g d a b t)
  | 0xf#4 => some (.vsubs g d a b t)
  | _ => none

/-- R176: VFLT fn6 is operation and type. -/
def decodeVflt (g : Guard) (d a b : BitVec 5) (fn : BitVec 6) : Option Instr :=
  let t := fn.extractLsb' 0 2
  match fn.extractLsb' 2 4 with
  | 0x0#4 => some (.vfadd g d a b t)
  | 0x1#4 => some (.vfsub g d a b t)
  | 0x2#4 => some (.vfmul g d a b t)
  | 0x3#4 => some (.vfmin g d a b t)
  | 0x4#4 => some (.vfmax g d a b t)
  | 0x5#4 => some (.vffma g d a b t)
  | 0x6#4 => some (.vfdiv g d a b t)
  | 0x7#4 => do let _ ← zero5 b; some (.vfsqrt g d a t)
  | 0x8#4 => do let _ ← zero5 b; some (.vfabs g d a t)
  | 0x9#4 => do let _ ← zero5 b; some (.vfneg g d a t)
  | _ => none

/-- R177: VMISC fn6 is operation and type; VCVT names its target type in b. -/
def decodeVmisc (g : Guard) (d a b : BitVec 5) (fn : BitVec 6) : Option Instr :=
  let t := fn.extractLsb' 0 2
  match fn.extractLsb' 2 4 with
  | 0x0#4 => do let _ ← zero5 b; some (.vbcast g d a t)
  | 0x1#4 => do let a ← reg4 a; let _ ← zero5 b; some (.vbcastf g d a t)
  | 0x2#4 => some (.vext g d a b t)
  | 0x3#4 => some (.vins g d a b t)
  | 0x4#4 => some (.vperm g d a b t)
  | 0x5#4 => do let d ← reg4 d; let _ ← zero5 b; some (.vredadd g d a t)
  | 0x6#4 => do let d ← reg4 d; let _ ← zero5 b; some (.vredmax g d a t)
  | 0x7#4 => do let u ← reg2 b; some (.vcvt g d a u t)
  | 0x8#4 => do let _ ← zero5 b; some (.vkey g d a t)
  | 0x9#4 => do let _ ← zero5 b; some (.vmov g d a t)
  | 0xa#4 => do let _ ← zero5 a; let _ ← zero5 b; some (.vzero g d t)
  | 0xb#4 => do let _ ← zero5 a; let _ ← zero5 b; some (.viota g d t)
  | _ => none

/-- R180: NODE fn6 is counter and operation. -/
def decodeNode (g : Guard) (d a b : BitVec 5) (fn : BitVec 6) : Option Instr :=
  let k := fn.extractLsb' 4 2
  match fn.extractLsb' 0 4 with
  | 0x0#4 => do let d ← regEven d; let _ ← zero5 b; some (.desc g d a k)
  | 0x1#4 => some (.bkup g d a b k)
  | 0x2#4 => some (.unmk g d a b k)
  | 0x3#4 => some (.expnd g d a b k)
  | 0x4#4 => some (.nalloc g d a b k)
  | 0x5#4 => do let _ ← zero5 b; some (.rcyc g d a k)
  | 0x6#4 => do let d ← regEven d; let _ ← zero5 b; some (.nstat g d a k)
  | 0x7#4 => do let _ ← zero5 b; some (.ninit g d a k)
  | _ => none

/-- R180: NMC fn6 is counter and operation. -/
def decodeNmc (g : Guard) (d a b : BitVec 5) (fn : BitVec 6) : Option Instr :=
  let k := fn.extractLsb' 4 2
  match fn.extractLsb' 0 4 with
  | 0x0#4 => do let _ ← zero5 d; let _ ← zero5 b; some (.nmsend g a k)
  | 0x1#4 => do let _ ← zero5 d; let _ ← zero5 b; some (.nmovl g a k)
  | 0x2#4 => do let _ ← zero5 d; let _ ← zero5 b; some (.nmrst g a k)
  | _ => none

/-- R164: SHI, imm11 [10:8] the kind, [7:6] zero, [5:0] the amount. -/
def decodeShi (g : Guard) (d a : BitVec 5) (i : BitVec 11) : Option Instr :=
  let h := i.extractLsb' 0 6
  if i.extractLsb' 6 2 = 0 then
    match i.extractLsb' 8 3 with
    | 0#3 => some (.slli g d a h)
    | 1#3 => some (.srli g d a h)
    | 2#3 => some (.srai g d a h)
    | 3#3 => some (.rori g d a h)
    | _ => none
  else none

/-- R167: REP, d zero, imm11 [10:7] the body length minus one, [6:4] the e register, [3:0] zero. -/
def decodeRep (g : Guard) (d a : BitVec 5) (i : BitVec 11) : Option Instr :=
  if d = 0 ∧ i.extractLsb' 0 4 = 0 then some (.rep g a (i.extractLsb' 7 4) (i.extractLsb' 4 3)) else none

/-- R165: FCMP names f registers in its a and b fields. -/
def decodeFcmp (g : Guard) (m : BitVec 2) (pd : BitVec 3) (a b : BitVec 5) (pe c : BitVec 3) : Option Instr := do
  let a ← reg4 a; let b ← reg4 b; some (.fcmp g m pd a b pe c)

/-- R168: FLD and FST name an f register in d. -/
def decodeFmem (load : Bool) (g : Guard) (d a : BitVec 5) (i : BitVec 7) (s c : BitVec 2) : Option Instr := do
  let d ← reg4 d
  some (if load then .fld g d a i s c else .fst g d a i s c)

/-- R168: the vector modes 10 and 11 are reserved. -/
def decodeVmem (load : Bool) (g : Guard) (d a : BitVec 5) (i : BitVec 7) (s c : BitVec 2) : Option Instr :=
  if s.extractLsb' 1 1 = 0 then
    some (if load then .vld g d a i (s.extractLsb' 0 1) c else .vst g d a i (s.extractLsb' 0 1) c)
  else none

/-- R178: MMA names an accumulator, an x register and an f register. -/
def decodeMma (g : Guard) (c a f : BitVec 5) (p : BitVec 6) : Option Instr := do
  let c ← reg1 c; let f ← reg4 f; some (.mma g c a f p)

/-- R181: RAND's word select is fn6 [1:0], and codes from 4 are reserved. -/
def decodeRand (g : Guard) (d a b : BitVec 5) (fn : BitVec 6) : Option Instr :=
  if fn.extractLsb' 2 4 = 0 then some (.rand g d a b (fn.extractLsb' 0 2)) else none

/-- R161: the majors. Every major not listed is reserved. -/
def decodeMajor (g : Guard) (major : BitVec 6) (body : BitVec 21) : Option Instr :=
  let d := body.extractLsb' 16 5
  let a := body.extractLsb' 11 5
  let b := body.extractLsb' 6 5
  let fn := body.extractLsb' 0 6
  let i11 := body.extractLsb' 0 11
  let i16 := body.extractLsb' 0 16
  let m := body.extractLsb' 19 2
  let pd := body.extractLsb' 16 3
  let pe := body.extractLsb' 3 3
  let cond := body.extractLsb' 0 3
  let i7 := body.extractLsb' 4 7
  let s := body.extractLsb' 2 2
  let c := body.extractLsb' 0 2
  match major with
  | 0x01#6 => decodeAlu g d a b fn
  | 0x02#6 => decodeMulDiv g d a b fn
  | 0x03#6 => some (.addi g d a i11)
  | 0x04#6 => some (.andi g d a i11)
  | 0x05#6 => some (.ori g d a i11)
  | 0x06#6 => some (.xori g d a i11)
  | 0x07#6 => some (.slti g d a i11)
  | 0x08#6 => some (.sltiu g d a i11)
  | 0x09#6 => decodeShi g d a i11
  | 0x0a#6 => some (.li g d i16)
  | 0x0b#6 => some (.lis g d i16)
  | 0x0c#6 => some (.addpc g d i16)
  | 0x0d#6 => some (.cmp g m pd a b pe cond)
  | 0x0e#6 => some (.cmpi g m pd a b pe cond)
  | 0x0f#6 => decodePlog g d a b fn
  | 0x10#6 => decodeFcmp g m pd a b pe cond
  | 0x11#6 => some (.vcmp g m pd a b pe cond)
  | 0x12#6 => some (.vfcmp g m pd a b pe cond)
  | 0x13#6 => some (.j g body)
  | 0x14#6 => some (.jal g body)
  | 0x15#6 => some (.jalr g d a i11)
  | 0x16#6 => some (.djnz g d i16)
  | 0x17#6 => decodeRep g d a i11
  | 0x18#6 => decodeTrp g d a b fn
  | 0x19#6 => some (.ld g d a i7 s c)
  | 0x1a#6 => some (.ldu g d a i7 s c)
  | 0x1b#6 => some (.st g d a i7 s c)
  | 0x1c#6 => some (.sto g d a i7 s c)
  | 0x1d#6 => decodeFmem true g d a i7 s c
  | 0x1e#6 => decodeFmem false g d a i7 s c
  | 0x1f#6 => decodeVmem true g d a i7 s c
  | 0x20#6 => decodeVmem false g d a i7 s c
  | 0x21#6 => decodeAmo g d a b fn
  | 0x22#6 => decodeFence g d a b fn
  | 0x23#6 => decodeSync g d a b fn
  | 0x24#6 => some (.cpy g d a b (fn.extractLsb' 3 3) (fn.extractLsb' 2 1) (fn.extractLsb' 0 2))
  | 0x25#6 => decodeFop g d a b fn
  | 0x26#6 => decodeFmisc g d a b fn
  | 0x27#6 => decodeVint g d a b fn
  | 0x28#6 => decodeVflt g d a b fn
  | 0x29#6 => decodeVmisc g d a b fn
  | 0x2a#6 => decodeMma g d a b fn
  | 0x2b#6 => decodeMacc g d a b fn
  | 0x2c#6 => decodeBlat g d a b fn
  | 0x2d#6 => decodeNode g d a b fn
  | 0x2e#6 => decodeNmc g d a b fn
  | 0x2f#6 => decodeSys g d a b fn
  | 0x30#6 => some (.csrrw g d a i11)
  | 0x31#6 => some (.csrrs g d a i11)
  | 0x32#6 => some (.csrrc g d a i11)
  | 0x33#6 => decodeEreg g d a b fn
  | 0x34#6 => decodeRand g d a b fn
  | _ => none

/-- R131, R158: the instruction of a 32-bit word, none where step 2 of R158 refuses it. -/
def decode32 (w : W32) : Option Instr :=
  if w.extractLsb' 0 1 = 1#1 then
    (decodeMajor (guardOf w) (w.extractLsb' 22 6) (w.extractLsb' 1 21)).filter Instr.wellFormed
  else none

/-- R182, R183: the 16-bit set from op5, d and s. -/
def decodeOp5 (op : BitVec 5) (d s : BitVec 5) : Option Instr :=
  match op with
  | 0x01#5 => some (.mvN d s)
  | 0x02#5 => some (.addN d s)
  | 0x03#5 => some (.subN d s)
  | 0x04#5 => some (.andN d s)
  | 0x05#5 => some (.orN d s)
  | 0x06#5 => some (.xorN d s)
  | 0x07#5 => some (.sllN d s)
  | 0x08#5 => some (.srlN d s)
  | 0x09#5 => some (.sraN d s)
  | 0x0a#5 => do let i := s; some (.addiN d i)
  | 0x0b#5 => do let i := s; some (.liN d i)
  | 0x0c#5 => do let h := s; some (.slliN d h)
  | 0x0d#5 => do let h := s; some (.srliN d h)
  | 0x0e#5 => do let h := s; some (.sraiN d h)
  | 0x0f#5 => some (.ldDN d s)
  | 0x10#5 => some (.stDN d s)
  | 0x11#5 => some (.ldWN d s)
  | 0x12#5 => some (.stWN d s)
  | 0x13#5 => some (.vmovN d s)
  | 0x14#5 => do let _ ← zero5 d; some (.jrN s)
  | 0x15#5 => some (.jalrN d s)
  | 0x16#5 => do let _ ← zero5 d; let _ ← zero5 s; some (.nopN)
  | 0x17#5 => do let _ ← zero5 d; let _ ← zero5 s; some (.haltN)
  | _ => none

/-- R131, R182: the instruction of a halfword whose bit 0 is 0. -/
def decode16 (h : BitVec 16) : Option Instr :=
  if h.extractLsb' 0 1 = 0#1 then decodeOp5 (h.extractLsb' 11 5) (h.extractLsb' 6 5) (h.extractLsb' 1 5) else none

/-- A halfword of the 16-bit set (R182). -/
def half (op d s : BitVec 5) : BitVec 16 := op ++ d ++ s ++ 0#1

/-- What framing finds at an even address (R131): an instruction with its length in bytes, or a reserved word. -/
inductive Decoded where
  /-- A whole instruction: its word (a halfword stands in bits [15:0]) and its length in bytes. -/
  | instr (i : Instr) (word : W32) (len : Nat)
  /-- A reserved encoding (R159). -/
  | reserved (word : W32) (len : Nat)
  deriving DecidableEq, Repr

/-- R131: the first halfword's bit 0 says whether a second halfword belongs to the instruction. -/
def isLong (lo : BitVec 16) : Bool := lo.extractLsb' 0 1 = 1#1

/-- Decoding is total on two halfwords: the second is not looked at when the first is a whole instruction. -/
def decodeHalves (lo hi : BitVec 16) : Decoded :=
  if isLong lo then
    match decode32 (hi ++ lo) with
    | some i => .instr i (hi ++ lo) 4
    | none => .reserved (hi ++ lo) 4
  else
    match decode16 lo with
    | some i => .instr i (lo.setWidth 32) 2
    | none => .reserved (lo.setWidth 32) 2

/-- The instruction that the decoder reads from the bits of a table row, the first word in the low bits. Each halfword
is little-endian (R131), so the word's bits are numbered as they lie in memory. -/
def decodeTableWord (nbits w : Nat) : Option Instr :=
  let bits := w % 2 ^ nbits
  match decodeHalves (BitVec.ofNat 16 bits) (BitVec.ofNat 16 (bits / 65536)) with
  | .instr i _ _ => some i
  | .reserved _ _ => none

/-! ### Encoding -/

/-- The 32-bit word of an instruction that has one (R133 to R181). -/
def encode32 : Instr → Option W32
  | .add g d a b => some (wordA g 0x01#6 d a b 0x00#6)
  | .sub g d a b => some (wordA g 0x01#6 d a b 0x01#6)
  | .and g d a b => some (wordA g 0x01#6 d a b 0x02#6)
  | .or g d a b => some (wordA g 0x01#6 d a b 0x03#6)
  | .xor g d a b => some (wordA g 0x01#6 d a b 0x04#6)
  | .andn g d a b => some (wordA g 0x01#6 d a b 0x05#6)
  | .sll g d a b => some (wordA g 0x01#6 d a b 0x06#6)
  | .srl g d a b => some (wordA g 0x01#6 d a b 0x07#6)
  | .sra g d a b => some (wordA g 0x01#6 d a b 0x08#6)
  | .ror g d a b => some (wordA g 0x01#6 d a b 0x09#6)
  | .slt g d a b => some (wordA g 0x01#6 d a b 0x0a#6)
  | .sltu g d a b => some (wordA g 0x01#6 d a b 0x0b#6)
  | .min g d a b => some (wordA g 0x01#6 d a b 0x0c#6)
  | .max g d a b => some (wordA g 0x01#6 d a b 0x0d#6)
  | .minu g d a b => some (wordA g 0x01#6 d a b 0x0e#6)
  | .maxu g d a b => some (wordA g 0x01#6 d a b 0x0f#6)
  | .addsh1 g d a b => some (wordA g 0x01#6 d a b 0x10#6)
  | .addsh2 g d a b => some (wordA g 0x01#6 d a b 0x11#6)
  | .addsh3 g d a b => some (wordA g 0x01#6 d a b 0x12#6)
  | .clz g d a => some (wordA g 0x01#6 d a 0#5 0x13#6)
  | .ctz g d a => some (wordA g 0x01#6 d a 0#5 0x14#6)
  | .popc g d a => some (wordA g 0x01#6 d a 0#5 0x15#6)
  | .byterev g d a => some (wordA g 0x01#6 d a 0#5 0x16#6)
  | .sextw g d a => some (wordA g 0x01#6 d a 0#5 0x17#6)
  | .zextw g d a => some (wordA g 0x01#6 d a 0#5 0x18#6)
  | .addw g d a b => some (wordA g 0x01#6 d a b 0x19#6)
  | .subw g d a b => some (wordA g 0x01#6 d a b 0x1a#6)
  | .mul g d a b => some (wordA g 0x02#6 d a b 0x00#6)
  | .mulh g d a b => some (wordA g 0x02#6 d a b 0x01#6)
  | .mulhu g d a b => some (wordA g 0x02#6 d a b 0x02#6)
  | .mulhsu g d a b => some (wordA g 0x02#6 d a b 0x03#6)
  | .div g d a b => some (wordA g 0x02#6 d a b 0x04#6)
  | .divu g d a b => some (wordA g 0x02#6 d a b 0x05#6)
  | .rem g d a b => some (wordA g 0x02#6 d a b 0x06#6)
  | .remu g d a b => some (wordA g 0x02#6 d a b 0x07#6)
  | .addi g d a i => some (wordI g 0x03#6 d a i)
  | .andi g d a i => some (wordI g 0x04#6 d a i)
  | .ori g d a i => some (wordI g 0x05#6 d a i)
  | .xori g d a i => some (wordI g 0x06#6 d a i)
  | .slti g d a i => some (wordI g 0x07#6 d a i)
  | .sltiu g d a i => some (wordI g 0x08#6 d a i)
  | .slli g d a h => some (wordI g 0x09#6 d a (0#3 ++ 0#2 ++ h))
  | .srli g d a h => some (wordI g 0x09#6 d a (1#3 ++ 0#2 ++ h))
  | .srai g d a h => some (wordI g 0x09#6 d a (2#3 ++ 0#2 ++ h))
  | .rori g d a h => some (wordI g 0x09#6 d a (3#3 ++ 0#2 ++ h))
  | .li g d i => some (wordU g 0x0a#6 d i)
  | .lis g d i => some (wordU g 0x0b#6 d i)
  | .addpc g d i => some (wordU g 0x0c#6 d i)
  | .cmp g m d a b e c => some (wordP g 0x0d#6 m d a b e c)
  | .cmpi g m d a i e c => some (wordP g 0x0e#6 m d a i e c)
  | .pand g d a b => some (wordA g 0x0f#6 (wide3 d) (wide3 a) (wide3 b) 0x00#6)
  | .por g d a b => some (wordA g 0x0f#6 (wide3 d) (wide3 a) (wide3 b) 0x01#6)
  | .pxor g d a b => some (wordA g 0x0f#6 (wide3 d) (wide3 a) (wide3 b) 0x02#6)
  | .pandn g d a b => some (wordA g 0x0f#6 (wide3 d) (wide3 a) (wide3 b) 0x03#6)
  | .porn g d a b => some (wordA g 0x0f#6 (wide3 d) (wide3 a) (wide3 b) 0x04#6)
  | .pnot g d a => some (wordA g 0x0f#6 (wide3 d) (wide3 a) 0#5 0x05#6)
  | .pfromx g d a => some (wordA g 0x0f#6 (wide3 d) a 0#5 0x08#6)
  | .ptox g d a => some (wordA g 0x0f#6 d (wide3 a) 0#5 0x09#6)
  | .pfirst g d a => some (wordA g 0x0f#6 (wide3 d) (wide3 a) 0#5 0x0a#6)
  | .pcnt g d a => some (wordA g 0x0f#6 d (wide3 a) 0#5 0x0b#6)
  | .fcmp g m d a b e c => some (wordP g 0x10#6 m d (wide4 a) (wide4 b) e c)
  | .vcmp g t d a b e c => some (wordP g 0x11#6 t d a b e c)
  | .vfcmp g t d a b e c => some (wordP g 0x12#6 t d a b e c)
  | .j g i => some (wordB g 0x13#6 i)
  | .jal g i => some (wordB g 0x14#6 i)
  | .jalr g d a i => some (wordI g 0x15#6 d a i)
  | .djnz g d i => some (wordU g 0x16#6 d i)
  | .rep g a l e => some (wordI g 0x17#6 0#5 a (l ++ e ++ 0#4))
  | .trpForm g a b => some (wordA g 0x18#6 0#5 a b 0x00#6)
  | .trpSplit g => some (wordA g 0x18#6 0#5 0#5 0#5 0x01#6)
  | .trpPos g d => some (wordA g 0x18#6 d 0#5 0#5 0x02#6)
  | .trpWidth g d => some (wordA g 0x18#6 d 0#5 0#5 0x03#6)
  | .ld g d a i s c => some (wordM g 0x19#6 d a i s c)
  | .ldu g d a i s c => some (wordM g 0x1a#6 d a i s c)
  | .st g d a i s c => some (wordM g 0x1b#6 d a i s c)
  | .sto g d a i s c => some (wordM g 0x1c#6 d a i s c)
  | .fld g d a i s c => some (wordM g 0x1d#6 (wide4 d) a i s c)
  | .fst g d a i s c => some (wordM g 0x1e#6 (wide4 d) a i s c)
  | .vld g d a i m c => some (wordM g 0x1f#6 d a i (0#1 ++ m) c)
  | .vst g d a i m c => some (wordM g 0x20#6 d a i (0#1 ++ m) c)
  | .amoAdd g d a b o z => some (wordA g 0x21#6 d a b (0x0#3 ++ o ++ z))
  | .amoAnd g d a b o z => some (wordA g 0x21#6 d a b (0x1#3 ++ o ++ z))
  | .amoOr g d a b o z => some (wordA g 0x21#6 d a b (0x2#3 ++ o ++ z))
  | .amoXor g d a b o z => some (wordA g 0x21#6 d a b (0x3#3 ++ o ++ z))
  | .amoMin g d a b o z => some (wordA g 0x21#6 d a b (0x4#3 ++ o ++ z))
  | .amoMax g d a b o z => some (wordA g 0x21#6 d a b (0x5#3 ++ o ++ z))
  | .amoSwap g d a b o z => some (wordA g 0x21#6 d a b (0x6#3 ++ o ++ z))
  | .amoCas g d a b o z => some (wordA g 0x21#6 d a b (0x7#3 ++ o ++ z))
  | .fence g s => some (wordA g 0x22#6 0#5 0#5 0#5 (s ++ 0x0#3))
  | .fenceSt g s => some (wordA g 0x22#6 0#5 0#5 0#5 (s ++ 0x1#3))
  | .fenceLd g s => some (wordA g 0x22#6 0#5 0#5 0#5 (s ++ 0x2#3))
  | .sync g l => some (wordA g 0x23#6 0#5 l 0#5 0x00#6)
  | .arrive g l => some (wordA g 0x23#6 0#5 l 0#5 0x01#6)
  | .arrived g l c => some (wordA g 0x23#6 0#5 l (wide2 c) 0x02#6)
  | .wait g l => some (wordA g 0x23#6 0#5 l 0#5 0x03#6)
  | .waitdc g c h => some (wordA g 0x23#6 0#5 (wide2 c) h 0x04#6)
  | .rgn g e => some (wordA g 0x23#6 0#5 (wide3 e) 0#5 0x05#6)
  | .yield g => some (wordA g 0x23#6 0#5 0#5 0#5 0x06#6)
  | .phaseX g l => some (wordA g 0x23#6 0#5 l 0#5 0x07#6)
  | .cpy g d a b v o c => some (wordA g 0x24#6 d a b (v ++ o ++ c))
  | .fadd g d a b t => some (wordA g 0x25#6 (wide4 d) (wide4 a) (wide4 b) (0x0#3 ++ t))
  | .fsub g d a b t => some (wordA g 0x25#6 (wide4 d) (wide4 a) (wide4 b) (0x1#3 ++ t))
  | .fmul g d a b t => some (wordA g 0x25#6 (wide4 d) (wide4 a) (wide4 b) (0x2#3 ++ t))
  | .fmin g d a b t => some (wordA g 0x25#6 (wide4 d) (wide4 a) (wide4 b) (0x3#3 ++ t))
  | .fmax g d a b t => some (wordA g 0x25#6 (wide4 d) (wide4 a) (wide4 b) (0x4#3 ++ t))
  | .fdiv g d a b t => some (wordA g 0x25#6 (wide4 d) (wide4 a) (wide4 b) (0x5#3 ++ t))
  | .fsqrt g d a t => some (wordA g 0x25#6 (wide4 d) (wide4 a) 0#5 (0x6#3 ++ t))
  | .ffma g d a b t => some (wordA g 0x25#6 (wide4 d) (wide4 a) (wide4 b) (0x7#3 ++ t))
  | .fmvxf g d a => some (wordA g 0x26#6 d (wide4 a) 0#5 0x00#6)
  | .fmvfx g d a => some (wordA g 0x26#6 (wide4 d) a 0#5 0x01#6)
  | .fcvtFX g d a => some (wordA g 0x26#6 (wide4 d) a 0#5 0x02#6)
  | .fcvtXF g d a => some (wordA g 0x26#6 d (wide4 a) 0#5 0x03#6)
  | .fkey g d a => some (wordA g 0x26#6 d (wide4 a) 0#5 0x05#6)
  | .fclass g d a => some (wordA g 0x26#6 d (wide4 a) 0#5 0x06#6)
  | .vadd g d a b t => some (wordA g 0x27#6 d a b (0x0#4 ++ t))
  | .vsub g d a b t => some (wordA g 0x27#6 d a b (0x1#4 ++ t))
  | .vmul g d a b t => some (wordA g 0x27#6 d a b (0x2#4 ++ t))
  | .vmin g d a b t => some (wordA g 0x27#6 d a b (0x3#4 ++ t))
  | .vmax g d a b t => some (wordA g 0x27#6 d a b (0x4#4 ++ t))
  | .vminu g d a b t => some (wordA g 0x27#6 d a b (0x5#4 ++ t))
  | .vmaxu g d a b t => some (wordA g 0x27#6 d a b (0x6#4 ++ t))
  | .vand g d a b t => some (wordA g 0x27#6 d a b (0x7#4 ++ t))
  | .vor g d a b t => some (wordA g 0x27#6 d a b (0x8#4 ++ t))
  | .vxor g d a b t => some (wordA g 0x27#6 d a b (0x9#4 ++ t))
  | .vsll g d a b t => some (wordA g 0x27#6 d a b (0xa#4 ++ t))
  | .vsrl g d a b t => some (wordA g 0x27#6 d a b (0xb#4 ++ t))
  | .vsra g d a b t => some (wordA g 0x27#6 d a b (0xc#4 ++ t))
  | .vabs g d a t => some (wordA g 0x27#6 d a 0#5 (0xd#4 ++ t))
  | .vadds g d a b t => some (wordA g 0x27#6 d a b (0xe#4 ++ t))
  | .vsubs g d a b t => some (wordA g 0x27#6 d a b (0xf#4 ++ t))
  | .vfadd g d a b t => some (wordA g 0x28#6 d a b (0x0#4 ++ t))
  | .vfsub g d a b t => some (wordA g 0x28#6 d a b (0x1#4 ++ t))
  | .vfmul g d a b t => some (wordA g 0x28#6 d a b (0x2#4 ++ t))
  | .vfmin g d a b t => some (wordA g 0x28#6 d a b (0x3#4 ++ t))
  | .vfmax g d a b t => some (wordA g 0x28#6 d a b (0x4#4 ++ t))
  | .vffma g d a b t => some (wordA g 0x28#6 d a b (0x5#4 ++ t))
  | .vfdiv g d a b t => some (wordA g 0x28#6 d a b (0x6#4 ++ t))
  | .vfsqrt g d a t => some (wordA g 0x28#6 d a 0#5 (0x7#4 ++ t))
  | .vfabs g d a t => some (wordA g 0x28#6 d a 0#5 (0x8#4 ++ t))
  | .vfneg g d a t => some (wordA g 0x28#6 d a 0#5 (0x9#4 ++ t))
  | .vbcast g d a t => some (wordA g 0x29#6 d a 0#5 (0x0#4 ++ t))
  | .vbcastf g d a t => some (wordA g 0x29#6 d (wide4 a) 0#5 (0x1#4 ++ t))
  | .vext g d a b t => some (wordA g 0x29#6 d a b (0x2#4 ++ t))
  | .vins g d a b t => some (wordA g 0x29#6 d a b (0x3#4 ++ t))
  | .vperm g d a b t => some (wordA g 0x29#6 d a b (0x4#4 ++ t))
  | .vredadd g d a t => some (wordA g 0x29#6 (wide4 d) a 0#5 (0x5#4 ++ t))
  | .vredmax g d a t => some (wordA g 0x29#6 (wide4 d) a 0#5 (0x6#4 ++ t))
  | .vcvt g d a u t => some (wordA g 0x29#6 d a (wide2 u) (0x7#4 ++ t))
  | .vkey g d a t => some (wordA g 0x29#6 d a 0#5 (0x8#4 ++ t))
  | .vmov g d a t => some (wordA g 0x29#6 d a 0#5 (0x9#4 ++ t))
  | .vzero g d t => some (wordA g 0x29#6 d 0#5 0#5 (0xa#4 ++ t))
  | .viota g d t => some (wordA g 0x29#6 d 0#5 0#5 (0xb#4 ++ t))
  | .mma g c a f p => some (wordA g 0x2a#6 (wide1 c) a (wide4 f) p)
  | .mz g c => some (wordA g 0x2b#6 (wide1 c) 0#5 0#5 0x00#6)
  | .mrdF32 g c a k => some (wordA g 0x2b#6 (wide1 c) a (wide2 k) 0x01#6)
  | .mrdBf16 g c a k => some (wordA g 0x2b#6 (wide1 c) a (wide2 k) 0x02#6)
  | .mrdF16 g c a k => some (wordA g 0x2b#6 (wide1 c) a (wide2 k) 0x03#6)
  | .mexp g d c => some (wordA g 0x2b#6 d (wide1 c) 0#5 0x04#6)
  | .msete g c a => some (wordA g 0x2b#6 (wide1 c) a 0#5 0x05#6)
  | .mred g c a k => some (wordA g 0x2b#6 (wide1 c) a (wide2 k) 0x06#6)
  | .macc g c a b => some (wordA g 0x2b#6 (wide1 c) a b 0x07#6)
  | .mcvtI8 g c a b => some (wordA g 0x2b#6 (wide1 c) a b 0x08#6)
  | .geom g d a b => some (wordA g 0x2b#6 d a b 0x09#6)
  | .geomg g d a => some (wordA g 0x2b#6 (wideEven d) a 0#5 0x0a#6)
  | .mcvtI4 g c a b => some (wordA g 0x2b#6 (wide1 c) a b 0x0b#6)
  | .bld g a k => some (wordA g 0x2c#6 0#5 a (wide2 k) 0x00#6)
  | .brot g => some (wordA g 0x2c#6 0#5 0#5 0#5 0x01#6)
  | .bswap g => some (wordA g 0x2c#6 0#5 0#5 0#5 0x02#6)
  | .bst g a k => some (wordA g 0x2c#6 0#5 a (wide2 k) 0x03#6)
  | .desc g d a k => some (wordA g 0x2d#6 (wideEven d) a 0#5 (k ++ 0x0#4))
  | .bkup g d a b k => some (wordA g 0x2d#6 d a b (k ++ 0x1#4))
  | .unmk g d a b k => some (wordA g 0x2d#6 d a b (k ++ 0x2#4))
  | .expnd g d a b k => some (wordA g 0x2d#6 d a b (k ++ 0x3#4))
  | .nalloc g d a b k => some (wordA g 0x2d#6 d a b (k ++ 0x4#4))
  | .rcyc g d a k => some (wordA g 0x2d#6 d a 0#5 (k ++ 0x5#4))
  | .nstat g d a k => some (wordA g 0x2d#6 (wideEven d) a 0#5 (k ++ 0x6#4))
  | .ninit g d a k => some (wordA g 0x2d#6 d a 0#5 (k ++ 0x7#4))
  | .nmsend g a k => some (wordA g 0x2e#6 0#5 a 0#5 (k ++ 0x0#4))
  | .nmovl g a k => some (wordA g 0x2e#6 0#5 a 0#5 (k ++ 0x1#4))
  | .nmrst g a k => some (wordA g 0x2e#6 0#5 a 0#5 (k ++ 0x2#4))
  | .ecall g => some (wordA g 0x2f#6 0#5 0#5 0#5 0x00#6)
  | .ebreak g => some (wordA g 0x2f#6 0#5 0#5 0#5 0x01#6)
  | .halt g => some (wordA g 0x2f#6 0#5 0#5 0#5 0x02#6)
  | .wfe g => some (wordA g 0x2f#6 0#5 0#5 0#5 0x03#6)
  | .fault g a => some (wordA g 0x2f#6 0#5 a 0#5 0x04#6)
  | .tret g => some (wordA g 0x2f#6 0#5 0#5 0#5 0x10#6)
  | .csrrw g d a i => some (wordI g 0x30#6 d a i)
  | .csrrs g d a i => some (wordI g 0x31#6 d a i)
  | .csrrc g d a i => some (wordI g 0x32#6 d a i)
  | .sete g d a => some (wordA g 0x33#6 (wide3 d) a 0#5 0x00#6)
  | .gete g d a => some (wordA g 0x33#6 d (wide3 a) 0#5 0x01#6)
  | .rand g d a b w => some (wordA g 0x34#6 d a b (0#4 ++ w))
  | .mvN _ _ => none
  | .addN _ _ => none
  | .subN _ _ => none
  | .andN _ _ => none
  | .orN _ _ => none
  | .xorN _ _ => none
  | .sllN _ _ => none
  | .srlN _ _ => none
  | .sraN _ _ => none
  | .addiN _ _ => none
  | .liN _ _ => none
  | .slliN _ _ => none
  | .srliN _ _ => none
  | .sraiN _ _ => none
  | .ldDN _ _ => none
  | .stDN _ _ => none
  | .ldWN _ _ => none
  | .stWN _ _ => none
  | .vmovN _ _ => none
  | .jrN _ => none
  | .jalrN _ _ => none
  | .nopN => none
  | .haltN => none
  | .reservedEncoding _ => none
  | .fetchFault _ _ _ => none
  | .threadSwitchQuantum _ => none
  | .portWordArrival _ _ => none
  | .portTimeout _ => none
  | .troupeFormed _ => none
  | .trpFormTimeout _ => none
  | .ringDeliveryStart _ => none
  | .ringDeliveryDone _ => none
  | .bldFillDone _ => none
  | .bswapTimeout _ => none
  | .arrivedArrival _ _ => none
  | .barrierComplete _ _ _ => none
  | .holdAccept _ => none
  | .holdApply _ => none
  | .fbArrival _ _ _ _ _ => none
  | .fbAck _ => none
  | .storeBufferDrain _ => none
  | .cpyPacketInject _ => none
  | .stridedRequestInject _ => none
  | .routerForward _ => none
  | .bulkPerform _ => none
  | .orderedPerform _ => none
  | .hbmChannelService _ => none
  | .lantern _ _ => none
  | .lanternReceive _ _ => none
  | .watermark _ => none
  | .loadReply _ => none
  | .replyPortPush _ => none
  | .storeAck _ => none
  | .negativeReply _ => none
  | .faultRecordWrite _ => none
  | .reaperStart _ => none
  | .haltComplete _ => none
  | .wfeWake _ => none
  | .wfeTimeout _ => none
  | .tableWalk _ => none
  | .descApply _ => none
  | .bkupApply _ => none
  | .unmkApply _ => none
  | .expndApply _ => none
  | .nallocApply _ => none
  | .rcycApply _ => none
  | .nstatApply _ => none
  | .ninitApply _ => none
  | .nodeReply _ => none
  | .nmuBlockArrive _ => none
  | .nmuFill _ _ => none
  | .nmuGath _ _ => none
  | .nmuIred _ _ => none
  | .nmuRun _ _ => none
  | .nmuOverlayLoad _ _ => none
  | .holdTimeout _ _ => none
  | .runLimit _ => none
  | .nmuCompletion _ _ => none
  | .nmuStreamReset _ => none
  | .kick _ => none
  | .noticeAppend _ => none
  | .launchRecord _ => none
  | .launchPlacement => none
  | .launchRelease _ => none
  | .doneEmpty _ => none
  | .launchCompletion _ => none
  | .tctlResume _ => none
  | .tctlKill _ => none
  | .tctlPreempt _ => none
  | .tctlRestore _ => none
  | .preemptSave _ => none
  | .guestbookAppend _ => none
  | .nmuPreempt _ => none
  | .nmuRestore _ => none
  | .nmuSaveDone _ => none
  | .nmuRestoreDone _ => none
  | .invc _ => none
  | .invalidationDone => none
  | .excl _ => none
  | .fexcl _ => none
  | .cecntClear _ => none
  | .registerWrite _ => none
  | .scrub _ => none
  | .mcheckStateError _ => none
  | .flitRetry _ _ => none
  | .fabricRequest _ _ _ => none
  | .portDown _ => none
  | .timeMessage _ => none
  | .clockLockLost => none
  | .reductionPacket _ => none
  | .reductionTimeout _ _ => none
  | .reset => none
  | .fwgo _ => none
  | .imageCheck => none
  | .qreq _ => none
  | .quoteWrite => none
  | .bladeFailure _ => none
  | .thermalMcheck _ => none
  | .thermalPowerOff _ => none
  | .portUp _ => none
  | .supervisorAbort _ _ => none

/-- The halfword of an instruction of the 16-bit set (R182). -/
def encode16 : Instr → Option (BitVec 16)
  | .add _ _ _ _ => none
  | .sub _ _ _ _ => none
  | .and _ _ _ _ => none
  | .or _ _ _ _ => none
  | .xor _ _ _ _ => none
  | .andn _ _ _ _ => none
  | .sll _ _ _ _ => none
  | .srl _ _ _ _ => none
  | .sra _ _ _ _ => none
  | .ror _ _ _ _ => none
  | .slt _ _ _ _ => none
  | .sltu _ _ _ _ => none
  | .min _ _ _ _ => none
  | .max _ _ _ _ => none
  | .minu _ _ _ _ => none
  | .maxu _ _ _ _ => none
  | .addsh1 _ _ _ _ => none
  | .addsh2 _ _ _ _ => none
  | .addsh3 _ _ _ _ => none
  | .clz _ _ _ => none
  | .ctz _ _ _ => none
  | .popc _ _ _ => none
  | .byterev _ _ _ => none
  | .sextw _ _ _ => none
  | .zextw _ _ _ => none
  | .addw _ _ _ _ => none
  | .subw _ _ _ _ => none
  | .mul _ _ _ _ => none
  | .mulh _ _ _ _ => none
  | .mulhu _ _ _ _ => none
  | .mulhsu _ _ _ _ => none
  | .div _ _ _ _ => none
  | .divu _ _ _ _ => none
  | .rem _ _ _ _ => none
  | .remu _ _ _ _ => none
  | .addi _ _ _ _ => none
  | .andi _ _ _ _ => none
  | .ori _ _ _ _ => none
  | .xori _ _ _ _ => none
  | .slti _ _ _ _ => none
  | .sltiu _ _ _ _ => none
  | .slli _ _ _ _ => none
  | .srli _ _ _ _ => none
  | .srai _ _ _ _ => none
  | .rori _ _ _ _ => none
  | .li _ _ _ => none
  | .lis _ _ _ => none
  | .addpc _ _ _ => none
  | .cmp _ _ _ _ _ _ _ => none
  | .cmpi _ _ _ _ _ _ _ => none
  | .pand _ _ _ _ => none
  | .por _ _ _ _ => none
  | .pxor _ _ _ _ => none
  | .pandn _ _ _ _ => none
  | .porn _ _ _ _ => none
  | .pnot _ _ _ => none
  | .pfromx _ _ _ => none
  | .ptox _ _ _ => none
  | .pfirst _ _ _ => none
  | .pcnt _ _ _ => none
  | .fcmp _ _ _ _ _ _ _ => none
  | .vcmp _ _ _ _ _ _ _ => none
  | .vfcmp _ _ _ _ _ _ _ => none
  | .j _ _ => none
  | .jal _ _ => none
  | .jalr _ _ _ _ => none
  | .djnz _ _ _ => none
  | .rep _ _ _ _ => none
  | .trpForm _ _ _ => none
  | .trpSplit _ => none
  | .trpPos _ _ => none
  | .trpWidth _ _ => none
  | .ld _ _ _ _ _ _ => none
  | .ldu _ _ _ _ _ _ => none
  | .st _ _ _ _ _ _ => none
  | .sto _ _ _ _ _ _ => none
  | .fld _ _ _ _ _ _ => none
  | .fst _ _ _ _ _ _ => none
  | .vld _ _ _ _ _ _ => none
  | .vst _ _ _ _ _ _ => none
  | .amoAdd _ _ _ _ _ _ => none
  | .amoAnd _ _ _ _ _ _ => none
  | .amoOr _ _ _ _ _ _ => none
  | .amoXor _ _ _ _ _ _ => none
  | .amoMin _ _ _ _ _ _ => none
  | .amoMax _ _ _ _ _ _ => none
  | .amoSwap _ _ _ _ _ _ => none
  | .amoCas _ _ _ _ _ _ => none
  | .fence _ _ => none
  | .fenceSt _ _ => none
  | .fenceLd _ _ => none
  | .sync _ _ => none
  | .arrive _ _ => none
  | .arrived _ _ _ => none
  | .wait _ _ => none
  | .waitdc _ _ _ => none
  | .rgn _ _ => none
  | .yield _ => none
  | .phaseX _ _ => none
  | .cpy _ _ _ _ _ _ _ => none
  | .fadd _ _ _ _ _ => none
  | .fsub _ _ _ _ _ => none
  | .fmul _ _ _ _ _ => none
  | .fmin _ _ _ _ _ => none
  | .fmax _ _ _ _ _ => none
  | .fdiv _ _ _ _ _ => none
  | .fsqrt _ _ _ _ => none
  | .ffma _ _ _ _ _ => none
  | .fmvxf _ _ _ => none
  | .fmvfx _ _ _ => none
  | .fcvtFX _ _ _ => none
  | .fcvtXF _ _ _ => none
  | .fkey _ _ _ => none
  | .fclass _ _ _ => none
  | .vadd _ _ _ _ _ => none
  | .vsub _ _ _ _ _ => none
  | .vmul _ _ _ _ _ => none
  | .vmin _ _ _ _ _ => none
  | .vmax _ _ _ _ _ => none
  | .vminu _ _ _ _ _ => none
  | .vmaxu _ _ _ _ _ => none
  | .vand _ _ _ _ _ => none
  | .vor _ _ _ _ _ => none
  | .vxor _ _ _ _ _ => none
  | .vsll _ _ _ _ _ => none
  | .vsrl _ _ _ _ _ => none
  | .vsra _ _ _ _ _ => none
  | .vabs _ _ _ _ => none
  | .vadds _ _ _ _ _ => none
  | .vsubs _ _ _ _ _ => none
  | .vfadd _ _ _ _ _ => none
  | .vfsub _ _ _ _ _ => none
  | .vfmul _ _ _ _ _ => none
  | .vfmin _ _ _ _ _ => none
  | .vfmax _ _ _ _ _ => none
  | .vffma _ _ _ _ _ => none
  | .vfdiv _ _ _ _ _ => none
  | .vfsqrt _ _ _ _ => none
  | .vfabs _ _ _ _ => none
  | .vfneg _ _ _ _ => none
  | .vbcast _ _ _ _ => none
  | .vbcastf _ _ _ _ => none
  | .vext _ _ _ _ _ => none
  | .vins _ _ _ _ _ => none
  | .vperm _ _ _ _ _ => none
  | .vredadd _ _ _ _ => none
  | .vredmax _ _ _ _ => none
  | .vcvt _ _ _ _ _ => none
  | .vkey _ _ _ _ => none
  | .vmov _ _ _ _ => none
  | .vzero _ _ _ => none
  | .viota _ _ _ => none
  | .mma _ _ _ _ _ => none
  | .mz _ _ => none
  | .mrdF32 _ _ _ _ => none
  | .mrdBf16 _ _ _ _ => none
  | .mrdF16 _ _ _ _ => none
  | .mexp _ _ _ => none
  | .msete _ _ _ => none
  | .mred _ _ _ _ => none
  | .macc _ _ _ _ => none
  | .mcvtI8 _ _ _ _ => none
  | .geom _ _ _ _ => none
  | .geomg _ _ _ => none
  | .mcvtI4 _ _ _ _ => none
  | .bld _ _ _ => none
  | .brot _ => none
  | .bswap _ => none
  | .bst _ _ _ => none
  | .desc _ _ _ _ => none
  | .bkup _ _ _ _ _ => none
  | .unmk _ _ _ _ _ => none
  | .expnd _ _ _ _ _ => none
  | .nalloc _ _ _ _ _ => none
  | .rcyc _ _ _ _ => none
  | .nstat _ _ _ _ => none
  | .ninit _ _ _ _ => none
  | .nmsend _ _ _ => none
  | .nmovl _ _ _ => none
  | .nmrst _ _ _ => none
  | .ecall _ => none
  | .ebreak _ => none
  | .halt _ => none
  | .wfe _ => none
  | .fault _ _ => none
  | .tret _ => none
  | .csrrw _ _ _ _ => none
  | .csrrs _ _ _ _ => none
  | .csrrc _ _ _ _ => none
  | .sete _ _ _ => none
  | .gete _ _ _ => none
  | .rand _ _ _ _ _ => none
  | .mvN d s => some (half 0x01#5 d s)
  | .addN d s => some (half 0x02#5 d s)
  | .subN d s => some (half 0x03#5 d s)
  | .andN d s => some (half 0x04#5 d s)
  | .orN d s => some (half 0x05#5 d s)
  | .xorN d s => some (half 0x06#5 d s)
  | .sllN d s => some (half 0x07#5 d s)
  | .srlN d s => some (half 0x08#5 d s)
  | .sraN d s => some (half 0x09#5 d s)
  | .addiN d i => some (half 0x0a#5 d i)
  | .liN d i => some (half 0x0b#5 d i)
  | .slliN d h => some (half 0x0c#5 d h)
  | .srliN d h => some (half 0x0d#5 d h)
  | .sraiN d h => some (half 0x0e#5 d h)
  | .ldDN d s => some (half 0x0f#5 d s)
  | .stDN d s => some (half 0x10#5 d s)
  | .ldWN d s => some (half 0x11#5 d s)
  | .stWN d s => some (half 0x12#5 d s)
  | .vmovN d s => some (half 0x13#5 d s)
  | .jrN s => some (half 0x14#5 0#5 s)
  | .jalrN d s => some (half 0x15#5 d s)
  | .nopN => some (half 0x16#5 0#5 0#5)
  | .haltN => some (half 0x17#5 0#5 0#5)
  | .reservedEncoding _ => none
  | .fetchFault _ _ _ => none
  | .threadSwitchQuantum _ => none
  | .portWordArrival _ _ => none
  | .portTimeout _ => none
  | .troupeFormed _ => none
  | .trpFormTimeout _ => none
  | .ringDeliveryStart _ => none
  | .ringDeliveryDone _ => none
  | .bldFillDone _ => none
  | .bswapTimeout _ => none
  | .arrivedArrival _ _ => none
  | .barrierComplete _ _ _ => none
  | .holdAccept _ => none
  | .holdApply _ => none
  | .fbArrival _ _ _ _ _ => none
  | .fbAck _ => none
  | .storeBufferDrain _ => none
  | .cpyPacketInject _ => none
  | .stridedRequestInject _ => none
  | .routerForward _ => none
  | .bulkPerform _ => none
  | .orderedPerform _ => none
  | .hbmChannelService _ => none
  | .lantern _ _ => none
  | .lanternReceive _ _ => none
  | .watermark _ => none
  | .loadReply _ => none
  | .replyPortPush _ => none
  | .storeAck _ => none
  | .negativeReply _ => none
  | .faultRecordWrite _ => none
  | .reaperStart _ => none
  | .haltComplete _ => none
  | .wfeWake _ => none
  | .wfeTimeout _ => none
  | .tableWalk _ => none
  | .descApply _ => none
  | .bkupApply _ => none
  | .unmkApply _ => none
  | .expndApply _ => none
  | .nallocApply _ => none
  | .rcycApply _ => none
  | .nstatApply _ => none
  | .ninitApply _ => none
  | .nodeReply _ => none
  | .nmuBlockArrive _ => none
  | .nmuFill _ _ => none
  | .nmuGath _ _ => none
  | .nmuIred _ _ => none
  | .nmuRun _ _ => none
  | .nmuOverlayLoad _ _ => none
  | .holdTimeout _ _ => none
  | .runLimit _ => none
  | .nmuCompletion _ _ => none
  | .nmuStreamReset _ => none
  | .kick _ => none
  | .noticeAppend _ => none
  | .launchRecord _ => none
  | .launchPlacement => none
  | .launchRelease _ => none
  | .doneEmpty _ => none
  | .launchCompletion _ => none
  | .tctlResume _ => none
  | .tctlKill _ => none
  | .tctlPreempt _ => none
  | .tctlRestore _ => none
  | .preemptSave _ => none
  | .guestbookAppend _ => none
  | .nmuPreempt _ => none
  | .nmuRestore _ => none
  | .nmuSaveDone _ => none
  | .nmuRestoreDone _ => none
  | .invc _ => none
  | .invalidationDone => none
  | .excl _ => none
  | .fexcl _ => none
  | .cecntClear _ => none
  | .registerWrite _ => none
  | .scrub _ => none
  | .mcheckStateError _ => none
  | .flitRetry _ _ => none
  | .fabricRequest _ _ _ => none
  | .portDown _ => none
  | .timeMessage _ => none
  | .clockLockLost => none
  | .reductionPacket _ => none
  | .reductionTimeout _ _ => none
  | .reset => none
  | .fwgo _ => none
  | .imageCheck => none
  | .qreq _ => none
  | .quoteWrite => none
  | .bladeFailure _ => none
  | .thermalMcheck _ => none
  | .thermalPowerOff _ => none
  | .portUp _ => none
  | .supervisorAbort _ _ => none

/-- The halfwords of an instruction, lowest address first; none for an event. -/
def encode (i : Instr) : Option (List (BitVec 16)) :=
  match encode32 i with
  | some w => some [w.extractLsb' 0 16, w.extractLsb' 16 16]
  | none => (encode16 i).map fun h => [h]

/-- Decoding the halfwords of one instruction. -/
def decode : List (BitVec 16) → Option Instr
  | [lo] => if isLong lo then none else decode16 lo
  | [lo, hi] => if isLong lo then decode32 (hi ++ lo) else none
  | _ => none

end Sys2Proof
end

