-- ==== Sys2Proof/Machine/Fetch.lean ====
section
/-! DEFINITION. Fetching an instruction's halfwords: the global region through the cluster's instruction cache (R98,
R378), a steward's physical addresses (R366), an overlay's own memory (R335), both pages of a straddling instruction
(R379), a repeat block's staggered words (R200) and a troupe's stream (R20). -/

namespace Sys2Proof.Machine

/-- What fetching a halfword gives: the halfword or a failure with the state after the read, or a read that cannot be made
yet. -/
inductive Half where
  | got (h : BitVec 16) (s : State)
  | fail (s : State)
  | wait
  deriving DecidableEq, Repr

/-- A halfword of memory, little-endian (R131), read for a hart under R389. -/
def State.halfAt (s : State) (t : Thread) (key : Nat) : Half :=
  let (bs, s) := s.readFor t.id key 2
  .got (BitVec.ofNat 16 (ofBytes bs)) s

/-- R378, R389, R403: a halfword at a virtual address through the tables. The walk and the read are charged to the launch's
slot; a page of another module gives that module's answer, when a port leads there (R392). -/
def State.halfThrough (s : State) (t : Thread) (a : Word) : Half :=
  let va := a.toNat % 2 ^ 48
  let walked (more : List (Nat × Nat)) : Option State :=
    (State.payAll t.space (s.walkCharges t.space va ++ more) s).map fun s => s.walkFor (.hart t.id) t.space va
  match s.xlatWalk t.space va .fetch with
  | .hit key =>
    match homeOf key with
    | .remote dev =>
      if (s.exitPort dev).isNone then .wait
      else match walked [] with
        | none => .wait
        | some s =>
          let pa := (remoteParts key).2
          let s' := { s with nextId := s.nextId + 1 }
          match remoteFault (Config.remoteStatus dev pa s.nextId) with
          | some _ => .fail s'
          | none => .got (BitVec.ofNat 16 (ofBytes (remoteBytes dev pa s.nextId 2))) s'
    | _ =>
      match walked (chargesOf [(key, 2)]) with
      | none => .wait
      | some s => s.halfAt t key
  | _ => match walked [] with | none => .wait | some s => .fail s

/-- The halfword at an address for a hart, with the instruction cache filled, or none where the fetch fails (R98, R378). -/
def State.fetchHalf (s : State) (t : Thread) (a : Word) : Half :=
  let n := a.toNat
  match t.id with
  | .overlay ch => if 0x10000 ≤ n ∧ n + 1 < 0x11000 then s.halfAt t (overlayKey ch (n - 0x10000)) else .fail s
  | .thread c _ =>
    if n / 2 ^ 48 = 0x0100 then
      match lookup? (c.cluster, t.space, a) s.icache with
      | some h => .got h s
      | none =>
        match s.halfThrough t a with
        | .got h s => .got h { s with icache := ((c.cluster, t.space, a), h) :: s.icache }
        | x => x
    else .fail s
  | .porter _ _ => if n / 2 ^ 48 = 0x0100 then s.halfThrough t a else .fail s
  | _ => if n / 2 ^ 48 = 0x0100 ∧ isPlain (n % 2 ^ 48) then s.halfAt t (n % 2 ^ 48) else .fail s

/-- What fetching at an address gives. -/
inductive Fetched where
  | word (lo hi : BitVec 16) (s : State)
  /-- FETCH with its FADDR, STRADDLE and IWORD (R379), and the state after the reads. -/
  | fail (faddr : Word) (straddle : Bool) (iword : W32) (s : State)
  /-- The read cannot be made yet (R392, R403). -/
  | wait
  deriving DecidableEq, Repr

/-- R131, R378, R379: both halfwords of an instruction; the second is fetched only when the first asks for it. -/
def State.fetchAt (s : State) (t : Thread) (a : Word) : Fetched :=
  match s.fetchHalf t a with
  | .fail s' => .fail a false 0 s'
  | .wait => .wait
  | .got lo s' =>
    if isLong lo then
      match s'.fetchHalf t (a + 2) with
      | .fail s'' => .fail (a + 2) true (lo.setWidth 32) s''
      | .wait => .wait
      | .got hi s'' => .word lo hi s''
    else .word lo 0 s'

/-- The word and length of two halfwords (R131). -/
def wordOf (lo hi : BitVec 16) : W32 × Nat := if isLong lo then (hi ++ lo, 4) else (lo.setWidth 32, 2)

/-- The two halfwords of a word kept whole. -/
def halvesOf (w : W32) : BitVec 16 × BitVec 16 := (w.extractLsb' 0 16, w.extractLsb' 16 16)

/-- R200: a 5-bit field moved by the pass. -/
def moveField (w : W32) (lo : Nat) (marked : Bool) (step : Nat) : W32 :=
  if marked then
    let f : BitVec 5 := w.extractLsb' lo 5 + BitVec.ofNat 5 step
    (w &&& ~~~ ((0x1f#32) <<< lo)) ||| ((f.setWidth 32) <<< lo)
  else w

/-- R199, R200: the word of the body instruction at the context's position, staggered for its pass. -/
def RepCtx.current (c : RepCtx) : W32 × Nat :=
  let (w, len) := c.insns.getD c.pos (0, 2)
  let d := c.desc.toNat
  if d / 2 ^ c.pos % 2 = 1 ∧ c.pos < 16 then
    let step := c.pass % 32 * fieldN d 16 3
    (moveField (moveField (moveField w 17 (fieldN d 19 1 = 1) step) 12 (fieldN d 20 1 = 1) step) 7 (fieldN d 21 1 = 1) step, len)
  else (w, len)

/-- What fetching a REP's body gives: its words and lengths, the failing address, or a read that cannot be made yet. -/
inductive BodyFetch where
  | words (ws : List (W32 × Nat)) (s : State)
  | fail (faddr : Word) (s : State)
  | wait
  deriving DecidableEq, Repr

/-- R201: fetching the words of a REP's body. -/
def State.fetchBody (s : State) (t : Thread) (a : Word) : (n : Nat) → BodyFetch
  | 0 => .words [] s
  | n + 1 =>
    match s.fetchAt t a with
    | .fail fa _ _ s' => .fail fa s'
    | .wait => .wait
    | .word lo hi s' =>
      match s'.fetchBody t (a + BitVec.ofNat 64 (wordOf lo hi).2) n with
      | .words r s'' => .words (wordOf lo hi :: r) s''
      | x => x

/-- A troupe's leader. -/
def State.leaderOf (s : State) (tr : Troupe) : Option Thread := (tr.members.headD none).map s.hart

/-- R20: the word of a slot: from the stream, or the one at which the leader holds. -/
def State.slotWord (s : State) (tr : Troupe) (n : Nat) : W32 :=
  match tr.stream[n]? with
  | some r => r.word
  | none => ((s.leaderOf tr).map (·.iword)).getD 0

/-- Where the issuing hart's next word comes from: its repeat context, its troupe's stream, or memory. -/
def State.fetch (s : State) : Fetched :=
  let t := s.focus
  match t.rep, s.troupeOf t with
  | some c, none => let (lo, hi) := halvesOf c.current.1; .word lo hi s
  | some c, some tr =>
    let (lo, hi) := halvesOf (if t.tpos = 0 then c.current.1 else s.slotWord tr t.slotNo)
    .word lo hi s
  | none, some tr =>
    if t.tpos = 0 then s.fetchAt t t.pc
    else let (lo, hi) := halvesOf (s.slotWord tr t.slotNo); .word lo hi s
  | none, none => s.fetchAt t t.pc

/-- R20: the troupe cycle in which a member executes its next slot. -/
def Thread.troupeCycle (t : Thread) (tr : Troupe) : Nat := t.slotNo + t.tpos * tr.skew

/-- R20, R38, R225, R266: whether a troupe member may execute its next slot: the leader has decoded it, and every other member
that does not hold at a barrier or stand at the region entry at which the troupe is being pre-empted has come at least as far
in troupe cycles. The members of one troupe cycle execute in the order of their positions (log 119). A hart outside a troupe
always may. -/
def State.slotOpen (s : State) (t : Thread) : Bool :=
  match t.troupe, s.troupeOf t with
  | some i, some tr =>
    (decide (t.tpos = 0) || decide (t.slotNo < tr.stream.length) ||
     (decide (t.slotNo = tr.stream.length) && ((s.leaderOf tr).map Thread.holding).getD false)) &&
    (s.harts.all fun u =>
      !(decide (u.troupe = some i) && decide (u.id ≠ t.id)) || u.holding || s.yielding u ||
      (if u.tpos < t.tpos then decide (t.troupeCycle tr < u.troupeCycle tr) else decide (t.troupeCycle tr ≤ u.troupeCycle tr)))
  | _, _ => true

end Sys2Proof.Machine
end

