-- ==== Sys2Proof/Machine/Turns.lean ====
section
/-! DEFINITION. Whose turn it is and how time passes: the world's agenda and delays (logs 1 and 2), the stamp clock and
its slewing (R112, R396), the running thread of a core (R16), and the placing of one instruction for the next step. -/

namespace Sys2Proof

/-- What the agenda may let happen by itself: events, but not the two that only an issue brings about. -/
def Instr.happens : Instr → Bool
  | .reservedEncoding _ => false
  | .fetchFault _ _ _ => false
  | i => (encode i).isNone

end Sys2Proof

namespace Sys2Proof.Machine

/-- The issuing hart with the word it executes, for IWORD (R45). -/
def State.withWord (s : State) (w : W32) : State := s.mapFocus fun t => { t with iword := w }

/-- The next turn of the agenda, taken off it. -/
def State.nextTurn (s : State) : Option Turn × State :=
  match s.agenda with
  | [] => (none, s)
  | a :: r => (some a, { s with agenda := r })

/-- R396: how much of a correction is slewed at once where `lim` nanoseconds may be, and in its direction. -/
def slewPart (pending : Int) (lim : Nat) : Int :=
  if pending < -lim then -lim else if lim < pending then lim else pending

/-- R396: one step takes a nanosecond and what the world adds; the stamp clock follows, slewed by what is left to correct: 1 ns in
every 256 that pass, of which fewer wait for the next steps. -/
def State.tick (s : State) : State :=
  let n := 1 + s.delays.headD 0
  let passed := s.mc.slewRest + n
  let c := slewPart s.mc.slew (passed / 256)
  { s with delays := s.delays.tail, now := s.now + n, clk := s.clk + BitVec.ofNat 56 ((n : Int) + c).toNat,
           mc := { s.mc with slew := s.mc.slew - c, slewRest := min 255 (passed - 256 * c.natAbs) } }

/-- The core of the issuing hart, the first core if it is none. -/
def State.focusCore (s : State) : CoreId := (s.focus.id.core?).getD ⟨0, 0, 0⟩

/-- R16: the running thread has issued 256 times in a row while another thread of its core is ready. -/
def State.quantumDue (s : State) : Bool :=
  match s.focus.id with
  | .thread c h => decide (256 ≤ (lookupD (h, 0) c s.streaks).2) && decide ((lookupD (h, 0) c s.streaks).1 = h) && (s.nextReady c h).isSome
  | _ => false

/-- R16: a turn given to a thread goes to its core's running thread as long as that one can issue, else to the core's next ready
thread. -/
def State.giveTurn (s : State) (h : HartId) : State :=
  match h with
  | .thread c _ =>
    match lookup? c s.streaks with
    | some (r, _) =>
      let t := s.hart (.thread c r)
      if s.canIssue t then s.focusOn (.thread c r)
      else s.focusOn ((s.nextReady c r).getD (if s.ready t then .thread c r else h))
    | none => s.focusOn h
  | _ => s.focusOn h

/-- The hart as a stall leaves it. -/
def State.stalled (s : State) (h : HartId) (w : Wait) : Thread := (s.stall w).hart h

/-- R16, R20: a hart that would stall if it executed its next instruction or slot now, as that would leave it, found by running it. -/
def State.stallOf (run : Decoded → State → Host.Outcome State Fault Refusal) (s : State) (h : HartId) : Option Thread :=
  let s := s.focusOn h
  let t := s.focus
  if !s.ready t then some t
  else if t.pend.any fun q => decide (q.left = 0) then (if t.pushLate.pushDue.isSome then some (s.pushStep.hart h) else none)
  else match s.fetch with
    | .wait => some (s.stalled h .other)
    | .fail _ _ _ _ => none
    | .word lo hi s' =>
      match run (decodeHalves lo hi) s' with
      | .next s'' =>
        let t' := s''.hart h
        let stays : Bool := match t'.wait with | some (.barrier _, _) => false | some _ => true | none => false
        if t'.troupe = t.troupe ∧ t'.slotNo = t.slotNo ∧ stays = true then some t' else none
      | _ => none

/-- R16, R20: whether a hart would stall if it executed its next instruction or slot now. -/
def State.wouldStall (run : Decoded → State → Host.Outcome State Fault Refusal) (s : State) (h : HartId) : Bool := (s.stallOf run h).isSome

/-- R16: the waits of a core's threads that are over: their instructions would no longer stall. A barrier ends its own (R225). -/
def State.refresh (run : Decoded → State → Host.Outcome State Fault Refusal) (s : State) (c : CoreId) : State :=
  (List.range 4).foldl (fun s k =>
    let id := HartId.thread c k
    match (s.hart id).wait with
    | none => s
    | some (.barrier _, _) => s
    | some _ => if s.wouldStall run id then s else s.mapHart id fun t => { t with wait := none }) s

/-- R16: a turn given to a hart, once the waits of its core that are over have ended. -/
def State.turnTo (run : Decoded → State → Host.Outcome State Fault Refusal) (s : State) (h : HartId) : State :=
  match h with
  | .thread c _ => (s.refresh run c).giveTurn h
  | _ => s.focusOn h

/-- R20: the other members of the issuing hart's troupe that execute their slots in its troupe cycle. -/
def State.cycleMembers (s : State) : List Thread :=
  let t := s.focus
  match t.troupe, s.troupeOf t with
  | some i, some tr =>
    s.harts.filter fun u => decide (u.troupe = some i) && decide (u.id ≠ t.id) && !u.holding && !s.yielding u &&
      decide (u.troupeCycle tr = t.troupeCycle tr)
  | _, _ => []

/-- R20, R264: another member of the issuing hart's troupe cannot execute its slot of the same troupe cycle, so that none may. -/
def State.cycleStalled (run : Decoded → State → Host.Outcome State Fault Refusal) (s : State) : Bool :=
  s.cycleMembers.any fun u => s.wouldStall run u.id

/-- R20, R50, R263: members that hold their troupe back wait: what they wait for may time out. -/
def State.cycleWaits (run : Decoded → State → Host.Outcome State Fault Refusal) (s : State) : State :=
  s.cycleMembers.foldl (fun s' u => match s.stallOf run u.id with
    | some t => s'.mapHart u.id fun v => { v with wait := t.wait, iword := t.iword, part := t.part }
    | none => s') s

/-- The launch record of `withFetchWord`: slot 0, one thread of one core, the whole TCM and scratchpad, both
accumulators and a stream range. -/
def placedRec : LaunchRec :=
  { slot := 0, prio := 0, det := false, contain := false, lid := 1, entry := 0x0100000000000000, reaper := 0, tasks := 1,
    dh := 1, dw := 1, sdh := 0, sdw := 0, fbid := 0, fbn := 0, tcml := 1536, tc := 1, acc := 2, spb := 1048576,
    nmbase := 0, nmcount := 65535, geom := 0, pred0 := 0, pred1 := 0, doneev := 0, crec := 0, accrec := 0, args := 0,
    arglen := 0, fbhome := 0 }

/-- The launch of `withFetchWord`, running on the first cluster. -/
def placedLaunch : Launch :=
  { info := placedRec, seqNo := 0, atime := 0, readySince := none, stage := .running, crow := 0, ccol := 0, tcmOff := 0,
    spOffs := [(0, 0)], sets := [(⟨0, 0, 0⟩, [0])], argBytes := [], ranges := [(0, 1, 1)], sstep := 0, fbCount := 0,
    fbSent := false, fbVia := none, fbAcked := false, closing := false, ncont := 0, fcode := 0, ftask := 0, fkey := none, tstart := 0, was := [] }

/-- Writes bytes where an instruction is fetched: page tables for slot 0 in the first bytes of HBM and one 2 MiB page
with R and X, whose first bytes are the program, and a thread of the placed launch at its first address. -/
def State.placeProgram (s : State) (code : List Byte) : State :=
  let t := Thread.fresh (.thread ⟨0, 0, 0⟩ 0)
  let s := ((s.pokeBytes 0x200000 (leBytes 8 0x201003)).pokeBytes 0x201000 (leBytes 8 0x202003)).pokeBytes 0x202000 (leBytes 8 0x15)
  let s := s.pokeBytes 0 code
  { s with
    focus := { t with pc := 0x0100000000000000, state := .running, lid := 1, latch := false,
                      x := t.x.setIfInBounds 12 1 |>.setIfInBounds 13 1,
                      region := { t.region with entry := 0x0100000000000000 } }
    parked := s.parked.filter fun u => u.id ≠ t.id
    launches := placedLaunch :: s.launches.filter fun l => l.info.lid ≠ 1
    troupes := [], streaks := [], agenda := [], off := false
    icache := s.icache.filter fun e => e.1.1 ≠ 0
    mc := { s.mc with boot := .running, sroot := s.mc.sroot.set 0 (0x200000, true) } }

end Sys2Proof.Machine
end

