-- ==== Sys2Proof/Machine/Carousel.lean ====
section
/-! DEFINITION. The B latches and the carousel: BLD, BROT, BSWAP, BST and the events of ring deliveries (R260 to R266). -/

namespace Sys2Proof.Machine

/-- R262: the thread of a launch on a core that a delivery reaches. -/
def State.receiver (s : State) (lid : Nat) (c : CoreId) : Option Thread :=
  s.harts.find? fun t => decide (t.id.core? = some c) && decide (t.lid = lid) && decide (t.state ≠ .free) && !t.deaf

/-- R260, R262, R340: a tile leaves for a receiver whose b1 is EMPTY; one whose receiver's task has ended is discarded. -/
def State.startRing (s : State) (h : HartId) : State :=
  match (s.hart h).outTile with
  | some (l, false, some c) =>
    match s.receiver (s.hart h).lid c with
    | some r =>
      if r.fill = .empty then
        (s.mapHart r.id fun t => { t with fill := .filling false }).mapHart h fun t => { t with outTile := some (l, true, some c) }
      else s
    | none => s.mapHart h fun t => { t with outTile := none }
  | _ => s

/-- R262: every delivery starts in the first cycle in which its receiver's b1 is EMPTY. -/
def State.startRings (s : State) : State :=
  (s.harts.filter fun t => match t.outTile with | some (_, false, _) => true | _ => false).foldl (fun s t => s.startRing t.id) s

/-! ### A tile lands in b1 (R260, R265) -/

/-- R265: a region entry at which b1 was FILLING holds the tile of that filling once it lands. -/
def Region.land (g : Region) (l : Latch) : Region := match g.fill with | .filling _ => { g with b1 := l, fill := .full } | _ => g

/-- R260: a filling that is given up leaves the b1 of a region entry EMPTY. -/
def Region.unfill (g : Region) : Region := match g.fill with | .filling _ => { g with fill := .empty } | _ => g

/-- Changes the entry of a mark. -/
def Mark.onRegion (f : Region → Region) (m : Mark) : Mark := { m with region := f m.region }

/-- R260, R263: a tile is FULL in b1. -/
def Thread.landTile (t : Thread) (l : Latch) : Thread :=
  { t with b1 := l, fill := .full, region := t.region.land l, marks := t.marks.map (Mark.onRegion fun g => g.land l) }.unwait .swap

/-- R260: what filled b1 has failed or is discarded: b1 is EMPTY with its contents unchanged. -/
def Thread.emptyTile (t : Thread) : Thread :=
  { t with fill := .empty, region := t.region.unfill, marks := t.marks.map (Mark.onRegion Region.unfill) }

/-- BLD (R260, R261): the header's range is checked at issue; the rest follows in the interface. Its reads hold no permit
(log 130). -/
def execBld (g : Guard) (a : BitVec 5) (k : BitVec 2) (s : State) : Result :=
  .next (s.scalar .core g (do
    openGate
    checkPorts [a]
    let ea ← readX a
    let _ ← placeRange ea 8 false
    aligned ea 8
    let s ← get
    let t := s.focus
    await (match t.fill with | .filling _ => false | _ => true)
    countUp k
    setFocus fun t => { t with fill := .filling true }
    modify fun s => { s with nextId := s.nextId + 1
                             blds := s.blds ++ [⟨s.nextId, t.id, k, ea, t.superstep, t.heldIdx, none, t.pc, t.iword⟩] })
    needLatch)

/-- BST (R261): b0 goes out as a copy's destination is written. -/
def execBst (g : Guard) (a : BitVec 5) (k : BitVec 2) (s : State) : Result :=
  .next (s.scalar .core g (do
    openGate
    checkPorts [a]
    let ea ← readX a
    let t ← focus
    let bs := t.b0.tile
    let _ ← placeRange ea bs.length true
    aligned ea 8
    startCopy k false 0 ea ea bs.length (some bs)) needLatch)

/-- BROT (R23, R262): the tile goes to the next member; member w - 1 sends to member 0. -/
def execBrot (g : Guard) (s : State) : Result :=
  .next (s.scalar .core g (do
    let s ← get
    let t := s.focus
    match s.troupeOf t with
    | none => trap ILLEGAL
    | some tr => do
      check (!tr.brokenAt t.slotNo) RING_BROKEN
      await t.outTile.isNone
      let c : CoreId := ⟨tr.die, tr.row, tr.col + (t.tpos + 1) % tr.width⟩
      setFocus fun t => { t with outTile := some (t.b0, false, some c) }
      modify State.startRings) needLatch)

/-- R263: whether a hart's b1 is still due from a predecessor that is present. -/
def State.tileDue (s : State) (t : Thread) : Bool :=
  match s.troupeOf t with
  | some tr => (tr.members.toArray.getD ((t.tpos + tr.width - 1) % tr.width) none).isSome
  | none => false

/-- BSWAP (R260, R263). A delivery that waited for b1 starts with it, before a BLD of the next slot can (log 131). -/
def execBswap (g : Guard) (s : State) : Result :=
  .next (s.scalar .core g (do
    let s ← get
    let t := s.focus
    match t.fill with
    | .full => do
      setFocus fun t => { t with b0 := t.b1, b1 := t.b0, fill := .empty }
      modify State.startRings
    | .filling _ => waitFor .swap
    | .empty => do
      check (s.tileDue t) RING_BROKEN
      waitFor .swap) needLatch)

/-- BSWAP_TIMEOUT (R263): a wait longer than the port-wait limit traps. -/
def execBswapTimeout (h : HartId) (s : State) : Result :=
  .next (match (s.hart h).wait with
    | some (.swap, since) =>
      if s.waitedOut since ∧ (s.hart h).stage = .active then s.onHart h fun s => s.raise PORT_TIMEOUT 0 else s
    | _ => s)

/-- RING_DELIVERY_START (R260, R262, R340): a delivery that can start has started with the BROT or BSWAP that let it; one that
still waits starts here. -/
def execRingDeliveryStart (h : HartId) (s : State) : Result := .next (s.startRing h)

/-- RING_DELIVERY_DONE (R71, R87, R260, R262): the tile is FULL in the receiver's b1 and the sender's buffer frees. It travels in its
own BFMT, clamped there, and is converted back into RX. -/
def execRingDeliveryDone (h : HartId) (s : State) : Result :=
  .next (match (s.hart h).outTile with
    | some (l, true, some c) =>
      let s := match s.harts.find? fun t => decide (t.id.core? = some c) && decide (t.lid = (s.hart h).lid) && decide (t.fill = .filling false) with
        | some r => s.mapHart r.id fun t => t.landTile (Latch.load l.header (l.tile.drop 8))
        | none => s
      s.mapHart h fun t => { t with outTile := none }
    | _ => s)

/-- R261: a tile load's header and body: its bytes, or where it fails. -/
def State.readTile (s : State) (b : Bld) : Except (BitVec 8 × Word) Latch × State :=
  let t := s.hart b.hart
  let r := { asReq b.hart t.lid t.space with superstep := b.superstep }
  match State.rangeRead b.hart r .read 2 b.addr 8 s with
  | (.error e, s) => (.error e, s)
  | (.ok hd, s) =>
    let header := BitVec.ofNat 64 (ofBytes hd)
    let n := bodyBytes header
    let bad (i : Nat) : Bool := !rangeOk b.hart (s.launch? t.lid) b.addr (9 + i) false
    if bad (n - 1) then (.error (ACCESS, b.addr + BitVec.ofNat 64 (8 + ((List.range n).find? bad).getD 0)), s)
    else match State.rangeRead b.hart r .read 6 (b.addr + 8) n s with
      | (.error e, s) => (.error e, s)
      | (.ok body, s) => (.ok (Latch.load header body), s)

/-- R31, R119, R385, R392: the interface may read a tile now: the hart's earlier stores to it are performed, its superstep has begun,
a remote module's has a port that leads to it, and no piece of it is being restored. -/
def State.tileOpen (s : State) (b : Bld) : Bool :=
  !s.storesUnderway b.hart b.id (s.bldSpans b) && s.routed (s.bldSpans b) &&
  !((s.bldSpans b).any fun x => s.restoringAt (s.hart b.hart).lid x.1 x.2) &&
  (decide (b.addr.toNat / 2 ^ 48 = 0) || s.stepOpen (s.hart b.hart).lid b.superstep)

/-- The request that stands for a tile load. -/
def State.bldReq (s : State) (b : Bld) : Req :=
  let t := s.hart b.hart
  { asReq b.hart t.lid t.space with id := s.nextId, grp := b.id, task := t.task, dc := some b.dc, addr := b.addr, superstep := b.superstep, idx := b.idx,
                                    pc := b.pc, iword := b.iword }

/-- R260, R261, R403: the tile's walks and reads are charged to its launch's slot, and it is read whole (log 31) and converted: b1 is FULL
and the counter falls; a failed read leaves b1 EMPTY, and its negative reply, which faults the task, is on its way (R103). -/
def State.fillTile (s : State) (b : Bld) : State :=
  let r := s.bldReq b
  match State.payAll r.space (s.readCharges r b.addr (s.tileLen b)) s with
  | none => s
  | some s =>
    let (tile, s) := s.readTile b
    let s := { s with blds := s.blds.filter fun q => q.id ≠ b.id }
    match tile with
    | .ok l => (s.mapHart b.hart fun t => t.landTile l).countDown b.hart b.dc
    | .error (code, a) =>
      ({ s with net := s.net ++ [{ r with phase := .refused code a }], nextId := s.nextId + 1 }.mapHart b.hart Thread.emptyTile).startRings

/-- BLD_FILL_DONE (R108, R121, R260, R261): a hart's tile load reads its tile once it may. Where pieces of it are read in ordered
class, the read is stamped first and takes its turn in stamp order. A read on an excluded input never returns (R388). -/
def execBldFillDone (h : HartId) (s : State) : Result :=
  .next (match s.blds.find? fun b => b.hart = h with
    | none => s
    | some b =>
      if !s.tileOpen b then s
      else match b.stamp with
        | some st =>
          let s := s.readArrives h.die st (s.tileOrdered b)
          if s.readInOrder st (s.tileOrdered b) then s.fillTile b else s
        | none =>
          match s.rangeShut (s.bldReq b) b.addr (s.tileLen b) with
          | some detail => { s with blds := s.blds.filter fun q => q.id ≠ b.id }.readLost detail
          | none =>
            if !(s.tileOrdered b).isEmpty then
              let (st, s) := s.stamp (injOf h)
              { s with blds := s.blds.map fun q => if q.id = b.id then { q with stamp := some st } else q }
            else s.fillTile b)

end Sys2Proof.Machine
end

