-- ==== Sys2Proof/Machine/Home.lean ====
section
/-! DEFINITION. When a home may perform a request: the translation and attribute checks on the way (R97, R103, R366), and what
holds a request back at its home (R31, R119, R121, R326, R403). -/

namespace Sys2Proof.Machine

/-! ### Translation on the way (R103) -/

/-- What a request needs of its page (R97, R330). -/
def Body.need : Body → Need
  | .load _ _ => .read
  | .loadAt _ _ => .read
  | .store _ => .write
  | .amo .. => .amo
  | .node .. => .node
  | .block .. => .unit
  | .nmrst .. => .unit
  | .reduction .. => .amo

/-- R301: the page that NINIT names, translated as an access of its own that needs N, R and W. -/
def State.xlatPage (s : State) (r : Req) (a : Word) : Xlat := if a.toNat / 2 ^ 48 ≠ 0x0100 then .fail ACCESS else s.xlat r a .node

/-- R103, R301, R325, R336, R383: where a request's address leads: translated and checked for its attributes; an overlay
only reaches C pages of its own channel, NINIT's page is translated too, no atomic acts on a control page, and no load or
atomic on a piece that is swapped out. -/
def State.resolve (s : State) (r : Req) : Xlat :=
  let x : Xlat := match r.akey, r.src with
    | some key, _ => .hit key
    | none, .hart (.overlay ch) =>
      match s.xlat r r.addr .unit with
      | .hit key => if homeOf key ≠ .channel ch then .fail ATTR else s.xlat r r.addr r.body.need
      | x => x
    | none, _ => s.xlat r r.addr r.body.need
  match x, r.body with
  | .hit key, .amo _ n _ _ _ => if onPage key || (s.swappedAt r.lid key n).isSome then .fail ACCESS else .hit key
  | .hit key, .load n _ => if (s.swappedAt r.lid key n).isSome then .fail ACCESS else .hit key
  | .hit key, .loadAt _ _ => if (s.swappedAt r.lid key r.body.len).isSome then .fail ACCESS else .hit key
  | .hit key, .node .ninit a _ _ _ _ => if r.page.isSome then .hit key else match s.xlatPage r a with | .hit _ => .hit key | y => y
  | x, _ => x

/-- R301: the page of the address that NINIT names, as the issuing Waystation's translation gives it: its virtual start, its
size and its start's byte key. A steward's address is physical and has no page: the model takes 64 KiB, or the size of an entry that
its Waystation holds for that number (log 148). -/
def State.pageFor (s : State) (r : Req) : Option (Nat × Nat × Nat) :=
  match r.body with
  | .node .ninit a _ _ _ _ =>
    match s.xlatPage r a with
    | .hit k =>
      let size := match s.cached r.src.station r.space (a.toNat % 2 ^ 48) with | some e => e.pages * 65536 | none => 65536
      some (a.toNat / size * size, size, k - a.toNat % size)
    | _ => none
  | _ => none

/-- A request whose translation is settled: its key and NINIT's page go with it (R103, R301). -/
def State.translated (s : State) (r : Req) (key : Nat) : Req := { r with akey := some key, page := r.page.orElse fun _ => s.pageFor r }

/-- R301, R366: the address whose translation a request waits for: NINIT's page comes after its pool's header. -/
def State.missing (s : State) (r : Req) : Word :=
  match r.body with
  | .node .ninit a _ _ _ _ => (match s.xlat r r.addr .node with | .hit _ => a | _ => r.addr)
  | _ => r.addr

/-- R103: the failing byte address of a request: its first byte that is accessed. -/
def Req.failAddr (r : Req) : Word :=
  match r.body with
  | .loadAt offs _ => r.addr + BitVec.ofNat 64 (offs.foldl min (offs.headD 0))
  | .store bytes => r.addr + BitVec.ofNat 64 ((bytes.findIdx? Option.isSome).getD 0)
  | _ => r.addr

/-- R103: a request is refused: its negative reply is on its way. -/
def State.refuse (s : State) (r : Req) (code : BitVec 8) : State := s.putReq { r with phase := .refused code r.failAddr }

/-- R103, R301, R303: a request that its Waystation refuses; NINIT's page fails at its own address, and a node command closes nothing. -/
def State.refuseAt (s : State) (r : Req) (code : BitVec 8) : State :=
  (match r.body with | .node .. => s.unclose r.id | _ => s).putReq { r with phase := .refused code (match r.body with | .node .ninit .. => s.missing r | _ => r.failAddr) }

/-! ### What holds a request back -/

/-- R31: the superstep of a DET launch's access that is not held has not begun. -/
def State.stepClosed (s : State) (r : Req) : Bool :=
  match r.src with
  | .hart (.thread _ _) => decide (r.addr.toNat / 2 ^ 48 ≠ 0) && !s.stepOpen r.lid r.superstep
  | _ => false

/-- R119: program order of two requests of a hart. -/
def Req.before (q r : Req) : Bool := decide (q.grp < r.grp) || (decide (q.grp = r.grp) && decide (q.id < r.id))

/-- R119, R221: an earlier access of the same hart to the same word is not performed yet, or an earlier copy or tile load has
still to read or write what this request writes. A load does not wait for a copy's packets, and what writes does not wait for
a load of a superstep to come, which reads memory as that superstep finds it (R31). -/
def State.earlierOwn (s : State) (r : Req) (key : Nat) : Bool :=
  match r.src with
  | .hart h =>
    ((s.buffered h ++ s.net.filter fun q => q.phase.underway).any fun q =>
      q.isOf h && q.before r && decide (q.cls ≠ .held) && (r.body.writes || !q.packet) && (q.body.writes || !s.stepClosed q) &&
      ((match h with | .overlay _ => true | _ => false) || spansMeet ((key, r.body.len) :: s.reqSpans r) (s.reqSpans q))) ||
    (r.body.writes && s.asyncBusy h r.grp ((key, r.body.len) :: s.reqSpans r))
  | _ => false

/-- R326: a request's write meets a unit that another block holds. An overlay writes for the block that ran it, also after it
stopped, a completion word belongs to its block, and a block or a reset that comes to its unit writes nothing where it is sent. -/
def State.heldBack (s : State) (r : Req) (key : Nat) : Bool :=
  (match r.body with | .block .. => false | .nmrst .. => false | _ => true) &&
  s.holds.any fun (w, ch, k) =>
    let u := lookupD ChUnit.fresh ch s.units
    let own := (lookup? k u.streams).bind (·.active)
    (((key, r.body.len) :: s.reqSpans r).any fun (k, n) => decide (n ≠ 0) && decide (k / 256 ≤ w) && decide (w ≤ (k + n - 1) / 256)) &&
    !(match r.src with
      | .hart (.overlay c) => decide (c = ch) && decide (u.runner = some k)
      | .unit c => decide (c = ch) && (own.map fun a => decide (a.block.grp = r.grp)).getD false
      | _ => false)

/-- R121: another ordered access at the same home has a lesser stamp and is not performed: a request, or the read of a tile load
or of a copy's packet. -/
def State.notLeast (s : State) (r : Req) (key : Nat) : Bool :=
  s.lesserRead r.stamp (homeOf key) ||
  s.net.any fun q => decide (q.cls = .ordered) && decide (q.phase = .atHome) && decide (q.id ≠ r.id) &&
    (match s.reqKey? q with | some k => decide (homeOf k = homeOf key) | none => false) && q.stamp.lt r.stamp

/-- R388: the packet comes in on an input of its home's port that was excluded before it entered the network. -/
def State.excludedIn (s : State) (r : Req) (key : Nat) : Bool :=
  ((lookup? r.src.input (s.portRec (homeOf key).port).excluded).map fun ids => decide (r.id ∉ ids)).getD false

/-- What may happen to a request at its home now. -/
inductive Gate where
  | wait
  | refuse (code : BitVec 8)
  | discard
  | go (key : Nat)
  deriving DecidableEq, Repr

/-- Whether a bulk or an ordered request may be performed now (R109, R115, R119, R121, R326, R385, R403). -/
def State.gate (s : State) (r : Req) : Gate :=
  match s.resolve r with
  | .miss => .wait
  | .fail code => .refuse code
  | .hit key =>
    if s.excludedIn r key then .discard
    else if s.stepClosed r || s.earlierOwn r key || (r.body.writes && s.heldBack r key) || s.restoringAt r.lid key r.body.len ||
        (!r.served && (match homeOf key with | .channel _ => true | _ => false)) ||
        (decide (2 ^ 50 ≤ key) && decide (r.phase ≠ .atHome)) ||
        (decide (r.cls = .ordered) && s.notLeast r key) then .wait
    else .go key

/-- R388, R399, R412: a packet is discarded on an excluded input and reported. -/
def State.discard (s : State) (r : Req) (port : Nat) : State :=
  let detail := if 34 ≤ r.src.input then 0x100000000 + (r.src.input - 34) else port + r.src.input
  (s.drop r.id).reportSystem 6 0 0 0 detail

/-- A request is performed at a time with what its reply carries (R111); the replies to the fabric's packets leave the module. -/
def State.performedAt (s : State) (r : Req) (data : List Byte) (time : BitVec 56) : State :=
  match r.src with
  | .fabric _ => s.drop r.id
  | _ => s.putReq { r with phase := .performed data time }

/-- A request is performed now, by this module's stamp clock (R111). -/
def State.performed (s : State) (r : Req) (data : List Byte) : State := s.performedAt r data s.clk

/-- A bulk request at its home, or on the way to it; an ordered one that was forwarded. -/
def Req.arrived (r : Req) : Bool :=
  match r.cls, r.phase with
  | .bulk, .sent => true
  | .bulk, .atHome => true
  | .ordered, .atHome => true
  | _, _ => false

/-- What an event at a home does with an arrived request: it is refused, discarded, held back, or acted on at its key. -/
def State.atHome (s : State) (id : Nat) (pick : Req → Bool) (act : State → Req → (key : Nat) → State) : State :=
  match s.req? id with
  | some r =>
    if r.arrived && pick r then
      match s.gate r with
      | .wait => s
      | .refuse code => s.refuseAt r code
      | .discard => s.discard r (((s.reqKey? r).map fun k => (homeOf k).port).getD 0)
      | .go key => act s r key
    else s
  | none => s

end Sys2Proof.Machine
end

