-- ==== Sys2Proof/Machine/Page.lean ====
section
/-! DEFINITION. The control pages: what each register reads as, and what a write does to the registers that have no event
of their own (R336, R369, R370, R376, R395, R400, R402). -/

namespace Sys2Proof.Machine

/-- Bits [lo + n - 1 : lo] of a number, in their place. -/
def keepField (v lo n : Nat) : Nat := fieldN v lo n * 2 ^ lo

/-- A doubleword register by its place. -/
inductive PageReg where
  /-- A Porter's PROG, KICK, STATUS (R336). -/
  | prog (die p : Nat) | kick (die p : Nat) | status (die p : Nat)
  /-- A thread control block's registers (R376). -/
  | xreg (h : HartId) (n : Nat) | tctl (h : HartId) | savea (h : HartId) | gba (h : HartId) | gblen (h : HartId) | tstat (h : HartId)
  /-- A die control page's registers (R370); shares are two entries of a channel's table (R402). -/
  | excl (die : Nat) | cellarb (die : Nat) | cellarl (die : Nat) | nrbase (r : RingId) | nrptr (r : RingId)
  | shares (ch slot : Nat) | nmucmd (ch : Nat) | nmusave (ch : Nat)
  /-- The module control page's registers (R369, R395, R400). -/
  | sroot (slot : Nat) | inva | invc | cecnt (die : Nat) | bootstat | fwgo | lcs | fftb | fslot | fexcl | fports | tsync
  | pwlim | wmstall | winLo (w : Nat) | winHi (w : Nat) | launch | qreq
  /-- No register. -/
  | none
  deriving DecidableEq, Repr

/-- The register at a control-page byte, rounded down to its doubleword. -/
def pageReg (pa : Nat) : PageReg :=
  match phys pa with
  | .porterPage d o =>
    if o < 0x800 then
      match o % 0x100 / 8 with
      | 0 => .prog d (o / 0x100)
      | 1 => .kick d (o / 0x100)
      | 2 => .status d (o / 0x100)
      | _ => .none
    else .none
  | .tcb c h o =>
    let id := HartId.thread c h
    if o < 0x100 then .xreg id (o / 8)
    else match o / 8 with
      | 0x20 => .tctl id
      | 0x21 => .savea id
      | 0x22 => .gba id
      | 0x23 => .gblen id
      | 0x24 => .tstat id
      | _ => .none
  | .diePage d o =>
    if o < 8 then .excl d
    else if o < 0x10 then .cellarb d
    else if o < 0x18 then .cellarl d
    else if 0x40 ≤ o ∧ o < 0x80 then (if o / 8 % 2 = 0 then .nrbase (.die d ((o - 0x40) / 16)) else .nrptr (.die d ((o - 0x40) / 16)))
    else if 0x1000 ≤ o ∧ o < 0x2000 then
      match unitChannel d ((o - 0x1000) / 64) with
      | some ch => .shares ch (o % 64 / 8 * 2)
      | Option.none => .none
    else if 0x2000 ≤ o ∧ o < 0x2400 then
      match unitChannel d ((o - 0x2000) / 16) with
      | some ch => if o / 8 % 2 = 0 then .nmucmd ch else .nmusave ch
      | Option.none => .none
    else .none
  | .modulePage o =>
    if o < 0x80 then .sroot (o / 8)
    else if 0x200 ≤ o ∧ o < 0x300 then .cecnt ((o - 0x200) / 8)
    else if 0x400 ≤ o ∧ o < 0x1400 then (if o / 8 % 2 = 0 then .winLo ((o - 0x400) / 16) else .winHi ((o - 0x400) / 16))
    else if 0x8000 ≤ o ∧ o < 0x8080 then .launch
    else if 0x8080 ≤ o ∧ o < 0x80c0 then .qreq
    else match o / 8 with
      | 0x20 => .inva
      | 0x21 => .invc
      | 0x60 => .bootstat
      | 0x61 => .fwgo
      | 0x62 => .lcs
      | 0x63 => .fftb
      | 0x64 => .fslot
      | 0x65 => .fexcl
      | 0x66 => .fports
      | 0x67 => .tsync
      | 0x68 => .pwlim
      | 0x69 => .wmstall
      | 0x6a => .nrbase .module
      | 0x6b => .nrptr .module
      | _ => .none
  | _ => .none

/-! ### Reading -/

/-- TSTAT.STATE's code (R376). -/
def TState.code : TState → Nat
  | .free => 0
  | .running => 1
  | .stopped => 2
  | .pending => 3
  | .saved => 4

/-- NSTATE's code (R370). -/
def NState.code : NState → Nat
  | .running => 0
  | .saving => 1
  | .saved => 2
  | .restoring => 3

/-- BOOTSTAT.STATE's code (R395). -/
def Boot.code : Boot → Nat
  | .wipe => 0
  | .selftest => 1
  | .await => 2
  | .checking => 3
  | .running => 4
  | .failed => 5

/-- R376: TSTAT of a thread set. -/
def Thread.tstat (t : Thread) : Nat :=
  t.state.code + (if t.state = .stopped then t.ctx.scode.toNat * 2 ^ 8 else 0) + (if t.state = .free then 0 else t.lid % 65536 * 2 ^ 16)

/-- A die's registers. -/
def State.die (s : State) (d : Nat) : DieRegs := s.dies.toArray.getD d ⟨0, 0, Vector.replicate 4 Ring.fresh⟩

/-- A share table entry (R402). -/
def ChUnit.share (u : ChUnit) (slot : Nat) : Nat :=
  let (cap, w) := u.shares.toArray.getD slot (false, 1)
  flag cap * 2 ^ 8 + w.toNat

/-- A reduction window (R400). -/
def State.win (s : State) (w : Nat) : Window := s.mc.wins.toArray.getD w ⟨0, 0, false, 0, 0⟩

/-- What a register reads as; write-only registers and command bits read zero. -/
def State.regRead (s : State) (r : PageReg) : Nat :=
  match r with
  | .prog d p => (s.hart (.porter d p)).porter.prog.toNat
  | .status d p =>
    let q := (s.hart (.porter d p)).porter
    flag q.run + flag q.lost * 2 + flag q.fault * 4 + q.fcode.toNat * 2 ^ 8
  | .xreg h n => if (s.hart h).state = .stopped then ((s.hart h).x.toArray.getD n 0).toNat else 0
  | .savea h => (s.hart h).ctx.savea.toNat
  | .gba h => (s.hart h).ctx.gba.toNat
  | .gblen h => (s.hart h).ctx.gblen.toNat
  | .tstat h => (s.hart h).tstat
  | .cellarb d => (s.die d).cellarb
  | .cellarl d => (s.die d).cellarl.toNat
  | .nrbase r => (s.ring r).base + flag (s.ring r).en
  | .nrptr r => (s.ring r).head.toNat + (s.ring r).tail.toNat * 2 ^ 16
  | .shares ch slot => (s.unit ch).share slot + (s.unit ch).share (slot + 1) * 2 ^ 32
  | .nmucmd ch => (s.unit ch).nstate.code * 2 ^ 8
  | .nmusave ch => (s.unit ch).nmusave.toNat
  | .sroot slot => let (t, en) := s.mc.sroot.toArray.getD slot (0, false); t + flag en
  | .inva => s.mc.inva.toNat
  | .cecnt d => (s.mc.cecnt.toArray.getD d 0).toNat
  | .bootstat => s.mc.boot.code + s.mc.reject.toNat * 2 ^ 8
  | .lcs => s.mc.lcs.toNat
  | .fftb => s.mc.fftb
  | .fslot => s.mc.fslot.toNat
  | .fports => s.mc.fports.toNat
  | .tsync => flag s.mc.locked + flag s.mc.lost * 2 + (BitVec.ofInt 32 s.mc.offset).toNat * 2 ^ 32
  | .pwlim => s.mc.pwlim.toNat
  | .wmstall => s.mc.wmstall.toNat
  | .winLo w =>
    let q := s.win w
    q.home.toNat + flag q.en * 2 ^ 17 + q.op.toNat * 2 ^ 18 + q.count.toNat * 2 ^ 32
  | .winHi w => (s.win w).frame
  | _ => 0

/-- R336: a load of a Porter's slot that is not an aligned doubleword reads zero. -/
def onPorterPage (key : Nat) : Bool := match phys key with | .porterPage _ _ => true | _ => false

/-- A load of n bytes of a control page. -/
def State.pageBytes (s : State) (key n : Nat) : List Byte :=
  if onPorterPage key && !(decide (n = 8) && decide (key % 8 = 0)) then List.replicate n 0
  else (List.range n).map fun i => byteAt (leBytes 8 (s.regRead (pageReg (key + i)))) ((key + i) % 8)

/-! ### Writing -/

/-- A register whose write is an event of its own in the opcode table. -/
def PageReg.command : PageReg → Bool
  | .kick _ _ => true
  | .tctl _ => true
  | .excl _ => true
  | .nmucmd _ => true
  | .invc => true
  | .cecnt _ => true
  | .fwgo => true
  | .fexcl => true
  | .launch => true
  | .qreq => true
  | _ => false

/-- R395: PWLIM and WMSTALL take 10 to 40. -/
def limitOk (v : Nat) : Bool := decide (10 ≤ fieldN v 0 6) && decide (fieldN v 0 6 ≤ 40)

/-- Changes a ring's registers. -/
def State.mapRing (s : State) (id : RingId) (f : Ring → Ring) : State := s.setRing id (f (s.ring id))

/-- What a write of a whole doubleword does to a register that is no command: its RW fields are updated, RES and RO bits
keep their values, W1C bits clear (R369). -/
def State.regWrite (s : State) (r : PageReg) (v : Nat) : State :=
  let w := BitVec.ofNat 64 v
  match r with
  | .prog d p => s.mapHart (.porter d p) fun t => { t with porter := { t.porter with prog := w } }
  | .status d p => s.mapHart (.porter d p) fun t => { t with porter := { t.porter with
      fault := t.porter.fault && fieldN v 2 1 == 0, lost := t.porter.lost && fieldN v 1 1 == 0 } }
  | .xreg h n => if (s.hart h).state = .stopped then s.mapHart h fun t => t.setX (BitVec.ofNat 5 n) w else s
  | .savea h => s.mapHart h fun t => { t with ctx := { t.ctx with savea := w } }
  | .gba h => s.mapHart h fun t => { t with ctx := { t.ctx with gba := w } }
  | .gblen h => s.mapHart h fun t => { t with ctx := { t.ctx with gblen := w } }
  | .cellarb d => { s with dies := s.dies.setIfInBounds d { s.die d with cellarb := keepField v 16 31 } }
  | .cellarl d => { s with dies := s.dies.setIfInBounds d { s.die d with cellarl := BitVec.ofNat 32 v } }
  | .nrbase r => s.mapRing r fun q => { q with base := keepField v 12 35, en := fieldN v 0 1 == 1 }
  | .nrptr r => s.mapRing r fun q => { q with tail := BitVec.ofNat 16 (fieldN v 16 16) }
  | .shares ch slot =>
    let u := s.unit ch
    let entry (e : Nat) : Bool × BitVec 8 := (fieldN e 8 1 == 1, BitVec.ofNat 8 e)
    s.setUnit ch { u with shares := (u.shares.setIfInBounds slot (entry v)).setIfInBounds (slot + 1) (entry (v / 2 ^ 32)) }
  | .nmusave ch => s.setUnit ch { s.unit ch with nmusave := BitVec.ofNat 64 (keepField v 16 31) }
  | .sroot slot => { s with mc := { s.mc with sroot := s.mc.sroot.setIfInBounds slot (keepField v 12 36, fieldN v 0 1 == 1) } }
  | .inva => { s with mc := { s.mc with inva := BitVec.ofNat 64 (keepField v 16 32) } }
  | .fftb => { s with mc := { s.mc with fftb := keepField v 16 31 } }
  | .fslot => { s with mc := { s.mc with fslot := BitVec.ofNat 4 v } }
  | .pwlim => if limitOk v then { s with mc := { s.mc with pwlim := BitVec.ofNat 6 v } } else s
  | .wmstall => if limitOk v then { s with mc := { s.mc with wmstall := BitVec.ofNat 6 v } } else s
  | .winLo i => { s with mc := { s.mc with wins := s.mc.wins.setIfInBounds i { s.win i with
      home := BitVec.ofNat 17 v, en := fieldN v 17 1 == 1, op := BitVec.ofNat 3 (fieldN v 18 3), count := BitVec.ofNat 16 (fieldN v 32 16) } } }
  | .winHi i => { s with mc := { s.mc with wins := s.mc.wins.setIfInBounds i { s.win i with frame := keepField v 16 31 } } }
  | _ => s

/-- A doubleword with the bytes of a store from key `key` put over its old value. -/
def overlaid (old base key : Nat) (bytes : List (Option Byte)) : Nat :=
  ofBytes ((List.range 8).map fun i =>
    if key ≤ base + i then ((bytes.getD (base + i - key) none)).getD (byteAt (leBytes 8 old) i) else byteAt (leBytes 8 old) i)

/-- A store to a control page updates every plain register that it touches; to a Porter's slot only an aligned doubleword
does (R336). -/
def State.pageWrite (s : State) (key : Nat) (bytes : List (Option Byte)) : State :=
  if onPorterPage key && !(decide (bytes.length = 8) && decide (key % 8 = 0)) then s
  else
    let first := key / 8 * 8
    (List.range ((key + bytes.length + 7) / 8 - key / 8)).foldl (fun s i =>
      let r := pageReg (first + 8 * i)
      if r.command then s else s.regWrite r (overlaid (s.regRead r) (first + 8 * i) key bytes)) s

/-- The doubleword that a store to a command register carries: bytes that it does not write are zero. -/
def storedWord (key : Nat) (bytes : List (Option Byte)) : Nat := overlaid 0 (key / 8 * 8) key bytes

/-- A request that an event of a control page acts on: an arrived store of a doubleword or less to a register. On a
Porter's page only an aligned store of a doubleword counts (R336). Plain registers that a longer store also touches are written. -/
def State.onCommand (s : State) (id : Nat) (pick : PageReg → Bool) (act : State → Req → PageReg → (value : Nat) → State) : State :=
  s.atHome id (fun r => match r.body with | .store _ => true | _ => false) fun s r key =>
    match r.body with
    | .store bytes =>
      let reg := pageReg key
      if onPage key && pick reg then
        if onPorterPage key && (r.wide || !(decide (bytes.length = 8) && decide (key % 8 = 0))) then s.performed r []
        else act (s.pageWrite key bytes) r reg (storedWord key bytes)
      else s
    | _ => s

end Sys2Proof.Machine
end

