-- ==== Sys2Proof/Machine/NearMem.lean ====
section
/-! DEFINITION. Near-memory units: NMSEND, NMOVL and NMRST (R330 to R334), the streams of a channel unit and their tickets
(R320), command blocks and their commands (R322 to R325), holds (R326) and completion words (R327, R328). -/

namespace Sys2Proof.Machine

/-! ### NMSEND, NMOVL, NMRST -/

/-- R330, steps 1 and 2: the ticket in e5. -/
def ticket : M (Nat × BitVec 32) := do
  let w ← readE 5
  check (w.toNat / 2 ^ 48 = 0) ILLEGAL
  let stream := fieldN w.toNat 32 16
  let s ← get
  check (((s.launchOf s.focus).map fun l => decide (l.info.nmbase ≤ stream) && decide (stream < l.info.nmbase + l.info.nmcount)).getD false) ACCESS
  return (stream, BitVec.ofNat 32 w.toNat)

/-- How a command to a unit travels: ordered class at any home (R108), held in a DET launch (R334). -/
def unitManner (k : BitVec 2) : Manner := ⟨some k, false, false, true, true, false, false⟩

/-- NMSEND and NMOVL (R330): n bytes are copied at issue, the release waits, and the ticket is consumed. -/
def sendBlock (ovl : Bool) (n : Nat) (a : BitVec 5) (k : BitVec 2) : M Unit := do
  let before ← focus
  openGate
  checkPorts [a]
  let ea ← readX a
  let (stream, seq) ← ticket
  aligned ea 8
  let key ← tcmRange ea n
  let bs ← copied (readLocal key n)
  let route := BitVec.ofNat 64 (numAt bs 8 8)
  check (route.toNat / 2 ^ 48 = 0x0100) ACCESS route
  releaseAfter before bs
  writeE 5 (BitVec.ofNat 64 (stream * 2 ^ 32 + (seq + 1).toNat))
  send (unitManner k) [⟨route, .block ovl stream seq bs⟩]

/-- NMSEND (R330, R331); a closing instruction (R34). -/
def execNmsend (g : Guard) (a : BitVec 5) (k : BitVec 2) (s : State) : Result :=
  .next (s.scalar .core g (sendBlock false 256 a k) noPre .yes)

/-- NMOVL (R330, R332); a closing instruction (R34). -/
def execNmovl (g : Guard) (a : BitVec 5) (k : BitVec 2) (s : State) : Result :=
  .next (s.scalar .core g (sendBlock true 24 a k) noPre .yes)

/-- NMRST (R333): no later access issues until the reset has been applied. -/
def execNmrst (g : Guard) (a : BitVec 5) (k : BitVec 2) (s : State) : Result :=
  .next (s.scalar .core g (do
    openGate
    checkPorts [a]
    let route ← readX a
    let (stream, seq) ← ticket
    check (route.toNat / 2 ^ 48 = 0x0100) ACCESS route
    send ⟨some k, false, true, false, true, false, false⟩ [⟨route, .nmrst stream seq⟩]))

/-! ### Streams -/

/-- A stream of a unit (R320). -/
def ChUnit.stream (u : ChUnit) (k : Nat) : Stream := lookupD ⟨0, false, [], none⟩ k u.streams

/-- Replaces a stream. -/
def State.setStream (s : State) (ch k : Nat) (st : Stream) : State :=
  s.setUnit ch { s.unit ch with streams := insertKey k st (s.unit ch).streams }

/-- Changes a stream. -/
def State.mapStream (s : State) (ch k : Nat) (f : Stream → Stream) : State := s.setStream ch k (f ((s.unit ch).stream k))

/-- The completion word's address (R322, R332). -/
def Block.caddr (b : Block) : Word := BitVec.ofNat 64 (numAt b.bytes 16 8)

/-- R328: CADDR is a multiple of 8 in the global or the core-window region. -/
def Block.caddrOk (b : Block) : Bool :=
  decide (b.caddr.toNat % 8 = 0) && (decide (b.caddr.toNat / 2 ^ 48 = 0x0100) || decide (b.caddr.toNat / 2 ^ 48 = 1))

/-- R327: the completion word. -/
def completionWord (status fail : Nat) (seq : BitVec 32) : Nat := 2 ^ 63 + fail * 2 ^ 40 + status * 2 ^ 32 + seq.toNat

/-- The request of a unit's own write; `lost` says that its refusal has no consequence. -/
def Block.wordReq (b : Block) (ch id : Nat) (status fail : Nat) (lost : Bool) : Req :=
  { asReq (.overlay ch) b.lid b.space with
    id, grp := b.grp, task := b.stream, src := .unit ch, cls := .ordered, addr := b.caddr, served := false, failed := lost,
    body := .store ((leBytes 8 (completionWord status fail b.seq)).map some) }

/-- R328: a completion word has somewhere to go: CADDR passes its check, and in the core-window region lies in the launch's domain and
area. Whether a global address translates is known when it is on its way (R366). -/
def State.wordGoes (s : State) (b : Block) : Bool :=
  b.caddrOk && (decide (b.caddr.toNat / 2 ^ 48 ≠ 1) ||
    (match windowPlace (s.launch? b.lid) b.caddr.toNat with | .window _ _ => true | _ => false))

/-- R327, R328: a completion word leaves as a release, if it has somewhere to go. -/
def State.sendWord (s : State) (ch : Nat) (b : Block) (status fail : Nat) (lost : Bool := false) : Bool × State :=
  if s.wordGoes b then (true, { s with nextId := s.nextId + 1 }.inject (b.wordReq ch s.nextId status fail lost)) else (false, s)

/-- R328: a stream halts or is reset: its waiting blocks are discarded with HALTED. A word of theirs that cannot be written has no
consequence (log 150). -/
def State.discardWaiting (s : State) (ch k : Nat) : State :=
  let waiting := ((s.unit ch).stream k).waiting
  waiting.foldl (fun s b => (s.sendWord ch b 3 0xFF true).2) (s.mapStream ch k fun st => { st with waiting := [] })

/-- R328: HALTED is set. -/
def State.haltStream (s : State) (ch k : Nat) : State := (s.mapStream ch k fun st => { st with halted := true }).discardWaiting ch k

/-- R320, R328: the block of the next sequence number begins, if it is there, no block of the stream is executing and the unit runs
(R386). One whose CADDR is bad executes nothing, counts as executed and halts the stream. -/
def State.startBlock (s : State) (ch k : Nat) : State :=
  let st := (s.unit ch).stream k
  if st.halted || st.active.isSome || decide ((s.unit ch).nstate ≠ .running) then s
  else match st.waiting.find? fun b => b.seq = st.next with
    | none => s
    | some b =>
      let st := { st with waiting := st.waiting.filter fun q => q.seq ≠ b.seq }
      if b.caddrOk then
        s.setStream ch k { st with active := some { block := b, idx := 0, held := [], start := none, began := 0, running := false, ended := none } }
      else (s.setStream ch k { st with next := st.next + 1 }).haltStream ch k

/-- R327: the statuses that halt a stream. -/
def halts (status : Nat) : Bool := decide (status ∉ [0, 3, 7, 10])

/-- R320: the block with a sequence number waits already, or is the one that executes (log 50). -/
def Stream.hasBlock (st : Stream) (seq : BitVec 32) : Bool :=
  (st.waiting.any fun q => q.seq = seq) ||
  (st.active.map fun a => decide (a.block.seq = seq) && !a.sent && !a.reset).getD false

/-- R320: a block that arrives with its ticket meets its stream. -/
def State.blockArrive (s : State) (ch : Nat) (b : Block) : State :=
  let k := b.stream
  let st := (s.unit ch).stream k
  let d := (b.seq - st.next).toNat
  let reject (status : Nat) : State :=
    let (ok, s) := s.sendWord ch b status 0xFF
    if ok then s else s.haltStream ch k
  if st.halted then reject 3
  else if 2 ^ 31 < d then reject 7
  else if 9 ≤ d then reject 10
  else if st.hasBlock b.seq then reject 7
  else (s.setStream ch k { st with waiting := st.waiting ++ [b] }).startBlock ch k

/-- R328, R333: NMRST applied at the unit. A block that executes goes on; its end leaves the new NEXT alone (log 54). -/
def State.streamReset (s : State) (ch k : Nat) (seq : BitVec 32) : State :=
  ((s.discardWaiting ch k).mapStream ch k fun st => { st with
    halted := false, next := seq, active := st.active.map fun a => { a with reset := true } })

/-- The block that a request delivers. -/
def Req.block? (r : Req) : Option Block :=
  match r.body with
  | .block ovl stream seq bytes => some ⟨r.src, r.grp, r.lid, r.space, ovl, stream, seq, bytes⟩
  | _ => none

/-- A command reaches its unit (R320, R333): a unit that is not running takes none (R386). -/
def State.performUnit (s : State) (r : Req) (key : Nat) : State :=
  match channelOfKey key with
  | some ch =>
    if (s.unit ch).nstate ≠ .running then s
    else match r.block?, r.body with
      | some b, _ => (s.blockArrive ch b).performed r []
      | none, .nmrst stream seq => (s.streamReset ch stream seq).performed r []
      | _, _ => s
  | none => s

/-- NMU_BLOCK_ARRIVE (R320, R330). -/
def execNmuBlockArrive (id : Nat) (s : State) : Result :=
  .next (s.atHome id (fun r => r.block?.isSome) State.performUnit)

/-- NMU_STREAM_RESET (R333). -/
def execNmuStreamReset (id : Nat) (s : State) : Result :=
  .next (s.atHome id (fun r => match r.body with | .nmrst _ _ => true | _ => false) State.performUnit)

/-! ### Commands -/

/-- R322: bytes of a command by its KIND; none for a reserved KIND. -/
def kindSize : Nat → Option Nat
  | 1 => some 40
  | 2 => some 40
  | 3 => some 32
  | 4 => some 40
  | _ => none

/-- The offsets of a block's commands up to one with a reserved KIND, or none where they pass byte 256 (R322, R331). -/
def commandOffsets (bs : List Byte) : (n off : Nat) → Option (List Nat)
  | 0, _ => some []
  | n + 1, off =>
    if 256 < off + 8 then none
    else match kindSize (numAt bs off 1) with
      | none => some [off]
      | some size => if 256 < off + size then none else (commandOffsets bs n (off + size)).map (off :: ·)

/-- R327: the offsets of a well-formed header's commands; none is BADCMD with FAIL 0. -/
def Block.commands (b : Block) : Option (List Nat) :=
  let h := numAt b.bytes 0 8
  let n := fieldN h 0 4
  if n = 0 ∨ 9 < n ∨ fieldN h 4 4 ≠ 0 ∨ fieldN h 9 55 ≠ 0 then none else commandOffsets b.bytes n 24

/-- HOLD (R322). -/
def Block.hold (b : Block) : Bool := !b.ovl && fieldN (numAt b.bytes 0 8) 8 1 == 1

/-- A command's header and its four words (R323). -/
structure Command where
  h : Nat
  w : Nat → Nat

/-- The command at an offset of a block. -/
def Block.command (b : Block) (off : Nat) : Command := ⟨numAt b.bytes off 8, fun i => numAt b.bytes (off + 8 + 8 * i) 8⟩

def Command.kind (c : Command) : Nat := fieldN c.h 0 8
def Command.fp32 (c : Command) : Bool := fieldN c.h 8 1 == 1
def Command.max (c : Command) : Bool := fieldN c.h 9 1 == 1
def Command.acc (c : Command) : Bool := fieldN c.h 10 1 == 1
def Command.nidx (c : Command) : Nat := fieldN c.h 16 16
def Command.ovlid (c : Command) : Nat := fieldN c.h 32 16
def Command.rowb (c : Command) : Nat := fieldN (c.w 3) 0 32
def Command.trows (c : Command) : Nat := fieldN (c.w 3) 32 32

/-- Bytes that a command writes at DST. -/
def Command.dstLen (c : Command) : Nat :=
  match c.kind with
  | 1 => c.rowb
  | 2 => c.nidx * c.rowb
  | 3 => c.w 1
  | _ => 0

/-- R323, R324, step 1: the fields are well formed. -/
def Command.ok (c : Command) : Bool :=
  let zeros (lo n : Nat) : Bool := fieldN c.h lo n == 0
  zeros 11 5 && zeros 48 16 &&
  match c.kind with
  | 1 => zeros 32 16 && decide (c.rowb % 32 = 0 ∧ 32 ≤ c.rowb ∧ c.rowb ≤ 4096) && decide (c.w 0 % 32 = 0 ∧ c.w 1 % 32 = 0 ∧ c.w 2 % 4 = 0)
  | 2 => zeros 8 3 && zeros 32 16 && decide (c.rowb % 32 = 0 ∧ 32 ≤ c.rowb ∧ c.rowb ≤ 4096) && decide (c.w 0 % 32 = 0 ∧ c.w 1 % 32 = 0 ∧ c.w 2 % 4 = 0)
  | 3 => zeros 8 3 && zeros 16 32 && decide (c.w 0 % 8 = 0 ∧ c.w 1 % 8 = 0)
  | 4 => zeros 8 3 && zeros 16 16
  | _ => false

/-- R324: a range crosses a 2 MiB page boundary. -/
def crosses (a n : Nat) : Bool := decide (n ≠ 0) && decide (a / 2 ^ 21 ≠ (a + n - 1) / 2 ^ 21)

/-- R319, R324: the key of an operand in a C page of the executing channel, with W where it is written. -/
def State.unitKey (s : State) (ch slot a : Nat) (write : Bool) : Option Nat × State :=
  match s.xlatVia (.stack (ch / 32)) slot a .unit with
  | (.hit key, s) =>
    let ok := decide (homeOf key = .channel ch) &&
      (!write || (match s.xlatAt (.stack (ch / 32)) slot (a % 2 ^ 48) .write with | .hit _ => true | _ => false))
    (if ok then some key else none, s)
  | (_, s) => (none, s)

/-- The operands of a command that passed its checks: the keys of DST, of its list and of the rows in index order, and the addresses
that its unit translated. -/
structure Operands where
  dst : Nat
  list : Nat
  rows : List Nat
  addrs : List Nat
  deriving DecidableEq, Repr

/-- R389: a unit's read for a block's launch. -/
def State.unitRead (s : State) (b : Block) (key n : Nat) : List Byte × State :=
  let (bad, s) := s.eccRead key n
  (s.peek key n, if bad then match b.src with | .hart h => s.poison (s.hart h) | _ => s else s)

/-- The rows' keys, or the number of rows tried where one is not in a C page of the channel (R324, step 6). -/
def State.rowKeys (ch slot : Nat) : State → List Nat → Except Nat (List Nat) × State
  | s, [] => (.ok [], s)
  | s, a :: r =>
    match s.unitKey ch slot a false with
    | (none, s) => (.error 1, s)
    | (some k, s) =>
      match State.rowKeys ch slot s r with
      | (.ok ks, s) => (.ok (k :: ks), s)
      | (.error n, s) => (.error (n + 1), s)

/-- Bytes of a command's index list (R323). -/
def Command.idxLen (c : Command) : Nat := if c.kind = 3 then 0 else 4 * c.nidx

/-- R324: the addresses of DST and of the list, as far as a command has them. -/
def Command.ends (c : Command) : List Nat := (if c.dstLen = 0 then [] else [c.w 0]) ++ (if c.idxLen = 0 then [] else [c.w 2])

/-- A command that fails a check: the status, the addresses that were translated, and the index list if it was read. -/
structure Rejected where
  status : Nat
  addrs : List Nat
  runs : List (Nat × Nat)
  deriving DecidableEq, Repr

/-- R324: the checks of FILL, GATH and IRED in their order. -/
def State.commandCheck (s : State) (ch : Nat) (b : Block) (c : Command) : Except Rejected Operands × State :=
  if !c.ok then (.error ⟨5, [], []⟩, s)
  else if crosses (c.w 0) c.dstLen || crosses (c.w 2) c.idxLen then (.error ⟨1, [], []⟩, s)
  else
    let (dst, s) := if c.dstLen = 0 then (some 0, s) else s.unitKey ch b.space (c.w 0) true
    let (list, s) := if c.idxLen = 0 then (some 0, s) else s.unitKey ch b.space (c.w 2) false
    match dst, list with
    | some dst, some list =>
      let (bs, s) := s.unitRead b list c.idxLen
      let idx := (List.range (c.idxLen / 4)).map fun i => numAt bs (4 * i) 4
      if idx.any fun i => c.trows ≤ i then (.error ⟨6, c.ends, [(list, c.idxLen)]⟩, s)
      else
        let rows := idx.map fun i => c.w 1 + i * c.rowb
        if rows.any fun a => crosses a c.rowb then (.error ⟨1, c.ends, [(list, c.idxLen)]⟩, s)
        else match State.rowKeys ch b.space s rows with
          | (.ok ks, s) => (.ok ⟨dst, list, ks, c.ends ++ rows⟩, s)
          | (.error n, s) => (.error ⟨2, c.ends ++ rows.take n, [(list, c.idxLen)]⟩, s)
    | _, _ => (.error ⟨2, c.ends, []⟩, s)

/-- R324: one step of IRED: an element joins the accumulator, rounded to binary32 RNE. -/
def iredStep (c : Command) (acc : Option Nat) (x : Nat) : Option Nat :=
  match acc with
  | none => some x
  | some a =>
    let f := Fmt.f32
    some (if c.max then (f.minMax .rne true (f.val a) (f.val x)).1 else (f.add .rne (f.val a) (f.val x)).1)

/-- The element at a key as binary32 (R324). -/
def State.element (s : State) (c : Command) (key : Nat) : Nat :=
  if c.fp32 then s.peekN key 4 else (widen .bf16 (s.peekN key 2)).1

/-- R83, R324: element j of IRED's destination row, rounded once to the row format, a NaN as the canonical one (log 104). -/
def State.iredElement (s : State) (c : Command) (o : Operands) (j : Nat) : State :=
  let size := if c.fp32 then 4 else 2
  let first := if c.acc then some (s.element c (o.dst + size * j)) else none
  let acc := o.rows.foldl (fun a k => iredStep c a (s.element c (k + size * j))) first
  let v := acc.getD (if c.max then Fmt.f32.infBits true else 0)
  let out := (convert .f32 (if c.fp32 then .f32 else .bf16) .rne v).1
  s.pokeBytes (o.dst + size * j) (leBytes size out)

/-- R324: a command that passed its checks executes. -/
def State.runCommand (s : State) (b : Block) (c : Command) (o : Operands) : State :=
  match c.kind with
  | 3 => s.pokeBytes o.dst ((List.range (c.w 1 / 8)).flatMap fun _ => leBytes 8 (c.w 2))
  | 2 => o.rows.zipIdx.foldl (fun s (k, i) => let (bs, s) := s.unitRead b k c.rowb; s.pokeBytes (o.dst + i * c.rowb) bs) s
  | _ =>
    let s := (o.rows ++ (if c.acc then [o.dst] else [])).foldl (fun s k => (s.unitRead b k c.rowb).2) s
    (List.range (c.rowb / (if c.fp32 then 4 else 2))).foldl (fun s j => s.iredElement c o j) s

/-- The command that a stream's block stands at, if the block executes one and is not ended. -/
def Stream.current (st : Stream) : Option (Active × Command) :=
  match st.active with
  | some a =>
    if a.sent || a.ended.isSome || a.running || a.block.ovl then none
    else match a.block.commands with
      | some offs => (offs[a.idx]?).map fun off => (a, a.block.command off)
      | none => none
  | none => none

/-- R326: the commands of a block that write a range. -/
def Block.writers (b : Block) : List Command :=
  ((b.commands.getD []).map b.command).filter fun c => !(decide (c.kind = 4) || decide (c.dstLen = 0) || crosses (c.w 0) c.dstLen)

/-- R326: the 256-byte units that a block's commands write. -/
def State.blockUnits (s : State) (ch : Nat) (b : Block) : List Nat × State :=
  b.writers.foldl (fun (us, s) c =>
    match s.unitKey ch b.space (c.w 0) true with
      | (some key, s) => (us ++ (List.range ((key + c.dstLen - 1) / 256 - key / 256 + 1)).map (key / 256 + ·), s)
      | (none, s) => (us, s)) (([] : List Nat), s)

/-- R387: another stream of the unit holds units: a unit has one holding block at a time (log 40). -/
def State.unitHolds (s : State) (ch k : Nat) : Bool :=
  (s.unit ch).streams.any fun e => decide (e.1 ≠ k) && ((e.2.active.map fun a => a.start.isSome).getD false)

/-- R403: the walks of the pages of some addresses that the unit's Waystation does not hold. -/
def State.unitWalks (s : State) (ch slot : Nat) (addrs : List Nat) : List (Nat × Nat) :=
  ((addrs.filter fun a => decide (s.xlatAt (.stack (ch / 32)) slot (a % 2 ^ 48) .unit = .miss)).map (· / 65536)).dedup.flatMap fun p =>
    s.walkCharges slot (p * 65536 % 2 ^ 48)

/-- R326, R403: a block with HOLD reserves its units before its first command, the walks that finding them takes charged; none where
another block holds one of them, or while the walks have to wait. -/
def State.reserve (s : State) (ch k : Nat) (a : Active) : Option (Active × State) :=
  if a.block.hold && a.start.isNone then
    (State.payAll a.block.space (s.unitWalks ch a.block.space (a.block.writers.map fun c => c.w 0)) s).bind fun s =>
    let (us, s) := s.blockUnits ch a.block
    if s.holds.any fun (w, ch', k') => decide (w ∈ us) && !(decide (ch' = ch) && decide (k' = k)) then none
    else if s.unitHolds ch k then none
    else
      let a := { a with held := us.dedup, start := some s.now, began := s.clk }
      some (a, s.mapStream ch k fun st => { st with active := some a })
  else some (a, s)

/-- R321: another stream of the unit is inside a command, or its overlay runs: commands interleave only at their
boundaries. -/
def State.commandBusy (s : State) (ch k : Nat) : Bool :=
  (s.unit ch).streams.any fun e => decide (e.1 ≠ k) &&
    ((e.2.active.map fun a => a.running || (decide (0 < a.paid) && a.ended.isNone)).getD false)

/-- R386: a unit executes a block's command: it runs, or it is being saved and first completes the command in progress. -/
def State.unitGoes (s : State) (ch : Nat) (a : Active) : Bool :=
  match (s.unit ch).nstate with
  | .running => true
  | .saving => decide (0 < a.paid)
  | _ => false

/-- R411: the runs of bytes that a command reads and then writes. -/
def Command.runs (c : Command) (o : Operands) : List (Nat × Nat) :=
  let rows := o.rows.map fun k => (k, c.rowb)
  match c.kind with
  | 3 => [(o.dst, c.w 1)]
  | 2 => (o.list, c.idxLen) :: rows ++ [(o.dst, c.dstLen)]
  | 1 => (o.list, c.idxLen) :: rows ++ (if c.acc then [(o.dst, c.rowb)] else []) ++ [(o.dst, c.rowb)]
  | _ => []

/-- R411: the bytes that a command reads and writes at its channel. -/
def Command.cost (c : Command) : Nat :=
  match c.kind with
  | 3 => c.w 1
  | 2 => 4 * c.nidx + 2 * c.nidx * c.rowb
  | 1 => 4 * c.nidx + (c.nidx + flag c.acc + 1) * c.rowb
  | _ => 0

/-- R411: the least time of a command in nanoseconds: 40, and its bytes at 102.4 a nanosecond; the adder array takes 64 bytes of
the rows in each, whose cycle is one nanosecond (log 149). -/
def Command.least (c : Command) : Nat :=
  let bytes := 40 + (5 * c.cost + 511) / 512
  if c.kind = 1 then Nat.max bytes ((c.nidx * c.rowb + 63) / 64) else bytes

/-- R411: the steps in which a command's channel accesses are charged, one for each; a command without any takes one, from which its
least time counts. -/
def stepsOf (runs : List (Nat × Nat)) : List (List (Nat × Nat)) :=
  match chargesOf runs with
  | [] => [[]]
  | cs => cs.map fun c => [c]

/-- R403, R411: the next step of a command's channel accesses is charged to the launch's slot, and with the first the walks of the
addresses that it translates; none while they have to wait. -/
def State.payUnit (s : State) (ch : Nat) (a : Active) (addrs : List Nat) (access : List (Nat × Nat)) : Option (Active × State) :=
  let walks := if a.paid = 0 then s.unitWalks ch a.block.space addrs else []
  (State.payAll a.block.space (walks ++ access) s).map fun s' =>
    ({ a with paid := a.paid + 1, since := if a.paid = 0 then s.now else a.since }, s')

/-- R326: another block holds a unit that the command writes. -/
def State.writeHeld (s : State) (ch k : Nat) (c : Command) (o : Operands) : Bool :=
  decide (c.dstLen ≠ 0) && s.holds.any fun (w, ch', k') =>
    decide (o.dst / 256 ≤ w) && decide (w ≤ (o.dst + c.dstLen - 1) / 256) && !(decide (ch' = ch) && decide (k' = k))

/-- One event of the command at which a stream's block stands, if its kind is the event's: the units are reserved first; a
failed check, whose walks and reads of the list are charged, ends the block (R328); each 256-byte unit that it reads or writes is
charged in turn (R411); then it executes once its least time has passed and no other block holds a unit that it writes (R326), and
the block moves to its next command. -/
def State.commandEvent (s : State) (ch k kind : Nat) : State :=
  match ((s.unit ch).stream k).current with
  | some (a, c) =>
    if c.kind ≠ kind ∨ !s.unitGoes ch a ∨ s.commandBusy ch k ∨ s.holdOver a then s
    else match s.reserve ch k a with
      | none => s
      | some (a, s1) =>
        let put (s : State) (a : Active) : State := s.mapStream ch k fun st => { st with active := some a }
        match s1.commandCheck ch a.block c with
        | (.error e, s2) =>
          (match (chargesOf e.runs)[a.paid]? with
           | some access =>
             (match s1.payUnit ch a e.addrs [access] with
              | some (a, s3) => put s3 a
              | none => s1)
           | none =>
             match State.payAll a.block.space (if a.paid = 0 then s1.unitWalks ch a.block.space e.addrs else []) s2 with
             | some s3 => put s3 { a with ended := some (e.status, a.idx) }
             | none => s1)
        | (.ok o, s2) =>
          match (stepsOf (c.runs o))[a.paid]? with
          | some access =>
            (match s1.payUnit ch a o.addrs access with
             | some (a, s3) => put s3 a
             | none => s1)
          | none =>
            if decide (s2.now < a.since + c.least) || s2.writeHeld ch k c o then s1
            else put (s2.runCommand a.block c o) { a with idx := a.idx + 1, paid := 0 }
  | none => s

/-- NMU_FILL (R324). -/
def execNmuFill (ch stream : Nat) (s : State) : Result := .next (s.commandEvent ch stream 3)
/-- NMU_GATH (R324). -/
def execNmuGath (ch stream : Nat) (s : State) : Result := .next (s.commandEvent ch stream 2)
/-- NMU_IRED (R324). -/
def execNmuIred (ch stream : Nat) (s : State) : Result := .next (s.commandEvent ch stream 1)

/-- The overlay that RUN starts: x10 to x13 hold the arguments and x14 the sequence number (R325); it begins at the first
byte of its code (log 19). -/
def overlayThread (ch : Nat) (b : Block) (c : Command) : Thread :=
  let t := Thread.fresh (.overlay ch)
  let arg (i : Nat) : Word := BitVec.ofNat 64 (c.w i)
  { t with
    x := ((((t.x.setIfInBounds 10 (arg 0)).setIfInBounds 11 (arg 1)).setIfInBounds 12 (arg 2)).setIfInBounds 13 (arg 3)).setIfInBounds 14 (BitVec.ofNat 64 b.seq.toNat)
    pc := 0x10000, state := .running, lid := b.lid, space := b.space }

/-- NMU_RUN (R325): the loaded overlay starts, or the command ends with BADCMD or NOOVL. The NMU runs one overlay at a time. -/
def execNmuRun (ch stream : Nat) (s : State) : Result :=
  .next (match ((s.unit ch).stream stream).current with
    | some (a, c) =>
      if c.kind ≠ 4 ∨ (s.unit ch).nstate ≠ .running ∨ s.commandBusy ch stream ∨ (s.hart (.overlay ch)).state ≠ .free ∨ (s.net.any fun r => r.isOf (.overlay ch)) ∨ s.holdOver a then s
      else match s.reserve ch stream a with
        | none => s
        | some (a, s) =>
          let put (s : State) (a : Active) : State := s.mapStream ch stream fun st => { st with active := some a }
          if !c.ok then put s { a with ended := some (5, a.idx) }
          else if (s.unit ch).overlay ≠ some (BitVec.ofNat 16 c.ovlid) then put s { a with ended := some (8, a.idx) }
          else
            let s := put s { a with running := true }
            (s.setUnit ch { s.unit ch with runner := some stream }).mapHart (.overlay ch) fun _ => overlayThread ch a.block c
    | none => s)

/-- NMU_OVERLAY_LOAD (R321, R332, R403): the descriptor's command: it ends with BADCMD, or with FAULT where its image does not translate
(log 20); its 16 units are charged in turn, then the unit's overlay memory becomes the image. -/
def execNmuOverlayLoad (ch stream : Nat) (s : State) : Result :=
  .next (match ((s.unit ch).stream stream).active with
    | some a =>
      if !a.block.ovl ∨ a.sent ∨ a.ended.isSome ∨ 0 < a.idx ∨ !s.unitGoes ch a ∨ s.commandBusy ch stream then s
      else
        let put (s : State) (a : Active) : State := s.mapStream ch stream fun st => { st with active := some a }
        let image := numAt a.block.bytes 8 8
        if dfield a.block.bytes 0 16 48 ≠ 0 ∨ image % 4096 ≠ 0 then put s { a with ended := some (5, 0) }
        else match s.unitKey ch a.block.space image false with
          | (some key, s') =>
            (match (chargesOf [(key, 4096)])[a.paid]? with
             | some access => (match s.payUnit ch a [image] [access] with | some (a, s) => put s a | none => s)
             | none =>
               let (bs, s) := s'.unitRead a.block key 4096
               let s := s.pokeBytes (overlayKey ch 0) bs
               let s := s.setUnit ch { s.unit ch with overlay := some (BitVec.ofNat 16 (numAt a.block.bytes 0 2)) }
               put s { a with idx := 1, paid := 0 })
          | (none, s') =>
            (match State.payAll a.block.space (s.unitWalks ch a.block.space [image]) s' with
             | some s => put s { a with ended := some (2, 0) }
             | none => s)
    | none => s)

/-! ### Time limits and the end of a block -/

/-- RUN_LIMIT (R325): an overlay that has run for 2^20 cycles ends its command with RUNFAULT. -/
def execRunLimit (ch : Nat) (s : State) : Result :=
  .next (let t := s.hart (.overlay ch)
    if t.state = .running ∧ 2 ^ 20 ≤ t.cycles ∧ !s.runOver ch then s.endRun ch (some 9) else s)

/-- The first n 256-byte units of a range that a command changed: the others keep what they held. -/
def State.onlyFirst (s after : State) (key len n : Nat) : State :=
  let upto := (key / 256 + n) * 256
  if key + len ≤ upto then after
  else if upto ≤ key then s
  else { s with mem := Memory.writeN s.mem key ((after.peek key (upto - key)).map some) }

/-- HOLD_TIMEOUT (R326): a hold has stood for 64 µs: the command in progress stops with some of its units written, and the
block ends with HOLD_TIMEOUT. A running overlay stops, and a command that has not begun writes nothing. -/
def execHoldTimeout (ch stream : Nat) (s : State) : Result :=
  .next (let st := (s.unit ch).stream stream
    match st.active with
    | some a =>
      if !s.holdOver a ∨ a.sent ∨ a.ended.isSome ∨ !s.unitGoes ch a then s
      else
        let ends (s : State) : State := s.mapStream ch stream fun st => { st with active := some { a with running := false, ended := some (4, a.idx) } }
        if a.running then ends (s.mapHart (.overlay ch) fun t => { t with state := .free, stage := .active, wait := none })
        else match st.current with
          | some (_, c) =>
            if c.kind = 4 ∨ a.paid = 0 then ends s
            else match s.commandCheck ch a.block c with
              | (.ok o, s') =>
                if s'.writeHeld ch stream c o then ends s
                else
                  let n := Config.unitsDone s.nextId
                  let s := { s.onlyFirst (s'.runCommand a.block c o) o.dst c.dstLen n with nextId := s.nextId + 1 }
                  ends s
              | (.error _, _) => ends s
          | none => s
    | none => s)

/-- How a block ends, if it has come to its end: status and failing command (R327). -/
def Active.result (a : Active) : Option (Nat × Nat) :=
  if a.running then none
  else match a.ended with
    | some e => some e
    | none =>
      if a.block.ovl then (if a.idx = 0 then none else some (0, 0xFF))
      else match a.block.commands with
        | none => some (5, 0)
        | some offs =>
          match offs[a.idx]? with
          | none => some (0, 0xFF)
          | some off => if (kindSize (a.block.command off).kind).isNone then some (5, a.idx) else none

/-- R333: the stream was reset while its block executes. -/
def Stream.wasReset (st : Stream) : Bool := (st.active.map (·.reset)).getD false

/-- R320, R328: a block of a stream has executed: NEXT counts it, and a failed one halts the stream, unless the stream was reset
meanwhile (log 54). -/
def State.blockEnded (s : State) (ch k : Nat) (fails : Bool) : State :=
  let reset := ((s.unit ch).stream k).wasReset
  let s := s.mapStream ch k fun st => { st with
    next := if reset then st.next else st.next + 1
    active := st.active.map fun a => { a with sent := true } }
  if fails && !reset then s.haltStream ch k else s

/-- R320, R327: the block of a stream is over: its hold is released, and the next block begins. -/
def State.nextBlock (s : State) (ch k : Nat) : State := (s.mapStream ch k fun st => { st with active := none }).startBlock ch k

/-- NMU_COMPLETION (R320, R327): a block at its end, whose overlay's writes are performed, sends its completion word, and its
stream counts it or halts; a word that cannot be written halts the stream (R328). -/
def execNmuCompletion (ch stream : Nat) (s : State) : Result :=
  .next (match ((s.unit ch).stream stream).active with
    | some a =>
      if a.sent ∨ (s.unit ch).nstate ≠ .running ∨ (s.net.any fun r => r.isOf (.overlay ch)) then s
      else match a.result with
        | some (status, fail) =>
          match s.sendWord ch a.block status fail with
          | (true, s) => s.blockEnded ch stream (halts status)
          | (false, s) => (s.blockEnded ch stream true).nextBlock ch stream
        | none => s
    | none => s)

/-- R327, R328: a completion word of a stream has been written, or was refused, which halts the stream: where it is the word of the
block that executed, that block is over. -/
def State.wordDone (s : State) (ch k grp : Nat) (written : Bool) : State :=
  let st := (s.unit ch).stream k
  let own := (st.active.map fun a => a.sent && decide (a.block.grp = grp)).getD false
  let s := if written || (own && st.wasReset) then s else s.haltStream ch k
  if own then s.nextBlock ch k else s

end Sys2Proof.Machine
end

