-- ==== Sys2Proof/Machine/Network.lean ====
section
/-! DEFINITION. The network's events: stores leaving the buffer (R119, R211), ordered packets at their ports, Lanterns and
watermarks (R115 to R117, R388), the channel controllers (R402, R403), requests performed at their homes (R109, R122, R216),
node commands (R279), table walks (R372), replies, acknowledgements and refusals (R102, R103, R214). -/

namespace Sys2Proof.Machine

/-! ### Leaving the core -/

/-- STORE_BUFFER_DRAIN (R111, R119, R121, R211): the oldest buffered store of a core leaves; an ordered one is stamped now.
It waits for an earlier copy or tile load that touches its bytes (R221). -/
def execStoreBufferDrain (core : CoreId) (s : State) : Result :=
  .next (let h := HartId.thread core 0
    match s.buffered h with
    | [] => s
    | r :: rest =>
      let own : HartId := match r.src with | .hart h => h | _ => h
      if s.asyncBusy own r.grp [(s.reqKey r, r.body.len)] then s
      else { s with buffers := insertKey (injOf h) rest s.buffers }.inject r)

/-- R367: the slot and page that a request waits for at its Waystation. -/
def State.missOf (s : State) (r : Req) : Option (Nat × Nat) :=
  if r.phase.underway && decide (s.resolve r = .miss) then some (r.space, (s.missing r).toNat % 2 ^ 48 / 65536) else none

/-- R367: the walks that a Waystation runs: the first 64 misses on different slots and pages, in order of arrival. -/
def State.walksAt (s : State) (st : Station) : List (Nat × Nat) :=
  ((s.net.filter fun q => decide (q.src.station = st)).filterMap s.missOf).eraseDups.take 64

/-- TABLE_WALK (R366, R367, R372, R389, R403): the walk that a request waits for, one of the Waystation's 64, completes: it fills
the Waystation's cache, or fails for every request that missed on the same slot and page there. Its reads are charged to the
slot. One whose read comes in on an excluded input never completes, and what waits for it is lost (R388). -/
def execTableWalk (id : Nat) (s : State) : Result :=
  .next (match s.req? id with
    | some r =>
      match s.missOf r with
      | some m =>
        let va := (s.missing r).toNat % 2 ^ 48
        let joined := s.net.filter fun q => decide (q.src.station = r.src.station) && decide (s.missOf q = some m)
        if m ∉ s.walksAt r.src.station then s
        else match s.walkShut r.src.station r.space va with
          | some detail => (joined.foldl (fun s q => s.drop q.id) s).readLost detail
          | none =>
            match State.payAll r.space (s.walkCharges r.space va) s with
            | none => s
            | some s' =>
              let s' := s'.walkFor r.src r.space va
              match s'.walk r.space va with
              | some _ => s'.fillTlb r.src.station r.space va
              | none => joined.foldl (fun s q => s.refuseAt q TRANSLATE) s'
      | none => s
    | none => s)

/-- R115: another ordered packet that waits at the same port has a lesser stamp. -/
def State.earlierAtPort (s : State) (r : Req) (port : Nat) : Bool :=
  s.net.any fun q => decide (q.cls = .ordered) && decide (q.phase = .sent) && decide (q.id ≠ r.id) &&
    (match s.reqKey? q with | some k => decide ((homeOf k).port = port) | none => false) && q.stamp.lt r.stamp

/-- R400, R401: an atomic that leaves for another module as a reduction packet: relaxed, of 8 bytes, without a destination, on
a remote page with SA in the frame of an enabled window of its operation. -/
def State.reduced (s : State) (r : Req) (key : Nat) : Req :=
  match r.body with
  | .amo op n y _ d =>
    let (dev, pa) := remoteParts key
    let fits (w : Nat) : Bool :=
      let q := s.win w
      q.en && decide (q.home.toNat = dev) && decide (q.op = op) && decide (op.toNat ≤ 5) && decide (pa / 65536 * 65536 = q.frame)
    match (List.range 256).find? fits with
    | some w => if n = 8 ∧ d = 0 ∧ r.cls ≠ .ordered ∧ !r.acquire ∧ !r.forced then { r with body := .reduction w op.toNat (s.win w).count.toNat 1 y } else r
    | none => r
  | _ => r

/-- ROUTER_FORWARD (R115, R392, R401): an ordered packet raises its input's latest stamp at the port of its home's router, which
forwards it once it is at or below the watermark, in stamp order; a request to another module leaves through its fabric
port. -/
def execRouterForward (id : Nat) (s : State) : Result :=
  .next (match s.req? id with
    | some r =>
      if r.phase = .sent ∧ r.cls ≠ .held then
        match s.resolve r with
        | .miss => s
        | .fail code => if r.cls = .ordered then s.refuseAt r code else s
        | .hit key =>
          let home := homeOf key
          let far := decide (2 ^ 50 ≤ key)
          let via := match home with | .remote dev => s.exitPort dev | _ => none
          let out := !far || via.isSome
          if s.excludedIn r key then s.discard r home.port
          else if !out then s
          else if r.cls = .ordered then
            let s := s.arriveAt r.src.input r.stamp home.port
            if !s.earlierAtPort r home.port && ((s.watermark home.port).map fun w => r.stamp.le w).getD false then
              ((s.putReq { s.translated r key with phase := .atHome, via }).receiveStamp (ifacePort home.port) 0 r.stamp).receiveAll (injectorsAt key) r.stamp.time
            else s
          else if far then s.putReq { s.reduced (s.translated r key) key with phase := .atHome, via }
          else s
      else s
    | none => s)

/-! ### Lanterns and watermarks -/

/-- The home behind a port number. -/
def homeOfPort (p : Nat) : Home :=
  let d := p / 2 ^ 24 % 64
  let r := p / 2 ^ 16 % 2 ^ 8
  let o := p / 2 ^ 8 % 2 ^ 8
  if d = 32 then (if r = 80 then .page 32 else .remote o)
  else if r < 80 then .tcm ⟨d, 8 * (r / 8) + o / 8, 8 * (r % 8) + o % 8⟩
  else if r < 88 then (if o < 2 then .slice d (2 * (r - 80) + o) else .page d)
  else .channel (32 * ((if d < 8 then 2 * d else 16 + 2 * (d - 24)) + (r - 88)) + o)

/-- LANTERN (R116, R397): an input of a port sends a Lantern: a router its own watermark, an injector's side its bound. -/
def execLantern (port input : Nat) (s : State) : Result :=
  .next (if input ∈ s.presentInputs port then
    let bound := if 2 ^ 30 ≤ port then s.watermark (port - 2 ^ 30) else some (s.inputBound input)
    match bound with
    | some w =>
      let r := s.portRec port
      { s.setPort port { r with lanterns := insertKey input w r.lanterns } with nextId := s.nextId + 1 }
    | none => s
  else s)

/-- LANTERN_RECEIVE (R111, R115): a Lantern arrives: it raises its input's latest stamp, and the G of a receiving injector. -/
def execLanternReceive (port input : Nat) (s : State) : Result :=
  .next (match lookup? input (s.portRec port).lanterns with
    | some w =>
      let r := s.portRec port
      let s := (s.setPort port { r with lanterns := eraseKey input r.lanterns }).receiveStamp port input w
      if 2 ^ 30 ≤ port then s.receiveAll (homeOfPort (port - 2 ^ 30)).listeners w.time else s
    | none => s)

/-- The input of a port whose latest stamp is least; one that has received nothing comes first. -/
def State.leastInput (s : State) (p : Nat) : Nat :=
  let latest (i : Nat) : Option Stamp := lookup? i (s.portRec p).latest
  match s.presentInputs p with
  | [] => 0
  | i :: is => is.foldl (fun a b => match latest a, latest b with
    | some x, some y => if y.lt x then b else a
    | some _, none => b
    | none, _ => a) i

/-- The die steward that a port's WATERMARK goes to (log 18). -/
def portSteward (p : Nat) : RingId :=
  let r := p / 2 ^ 16 % 2 ^ 8
  .die (p / 2 ^ 24 % 32) (if r < 80 then 8 * (r / 8) / 20 else 0)

/-- R115, R117: a port or a receiving interface holds an ordered packet. -/
def State.holdsPacket (s : State) (port : Nat) : Bool :=
  let phase : Phase := if 2 ^ 30 ≤ port then .atHome else .sent
  s.net.any fun q => decide (q.cls = .ordered) && decide (q.phase = phase) &&
    (match s.reqKey? q with | some k => decide ((homeOf k).port = port % 2 ^ 30) | none => false)

/-- WATERMARK (R117, R388): packets wait at a port, or a receiving interface, whose watermark has stalled for the threshold: both
stewards get a notice that names the input with the least latest stamp; at an I/O die the module steward is both. -/
def execWatermark (port : Nat) (s : State) : Result :=
  .next (if s.holdsPacket port ∧ 2 ^ s.mc.wmstall.toNat ≤ s.now - (s.portRec port).since then
    let p := port % 2 ^ 30
    let n : Notice := ⟨0, 0x11, 0, BitVec.ofNat 64 (p + s.leastInput port)⟩
    let s := s.setPort port { s.portRec port with since := s.now }
    let s := if p / 2 ^ 24 < 32 then s.report (portSteward p) n else s
    s.report .module n
  else s)

/-! ### Channel controllers (R402, R403) -/

/-- HBM_CHANNEL_SERVICE (R403): the channel's controller serves a waiting access within its slot's share, or begins the next
round when no waiting slot can be served in this one. -/
def execHbmChannelService (id : Nat) (s : State) : Result :=
  .next (match s.req? id with
    | some r =>
      match s.channelOf r with
      | some ch =>
        if r.phase.underway && !r.served && decide (r.cls ≠ .held) then
          let u := s.unit ch
          let queue := s.queueOf ch
          let busy := (queue.map s.slotOf).dedup
          let slot := s.slotOf r
          let serve (c : Vector Nat 16) (u : ChUnit) : State := (s.setUnit ch { u with credit := c }).putReq { r with served := true }
          let able (u : ChUnit) : Bool := queue.any fun q => decide (q.charge ≤ u.left (s.slotOf q))
          match u.grant busy slot r.charge (able u) with
          | some c => serve c u
          | none =>
            if able u then s
            else
              let u := u.newRound busy
              match u.grant busy slot r.charge (able u) with
              | some c => serve c u
              | none => s.setUnit ch u
        else s
      | none => s
    | none => s)

/-! ### At the home -/

/-- Bytes at a key for whoever asks (R389). -/
def State.readBy (s : State) (src : Src) (key n : Nat) : List Byte × State :=
  match src with
  | .hart h => s.readFor h key n
  | _ => (s.peek key n, (s.eccRead key n).2)

/-- R111, R371, R393: a request to another module: it answers, with its own time (log 142), or refuses. What it wrote there is that
module's (log 7). -/
def State.performFar (s : State) (r : Req) (key n : Nat) : State :=
  let (dev, pa) := remoteParts key
  let c := s.nextId
  let s := { s with nextId := c + 1 }
  match remoteFault (Config.remoteStatus dev pa c) with
  | some code => s.refuse r code
  | none => s.performedAt r (remoteBytes dev pa c n) (Config.remoteTime c)

/-- Some bytes of a list, by place. -/
def pickBytes (offs : List Nat) (bs : List Byte) : List Byte := offs.map (byteAt bs)

/-- A load, store or atomic performed at its home (R109, R128, R216). A store to a control page or to a piece that is
swapped out is another event's (R369, R383), as a reduction is at its own home (R401). -/
def State.performData (s : State) (r : Req) (key : Nat) : State :=
  match r.body with
  | .load n _ =>
    if 2 ^ 50 ≤ key then s.performFar r key n
    else if onPage key then s.performed r (s.pageBytes key n)
    else let (bs, s) := s.readBy r.src key n; s.performed r (s.asBegun r.src r.lid r.superstep r.addr key bs)
  | .loadAt offs _ =>
    if 2 ^ 50 ≤ key then s.performFar r key offs.length
    else if onPage key then
      s.performed r (pickBytes offs (if onPorterPage key then List.replicate r.body.len 0 else s.pageBytes key r.body.len))
    else
      let (bs, s) := s.readBy r.src key r.body.len
      s.performed r (pickBytes offs (s.asBegun r.src r.lid r.superstep r.addr key bs))
  | .store bytes =>
    if 2 ^ 50 ≤ key then s.performFar r key 0
    else if onPage key || (s.swappedAt r.lid key bytes.length).isSome then s
    else
      let s := if r.addr.toNat / 2 ^ 48 = 0 then s.keepOld r.lid r.superstep key bytes.length else s
      ((s.poke key bytes).latchAt key bytes.length).performed r []
  | .amo op n y cmp _ =>
    if 2 ^ 50 ≤ key then s.performFar r key n
    else
      let (bs, s) := s.readBy r.src key n
      let (old, s) := s.amoAt key op n y cmp
      let wrote := (amoNew op n (BitVec.ofNat 64 (ofBytes bs)) y cmp).isSome
      (if wrote then s.latchAt key n else s).performed r old
  | .reduction .. => if 2 ^ 50 ≤ key then s.performFar r key 0 else s
  | _ => s

/-- BULK_PERFORM (R122): a bulk request is performed at its home. -/
def execBulkPerform (id : Nat) (s : State) : Result :=
  .next (s.atHome id (fun r => decide (r.cls = .bulk)) State.performData)

/-- ORDERED_PERFORM (R115, R121): a home performs the ordered request with the least stamp. -/
def execOrderedPerform (id : Nat) (s : State) : Result :=
  .next (s.atHome id (fun r => decide (r.cls = .ordered)) State.performData)

/-! ### Node commands at their engines -/

/-- What an engine reads beside the header: the node that its command comes to, or the generations of a page's nodes (R293, R301). -/
def State.nodeReads (s : State) (r : Req) (key : Nat) : List (Nat × Nat) :=
  let p := readPool (s.peek key 64)
  match r.body with
  | .node .ninit _ _ _ _ _ =>
    match r.page with
    | some (va, size, k) =>
      let (lo, hi) := p.nodesIn r.addr.toNat va size
      if p.base = r.addr.toNat ∧ homeOf k = homeOf key then
        (List.range (hi - lo)).map fun j => (k + (r.addr.toNat + 512 * (lo + j) - va), 8)
      else []
    | none => []
  | .node op a _ _ _ _ =>
    match p.nodeOf op r.addr.toNat a.toNat with
    | some i => ((s.locate r.space r.addr.toNat key i).1.map fun k => (k, 512)).toList
    | none => []
  | _ => []

/-- A node command performed whole, with both words of its reply and whether one of its reads was poisoned (R279, R292, R389). -/
def State.nodeResult (s : State) (r : Req) (key : Nat) : Bool × List Byte × State :=
  match r.body with
  | .node op a b block _ _ =>
    let (bad, s) := ((key, 64) :: s.nodeReads r key).foldl (fun (bad, s) x =>
      let (bad', s) := State.eccRead s x.1 x.2; (bad || bad', s)) (false, s)
    let (w0, w1, s) := s.nodeApply op r.space r.addr.toNat key a.toNat b.toNat block r.lid r.task r.page
    (bad, leBytes 8 w0 ++ leBytes 8 w1, s)
  | _ => (false, [], s)

/-- R291: the virtual address of the node that a command comes to, where its engine's Waystation does not hold the page. -/
def State.nodeMiss (s : State) (r : Req) (key : Nat) : Option Nat :=
  match r.body with
  | .node op a _ _ _ _ =>
    ((readPool (s.peek key 64)).nodeOf op r.addr.toNat a.toNat).bind fun i =>
      let va := (r.addr.toNat + 512 * i) % 2 ^ 48
      if s.xlatAt (homeOf key).station r.space va .node = .miss then some va else none
  | _ => none

/-- R403: what a node command is charged beyond its pool's header: the walk that locates its node, what it reads, and what it
changes there and in the header. -/
def State.nodeCharges (s : State) (r : Req) (key : Nat) : List (Nat × Nat) :=
  let walk := ((s.nodeMiss r key).map fun va => s.walkCharges r.space va).getD []
  let after := (s.nodeResult r key).2.2
  let reads := s.nodeReads r key
  let wrote := ((key + 16, 16) :: reads.map fun x => (x.1, 512)).filter fun x => decide (after.peek x.1 x.2 ≠ s.peek x.1 x.2)
  walk ++ chargesOf reads ++ chargesOf wrote

/-- R279: a node command performed at the home of its pool. -/
def State.nodeDone (s : State) (r : Req) (key : Nat) : State :=
  if 2 ^ 50 ≤ key then s.performFar r key 16
  else
    let r := { r with page := r.page.orElse fun _ => s.pageFor r }
    let (bad, data, s) := s.nodeResult r key
    let s := if bad then match r.src with | .hart h => s.poison (s.hart h) | _ => s else s
    s.performed r data

/-- R279, R388: a node command acts at the home of its pool, or is lost where its engine's walk reads through an excluded input. -/
def State.nodeAct (s : State) (r : Req) (key : Nat) : State :=
  match (s.nodeMiss r key).bind fun va => s.walkShut (homeOf key).station r.space va with
  | some detail => (s.drop r.id).readLost detail
  | none => s.nodeDone r key

/-- R279, R403: a node command acts once its accesses are paid. -/
def State.performNode (s : State) (r : Req) (key : Nat) : State :=
  match State.payAll (s.slotOf r) (s.nodeCharges r key) s with
  | some s => s.nodeAct r key
  | none => s

/-- The event of one node command. -/
def State.nodeEvent (s : State) (op : NodeOp) (id : Nat) : State :=
  s.atHome id (fun r => match r.body with | .node op' _ _ _ _ _ => decide (op' = op) | _ => false) State.performNode

/-- DESC_APPLY (R294). -/
def execDescApply (id : Nat) (s : State) : Result := .next (s.nodeEvent .desc id)
/-- BKUP_APPLY (R295). -/
def execBkupApply (id : Nat) (s : State) : Result := .next (s.nodeEvent .bkup id)
/-- UNMK_APPLY (R295). -/
def execUnmkApply (id : Nat) (s : State) : Result := .next (s.nodeEvent .unmk id)
/-- EXPND_APPLY (R297). -/
def execExpndApply (id : Nat) (s : State) : Result := .next (s.nodeEvent .expnd id)
/-- NALLOC_APPLY (R298). -/
def execNallocApply (id : Nat) (s : State) : Result := .next (s.nodeEvent .nalloc id)
/-- RCYC_APPLY (R299). -/
def execRcycApply (id : Nat) (s : State) : Result := .next (s.nodeEvent .rcyc id)
/-- NSTAT_APPLY (R300). -/
def execNstatApply (id : Nat) (s : State) : Result := .next (s.nodeEvent .nstat id)
/-- NINIT_APPLY (R301). -/
def execNinitApply (id : Nat) (s : State) : Result := .next (s.nodeEvent .ninit id)

/-! ### Replies -/

/-- A performed request whose reply reaches its issuer: the reply's time raises G (R111). -/
def State.onReply (s : State) (id : Nat) (pick : Body → Bool) (act : State → Req → List Byte → State) : State :=
  match s.req? id with
  | some r =>
    match r.phase with
    | .performed data time => if r.cls ≠ .held ∧ pick r.body then act (s.receiveTime r.src.inj time) r data else s
    | _ => s
  | none => s

/-- LOAD_REPLY (R102, R210, R213, R239): a load's reply writes its destination and its counter falls. -/
def execLoadReply (id : Nat) (s : State) : Result :=
  .next (s.onReply id (fun b => match b with | .load _ _ => true | .loadAt _ _ => true | _ => false) State.replied)

/-- REPLY_PORT_PUSH (R214): a reply that found a full output queue is pushed once there is room. -/
def execReplyPortPush (id : Nat) (s : State) : Result :=
  .next (match s.req? id with
    | some r => match r.phase with | .pushing data => s.replied r data | _ => s
    | none => s)

/-- The acknowledgement of a store: a hart's counters fall; a channel unit's block is over (R327). -/
def State.acked (s : State) (r : Req) (data : List Byte) : State :=
  match r.src with
  | .unit ch => (s.drop r.id).wordDone ch r.task r.grp true
  | _ => s.replied r data

/-- What a home acknowledges. -/
def Body.acks : Body → Bool
  | .store _ => true
  | .amo .. => true
  | .block .. => true
  | .nmrst .. => true
  | .reduction .. => true
  | _ => false

/-- STORE_ACK (R102, R122, R217, R330): the home's acknowledgement of a store, a packet, an AMO or a command. -/
def execStoreAck (id : Nat) (s : State) : Result :=
  .next (s.onReply id Body.acks State.acked)

/-- NODE_REPLY (R291): a node command's reply writes its destinations and its counter falls. -/
def execNodeReply (id : Nat) (s : State) : Result :=
  .next (s.onReply id (fun b => match b with | .node .. => true | _ => false) State.replied)

/-- NEGATIVE_REPLY (R103, R104): a refused request's reply faults its hart before its next instruction, the first one of an
instruction alone; its counter does not fall. It carries no TIME, since it performed and accepted nothing, and raises no G (log 115). A channel unit's lost completion
word halts its stream (R328). -/
def execNegativeReply (id : Nat) (s : State) : Result :=
  .next (match s.req? id with
    | some r =>
      match r.phase, r.src with
      | .refused code faddr, .hart h =>
        let failed := (s.failGroup r).forget r
        if r.failed then failed
        else if !(s.hart h).listens then failed.faultAt h (some (r.superstep, r.idx)) r.pc r.iword code faddr
        else if (s.hart h).faultable then failed.faultAt h (some (r.superstep, r.idx)) r.pc r.iword code faddr
        else s
      | .refused _ _, .unit ch => if r.failed then s.drop r.id else (s.drop r.id).wordDone ch r.task r.grp false
      | .refused _ _, _ => s.forget r
      | _, _ => s
    | none => s)

end Sys2Proof.Machine
end

