-- ==== Sys2Proof/Machine/Guest.lean ====
section
/-! DEFINITION. The guestbook of a saved context whose TCM piece is swapped out (R383 to R385), and the kick of a Porter
(R337). -/

namespace Sys2Proof.Machine

/-! ### The guestbook -/

/-- An entry of a guestbook (R384): STAMP0, STAMP1, KIND, PORT, OFF and the data. -/
structure Entry where
  stamp0 : Nat
  stamp1 : Nat
  kind : Nat
  port : Nat
  off : Nat
  data : List Byte
  deriving DecidableEq, Repr

/-- An entry's bytes: the data padded to a multiple of 8 (R384). -/
def Entry.bytes (e : Entry) : List Byte :=
  leBytes 8 e.stamp0 ++ leBytes 8 (e.stamp1 + e.kind * 2 ^ 32 + e.port * 2 ^ 40 + e.data.length * 2 ^ 48) ++
  leBytes 8 e.off ++ leBytes 8 0 ++ e.data ++ List.replicate ((8 - e.data.length % 8) % 8) 0

/-- Bytes appended so far (USED). -/
def State.guestUsed (s : State) (t : Thread) : Nat := s.peekN (t.ctx.gba.toNat + 8) 8

/-- R389: the guestbook's header and entries are read: single-bit errors are corrected and counted, and a double-bit error aborts the
context's launch. -/
def State.guestRead (s : State) (t : Thread) : State := (s.readFor t.id t.ctx.gba.toNat (16 + s.guestUsed t)).2

/-- R383: entries fit in GBLEN behind the two header words. -/
def State.guestFits (s : State) (t : Thread) (es : List Entry) : Bool :=
  decide (16 + s.guestUsed t + (es.map fun e => e.bytes.length).sum ≤ t.ctx.gblen.toNat)

/-- R326: a block holds a unit that the entries or the guestbook's header lie in. -/
def State.guestHeld (s : State) (t : Thread) (es : List Entry) : Bool :=
  s.unitsHeld t.ctx.gba.toNat 16 || s.unitsHeld (t.ctx.gba.toNat + 16 + s.guestUsed t) (es.map fun e => e.bytes.length).sum

/-- Appends an entry: COUNT and USED move on (R384). -/
def State.guestAppend (t : Thread) (s : State) (e : Entry) : State :=
  let a := t.ctx.gba.toNat
  let used := s.guestUsed t
  let s := s.pokeBytes (a + 16 + used) e.bytes
  let s := s.pokeBytes a (leBytes 8 (s.peekN a 8 + 1))
  s.pokeBytes (a + 8) (leBytes 8 (used + e.bytes.length))

/-- The entries of a guestbook in log order. -/
def State.guestEntries (s : State) (a : Nat) : (fuel left : Nat) → List Entry
  | 0, _ => []
  | fuel + 1, left =>
    if left < 32 then []
    else
      let w := s.peekN (a + 8) 8
      let n := fieldN w 48 16
      let size := 32 + (n + 7) / 8 * 8
      ⟨s.peekN a 8, fieldN w 0 32, fieldN w 32 8, fieldN w 40 8, s.peekN (a + 16) 4, s.peek (a + 32) n⟩ ::
        s.guestEntries (a + size) fuel (left - size)

/-- A saved context's guestbook. -/
def State.guestbook (s : State) (t : Thread) : List Entry :=
  s.guestEntries (t.ctx.gba.toNat + 16) (s.guestUsed t / 32 + 1) (s.guestUsed t)

/-- The 96 bits of a stamp (R110). -/
def Stamp.bits (st : Stamp) : Nat := st.seq.toNat + st.inj.toNat * 2 ^ 5 + st.dev.toNat * 2 ^ 23 + st.time.toNat * 2 ^ 40

/-- The entries of a store from offset `off`: one for each run of bytes that it writes. -/
def storeEntries (st0 st1 : Nat) : (off : Nat) → (run : List Byte) → List (Option Byte) → List Entry
  | off, run, [] => if run.isEmpty then [] else [⟨st0, st1, 1, 0, off - run.length, run⟩]
  | off, run, some b :: r => storeEntries st0 st1 (off + 1) (run ++ [b]) r
  | off, run, none :: r => (if run.isEmpty then [] else [⟨st0, st1, 1, 0, off - run.length, run⟩]) ++ storeEntries st0 st1 (off + 1) [] r

/-- R326, R383: a store at a key goes to the guestbook of a saved context, if it fits and no block holds its units. -/
def State.guestStore (s : State) (t : Thread) (r : Req) (key : Nat) (bytes : List (Option Byte)) : Option State :=
  match t.id.core?, s.launchOf t with
  | some c, some l =>
    let st := if r.cls = .ordered then r.stamp.bits else 0
    let es := storeEntries (st % 2 ^ 64) (st / 2 ^ 64) (key - tcmKey c (t.tcmb l)) [] bytes
    if s.guestFits t es && !s.guestHeld t es then some (es.foldl (State.guestAppend t) (s.guestRead t)) else none
  | _, _ => none

/-- A store that reaches a swapped-out piece: appended and acknowledged, or it waits (R383). -/
def State.guestArrive (s : State) (r : Req) (key : Nat) : State :=
  match r.body with
  | .store bytes =>
    match s.swappedAt r.lid key bytes.length with
    | some t => ((s.guestStore t r key bytes).map fun s => s.performed r []).getD s
    | none => s
  | _ => s

/-- GUESTBOOK_APPEND (R383). A load or atomic aimed at the piece is refused where its request is resolved. -/
def execGuestbookAppend (id : Nat) (s : State) : Result :=
  .next (s.atHome id (fun r => match r.body with | .store _ => true | _ => false) State.guestArrive)

/-! ### Kicking a Porter (R337) -/

/-- A KICK store performed: a running Porter sets LOST; another starts at PROG for the launch and address space of the
store's issuer. An odd PROG traps before the first instruction (R338). -/
def State.kickAt (s : State) (r : Req) (d p : Nat) (value : Word) : State :=
  let id := HartId.porter d p
  let t := s.hart id
  if t.porter.run then s.mapHart id fun t => { t with porter := { t.porter with lost := true } }
  else
    let f := Thread.fresh id
    let s := if r.cls = .ordered then s.receiveTime (injOf id) r.stamp.time else s
    let t' : Thread := { f with pc := t.porter.prog, x := f.x.setIfInBounds 10 value, state := .running, lid := r.lid, space := r.space,
                                task := r.task, porter := { t.porter with run := true } }
    let t' := if t'.pc.toNat % 2 = 1 then { t' with stage := .trapped, fault := some (s.faultCtx t' MISALIGN t'.pc t'.pc false 0) } else t'
    s.mapHart id fun _ => t'

/-- KICK (R337). -/
def execKick (id : Nat) (s : State) : Result :=
  .next (s.onCommand id (fun reg => match reg with | .kick _ _ => true | _ => false) fun s r reg v =>
    match reg with
    | .kick d p => (s.kickAt r d p (BitVec.ofNat 64 v)).performed r []
    | _ => s)

end Sys2Proof.Machine
end

