-- ==== Sys2Proof/Machine/Sync.lean ====
section
/-! DEFINITION. Fences, barriers, dependence counters, regions, yielding and exchange phases (R25 to R29, R124, R127, R219,
R224 to R229), with the events that record and complete arrivals. -/

namespace Sys2Proof.Machine

/-! ### FENCE -/

/-- R127: whether a key's home lies within a scope of a hart. -/
def inScope (scope : BitVec 3) (t : Thread) (key : Nat) : Bool :=
  match scope.toNat with
  | 1 => match homeOf key, t.id.core? with
    | .tcm c, some c' => decide (key < 2 ^ 49) && decide (c.cluster = c'.cluster)
    | _, _ => false
  | 2 => decide (dieOfKey key = some t.id.die)
  | 3 => match homeOf key with
    | .remote _ => false
    | _ => true
  | _ => true

/-- The keys at which a copy still writes, one per packet. -/
def State.copyKeys (s : State) (c : Copy) : List Nat :=
  let n := c.len - c.done
  (List.range (n / 256 + 2)).filterMap fun i =>
    let a := if i = 0 then c.dst.toNat + c.done else floor256 (c.dst.toNat + c.done) + 256 * i
    if a < c.dst.toNat + c.len then s.keyAt? (.hart c.hart) c.lid c.space c.hart.physical (BitVec.ofNat 64 a) else none

/-- R124, R219: an earlier access within the scope still holds a fence of stores (`st`) or of value-returning accesses
(`ld`) back. A held access counts until its home has accepted it (R118). A tile load's read is none of these accesses (log 133). -/
def State.fenceHeld (s : State) (t : Thread) (scope : BitVec 3) (st ld : Bool) : Bool :=
  ((s.buffered t.id ++ s.net).any fun r =>
    r.isOf t.id && ((st && r.counted) || (ld && r.body.returns)) && inScope scope t (s.reqKey r) &&
    (decide (r.cls ≠ .held) || !r.covered)) ||
  (st && s.copies.any fun c => decide (c.hart = t.id) && (s.copyKeys c).any (inScope scope t))

/-- R219: a fence stalls its thread until what it counts is done. -/
def fence (scope : BitVec 3) (st ld : Bool) : M Unit := do
  openGate
  let s ← get
  await (!s.fenceHeld s.focus scope st ld)

/-- FENCE (R124, R219). -/
def execFence (g : Guard) (sz : BitVec 3) (s : State) : Result := .next (s.scalar .porter g (fence sz true true))
/-- FENCE.ST (R124, R219). -/
def execFenceSt (g : Guard) (sz : BitVec 3) (s : State) : Result := .next (s.scalar .porter g (fence sz true false))
/-- FENCE.LD (R124, R219). -/
def execFenceLd (g : Guard) (sz : BitVec 3) (s : State) : Result := .next (s.scalar .porter g (fence sz false true))

/-! ### Barriers -/

/-- R25: whether a level's LV bit is set for a launch. -/
def Launch.hasLevel (l : Launch) (level : Nat) : Bool :=
  decide (level = 1) || decide (level = 3) || (decide (level = 2) && decide (l.info.sdh ≠ 0)) ||
  (decide (level = 4) && decide (l.info.fbid ≠ 0))

/-- R30: the level whose barrier ends a superstep. -/
def Launch.endLevel (l : Launch) : Nat := if l.info.fbid ≠ 0 then 4 else 3

/-- R26: the level exists for the issuing hart. -/
def State.levelOk (s : State) (level : Nat) : Bool := ((s.launchOf s.focus).map fun l => l.hasLevel level).getD false

/-- The issuing hart's launch is deterministic and the level's barrier ends its supersteps (R30). -/
def State.endsStep (s : State) (level : Nat) : Bool :=
  s.isDet s.focus && ((s.launchOf s.focus).map fun l => decide (l.endLevel = level)).getD false

/-- An arrival at a level. -/
def Thread.arrival (t : Thread) (level : Nat) : Arrival := t.arrived.toArray.getD (level - 1) .none

/-- Sets the arrival at a level. -/
def Thread.setArrival (t : Thread) (level : Nat) (a : Arrival) : Thread :=
  { t with arrived := t.arrived.setIfInBounds (level - 1) a }

/-- R31: the thread's part in a superstep ends; its next held access is the first of the next one (R114). -/
def Thread.nextStep (t : Thread) (ends : Bool) : Thread :=
  if ends then { t with superstep := t.superstep + 1, heldIdx := 0 } else t

/-- The issuing hart arrives at a level with every access issued so far (R28). -/
def State.arrive (s : State) (level : Nat) (a : Arrival) : State :=
  s.mapFocus fun t => (t.setArrival level a).nextStep (s.endsStep level)

/-- R29, R32: SYNC or WAIT returns at a level: the arrival is spent, the phase ends, and held results of the ended
superstep become readable (R224). -/
def leaveBarrier (level : Nat) : M Unit := do
  let s ← get
  setFocus fun t => { t.setArrival level .none with phases := t.phases.setIfInBounds (level - 1) false }
  if s.endsStep level then modify fun s' => s'.deliverHeld s.focus.id (((s.launchOf s.focus).map (·.sstep)).getD 0)

/-- R34: the SYNC or WAIT closes a region exactly when it ends an exchange phase. -/
def State.phaseOpen (s : State) (level : Nat) : Bool := s.focus.phases.toArray.getD (level - 1) false

/-- The closing rule of SYNC and WAIT (R34, R38). -/
def State.barrierClosing (s : State) (level : Nat) : Closing := if s.phaseOpen level then .yes else .other

/-- The issuing hart waits in a SYNC at a level, or has just seen it complete. -/
def Thread.inSync (t : Thread) (level : Nat) : Bool :=
  match t.wait with
  | some (.barrier n, _) => decide (n = level) && decide (t.arrival level ≠ .none)
  | _ => false

/-- SYNC (R28, R224): the first attempt arrives and then waits; a later one returns once the barrier has completed. -/
def execSync (g : Guard) (l : BitVec 5) (s : State) : Result :=
  let n := l.toNat
  let first := Avail.core.allows s.focus.id && bit (s.focus.guard g) 0 && s.levelOk n && decide (s.focus.arrival n = .none)
  .next (if first then (s.arrive n (.arrived s.nextId)).stall (.barrier n)
    else s.scalar .core g (do
      let s ← get
      check (s.levelOk n && s.focus.inSync n) BARRIER_LEVEL
      await (decide (s.focus.arrival n = .passed)) (.barrier n)
      leaveBarrier n) noPre (s.barrierClosing n))

/-- ARRIVE (R28, R224). -/
def execArrive (g : Guard) (l : BitVec 5) (s : State) : Result :=
  let n := l.toNat
  .next (s.scalar .core g (do
    let s ← get
    check (s.levelOk n && decide (s.focus.arrival n = .none)) BARRIER_LEVEL
    modify fun s => s.arrive n (.arrived s.nextId)))

/-- ARRIVED (R28, R224): the arrival is recorded when the counter reads zero, at once if it does. -/
def execArrived (g : Guard) (l : BitVec 5) (c : BitVec 2) (s : State) : Result :=
  let n := l.toNat
  .next (s.scalar .core g (do
    let s ← get
    check (s.levelOk n && decide (s.focus.arrival n = .none)) BARRIER_LEVEL
    modify fun s => (s.arrive n (.pending c)).mapFocus fun t => t.settle s.nextId))

/-- WAIT (R28, R224). -/
def execWait (g : Guard) (l : BitVec 5) (s : State) : Result :=
  let n := l.toNat
  .next (s.scalar .core g (do
    let s ← get
    check (s.levelOk n && decide (s.focus.arrival n ≠ .none)) BARRIER_LEVEL
    await (decide (s.focus.arrival n = .passed)) (.barrier n)
    leaveBarrier n) noPre (s.barrierClosing n))

/-! ### Counters, regions, yielding, phases -/

/-- WAITDC (R226). -/
def execWaitdc (g : Guard) (c : BitVec 2) (h : BitVec 5) (s : State) : Result :=
  .next (s.scalar .core g (do let t ← focus; await (decide ((t.counter c).toNat ≤ h.toNat))))

/-- RGN (R34, R227): the next instruction becomes the region entry, with e[a] as its live-in mask. -/
def execRgn (g : Guard) (e : BitVec 3) (s : State) : Result :=
  .next (s.scalar .core g (pure ()) noPre (.rgn (s.focus.e.toArray.getD e.toNat 0)))

/-- YIELD (R228): the core's next issue is the next ready thread's, and the count of R16 starts again. -/
def execYield (g : Guard) (s : State) : Result :=
  let yields := Avail.core.allows s.focus.id && bit (s.focus.guard g) 0
  let s' := s.scalar .core g (pure ())
  .next (if yields then
    s'.switch
  else s')

/-- PHASE.X (R29, R229). -/
def execPhaseX (g : Guard) (l : BitVec 5) (s : State) : Result :=
  let n := l.toNat
  .next (s.scalar .core g (do
    let s ← get
    check (s.levelOk n) BARRIER_LEVEL
    setFocus fun t => { t with phases := t.phases.setIfInBounds (n - 1) true }))

/-! ### Completion -/

/-- ARRIVED_ARRIVAL (R28): a pending arrival whose counter reads zero is recorded. -/
def execArrivedArrival (h : HartId) (level : Nat) (s : State) : Result :=
  .next (match (s.hart h).arrival level with
    | .pending c => if (s.hart h).counter c = 0 then s.mapHart h fun t => t.setArrival level (.arrived s.nextId) else s
    | _ => s)

/-- R25: a core's sub-domain of a launch. -/
def Launch.subdomain (l : Launch) (c : CoreId) : Nat :=
  if l.info.sdh = 0 ∨ l.info.sdw = 0 then 0
  else ((c.crow - l.crow) / l.info.sdh) * ceilDiv l.info.dw l.info.sdw + (c.ccol - l.ccol) / l.info.sdw

/-- R26: whether a thread of a launch is in group `group` of a level: a cluster's number, a sub-domain's index, else all. -/
def Launch.inGroup (l : Launch) (level group : Nat) (t : Thread) : Bool :=
  match level, t.id.core? with
  | 1, some c => decide (c.cluster = group)
  | 2, some c => decide (l.subdomain c = group)
  | _, some _ => true
  | _, none => false

/-- R43: a dead task of a DET launch counts as arrived at every level until the superstep in which it died ends: the one
that its next access would belong to (log 110). -/
def Thread.forced (t : Thread) (l : Launch) : Bool :=
  l.info.det && decide (t.stage = .dying) && decide (l.sstep ≤ t.superstep)

/-- R329: the blocks of a stream that will execute without another arrival: the one that executes, and those that wait right
behind it. -/
def Stream.due (st : Stream) : List Block :=
  let ahead := (st.active.map fun a => !a.sent && !a.reset).getD false
  (st.active.map (·.block)).toList ++ dueFrom (if ahead then st.next + 1 else st.next) 8 st.waiting
where
  /-- The waiting blocks of consecutive numbers from n. -/
  dueFrom (n : BitVec 32) : (fuel : Nat) → List Block → List Block
    | 0, _ => []
    | fuel + 1, bs => match bs.find? fun b => b.seq = n with
      | some b => b :: dueFrom (n + 1) fuel bs
      | none => []

/-- R31: an access to an address waits for the barrier that ends the launch's superstep: it belongs to a later one, and is a read of
memory as that one finds it. -/
def Launch.readsAhead (l : Launch) (superstep : Nat) (a : Word) : Bool :=
  l.info.det && decide (l.sstep < superstep) && decide (a.toNat / 2 ^ 48 ≠ 0)

/-- R27, R28: every access that a hart issued before tag `upto` is covered. A barrier that ends a superstep, and one at which a dead
task counts as arrived, does not wait for what itself waits for the superstep to end (R31, R43); a block's own command is waited
for at its unit (R329). -/
def State.coveredBelow (s : State) (l : Launch) (ahead : Bool) (h : HartId) (upto : Nat) : Bool :=
  let out (superstep : Nat) (a : Word) : Bool := ahead && l.readsAhead superstep a
  let open_ (r : Req) : Bool :=
    r.isOf h && decide (r.grp < upto) && !r.covered && !(decide (r.cls ≠ .held) && out r.superstep r.addr)
  !((s.buffered h ++ s.net).any open_) && !(s.strided.any fun d => d.rest.any open_) &&
  !(s.copies.any fun c => decide (c.hart = h) && decide (c.id < upto) && decide (c.done < c.len) &&
      !(c.data.isNone && out c.superstep c.src)) &&
  !(s.blds.any fun b => decide (b.hart = h) && decide (b.id < upto) && !out b.superstep b.addr) &&
  !(s.units.any fun (_, u) => u.streams.any fun (_, st) =>
      st.due.any fun b => decide (b.src = .hart h) && decide (b.grp < upto)) &&
  !(s.net.any fun r => (match r.src with | .unit _ => true | _ => false) && decide (r.lid = l.info.lid) &&
      decide (r.grp < upto) && !r.covered)

/-- A member has arrived at a level and its arrival is covered (R27, R43). -/
def State.arrivedAt (s : State) (l : Launch) (level : Nat) (t : Thread) : Bool :=
  match t.arrival level with
  | .arrived upto => s.coveredBelow l (decide (level = l.endLevel)) t.id upto
  | .passed => false
  | _ => t.forced l && s.coveredBelow l true t.id s.nextId

/-- The members of a level's group. -/
def State.groupOf (s : State) (l : Launch) (level group : Nat) : List Thread :=
  (s.members l.info.lid).filter fun t => l.inGroup level group t

/-- R27, R43: every member of a group has arrived; only the barrier that ends a superstep needs no live arrival. -/
def State.barrierReady (s : State) (l : Launch) (level group : Nat) : Bool :=
  let ms := s.groupOf l level group
  !ms.isEmpty && ms.all (fun t => s.arrivedAt l level t) &&
  ((l.info.det && decide (level = l.endLevel)) || ms.any fun t => decide (t.arrival level ≠ .none))

/-- A barrier completes: every member that arrived may return, and its event latch is set (R27, R341). -/
def State.passBarrier (s : State) (l : Launch) (level group : Nat) : State :=
  s.mapHarts (fun t => decide (t.lid = l.info.lid) && decide (t.state ≠ .free) && l.inGroup level group t)
    fun t => match t.arrival level with
      | .arrived _ => { t.setArrival level .passed with latch := true }
      | _ => t

end Sys2Proof.Machine
end

