-- ==== Sys2Proof/Machine/Hold.lean ====
section
/-! DEFINITION. Held accesses of deterministic launches at their homes (R31, R118, R363), the completion of barriers (R27,
R43), and fabric groups (R364). -/

namespace Sys2Proof.Machine

/-! ### Acceptance -/

/-- The die whose cellar serves a home (R363). -/
def Home.cellarDie : Home → Option Nat
  | .tcm c => some c.die
  | .slice d _ => some d
  | .page d => some d
  | .channel ch => some (stackDie (ch / 32))
  | .remote _ => none

/-- Two held accesses belong to one launch: of this module by its identifier, of a partner by FBID and module (R364). -/
def Req.sameLaunch (q r : Req) : Bool :=
  decide (q.lid = r.lid) && decide (q.fbid = r.fbid) && (decide (r.fbid = 0) || decide (q.stamp.dev = r.stamp.dev))

/-- Held accesses that a home keeps for a request's launch in its hold queue (R363). -/
def State.holdQueue (s : State) (home : Home) (r : Req) : Nat :=
  (s.net.filter fun q => q.sameLaunch r && decide (q.phase = .accepted false) &&
    (match s.reqKey? q with | some k => decide (homeOf k = home) | none => false)).length

/-- Held accesses that a die's cellar holds. -/
def State.spilled (s : State) (die : Nat) : Nat :=
  (s.net.filter fun q => decide (q.phase = .accepted true) &&
    (match s.reqKey? q with | some k => decide ((homeOf k).cellarDie = some die) | none => false)).length

/-- R363: the die has a cellar with room for one more access of 64 bytes. -/
def State.cellarRoom (s : State) (die : Nat) : Bool :=
  (match phys (s.die die).cellarb with | .hbm _ _ => true | _ => false) &&
  decide (64 * (s.spilled die + 1) ≤ (s.die die).cellarl.toNat * 65536)

/-- A held access is accepted for its key at a time: it counts as acknowledged, and that is its reply's time (R111, R118). -/
def State.accept (s : State) (r : Req) (key : Nat) (spill : Bool) (time : BitVec 56) : State :=
  let s := match r.src with
    | .hart _ => (s.acknowledge r).receiveTime r.src.inj time
    | _ => s
  s.putReq { s.translated r key with phase := .accepted spill, dc := none, dcn := r.dc, counted := false, acquire := false }

/-- HOLD_ACCEPT (R118, R363): every check that can refuse a held access is made, and the home takes it into its hold queue or
its cellar, whose bytes a hold may keep (R326). One to another module needs a port that leads there (R392), and that module's
own checks come first too (R393); it is a reduction packet where R401 makes it one (log 57). A spill is charged (R403). -/
def execHoldAccept (id : Nat) (s : State) : Result :=
  .next (match s.req? id with
    | some r =>
      if r.cls = .held ∧ r.phase = .sent then
        match s.resolve r with
        | .miss => s
        | .fail code => s.refuseAt r code
        | .hit key =>
          let home := homeOf key
          if s.excludedIn r key then s.discard r home.port
          else if 2 ^ 50 ≤ key then
            let (dev, pa) := remoteParts key
            match s.exitPort dev with
            | none => s
            | some p =>
              let s' := { s with nextId := s.nextId + 1 }
              match remoteFault (Config.remoteStatus dev pa s.nextId) with
              | some code => s'.refuse { r with via := some p } code
              | none => s'.accept { s.reduced r key with via := some p } key false (Config.remoteTime s.nextId)
          else if s.holdQueue home r < 4096 then s.accept r key false s.clk
          else match home.cellarDie with
            | some d =>
              let a := (s.die d).cellarb + 64 * s.spilled d
              if s.unitsHeld a 64 then s
              else if s.cellarRoom d then
                let n := s.nextId
                let bytes := (List.range 64).map fun i => Config.cellarByte (n + i)
                match State.payAll (s.slotOf r) (chargesOf [(a, 64)]) s with
                | some s => ({ s with nextId := n + 64 }.pokeBytes a bytes).accept r key true s.clk
                | none => s
              else s.refuse r DET_ORDER
            | none => s.refuse r DET_ORDER
      else s
    | none => s)

/-! ### Application -/

/-- A held access that its home has accepted. -/
def Req.heldHere (r : Req) : Bool :=
  decide (r.cls = .held) && (match r.phase with | .accepted _ => true | _ => false)

/-- The held accesses of a launch's ended superstep, with those of its partners in its fabric group (R364). -/
def State.heldDue (s : State) (l : Launch) : List Req :=
  s.net.filter fun r => r.heldHere && decide (r.superstep ≤ l.sstep) &&
    (decide (r.lid = l.info.lid) || (decide (l.info.fbid ≠ 0) && decide (r.fbid = l.info.fbid)))

/-- R118, R364: the close of a launch's superstep has come: its own engine's, or first a partner's. -/
def State.closeCame (s : State) (l : Launch) : Bool :=
  l.closing || (decide (l.info.fbid ≠ 0) && decide ((l.info.fbid, l.sstep) ∈ s.fbCloses))

/-- R114: the one with the least logical stamp. -/
def leastHeld : List Req → Option Req
  | [] => none
  | r :: rs => match leastHeld rs with
    | some q => if keyLt q.stamp.logicalKey r.stamp.logicalKey then some q else some r
    | none => some r

/-- A store of a held access to a control page (R336, R337). -/
def State.heldPage (s : State) (r : Req) (key : Nat) (bytes : List (Option Byte)) : State :=
  if onPorterPage key && r.wide then s
  else match pageReg key with
  | .kick d p => if bytes.length = 8 ∧ key % 8 = 0 then s.kickAt r d p (BitVec.ofNat 64 (storedWord key bytes)) else s
  | _ => s.pageWrite key bytes

/-- R403: what applying a held access is charged: its bytes in a channel, and its place in a cellar. -/
def State.heldCharges (s : State) (r : Req) (key : Nat) : List (Nat × Nat) :=
  (match r.phase, (homeOf key).cellarDie with | .accepted true, some d => chargesOf [((s.die d).cellarb, 64)] | _, _ => []) ++
  chargesOf [(key, r.body.len)] ++ (match r.body with | .node .. => s.nodeCharges r key | _ => [])

/-- R118: a held access at its home, as what it is. -/
def State.heldAct (s : State) (r : Req) (key : Nat) : State :=
  if 2 ^ 50 ≤ key then
    let (dev, pa) := remoteParts key
    let n := match r.body with | .amo _ n _ _ _ => n | .node .. => 16 | _ => 0
    { s with nextId := s.nextId + 1 }.performed r (remoteBytes dev pa s.nextId n)
  else match r.body with
    | .store bytes =>
      if onPage key then (s.heldPage r key bytes).performed r []
      else if (s.swappedAt r.lid key bytes.length).isSome then s.guestArrive r key
      else s.performData r key
    | .amo .. => s.performData r key
    | .node .. => s.nodeAct r key
    | .block .. => s.performUnit r key
    | .nmrst .. => s.performUnit r key
    | _ => s

/-- R118: a held access applied at its home. One that cannot be applied now stays: its slot's share (R403), a hold (R326), a unit
that is saved (R386), a piece that is being restored (R385) or a full guestbook (R383) keeps it. -/
def State.applyHeld (s : State) (r : Req) (key : Nat) : State :=
  if (r.body.writes && s.heldBack r key) || s.restoringAt r.lid key r.body.len then s
  else match State.payAll (s.slotOf r) (s.heldCharges r key) s with
    | some s' =>
      let after := s'.heldAct r key
      if ((after.req? r.id).map Req.heldHere).getD false then s else after
    | none => s

/-- A held access that was applied is gone unless its hart will read its result (R32); a dead task captures it (R41). -/
def State.settleHeld (s : State) (id : Nat) : State :=
  match s.req? id with
  | some r => match r.phase, r.src with
    | .performed data _, .hart h => if r.body.returns && (s.hart h).listens then s else s.replied r data
    | .performed _ _, _ => s.forget r
    | _, _ => s
  | none => s

/-- One held access applied at the key that its home accepted it for; its bytes are no longer what the superstep found. -/
def State.applyNext (s : State) (r : Req) : State :=
  let key := s.reqKey r
  let s' := s.applyHeld r key
  if ((s'.req? r.id).map Req.heldHere).getD false then s'
  else (s'.settleHeld r.id).mapLaunch r.lid fun l => { l with was := l.was.filter fun e => !(decide (key ≤ e.1) && decide (e.1 < key + r.body.len)) }

/-- R364: held accesses of a group's superstep applied in logical order. -/
def State.applyGroup (fbid superstep : Nat) : (fuel : Nat) → State → State
  | 0, s => s
  | fuel + 1, s =>
    match leastHeld (s.net.filter fun r => r.heldHere && decide (r.fbid = fbid) && decide (r.superstep ≤ superstep)) with
    | some r => State.applyGroup fbid superstep fuel (s.applyNext r)
    | none => s

/-- R364: the close of a group's superstep is noted. -/
def State.noteClose (s : State) (fbid superstep : Nat) : State :=
  { s with fbCloses := if (fbid, superstep) ∈ s.fbCloses then s.fbCloses else s.fbCloses ++ [(fbid, superstep)] }

/-- R364: the homes apply a superstep of a group that has no launch here; what cannot be applied now is applied later. -/
def State.applyAlone (s : State) (fbid superstep : Nat) : State :=
  let s := s.applyGroup fbid superstep s.net.length
  if s.net.any fun r => r.heldHere && decide (r.fbid = fbid) && decide (r.superstep ≤ superstep) then s.noteClose fbid superstep
  else { s with fbCloses := s.fbCloses.filter fun e => e ≠ (fbid, superstep) }

/-- R364: a partner module's close of a superstep comes. A live launch of the group applies what the homes hold with its own
accesses; without one the homes apply the partners' at once. -/
def State.groupClose (s : State) (fbid superstep : Nat) : State :=
  if fbid = 0 then s
  else if s.launches.any fun l => decide (l.info.fbid = fbid) then s.noteClose fbid superstep
  else s.applyAlone fbid superstep

/-- HOLD_APPLY (R118, R364): after the close, the next held access of the launch, or of its fabric group, in logical order is
applied; where no launch of the identifier lives, those of groups that have no launch here. -/
def execHoldApply (lid : Nat) (s : State) : Result :=
  .next (match s.launch? lid with
    | some l =>
      if s.closeCame l then
        match leastHeld (s.heldDue l) with
        | some r => s.applyNext r
        | none => s
      else s
    | none =>
      (s.fbCloses.filter fun e => !(s.launches.any fun l => decide (l.info.fbid = e.1))).foldl (fun s e => s.applyAlone e.1 e.2) s)

/-! ### Barriers -/

/-- R329: a block of the launch has not written its completion word. A block that waits behind a gap is not waited for. -/
def State.blocksBusy (s : State) (lid : Nat) : Bool :=
  (s.units.any fun (_, u) => u.streams.any fun (_, st) => st.due.any fun b => decide (b.lid = lid)) ||
  s.net.any fun r => (match r.src with | .unit _ => true | _ => false) && decide (r.lid = lid)

/-- R118, R363: every held access of the superstep has been applied. -/
def State.closed (s : State) (l : Launch) : Bool := (s.heldDue l).isEmpty && !s.blocksBusy l.info.lid

/-- R30, R118: the barrier that ends a superstep completes. -/
def State.endStep (s : State) (l : Launch) : State :=
  ({ s with fbCloses := s.fbCloses.filter fun e => !(decide (e.1 = l.info.fbid) && decide (e.2 ≤ l.sstep)) }.mapLaunch l.info.lid fun l =>
    { l with sstep := l.sstep + 1, closing := false, was := l.was.filter fun e => l.sstep < e.2.1 }).passBarrier l l.endLevel 0

/-- R364, step 2: an arrival packet is counted at FBHOME; a closed occurrence is acknowledged at once to every sender. Answers
whether the packet was taken. -/
def State.countArrival (s : State) (dev fbid fbn occ count : Nat) : Bool × State :=
  let mine (q : FbRound) : Bool := decide (q.fbid = fbid) && decide (q.occ = occ)
  let refuse (s : State) : State :=
    match s.launches.find? fun l => decide (l.info.fbid = fbid) && decide (dev = Config.deviceId.toNat) with
    | some l => s.abortWith l.info.lid 0x0B 0
    | none => s
  let close (s : State) (q : FbRound) : State :=
    let s := { s with fbRounds := s.fbRounds.filter fun q => !mine q }
    if Config.deviceId.toNat ∈ q.devs then
      { s with launches := s.launches.map fun l => if l.info.fbid = fbid then { l with fbAcked := true } else l }
    else s
  match s.fbRounds.find? mine with
  | some q =>
    if q.fbn ≠ fbn then (true, refuse s)
    else
      let q := { q with got := q.got + count, devs := q.devs ++ [dev] }
      if q.fbn ≤ q.got then (true, close s q)
      else (true, { s with fbRounds := s.fbRounds.map fun p => if mine p then q else p })
  | none =>
    if 4096 ≤ s.fbRounds.length then (false, s)
    else
      let q : FbRound := ⟨fbid, occ, fbn, count, [dev]⟩
      if fbn ≤ count then (true, close s q) else (true, { s with fbRounds := s.fbRounds ++ [q] })

/-- FB_ARRIVAL (R111, R364, R398): an arrival packet of another module reaches this module's queue as FBHOME, through a port that is
up, with that module's time (log 142). -/
def execFbArrival (dev fbid fbn occ count : Nat) (s : State) : Result :=
  .next (if s.mc.fports = 0 then s
    else (({ s with nextId := s.nextId + 1 }.receiveTime injQueue (Config.remoteTime s.nextId)).countArrival dev fbid fbn occ count).2)

/-- R364, step 1: the die whose dispatch engine sends a launch's level-4 arrivals: that of its logical core 0. -/
def Launch.arrivalDie (l : Launch) : Nat := (coreAt (4 * l.crow) (4 * l.ccol)).die

/-- R364, step 1: the local part of a level-4 occurrence is complete, and the dispatch engine of the die of logical core 0 sends
its arrival packet, ordered class and stamped; this module counts it itself where it is FBHOME. Another module's leaves through a
port, and waits for one (R392). -/
def State.sendArrival (s : State) (l : Launch) : State :=
  let (st, s') := s.stamp (injDispatch l.arrivalDie)
  let sent (via : Option Nat) (s : State) : State := s.mapLaunch l.info.lid fun l => { l with fbSent := true, fbVia := via }
  if l.info.fbhome = Config.deviceId.toNat then
    match (s'.receiveTime injQueue st.time).countArrival Config.deviceId.toNat l.info.fbid l.info.fbn l.fbCount 1 with
    | (true, s) => sent none s
    | (false, s) => s
  else match s.exitPort l.info.fbhome with
    | some p => sent (some p) s'
    | none => s

/-- R111, R364, step 3: the level-4 occurrence at which a launch waits is acknowledged at a time, which reaches the engine that sent the
arrival: it completes for the module's members, in a DET launch after the close of its superstep. -/
def State.groupAcked (s : State) (l : Launch) (time : BitVec 56) : State :=
  let s := (s.receiveTime (injDispatch l.arrivalDie) time).mapLaunch l.info.lid fun l => { l with fbSent := false, fbVia := none, fbAcked := false, fbCount := l.fbCount + 1, closing := l.info.det }
  if l.info.det then s else s.passBarrier l 4 0

/-- FB_ACK (R364, step 3): the answer to a level-4 arrival. Where this module is FBHOME it acknowledges only a closed occurrence;
another module's answer is its own, and a refusal, of an arrival that named another FBN than its first one, aborts the launch. -/
def execFbAck (lid : Nat) (s : State) : Result :=
  .next (match s.launch? lid with
    | some l =>
      if !l.fbSent then s
      else if l.fbAcked then s.groupAcked l s.clk
      else if l.info.fbhome = Config.deviceId.toNat then s
      else
        let s' := { s with nextId := s.nextId + 1 }
        if Config.fbRefused s.nextId then s'.abortWith lid 0x0B 0 else s'.groupAcked l (Config.remoteTime s.nextId)
    | none => s)

/-- BARRIER_COMPLETE (R27, R43, R118, R363, R364): a barrier of a level completes for a group once every member has arrived and
every covered access is performed. The one that ends a superstep closes it first, and completes when the homes have applied
what they hold; a level-4 occurrence sends its arrival. -/
def execBarrierComplete (lid level group : Nat) (s : State) : Result :=
  .next (match s.launch? lid with
    | some l =>
      let group := if level ≤ 2 then group else 0
      if !l.hasLevel level then s
      else if l.closing && decide (level = l.endLevel) then (if s.closed l then s.endStep l else s)
      else if l.fbSent && decide (level = 4) then s
      else if s.barrierReady l level group then
        if level = 4 then s.sendArrival l
        else if l.info.det && decide (level = l.endLevel) then s.mapLaunch lid fun l => { l with closing := true }
        else s.passBarrier l level group
      else s
    | none => s)

end Sys2Proof.Machine
end

