-- ==== Sys2Proof/Machine/Tasks.lean ====
section
/-! DEFINITION. Tasks: the state a task starts in (R14, R42), the hand-out of indices (R13, R362), and the end of a task
(R26, R340). -/

namespace Sys2Proof.Machine

/-- Threads of a launch (R12). -/
def Launch.threads (l : Launch) : Nat := l.info.tc * (16 * l.info.dh * l.info.dw)

/-- R12: the logical index of a thread. -/
def Launch.logical (l : Launch) (t : Thread) : Nat := (t.id.core?.map fun c => l.info.tc * l.lcore c + t.h).getD 0

/-- R14: a thread at the start of a task. It keeps what belongs to the thread and not to the task: its port queues (R340),
a tile whose delivery has started (R262), its place in its launch's barriers and supersteps (R28, R30), and its control
block. -/
def Thread.begin (t : Thread) (l : Launch) (task : Nat) : Thread :=
  let f := Thread.fresh t.id
  let x := (((f.x.setIfInBounds 10 (BitVec.ofNat 64 task)).setIfInBounds 11 (BitVec.ofNat 64 (t.tcmb l))).setIfInBounds 12
    (BitVec.ofNat 64 l.info.tasks)).setIfInBounds 13 (BitVec.ofNat 64 l.info.lid)
  { f with
    x, pc := l.info.entry, region := { f.region with entry := l.info.entry }, arrivals := t.arrivals, outputs := t.outputs, phases := t.phases,
    arrived := t.arrived, heldIdx := t.heldIdx, superstep := t.superstep, state := if t.state = .pending then .pending else .running,
    outTile := match t.outTile with | some (l, true, c) => some (l, true, c) | _ => none
    lid := t.lid, h := t.h, task, space := t.space, deaf := t.deaf, ctx := t.ctx }

/-- R26, R340: a thread exits: its thread set is free. -/
def Thread.exit (t : Thread) : Thread := { Thread.fresh t.id with arrivals := t.arrivals, ctx := { t.ctx with asked := false } }

/-- R362: the largest remaining range of another die, the lower die on a tie. -/
def largestRange (d : Nat) : List (Nat × Nat × Nat) → Option (Nat × Nat × Nat)
  | [] => none
  | (d', a, b) :: r =>
    match largestRange d r with
    | some (e, x, y) => if d' ≠ d ∧ y - x ≤ b - a then some (d', a, b) else some (e, x, y)
    | none => if d' ≠ d ∧ a < b then some (d', a, b) else none

/-- Replaces the range of a die. -/
def setRange (d a b : Nat) (rs : List (Nat × Nat × Nat)) : List (Nat × Nat × Nat) :=
  rs.map fun (d', x, y) => if d' = d then (d, a, b) else (d', x, y)

/-- R13, R362: the next index of a die, with the launch's ranges afterwards. -/
def takeIndex (d : Nat) (rs : List (Nat × Nat × Nat)) : Option Nat × List (Nat × Nat × Nat) :=
  match rs.find? fun (d', a, b) => decide (d' = d) && decide (a < b) with
  | some (_, a, b) => (some a, setRange d (a + 1) b rs)
  | none =>
    match largestRange d rs with
    | some (d', a, b) =>
      let m := b - (b - a + 1) / 2
      (some m, setRange d (m + 1) b (setRange d' a m rs))
    | none => (none, rs)

/-- R13: the next task of a thread; `first` when it has had none. -/
def State.takeTask (s : State) (l : Launch) (t : Thread) (first : Bool) : Option Nat × State :=
  if l.info.det then
    let i := if first then l.logical t else t.task + l.threads
    (if i < l.info.tasks then some i else none, s)
  else
    let (i, rs) := takeIndex t.id.die l.ranges
    (i, s.mapLaunch l.info.lid fun l => { l with ranges := rs })

/-- A saved context that was set apart returns to its thread set when the set is free again, under the control block as it
stands (R380, log 41). -/
def State.returnSaved (s : State) (h : HartId) : State :=
  if (s.hart h).state ≠ .free then s
  else match s.evicted.reverse.find? fun u => decide (u.id = h) with
    | some u =>
      let c := (s.hart h).ctx
      { s.mapHart h fun _ => { u with ctx := { u.ctx with savea := c.savea, gba := c.gba, gblen := c.gblen } } with
        evicted := s.evicted.filter fun q => !(decide (q.id = h) && decide (q.lid = u.lid)) }
    | none => s

/-- R26, R340: a hart exits. -/
def State.exitHart (s : State) (h : HartId) : State := (s.mapHart h Thread.exit).returnSaved h

/-- R13: an idle thread takes its next task, or exits. -/
def State.nextTask (s : State) (h : HartId) (first : Bool) : State :=
  let t := s.hart h
  match s.launchOf t with
  | none => s.exitHart h
  | some l =>
    match s.takeTask l t first with
    | (some i, s) => s.mapHart h fun t => t.begin l i
    | (none, s) => s.exitHart h

/-- R340: everything that a halting hart waits for has come: its counters are zero, its operations are complete, its ports
have drained and its B-latch traffic has settled. -/
def State.mayEnd (s : State) (t : Thread) : Bool :=
  t.dc.all (fun c => c = 0) && decide (t.unack = 0) && s.quiet t.id && t.pend.isEmpty && t.outputs.all (·.isEmpty) &&
  (match t.outTile with | some (_, true, _) => false | _ => true) && decide (t.fill ≠ .filling false)

/-- R338: a Porter's program has ended: RUN clears, and a trap sets FCODE and FAULT and is reported. -/
def State.porterEnd (s : State) (t : Thread) : State :=
  match t.stage, t.fault with
  | .trapped, some c =>
    let s := s.mapHart t.id fun t => { t with state := .free, stage := .active, fault := none,
                                              porter := { t.porter with run := false, fault := true, fcode := c.code } }
    s.report (ringFor t.id) ⟨injOf t.id, c.code, t.lid, 0⟩
  | _, _ => s.mapHart t.id fun t => { t with state := .free, stage := .active, porter := { t.porter with run := false } }

/-- HALT_COMPLETE (R325, R338, R340): a halting hart whose counters have drained ends its task or its program. Local loads
whose pushes are due are made first; a tile that has not left is dropped. A Porter that trapped waits for its operations
alone, since a refused request never lets its counter fall (R103). Tiles that waited for its b1 are discarded. -/
def execHaltComplete (h : HartId) (s : State) : Result :=
  .next (let t := s.hart h
    if t.stage = .trapped then (if s.quiet h then s.porterEnd t else s)
    else if t.stage ≠ .halting then s
    else if !t.pend.isEmpty then s.mapHart h Thread.age
    else if !s.mayEnd t then s
    else match h with
      | .thread _ _ =>
        let s := (s.leaveTroupe h).forgetHeld h
        ((s.mapHart h fun t => { t with outTile := none, deaf := true }).nextTask h false).startRings
      | .porter _ _ => s.porterEnd t
      | .overlay ch => if s.runOver ch then s else s.endRun ch none
      | _ => s.mapHart h fun t => { t with state := .free, stage := .active })

end Sys2Proof.Machine
end

