-- ==== Sys2Proof/Machine/System.lean ====
section
/-! DEFINITION. System instructions: traps, HALT, WFE, TRET, the CSRs, operand-extension registers, RAND, reserved words and
fetch faults, and the events of ports and of WFE (R49, R50, R60, R159, R339 to R346, R378). -/

namespace Sys2Proof.Machine

/-! ### SYS -/

/-- ECALL (R339). -/
def execEcall (g : Guard) (s : State) : Result := .next (s.scalar .core g (trap 0x0C))
/-- EBREAK (R339). -/
def execEbreak (g : Guard) (s : State) : Result := .next (s.scalar .core g (trap 0x0D))

/-- R340: the hart issues nothing further and waits to end its task. -/
def haltTask : M Unit := setFocus fun t => { t with stage := .halting }

/-- HALT (R340). -/
def execHalt (g : Guard) (s : State) : Result := .next (s.scalar .engine g haltTask)
/-- HALT.N (R340). -/
def execHaltN (s : State) : Result := .next (s.compact .engine haltTask)

/-- WFE (R341). -/
def execWfe (g : Guard) (s : State) : Result :=
  .next (s.scalar .core g (do
    let t ← focus
    await t.latch .event
    setFocus fun t => { t with latch := false }))

/-- FAULT (R342). -/
def execFault (g : Guard) (a : BitVec 5) (s : State) : Result :=
  .next (s.scalar .core g (do
    checkPorts [a]
    let x ← readX a
    trap 0x0E x))

/-- The issuing hart is at supervisor privilege (R351, R352). -/
def State.supervisor (s : State) : Bool := s.focus.isSteward && s.focus.sup.priv

/-- R135, R181: PRIV from a task. -/
def tretPre (s : State) : Option (BitVec 8) := if s.supervisor then none else some PRIV

/-- TRET (R105, R343, R352): a transfer of control, so an odd sepc traps with MISALIGN here (log 109). -/
def execTret (g : Guard) (s : State) : Result :=
  .next (s.scalar .core g (do
    let t ← focus
    check (t.sup.sepc.toNat % 2 = 0) MISALIGN t.sup.sepc
    modify State.tret) tretPre)

/-- RESERVED_ENCODING (R159): ILLEGAL before any guard. -/
def execReservedEncoding (_word : BitVec 32) (s : State) : Result := .next (s.raise ILLEGAL 0)

/-- FETCH_FAULT (R378, R379). -/
def execFetchFault (faddr : Word) (straddle : Bool) (iword : BitVec 32) (s : State) : Result :=
  .next (s.raiseAt FETCH faddr straddle iword)

/-! ### CSRs (R60, R344, R352) -/

/-- R25: dom. -/
def Launch.dom (l : Launch) (c : CoreId) : Nat :=
  1 + flag (l.info.sdh ≠ 0) * 2 + 4 + flag (l.info.fbid ≠ 0) * 8 + l.info.dw * 2 ^ 4 + l.info.dh * 2 ^ 12 + l.info.sdw * 2 ^ 19 +
  l.info.sdh * 2 ^ 27 + l.subdomain c * 2 ^ 34 + l.info.fbid * 2 ^ 48

/-- A number that a core thread's launch gives it; zero for a steward. -/
def State.ofLaunch (s : State) (f : Launch → CoreId → Nat) : Nat :=
  match s.launchOf s.focus, s.focus.id.core? with
  | some l, some c => f l c
  | _, _ => 0

/-- Whether a user CSR is assigned, and whether it is RO (R60). -/
def userCsr (n : Nat) : Option Bool :=
  if n = 0x001 then some false
  else if (0x010 ≤ n ∧ n ≤ 0x019) ∨ (0x020 ≤ n ∧ n ≤ 0x022) ∨ n = 0x030 then some true
  else none

/-- R60, R158, R352: what a CSR instruction is refused for before its guard. -/
def csrPre (n : Nat) (writes : Bool) (s : State) : Option (BitVec 8) :=
  if 0x400 ≤ n then
    if !s.supervisor then some PRIV else if 0x405 < n then some ILLEGAL else none
  else match userCsr n with
    | none => some ILLEGAL
    | some ro => if ro && writes then some ILLEGAL else none

/-- The value of a CSR (R60 to R63, R25, R352). -/
def State.csr (s : State) (n : Nat) : Word :=
  let t := s.focus
  match n with
  | 0x001 => t.fcsr
  | 0x010 => BitVec.ofNat 64 (t.task % 2 ^ 32)
  | 0x011 => BitVec.ofNat 64 (s.ofLaunch fun l _ => l.info.tasks)
  | 0x012 => BitVec.ofNat 64 (s.ofLaunch fun l _ => l.info.lid)
  | 0x013 => BitVec.ofNat 64 (s.ofLaunch fun l _ => l.info.slot)
  | 0x014 => BitVec.ofNat 64 (Config.deviceId.toNat * 2 ^ 18 + (injOf t.id).toNat)
  | 0x015 => BitVec.ofNat 64 (s.ofLaunch fun l c => l.lcore c)
  | 0x016 => BitVec.ofNat 64 (s.ofLaunch Launch.dom)
  | 0x017 => BitVec.ofNat 64 (s.ofLaunch fun l _ => l.info.geom.toNat)
  | 0x018 => BitVec.ofNat 64 (s.ofLaunch fun l _ => t.tcmb l)
  | 0x019 => BitVec.ofNat 64 (s.ofLaunch fun l _ => l.tcmlBytes)
  | 0x020 => s.clk.setWidth 64
  | 0x021 => BitVec.ofNat 64 (s.ofLaunch fun l _ => if l.info.det then l.sstep % 2 ^ 32 else 0)
  | 0x022 => s.trinfo t
  | 0x030 => t.region.entry
  | 0x400 => BitVec.ofNat 64 (flag t.sup.spp)
  | 0x401 => t.sup.sepc
  | 0x402 => t.sup.scause
  | 0x403 => t.sup.stval
  | 0x404 => t.sup.stvec
  | 0x405 => t.sup.sscratch
  | _ => 0

/-- A write of a CSR: RES bits keep their zeros (R61, R352). -/
def Thread.setCsr (t : Thread) (n : Nat) (w : Word) : Thread :=
  match n with
  | 0x001 => { t with fcsr := w &&& 0x7f }
  | 0x400 => { t with sup := { t.sup with spp := w.getLsbD 0 } }
  | 0x401 => { t with sup := { t.sup with sepc := w } }
  | 0x402 => { t with sup := { t.sup with scause := w &&& 0xff } }
  | 0x403 => { t with sup := { t.sup with stval := w } }
  | 0x404 => { t with sup := { t.sup with stvec := w &&& ~~~ 1 } }
  | 0x405 => { t with sup := { t.sup with sscratch := w } }
  | _ => t

/-- R246: a remote load in flight may still raise a floating flag. -/
def State.flagsDue (s : State) : Bool :=
  s.net.any fun r => r.isOf s.focus.id && (match r.body with | .load _ (.f _ _) => true | _ => false)

/-- CSRRW, CSRRS and CSRRC (R344): `f` gives the new value from the old one and x[a]. -/
def csrOp (f : Word → Word → Word) (always : Bool) (d a : BitVec 5) (n : Nat) : M Unit := do
  checkPorts [a, d]
  let s ← get
  if n = 0x001 then await (!s.flagsDue)
  let x ← readX a
  let old := s.csr n
  if always || decide (a ≠ 0) then setFocus fun t => t.setCsr n (f old x)
  writeX d old

/-- CSRRW (R344). -/
def execCsrrw (g : Guard) (d a : BitVec 5) (i : BitVec 11) (s : State) : Result :=
  .next (s.scalar .core g (csrOp (fun _ x => x) true d a i.toNat) (csrPre i.toNat true))
/-- CSRRS (R344). -/
def execCsrrs (g : Guard) (d a : BitVec 5) (i : BitVec 11) (s : State) : Result :=
  .next (s.scalar .core g (csrOp (fun old x => old ||| x) false d a i.toNat) (csrPre i.toNat (decide (a ≠ 0))))
/-- CSRRC (R344). -/
def execCsrrc (g : Guard) (d a : BitVec 5) (i : BitVec 11) (s : State) : Result :=
  .next (s.scalar .core g (csrOp (fun old x => old &&& ~~~ x) false d a i.toNat) (csrPre i.toNat (decide (a ≠ 0))))

/-! ### SETE, GETE, RAND -/

/-- SETE (R345). -/
def execSete (g : Guard) (d : BitVec 3) (a : BitVec 5) (s : State) : Result :=
  .next (s.scalar .core g (do checkPorts [a]; let x ← readX a; writeE d x))
/-- GETE (R345). -/
def execGete (g : Guard) (d : BitVec 5) (a : BitVec 3) (s : State) : Result :=
  .next (s.scalar .core g (do checkPorts [d]; let x ← readE a; writeX d x))

/-- R346: word w of the generator keyed by a seed at a counter. -/
def randWord (seed counter : Word) (w : BitVec 2) : Word :=
  let v := (counter <<< 2) + w.setWidth 64
  let z := seed + (v + 1) * 0x6F1D8B35C2E9A74B
  let z := (z ^^^ (z >>> 31)) * 0xA3B195C76D2E41F9
  let z := (z ^^^ (z >>> 29)) * 0xE7F35A190B6CD2A5
  let z := (z ^^^ (z >>> 32)) * 0x8D4C27E1F9653B0D
  z ^^^ (z >>> 30)

/-- RAND (R346). -/
def execRand (g : Guard) (d a b : BitVec 5) (w : BitVec 2) (s : State) : Result :=
  .next (s.scalar .core g (do
    checkPorts [a, b, d]
    let x ← readX a
    let y ← readX b
    writeX d (randWord x y w)))

/-! ### WFE ends -/

/-- A waiting WFE continues: the latch clears and it retires (R341). -/
def State.endWfe (s : State) (h : HartId) : State :=
  s.onHart h fun s => (s.mapFocus fun t => { t with latch := false, npc := t.pc + 4, taken := false }).retire s.focus 4 .no true

/-- The hart waits in a WFE; since when. -/
def Thread.inWfe (t : Thread) : Option Nat :=
  match t.wait, t.stage with
  | some (.event, since), .active => some since
  | _, _ => none

/-- WFE_WAKE (R341). -/
def execWfeWake (h : HartId) (s : State) : Result :=
  .next (if (s.hart h).inWfe.isSome ∧ (s.hart h).latch then s.endWfe h else s)

/-- WFE_TIMEOUT (R341). -/
def execWfeTimeout (h : HartId) (s : State) : Result :=
  .next (match (s.hart h).inWfe with
    | some since => if s.waitedOut since then s.endWfe h else s
    | none => s)

/-! ### Ports -/

/-- PORT_TIMEOUT (R50). -/
def execPortTimeout (h : HartId) (s : State) : Result :=
  .next (match (s.hart h).wait with
    | some (.port _ _, since) =>
      if s.waitedOut since ∧ (s.hart h).stage = .active then s.onHart h fun s => s.raise PORT_TIMEOUT 0 else s
    | _ => s)

/-- R49: the thread set on a neighbouring core that receives a thread's words: the one of the same number in the launch. -/
def Launch.peer (l : Launch) (t : Thread) (p : Fin 4) : Option HartId :=
  match t.id.core? with
  | some c => (neighbour c p).bind fun c' => (lookup? c' l.sets).bind fun hs => (hs[t.h]?).map fun k => .thread c' k
  | none => none

/-- The saved context of a thread set of a launch (R380, R383). -/
def State.savedOn (s : State) (id : HartId) (lid : Nat) : Option Thread :=
  (s.harts ++ s.evicted).find? fun t => decide (t.id = id) && decide (t.lid = lid) && decide (t.state = .saved)

/-- Words of an arrival queue in a guestbook. -/
def State.guestWords (s : State) (t : Thread) (q : Nat) : Nat :=
  ((s.guestbook t).filter fun e => decide (e.kind = 2) && decide (e.port = q)).length

/-- PORT_WORD_ARRIVAL (R49, R341, R383): the oldest word of an output queue reaches the neighbour's arrival queue of the same
thread set when it has room for it, or the guestbook of a saved context; it waits while that context is being restored (R385). -/
def execPortWordArrival (h : HartId) (port : BitVec 2) (s : State) : Result :=
  .next (let t := s.hart h
    let p : Fin 4 := ⟨port.toNat, port.isLt⟩
    let q : Fin 4 := ⟨(port.toNat + 2) % 4, Nat.mod_lt _ (by decide)⟩
    match t.outputs[p], s.launchOf t with
    | w :: rest, some l =>
      let sent (s : State) : State := s.mapHart h fun t => { t with outputs := t.outputs.set p rest }.unwait (.port p true)
      match l.peer t p with
      | some id =>
        match s.savedOn id t.lid with
        | some u =>
          let e : Entry := ⟨0, 0, 2, q.val, 0, leBytes 8 w.toNat⟩
          if u.ctx.swap && decide (u.arrivals[q].length + s.guestWords u q.val < 4) && s.guestFits u [e] && !s.guestHeld u [e] then
            sent (State.guestAppend u (s.guestRead u) e)
          else s
        | none =>
          let u := s.hart id
          if u.stage ≠ .restoring ∧ u.arrivals[q].length < 4 then
            (sent s).mapHart id fun u => { u with arrivals := u.arrivals.set q (u.arrivals[q] ++ [w]), latch := true }.unwait (.port q false)
          else s
      | none => s
    | _, _ => s)

end Sys2Proof.Machine
end

