-- ==== Sys2Proof/Machine/Faulting.lean ====
section
/-! DEFINITION. What follows a task fault under CONTAIN: the fault record (R41, R45, R46) and the reaper (R42, R43); notices
that waited for room (R351); and the supervisor's abort of a launch (R27, R39). -/

namespace Sys2Proof.Machine

/-- R45, R46: the 256 bytes of a fault record. -/
def FaultCtx.record (c : FaultCtx) (task : Nat) : List Byte :=
  leBytes 8 (c.code.toNat + (flag c.straddle + flag c.troupe * 2 + flag c.forced * 4) * 2 ^ 8 + min c.nreply 255 * 2 ^ 16 + task % 2 ^ 32 * 2 ^ 32) ++
  leBytes 8 c.fpc.toNat ++ leBytes 8 c.faddr.toNat ++ leBytes 8 c.ftime.toNat ++
  leBytes 8 (c.iword.toNat + c.tpos * 2 ^ 32 + c.twidth * 2 ^ 40 + c.tskew * 2 ^ 48) ++
  leBytes 8 c.rentry.toNat ++ leBytes 8 c.dcs.toNat ++ leBytes 8 0 ++
  (List.range 8).flatMap fun i =>
    let q := c.replies.getD i ⟨0, 0, 0, 0, 0, 0⟩
    leBytes 8 (q.kind + q.reg * 2 ^ 8 + q.dcn * 2 ^ 16) ++ leBytes 8 q.a.toNat ++ leBytes 8 q.b.toNat

/-- R41: the local address of a thread's fault record. -/
def Thread.recordAt (t : Thread) (l : Launch) : Nat := t.tcmb l + l.tcmlBytes - 256

/-- R41: results of held accesses that were applied before the task died are its replies too. -/
def State.drainHeld (s : State) (h : HartId) : State :=
  (s.net.filter fun r => r.ofThread (s.hart h) && decide (r.cls = .held)).foldl (fun s r => match r.phase with
    | .performed data _ => s.replied r data
    | _ => s) s

/-- FAULT_RECORD_WRITE (R41, R43, R351, R377): once every operation of the dead task has completed, in a DET launch its
superstep has ended, and the notice has room, the record is written. A stop that was turned into a fault has had its
notice. -/
def execFaultRecordWrite (h : HartId) (s : State) : Result :=
  .next (let t := s.hart h
    match t.stage, t.id.core?, s.launchOf t with
    | .dying, some c, some l =>
      let s := s.drainHeld h
      let t := s.hart h
      match t.fault with
      | some ctx =>
        let notify := decide (t.ctx.scode = 0)
        let r := s.ring (ringFor h)
        if !s.quietAll h || t.forced l || (notify && (s.ringShut (ringFor h) || !r.held.isEmpty)) then s
        else
          let a := t.recordAt l
          let s := (s.keepOld l.info.lid l.sstep (tcmKey c a) 256).pokeBytes (tcmKey c a) (ctx.record t.task)
          let s := s.mapHart h fun t => { t with stage := .reaperDue }
          if notify then s.appendNotice (ringFor h) ⟨injOf h, ctx.code, l.info.lid, BitVec.ofNat 64 a⟩ else s
      | none => s
    | _, _, _ => s)

/-- REAPER_START (R42, R43): the thread restarts at the reaper entry for the dead task's index. x13 is the LID, as R14 sets it
(log 116). -/
def execReaperStart (h : HartId) (s : State) : Result :=
  .next (let t := s.hart h
    match t.stage, t.fault, s.launchOf t with
    | .reaperDue, some ctx, some l =>
      let t' := t.begin l t.task
      let x := (t'.x.setIfInBounds 11 (BitVec.ofNat 64 (t.recordAt l))).setIfInBounds 12 (ctx.code.setWidth 64)
      State.startRings (s.mapHart h fun _ => Thread.settle { t' with
        x, pc := l.info.reaper, region := { t'.region with entry := l.info.reaper }, reaper := true,
        superstep := if l.info.det then l.sstep else t'.superstep, heldIdx := if l.info.det then 0 else t'.heldIdx,
        ctx := { t'.ctx with scode := 0 } } s.nextId)
    | _, _, _ => s)

/-- NOTICE_APPEND (R351): a ring with room takes the notice that was held first; when none is held, a thread that waits to
stop on ECALL or EBREAK stops. -/
def execNoticeAppend (ring : RingId) (s : State) : Result :=
  .next (let r := s.ring ring
    if s.ringShut ring then s
    else match r.held with
      | n :: rest => (s.setRing ring { r with held := rest }).appendNotice ring n
      | [] => match s.harts.find? fun t => decide (t.stage = .stopping) && decide (ringFor t.id = ring) with
        | some t => s.stopNow t.id
        | none => s)

/-- R40: the codes of the table; 0x00, 0x0F and those above 0x15 are never raised. -/
def raisedCode (c : BitVec 8) : Bool := decide (c ≠ 0) && decide (c ≠ 0x0F) && decide (c.toNat ≤ 0x15)

/-- SUPERVISOR_ABORT (R27, R39, R40): the supervisor aborts a launch. A code that is never raised aborts nothing. -/
def execSupervisorAbort (lid : Nat) (code : BitVec 8) (s : State) : Result :=
  .next (if raisedCode code then s.abortWith lid code 0 else s)

end Sys2Proof.Machine
end

