-- ==== Sys2Proof/Machine/Launch.lean ====
section
/-! DEFINITION. The Innkeeper: launch records (R353 to R356), events and the order of queued launches (R357, R358), placement
and its reservations (R359, R360), empty launches (R361), and the completion record (R365). -/

namespace Sys2Proof.Machine

/-! ### Records -/

/-- R353: a record's fields. -/
def readRec (bs : List Byte) : LaunchRec :=
  let f := dfield bs
  { slot := f 0 8 4, prio := f 0 12 2, det := f 0 14 1 == 1, contain := f 0 15 1 == 1, lid := f 0 16 16,
    entry := BitVec.ofNat 64 (numAt bs 8 8), reaper := BitVec.ofNat 64 (numAt bs 16 8), tasks := f 24 0 40, dh := f 32 0 8,
    dw := f 32 8 8, sdh := f 32 16 8, sdw := f 32 24 8, fbid := f 32 32 16, fbn := f 32 48 16, tcml := f 40 0 16, tc := f 40 16 3,
    acc := f 40 19 2, spb := f 40 32 32, nmbase := f 48 0 16, nmcount := f 48 16 16, geom := BitVec.ofNat 64 (numAt bs 56 8),
    pred0 := f 64 0 32, pred1 := f 64 32 32, doneev := f 72 0 32, crec := BitVec.ofNat 64 (numAt bs 80 8),
    accrec := BitVec.ofNat 64 (numAt bs 88 8), args := BitVec.ofNat 64 (numAt bs 96 8), arglen := f 104 0 9, fbhome := f 112 0 17 }

/-- R353: every zero field of a record is zero. -/
def recZeros (bs : List Byte) : Bool :=
  [(0, 32, 32), (24, 40, 24), (40, 21, 11), (48, 32, 32), (72, 32, 32), (104, 9, 55), (112, 17, 47), (120, 0, 64)].all
    fun (o, lo, n) => dfield bs o lo n == 0

/-- The completion statuses (R365). -/
def REJECTED_RANGE : Nat := 2
def REJECTED_FORMAT : Nat := 3

/-- R354: the checks of steps 1 to 5 in their order: the status of the first that fails. -/
def State.checkRecord (s : State) (bs : List Byte) (r : LaunchRec) : Option Nat :=
  let one := s.mc.lcs = 2 ∧ !s.failed ∧ numAt bs 0 1 = 1 ∧ recZeros bs ∧ r.lid ≠ 0 ∧ r.entry ≠ 0 ∧ r.entry.toNat % 2 = 0 ∧
    r.reaper.toNat % 2 = 0 ∧ (r.contain = decide (r.reaper ≠ 0)) ∧ r.arglen ≤ 256 ∧ r.crec.toNat % 32 = 0 ∧ r.accrec.toNat % 16 = 0
  let two := 1 ≤ r.dh ∧ r.dh ≤ 80 ∧ 1 ≤ r.dw ∧ r.dw ≤ 128 ∧ (r.sdh = 0 ↔ r.sdw = 0) ∧ (r.sdh ≠ 0 → r.dh % r.sdh = 0) ∧
    (r.sdw ≠ 0 → r.dw % r.sdw = 0) ∧ (r.fbid = 0 ↔ r.fbn = 0) ∧ (r.fbhome ≠ 0 → r.fbid ≠ 0)
  let three := 1 ≤ r.tcml ∧ r.tcml ≤ 1536 ∧ 1 ≤ r.tc ∧ r.tc ≤ 4 ∧ r.tc * r.tcml * 256 ≤ 393216 ∧ r.acc ≠ 3 ∧
    (r.acc ≠ 0 → r.tc = 1) ∧ r.spb % 4096 = 0 ∧ r.spb ≤ 1048576 ∧ r.nmbase + r.nmcount ≤ 65536
  let four := (s.launches.all fun l => decide (l.info.lid ≠ r.lid) && (decide (r.fbid = 0) || decide (l.info.fbid ≠ r.fbid))) ∧
    (r.doneev ≠ 0 → (r.slot, r.doneev) ∉ s.clear ∧ (s.clear.filter fun e => e.1 = r.slot).length < 4096)
  if !decide one ∨ !decide two ∨ !decide three ∨ !decide four then some REJECTED_FORMAT
  else if 2 ^ 32 < r.tasks then some REJECTED_RANGE
  else none

/-- A request that stands for the module queue's own accesses in a slot's address space. -/
def queueReq (slot : Nat) : Req := { asReq .moduleSteward 0 slot with src := .queue, phys := false }

/-- R353: a global address of a record is translated in its slot's space: the key for an access, or none. -/
def State.queueKey (s : State) (slot : Nat) (a : Word) (need : Need) : Option Nat × State :=
  if a.toNat / 2 ^ 48 ≠ 0x0100 then (none, s)
  else match s.xlatNow (queueReq slot) a need with
    | (.hit key, s) => (some key, s)
    | (_, s) => (none, s)

/-- Where bytes that the module queue writes go, cut at 256-byte boundaries (R105): the key of each piece, or none where one
does not translate. -/
def State.queueKeys (slot : Nat) : (fuel : Nat) → Word → List Byte → State → Option (List (Nat × List Byte)) × State
  | 0, _, _, s => (some [], s)
  | fuel + 1, a, bs, s =>
    if bs.isEmpty then (some [], s)
    else
      let n := 256 - a.toNat % 256
      match s.queueKey slot a .write with
      | (none, s) => (none, s)
      | (some key, s) =>
        match State.queueKeys slot fuel (a + BitVec.ofNat 64 n) (bs.drop n) s with
        | (some r, s) => (some ((key, bs.take n) :: r), s)
        | (none, s) => (none, s)

/-- One piece written by the module queue. -/
def State.queuePiece (s : State) (key : Nat) (bytes : List Byte) : State :=
  if 2 ^ 50 ≤ key then s
  else if onPage key then s.pageWrite key (bytes.map some)
  else (s.pokeBytes key bytes).latchAt key bytes.length

/-- A write of the module queue: it is done, or its translation failed. -/
def State.queueWrite (s : State) (slot : Nat) (a : Word) (bytes : List Byte) : Bool × State :=
  match State.queueKeys slot 2 a bytes s with
  | (some ps, s) => (true, ps.foldl (fun s p => s.queuePiece p.1 p.2) s)
  | (none, s) => (false, s)

/-- R326, R392: a write of the module queue has to wait: a block holds a unit that it would reach, or no port leads to its module. -/
def State.queueHeld (s : State) (slot : Nat) (a : Word) (n : Nat) : Bool :=
  match (State.queueKeys slot 2 a (List.replicate n 0) s).1 with
  | some ps => ps.any fun p => s.unitsHeld p.1 p.2.length || !s.routed [(p.1, p.2.length)]
  | none => false

/-- R354, R355, step 3: the argument block, or none where it cannot be read. -/
def State.readArgs (s : State) (r : LaunchRec) : Option (List Byte) × State :=
  if r.arglen = 0 then (some [], s)
  else if r.args.toNat / 2 ^ 48 ≠ 0x0100 ∨ (r.args + BitVec.ofNat 64 (r.arglen - 1)).toNat / 2 ^ 48 ≠ 0x0100 then (none, s)
  else match State.rangeRead .moduleSteward (queueReq r.slot) .read 3 r.args r.arglen s with
    | (.ok bs, s) => (some bs, s)
    | (.error _, s) => (none, s)

/-- R403: what the module queue's access to n bytes of a record's slot is charged: the walks and the bytes (log 75). -/
def State.queueCharges (s : State) (slot : Nat) (a : Word) (n : Nat) : List (Nat × Nat) :=
  if n = 0 ∨ a.toNat / 2 ^ 48 ≠ 0x0100 then [] else s.readCharges (queueReq slot) a n

/-- R356: the ACCEPT record's bytes. -/
def acceptBytes (status lid : Nat) (time : BitVec 56) : List Byte := leBytes 8 (status + lid * 2 ^ 16) ++ leBytes 8 time.toNat

/-- R365: the completion record's bytes. -/
def completionBytes (status lid ncont : Nat) (tstart tend : BitVec 56) (fcode : BitVec 8) (ftask : Nat) : List Byte :=
  leBytes 8 (status + lid * 2 ^ 16 + min ncont (2 ^ 32 - 1) * 2 ^ 32) ++ leBytes 8 tstart.toNat ++ leBytes 8 tend.toNat ++
  leBytes 8 (fcode.toNat + ftask % 2 ^ 32 * 2 ^ 32)

/-- R357: both predecessors are 0 or SET. -/
def State.isReady (s : State) (r : LaunchRec) : Bool :=
  (decide (r.pred0 = 0) || decide ((r.slot, r.pred0) ∉ s.clear)) && (decide (r.pred1 = 0) || decide ((r.slot, r.pred1) ∉ s.clear))

/-- R358: the time since which a queued launch is ready is kept, also when a later acceptance makes a predecessor CLEAR again
(log 152). -/
def State.markReady (s : State) : State :=
  { s with launches := s.launches.map fun l =>
      if l.stage = .queued ∧ l.readySince = none ∧ s.isReady l.info then { l with readySince := some s.now } else l }

/-- R355, step 4: the ACCEPT record is written where one is asked for; a failed write is reported. -/
def State.writeAccept (s : State) (r : LaunchRec) (status : Nat) : State :=
  if r.accrec = 0 then s
  else match s.queueWrite r.slot r.accrec (acceptBytes status r.lid s.clk) with
    | (true, s) => s
    | (false, s) => s.reportSystem 3 injQueue r.lid 0 r.accrec.toNat

/-- R356: a rejected record: its ACCEPT and completion records carry the code, and the module steward is told. ATIME is the time of
the rejection (log 151). -/
def State.rejectRecord (s : State) (r : LaunchRec) (status : Nat) : State :=
  let s := s.writeAccept r status
  let s := (s.queueWrite r.slot r.crec (completionBytes status r.lid 0 0 s.clk 0 0)).2
  s.reportSystem 2 injQueue r.lid status 0

/-- A launch as it is accepted (R355). -/
def newLaunch (r : LaunchRec) (seqNo : Nat) (time : BitVec 56) (args : List Byte) : Launch :=
  { info := r, seqNo, atime := time, readySince := none, stage := .queued, crow := 0, ccol := 0, tcmOff := 0, spOffs := [], sets := [],
    argBytes := args, ranges := [], sstep := 0, fbCount := 0, fbSent := false, fbVia := none, fbAcked := false, closing := false, ncont := 0,
    fcode := 0, ftask := 0, fkey := none, tstart := 0, was := [] }

/-- R326, R392: a record has to wait: for its ACCEPT record, for the completion record of a rejection, or for a port to its
argument block. -/
def State.recordWaits (s : State) (bs : List Byte) : Bool :=
  let r := readRec bs
  (decide (r.arglen ≠ 0) && (s.checkRecord bs r).isNone && !s.routed (s.spans .queue 0 r.slot false r.args r.arglen)) ||
  (decide (r.accrec ≠ 0) && s.queueHeld r.slot r.accrec 16) ||
  (((s.checkRecord bs r).isSome || (s.readArgs r).1.isNone) && s.queueHeld r.slot r.crec 32)

/-- R403: what the module queue is charged for a record: its argument block, its ACCEPT record, and the completion record of a
rejection. -/
def State.recordCharges (s : State) (bs : List Byte) : List (Nat × Nat) :=
  let r := readRec bs
  let bad := (s.checkRecord bs r).isSome
  (if bad then [] else s.queueCharges r.slot r.args r.arglen) ++ (if r.accrec = 0 then [] else s.queueCharges r.slot r.accrec 16) ++
  (if bad || (s.readArgs r).1.isNone then s.queueCharges r.slot r.crec 32 else [])

/-- R388: the read of a record's argument block comes in on an excluded input. -/
def State.recordShut (s : State) (bs : List Byte) : Option Nat :=
  let r := readRec bs
  if r.arglen = 0 ∨ (s.checkRecord bs r).isSome then none else s.rangeShut (queueReq r.slot) r.args r.arglen

/-- R354, R355: a record is applied. -/
def State.applyRecord (s : State) (bs : List Byte) : State :=
  let r := readRec bs
  match s.checkRecord bs r with
  | some status => s.rejectRecord r status
  | none =>
    match s.readArgs r with
    | (none, s) => s.rejectRecord r REJECTED_FORMAT
    | (some args, s) =>
      let s := s.writeAccept r 0
      { s with
        clear := if r.doneev = 0 then s.clear else (r.slot, r.doneev) :: s.clear
        launches := s.launches ++ [newLaunch r s.seqNo s.clk args], seqNo := s.seqNo + 1 }.markReady

/-- LAUNCH_RECORD (R353 to R356, R403, R412): a write to the launch window is one aligned 128-byte packet and is applied, its walks and
accesses charged, or it is discarded and reported. It waits while a block holds what it would write (R326), and for good where
the read of its argument block was discarded on an excluded input (R388). -/
def execLaunchRecord (id : Nat) (s : State) : Result :=
  .next (s.atHome id (fun r => match r.body with | .store _ => true | _ => false) fun s r key =>
    match r.body with
    | .store bytes =>
      if onPage key && decide (pageReg key = .launch) then
        if bytes.length = 128 ∧ key % 128 = 0 ∧ bytes.all Option.isSome then
          let bs := bytes.map fun b => b.getD 0
          if r.failed || s.recordWaits bs then s
          else match s.recordShut bs with
            | some detail => (s.putReq { r with failed := true }).readLost detail
            | none =>
              match State.payAll (readRec bs).slot (s.recordCharges bs) s with
              | some s => (s.applyRecord bs).performed r []
              | none => s
        else (s.reportSystem 1 injQueue 0 0 bytes.length).performed r []
      else s
    | _ => s)

/-! ### The order of the queues (R358) -/

/-- R358: the effective priority of a launch. -/
def State.priority (s : State) (l : Launch) : Nat :=
  min (l.info.prio + (match l.readySince with | some t => (s.now - t) / 1000000 | none => 0)) 15

/-- R358: a is considered before b. -/
def State.before (s : State) (a b : Launch) : Bool :=
  decide (s.priority b < s.priority a) ||
  (decide (s.priority a = s.priority b) && (timeLt a.atime b.atime || (decide (a.atime = b.atime) && decide (a.seqNo < b.seqNo))))

/-- The head of the ready launches that are to be placed. -/
def State.headLaunch (s : State) : Option Launch :=
  (s.launches.filter fun l => decide (l.stage = .queued) && decide (l.info.tasks ≠ 0) && s.isReady l.info).foldl
    (fun acc l => match acc with | some a => if s.before l a then some l else some a | none => some l) none

/-! ### Placement (R359) -/

/-- R11: a launch holds its reservations until its last thread has exited. -/
def State.reserves (s : State) (l : Launch) : Bool :=
  match l.stage with
  | .queued => false
  | .placed => true
  | _ => !(s.members l.info.lid).isEmpty

/-- The launches that hold reservations. -/
def State.placed (s : State) : List Launch := s.launches.filter s.reserves

/-- A context of a launch is saved on a thread set, which is free then; with its TCM piece released too when `swap` (R380). -/
def State.savedSet (s : State) (l : Launch) (c : CoreId) (k : Nat) (swap : Bool) : Bool :=
  ((s.savedOn (.thread c k) l.info.lid).map fun t => !swap || t.ctx.swap).getD false

/-- R359: a thread set of a core is free. -/
def State.setFree (s : State) (c : CoreId) (k : Nat) : Bool :=
  s.placed.all fun l => decide (k ∉ lookupD [] c l.sets) || s.savedSet l c k false

/-- The TCM ranges of a core that are held: offset and length, one for each thread set whose piece is not released. -/
def State.tcmHeld (s : State) (c : CoreId) : List (Nat × Nat) :=
  s.placed.flatMap fun l =>
    (lookupD [] c l.sets).zipIdx.filterMap fun (k, h) =>
      if s.savedSet l c k true then none else some (l.tcmOff + h * l.tcmlBytes, l.tcmlBytes)

/-- The scratchpad ranges of a cluster that are held. -/
def State.padHeld (s : State) (cluster : Nat) : List (Nat × Nat) :=
  s.placed.filterMap fun l => (lookup? cluster l.spOffs).map fun o => (o, l.info.spb)

/-- A range meets none of the held ones. -/
def rangeFree (o n : Nat) (held : List (Nat × Nat)) : Bool := held.all fun (a, m) => decide (o + n ≤ a) || decide (a + m ≤ o)

/-- The cores of a rectangle of clusters, in grid order. -/
def rectCores (cr cc dh dw : Nat) : List CoreId :=
  (List.range (4 * dh)).flatMap fun i => (List.range (4 * dw)).map fun j => coreAt (4 * cr + i) (4 * cc + j)

/-- The clusters of a rectangle, by number. -/
def rectClusters (cr cc dh dw : Nat) : List Nat :=
  (List.range dh).flatMap fun i => (List.range dw).map fun j => (cr + i) * 128 + (cc + j)

/-- The block router of a cluster: clusters are served two by two (R106). -/
def blockOf (cluster : Nat) : Nat × Nat := (cluster / 128 / 2, cluster % 128 / 2)

/-- R359: the barrier slots that a launch at a position takes at a block router. -/
def slotsAt (r : LaunchRec) (cr cc : Nat) (block : Nat × Nat) : Nat :=
  let mine := (rectClusters cr cc r.dh r.dw).filter fun k => blockOf k = block
  if mine.isEmpty then 0
  else
    let subs := if r.sdh = 0 then 0 else
      ((mine.map fun k => ((k / 128 - cr) / r.sdh, (k % 128 - cc) / r.sdw)).dedup).length
    mine.length + subs + 1 + flag (decide (r.fbid ≠ 0))

/-- R359: the barrier slots of every block router suffice. -/
def State.barrierSlots (s : State) (r : LaunchRec) (cr cc : Nat) : Bool :=
  (((rectClusters cr cc r.dh r.dw).map blockOf).dedup).all fun b =>
    decide (((s.placed.map fun l => slotsAt l.info l.crow l.ccol b).sum + slotsAt r cr cc b) ≤ 64)

/-- R359: where a launch is placed at a position, if it fits there: TCM offset, scratchpad offsets and thread sets. -/
def State.fitsAt (s : State) (r : LaunchRec) (cr cc : Nat) : Option (Nat × List (Nat × Nat) × List (CoreId × List Nat)) :=
  let cores := rectCores cr cc r.dh r.dw
  let free (c : CoreId) : List Nat := (List.range 4).filter fun k => s.setFree c k
  let need := r.tc * r.tcml * 256
  let held := (cores.flatMap s.tcmHeld).dedup
  let off := (List.range ((393216 - need) / 256 + 1)).find? fun o => rangeFree (256 * o) need held
  let pads := (rectClusters cr cc r.dh r.dw).map fun k =>
    ((List.range ((1048576 - r.spb) / 4096 + 1)).find? fun o => rangeFree (4096 * o) r.spb (s.padHeld k)).map fun o => (k, 4096 * o)
  let unit := r.acc = 0 ∨ s.placed.all fun l => decide (l.info.acc = 0) || cores.all fun c => (lookup? c l.sets).isNone
  match off with
  | some o =>
    if (cores.all fun c => decide (r.tc ≤ (free c).length)) && pads.all Option.isSome && decide unit && s.barrierSlots r cr cc then
      some (256 * o, pads.filterMap id, cores.map fun c => (c, (free c).take r.tc))
    else none
  | none => none

/-- R359: the stream range is held by no placed launch; an empty one shares no stream. -/
def State.streamsFree (s : State) (r : LaunchRec) : Bool :=
  s.placed.all fun l => decide (r.nmcount = 0) || decide (l.info.nmcount = 0) || decide (r.nmbase + r.nmcount ≤ l.info.nmbase) || decide (l.info.nmbase + l.info.nmcount ≤ r.nmbase)

/-- R359: the first position of the scan, row by row, where a launch fits. -/
def State.findPlace (s : State) (r : LaunchRec) : List (Nat × Nat) → Option (Nat × Nat × Nat × List (Nat × Nat) × List (CoreId × List Nat))
  | [] => none
  | (cr, cc) :: rest =>
    match s.fitsAt r cr cc with
    | some (o, pads, sets) => some (cr, cc, o, pads, sets)
    | none => s.findPlace r rest

/-- LAUNCH_PLACEMENT (R358, R359): the first launch of the order, as it is now, is placed, if it can be; no other is. The dispatcher may
try at any time (log 153). -/
def execLaunchPlacement (s : State) : Result :=
  .next (match s.headLaunch with
    | some l =>
      let r := l.info
      let positions := (List.range (81 - r.dh)).flatMap fun i => (List.range (129 - r.dw)).map fun j => (i, j)
      if !s.streamsFree r then s
      else match s.findPlace r positions with
        | some (cr, cc, o, pads, sets) =>
          s.mapLaunch r.lid fun l => { l with stage := .placed, crow := cr, ccol := cc, tcmOff := o, spOffs := pads, sets }
        | none => s
    | none => s)

/-! ### Release (R360) -/

/-- What is left of holder entries beside a range. -/
def trimHolders (key n : Nat) (hs : List (Nat × Nat × Nat)) : List (Nat × Nat × Nat) :=
  hs.flatMap fun (a, m, slot) =>
    (if a < key then [(a, min m (key - a), slot)] else []) ++ (if key + n < a + m then [(max a (key + n), a + m - max a (key + n), slot)] else [])

/-- R15, R360: a reservation passes to a slot: what another slot held last is zeroed, and the slot is its holder. -/
def State.takeRange (s : State) (key n slot : Nat) : State :=
  let s' := s.holders.foldl (fun s (a, m, q) =>
    let lo := max a key
    let hi := min (a + m) (key + n)
    if q ≠ slot ∧ lo < hi then s.wipe lo (hi - lo) else s) s
  { s' with holders := (key, n, slot) :: trimHolders key n s.holders }

/-- R360, steps 1 and 3. What the streams of the range still held, waiting or executing, is dropped without a completion word
(log 54). -/
def State.prepare (s : State) (l : Launch) : State :=
  let inRange (k : Nat) : Bool := decide (l.info.nmbase ≤ k) && decide (k < l.info.nmbase + l.info.nmcount)
  let s := { s with units := s.units.map fun (ch, u) => (ch, { u with streams := u.streams.filter fun e => !inRange e.1 }) }
  let s := (rectCores l.crow l.ccol l.info.dh l.info.dw).foldl
    (fun s c => s.takeRange (tcmKey c l.tcmOff) (l.info.tc * l.tcmlBytes) l.info.slot) s
  l.spOffs.foldl (fun s (k, o) => if l.info.spb = 0 then s else s.takeRange (padKey k o) l.info.spb l.info.slot) s

/-- R362: the ranges of the dies: in proportion to their threads, rounded down, the last die taking the rest. -/
def splitRanges (n total : Nat) : (start : Nat) → List (Nat × Nat) → List (Nat × Nat × Nat)
  | _, [] => []
  | start, [(d, _)] => [(d, start, n)]
  | start, (d, k) :: r => (d, start, start + n * k / total) :: splitRanges n total (start + n * k / total) r

/-- Threads of a launch on each die of its domain, ascending (R362). -/
def Launch.dieThreads (l : Launch) : List (Nat × Nat) :=
  let cores := rectCores l.crow l.ccol l.info.dh l.info.dw
  (List.range 32).filterMap fun d =>
    let k := (cores.filter fun c => c.die = d).length
    if k = 0 then none else some (d, l.info.tc * k)

/-- A saved context of another launch on a thread set is set apart while the set runs a new one (R380). -/
def State.setApart (s : State) (id : HartId) : State :=
  let t := s.hart id
  if t.state = .saved then { s with evicted := s.evicted ++ [t] } else s

/-- R360, steps 4 and 5: a thread of the launch is released with its argument block and its first task. Words that another launch
left in its arrival queues are dropped (log 135). -/
def State.releaseThread (l : Launch) (s : State) (id : HartId) (h : Nat) : State :=
  let s := s.setApart id
  let ctx := (s.hart id).ctx
  let s := s.mapHart id fun _ => { Thread.fresh id with lid := l.info.lid, h, space := l.info.slot, state := .running, ctx := { ctx with scode := 0, swap := false, asker := none, asked := false } }
  let s := match id.core? with
    | some c => s.pokeBytes (tcmKey c (l.tcmOff + h * l.tcmlBytes)) l.argBytes
    | none => s
  s.nextTask id true

/-- LAUNCH_RELEASE (R360, R362): the reservation has been wiped; the argument blocks are copied and the threads released. -/
def execLaunchRelease (lid : Nat) (s : State) : Result :=
  .next (match s.launch? lid with
    | some l =>
      if l.stage = .placed then
        let s := s.prepare l
        let s := s.mapLaunch lid fun l => { l with
          stage := .running, tstart := s.clk, ranges := splitRanges l.info.tasks l.threads 0 l.dieThreads }
        l.sets.foldl (fun s (c, ks) => ks.zipIdx.foldl (fun s (k, h) => State.releaseThread l s (.thread c k) h) s) s
      else s
    | none => s)

/-! ### Completion -/

/-- R357, R365: the completion record is written; whatever becomes of it, the launch is over and its event is SET. -/
def State.complete (s : State) (l : Launch) (status : Nat) : State :=
  let r := l.info
  let (ok, s) := s.queueWrite r.slot r.crec (completionBytes status r.lid l.ncont l.tstart s.clk l.fcode l.ftask)
  let s := if ok then s else s.reportSystem 4 injQueue r.lid 0 r.crec.toNat
  { s with launches := s.launches.filter fun q => q.info.lid ≠ r.lid, clear := s.clear.filter fun e => e ≠ (r.slot, r.doneev) }.markReady

/-- R326, R392: the completion record's write waits behind a hold, or for a port. -/
def State.recordHeld (s : State) (l : Launch) : Bool := s.queueHeld l.info.slot l.info.crec 32

/-- R365, R403: a launch is over once its completion record's walk and write are paid. -/
def State.payComplete (s : State) (l : Launch) (status : Nat) : State :=
  match State.payAll l.info.slot (s.queueCharges l.info.slot l.info.crec 32) s with
  | some s => s.complete l status
  | none => s

/-- DONE_EMPTY (R361). -/
def execDoneEmpty (lid : Nat) (s : State) : Result :=
  .next (match s.launch? lid with
    | some l => if l.stage = .queued ∧ l.info.tasks = 0 ∧ s.isReady l.info ∧ !s.recordHeld l then s.payComplete l 1 else s
    | none => s)

/-- An operation of a launch is still on its way. -/
def State.launchBusy (s : State) (lid : Nat) : Bool :=
  s.net.any (fun r => decide (r.lid = lid)) || s.buffers.any (fun b => b.2.any fun r => decide (r.lid = lid)) ||
  s.copies.any (fun c => decide (c.lid = lid))

/-- R118: held accesses that no barrier will apply any more, since every thread has exited, are applied in their order. -/
def State.applyLeft (s : State) (l : Launch) : State :=
  s.mapLaunch l.info.lid fun l => { l with closing := true, sstep := if (s.heldDue l).isEmpty then l.sstep + 1 else l.sstep }

/-- R39: what an aborted launch has not performed is dropped, and its harts stop for good. -/
def State.dropLaunch (s : State) (l : Launch) : State :=
  let lid := l.info.lid
  let own (h : HartId) : Bool := decide ((s.hart h).lid = lid)
  let keepBlocks (st : Stream) : Stream := { st with
    waiting := st.waiting.filter fun b => decide (b.lid ≠ lid), active := st.active.filter fun a => decide (a.block.lid ≠ lid) }
  let keepUnit (u : ChUnit) : ChUnit := { u with streams := u.streams.map fun e => (e.1, keepBlocks e.2) }
  let s : State := { s with
    net := s.net.filter fun (r : Req) => decide (r.lid ≠ lid)
    buffers := s.buffers.map fun b => (b.1, b.2.filter fun (r : Req) => decide (r.lid ≠ lid))
    copies := s.copies.filter fun (c : Copy) => decide (c.lid ≠ lid)
    blds := s.blds.filter fun (b : Bld) => !own b.hart
    strided := s.strided.filter fun (d : Strided) => !own d.hart
    units := s.units.map fun e => (e.1, keepUnit e.2)
    troupes := s.troupes.filter fun e => !((s.harts ++ s.evicted).any fun (t : Thread) => decide (t.lid = lid) && decide (t.troupe = some e.1))
    evicted := s.evicted.filter fun (t : Thread) => decide (t.lid ≠ lid) }
  let s := s.mapHarts (fun t => decide (t.lid = lid) && decide (t.state ≠ .free)) fun (t : Thread) => match t.id with
    | .porter _ _ => { t with state := .free, stage := .active, porter := { t.porter with run := false } }
    | .overlay _ => { t with state := .free, stage := .active, wait := none }
    | _ => t.exit
  (s.evicted.map (·.id)).foldl State.returnSaved s

/-- R103, R363: a request has not passed every check that can refuse it. -/
def State.mayFail (s : State) (r : Req) : Bool :=
  match r.phase with
  | .refused _ _ => !r.failed
  | p => p.underway && !r.failed &&
    (match s.resolve r with
     | .hit key => decide (r.cls = .held) || (decide (2 ^ 50 ≤ key) && !s.stepClosed r)
     | _ => true)

/-- R365: a thread of a DET launch has issued an access whose refusal may still come and have the least key, so that FCODE and FTASK are
not known yet. What only a superstep to come would perform is not waited for (log 129). -/
def State.undecided (s : State) (l : Launch) : Bool :=
  let lid := l.info.lid
  let own (r : Req) : Bool := decide (r.lid = lid) && (match r.src with | .hart (.thread _ _) => true | _ => false)
  let thread (h : HartId) : Bool := decide ((s.hart h).lid = lid) && (match h with | .thread _ _ => true | _ => false)
  let reads (a : Word) (superstep : Nat) : Bool := decide (a.toNat / 2 ^ 48 = 0) || s.stepOpen lid superstep
  l.info.det &&
  (s.net.any (fun r => own r && s.mayFail r) || s.buffers.any (fun b => b.2.any own) || s.strided.any (fun d => d.rest.any own) ||
   s.copies.any (fun c => decide (c.lid = lid) && thread c.hart && decide (c.done < c.len) && (c.data.isSome || reads c.src c.superstep)) ||
   s.blds.any fun b => thread b.hart && reads b.addr b.superstep)

/-- LAUNCH_COMPLETION (R39, R365): the last thread has exited and its accesses are acknowledged; or the launch was aborted, and
what is left of it is dropped, in a DET launch once no refusal can come that has a lesser key. -/
def execLaunchCompletion (lid : Nat) (s : State) : Result :=
  .next (match s.launch? lid with
    | some l =>
      if s.recordHeld l then s
      else match l.stage with
        | .running =>
          if !(s.members lid).isEmpty then s
          else if s.net.any fun r => decide (r.lid = lid) && decide (r.cls = .held) then s.applyLeft l
          else if s.launchBusy lid then s
          else s.payComplete l (if l.ncont = 0 then 0 else 5)
        | .aborting =>
          if s.undecided l then s
          else match State.payAll l.info.slot (s.queueCharges l.info.slot l.info.crec 32) s with
            | some s => (s.dropLaunch l).complete l 4
            | none => s
        | _ => s
    | none => s)

end Sys2Proof.Machine
end

