-- ==== Sys2Proof/Machine/Preempt.lean ====
section
/-! DEFINITION. Stopped threads and their commands (R377), pre-emption and restoration of threads (R35, R38, R380 to R385) and of
channel units (R386, R387). -/

namespace Sys2Proof.Machine

/-! ### Commands of a thread control block -/

/-- The steward's ring that a command came from (R374). -/
def Req.ring? (r : Req) : Option RingId :=
  match r.src with
  | .hart (.steward d k) => some (.die d k)
  | .hart .moduleSteward => some .module
  | _ => none

/-- CMD of a write to TCTL (R376). -/
def tctlCmd (v : Nat) : Nat := fieldN v 0 3

/-- What an event does with a TCTL store whose CMD it knows; the store is acknowledged whatever becomes of the command. -/
def State.onTctl (s : State) (id : Nat) (cmds : List Nat) (act : State → Req → HartId → (value : Nat) → State) : State :=
  s.onCommand id (fun reg => match reg with | .tctl _ => true | _ => false) fun s r reg v =>
    match reg with
    | .tctl h => if tctlCmd v ∈ cmds then (act s r h v).performed r [] else s
    | _ => s

/-- R99, R377: a stopped thread goes on at FPC + 4; its ECALL or EBREAK has passed for the values of local loads. One that was asked to
save is PENDING again (R380, log 128). -/
def State.resume (s : State) (h : HartId) : State :=
  match (s.hart h).state, (s.hart h).fault with
  | .stopped, some c => s.mapHart h fun t => Thread.age { t with
      state := if t.ctx.asked then .pending else .running, pc := c.fpc + 4, fault := none, wait := none, ctx := { t.ctx with scode := 0 } }
  | _, _ => s

/-- TCTL_RESUME (R376, R377): RESUME; the CMD values that name no command are discarded. -/
def execTctlResume (id : Nat) (s : State) : Result :=
  .next (s.onTctl id [0, 1, 5, 6, 7] fun s _ h v => if tctlCmd v = 1 then s.resume h else s)

/-- R377: the codes that a KILL may carry. -/
def killCode (k : Nat) : Bool := decide (1 ≤ k ∧ k ≤ 0x0E) || decide (k = 0x14)

/-- TCTL_KILL (R377): the stop becomes a task fault with code KCODE; no second notice is appended. FTIME and DCS stay those of
the stop (log 113). -/
def execTctlKill (id : Nat) (s : State) : Result :=
  .next (s.onTctl id [2] fun s _ h v =>
    let k := fieldN v 8 8
    match (s.hart h).state, (s.hart h).fault with
    | .stopped, some c =>
      if killCode k then
        (s.mapHart h fun t => { t with state := .running }).taskFault h { c with code := BitVec.ofNat 8 k, faddr := 0 } false
      else s
    | _, _ => s)

/-- TCTL_PREEMPT (R376, R380): a RUNNING thread is PENDING. -/
def execTctlPreempt (id : Nat) (s : State) : Result :=
  .next (s.onTctl id [3] fun s r h v =>
    if (s.hart h).state = .running then
      s.mapHart h fun t => { t with state := .pending, ctx := { t.ctx with swap := fieldN v 3 1 == 1, asker := r.ring?, asked := true } }
    else s)

/-! ### The save area (R381) -/

/-- R49, R227: the live-in mask with its bits of x0 and of the port registers x28 to x31 ignored. -/
def liveMask (mask : Word) : Word := mask &&& ~~~ 0xF0000001#64

/-- Registers of a mask's live-in bits from bit `lo`; the others as zero. -/
def liveBytes {w : Nat} (regs : List (BitVec w)) (mask : Word) (lo : Nat) : List Byte :=
  regs.zipIdx.flatMap fun (r, i) => leBytes (w / 8) (if mask.getLsbD (lo + i) then r.toNat else 0)

/-- A latch's bytes: header, then its RX words. -/
def Latch.bytes (l : Latch) : List Byte := leBytes 8 l.header.toNat ++ l.body.toList.flatMap fun v => leBytes 4 v.toNat

/-- The copy of b1 with its fill state. A b1 that was FILLING at the entry holds its tile once that has landed (log 42). -/
def Thread.savedFill (t : Thread) : Latch × Bool := (t.region.b1, decide (t.region.fill = .full))

/-- R53: p0 to p7 as they read. -/
def Thread.predBytes (t : Thread) : List Byte := (List.range 8).flatMap fun i => leBytes 4 (t.pred (BitVec.ofNat 3 i)).toNat

/-- R381: the 4,864 bytes of a context. -/
def State.contextBytes (s : State) (t : Thread) : List Byte :=
  let k := match t.id with | .thread _ k => k | _ => 0
  let lcore := match s.launchOf t, t.id.core? with | some l, some c => l.lcore c | _, _ => 0
  let g := t.region
  let rep (f : RepCtx → Nat) : Nat := (g.rep.map f).getD 0
  let (b1, full) := t.savedFill
  leBytes 8 (1 + flag t.ctx.swap * 2 ^ 16 + flag t.troupe.isSome * 2 ^ 17 + k * 2 ^ 24) ++
  leBytes 8 (t.tpos + ((s.troupeOf t).map (·.width)).getD 0 * 2 ^ 8 + ((s.troupeOf t).map (·.skew)).getD 0 * 2 ^ 16 + t.lid % 65536 * 2 ^ 32) ++
  leBytes 8 g.entry.toNat ++ leBytes 8 g.mask.toNat ++ leBytes 8 t.fcsr.toNat ++
  leBytes 8 (rep (·.body.toNat)) ++ leBytes 8 (rep fun c => c.pass % 2 ^ 32 + (c.insns.length - 1) * 2 ^ 32) ++
  leBytes 8 (rep (·.remaining)) ++ leBytes 8 (rep (·.desc.toNat)) ++ leBytes 8 (injOf t.id).toNat ++ List.replicate 48 0 ++
  liveBytes t.x.toList (liveMask g.mask) 0 ++ liveBytes t.v.toList g.mask 32 ++
  (t.f.toList.flatMap fun v => leBytes 4 v.toNat) ++ t.predBytes ++
  (t.e.toList.flatMap fun v => leBytes 8 v.toNat) ++
  g.c0.message lcore ++ g.c1.message lcore ++ g.b0.bytes ++ b1.bytes ++ leBytes 8 (if full then 2 else 0) ++
  (t.arrivals.toList.flatMap fun q => leBytes 8 q.length ++ (List.range 4).flatMap fun i => leBytes 8 (q.getD i 0).toNat) ++ leBytes 8 0

/-- Bytes of a context save area without the TCM piece (R381). -/
def areaLen : Nat := 4864

/-- A physical range lies in plain memory, and no block holds one of its units (R326). -/
def State.writable (s : State) (a n : Nat) : Bool :=
  (match phys a, phys (a + n - 1) with
   | .hbm c _, .hbm c' _ => decide (c = c')
   | .sram _ _ _, .sram _ _ _ => true
   | _, _ => false) &&
  !s.unitsHeld a n

/-- Bytes that a thread's save writes: its area, and its TCM piece where it is swapped. -/
def State.saveLen (s : State) (t : Thread) : Nat := areaLen + (if t.ctx.swap then ((s.launchOf t).map Launch.tcmlBytes).getD 0 else 0)

/-! ### Saving a thread (R35, R37, R38, R380) -/

/-- R35, step 1, R57, R303: every operation of the thread has completed, a held access once its home has accepted it, and its
output queues have drained (log 42). Ring deliveries are no outstanding operations (R265). -/
def State.settled (s : State) (t : Thread) : Bool :=
  s.quiet t.id && t.outputs.all (·.isEmpty) && s.writable t.ctx.savea.toNat (s.saveLen t)

/-- R265: an outgoing tile and the delivery that it has begun are discarded, of a core that is pre-empted alone too (log 134). -/
def State.dropTile (s : State) (h : HartId) : State :=
  let t := s.hart h
  let s := s.mapHart h fun t => { t with outTile := none }
  match t.outTile with
  | some (_, true, some c) =>
    s.mapHarts (fun u => decide (u.id.core? = some c) && decide (u.lid = t.lid) && decide (u.fill = .filling false)) Thread.emptyTile
  | _ => s

/-- R35, R380, R381: one thread is saved: its area and its TCM piece are written, and its thread set is free. -/
def State.saveThread (asker : Option RingId) (s : State) (h : HartId) : State :=
  let t := s.hart h
  let a := t.ctx.savea.toNat
  let s := s.pokeBytes a (s.contextBytes t)
  let s := match s.launchOf t, t.id.core? with
    | some l, some c =>
      if t.ctx.swap then
        let (piece, s) := s.readFor h (tcmKey c (t.tcmb l)) l.tcmlBytes
        s.pokeBytes (a + areaLen) piece
      else s
    | _, _ => s
  let s := (s.dropTile h).mapHart h fun t => { t with
    state := .saved, wait := none, slotNo := 0, entrySlot := 0, marks := [], ctx := { t.ctx with asked := false } }
  s.report ((t.ctx.asker.orElse fun _ => asker).getD (ringFor h)) ⟨injOf h, 0x12, t.lid, 0⟩

/-- PREEMPT_SAVE (R35, R37, R38, R380, R381): a PENDING thread, with its whole troupe, is saved once nothing holds it, the members
stand at their common region entry and their operations are complete. Local loads still on their way arrive first. -/
def execPreemptSave (h : HartId) (s : State) : Result :=
  .next (let t := s.hart h
    let all := s.together t
    if t.state ≠ .pending ∨ t.stage ≠ .active ∨ !all.all Thread.mayYield ∨
        all.any (fun u => decide (u.entrySlot ≠ t.entrySlot)) then s
    else if all.any fun u => !u.pend.isEmpty then all.foldl (fun s u => s.mapHart u.id Thread.age) s
    else if !all.all s.settled then s
    else
      let s := all.foldl (fun s u => State.saveThread t.ctx.asker s u.id) s
      match t.troupe.bind fun i => (lookup? i s.troupes).map fun tr => (i, tr) with
      | some (i, tr) => { s with troupes := insertKey i { tr with stream := [], broken := tr.broken.map fun _ => 0, splitAt := none, closed := [] } s.troupes }
      | none => s)

/-! ### Restoring a thread (R382, R385) -/

/-- A tile from the message layout of R253. -/
def Tile.ofMessage (m : List Byte) : Tile :=
  let h := numAt m 0 8
  ⟨Vector.ofFn fun i => BitVec.ofNat 36 (numAt m (16 + 8 * i.val) 8), BitVec.ofNat 16 (numAt m 8 8),
   fieldN h 8 1 == 1, fieldN h 9 1 == 1, fieldN h 10 1 == 1⟩

/-- A latch from its header and RX words. -/
def Latch.ofBytes (m : List Byte) : Latch := ⟨BitVec.ofNat 64 (numAt m 0 8), Vector.ofFn fun i => BitVec.ofNat 32 (numAt m (8 + 4 * i.val) 4)⟩

/-- R204, R381: the repeat context of a save area with the words of its body: its place in the body is where the region entry
stands. -/
def savedRep (m : List Byte) (body : List (W32 × Nat)) : Option RepCtx :=
  let start := numAt m 40 8
  let at_ (k : Nat) : Nat := start + ((body.take k).map (·.2)).sum
  if start = 0 then none
  else some { body := BitVec.ofNat 64 start, insns := body, desc := BitVec.ofNat 64 (numAt m 64 8), pass := numAt m 48 4,
              remaining := numAt m 56 8, pos := ((List.range body.length).find? fun k => decide (at_ k = numAt m 16 8)).getD 0 }

/-- R35, R381: a thread with the context of a save area, at its region entry with its counters zero and the registers outside the
live-in mask zero. -/
def Thread.reload (t : Thread) (m : List Byte) (body : List (W32 × Nat)) : Thread :=
  let word (off : Nat) : Word := BitVec.ofNat 64 (numAt m off 8)
  let tile (off : Nat) : Tile := Tile.ofMessage ((m.drop off).take 528)
  let latch (off : Nat) : Latch := Latch.ofBytes ((m.drop off).take 1032)
  let fill : Fill := if numAt m 4688 8 = 2 then .full else .empty
  let rep := savedRep m body
  let queue (p : Nat) : List Word := (List.range (min (numAt m (4696 + 40 * p) 8) 4)).map fun i => word (4704 + 40 * p + 8 * i)
  let live (i : Nat) : Bool := (liveMask (word 24)).getLsbD i
  { t with
    x := Vector.ofFn fun i => if live i.val then word (128 + 8 * i.val) else 0
    v := Vector.ofFn fun i => if live (32 + i.val) then BitVec.ofNat 256 (numAt m (384 + 32 * i.val) 32) else 0
    f := Vector.ofFn fun i => BitVec.ofNat 32 (numAt m (1408 + 4 * i.val) 4)
    p := Vector.ofFn fun i => if i.val = 0 then 0 else BitVec.ofNat 32 (numAt m (1472 + 4 * i.val) 4)
    e := Vector.ofFn fun i => word (1504 + 8 * i.val)
    dc := Vector.replicate 4 0, c0 := tile 1568, c1 := tile 2096, b0 := latch 2624, b1 := latch 3656, fill
    outTile := none, fcsr := word 32 &&& 0x7f, pc := word 16, rep, pend := [], unack := 0, acquires := [], wait := none, part := none
    arrivals := Vector.ofFn fun p => queue p.val
    region := ⟨word 16, word 24, tile 1568, tile 2096, latch 2624, latch 3656, fill, rep⟩
    entrySlot := 0, slotNo := 0, marks := [] }

/-- R204: the words of a saved repeat body are fetched again; where they cannot be, those of the kept entry stay (log 42). -/
def State.savedBody (s : State) (t : Thread) (m : List Byte) : List (W32 × Nat) × State :=
  let a : Word := BitVec.ofNat 64 (numAt m 40 8)
  if a = 0 then ([], s)
  else match s.fetchBody t a (fieldN (numAt m 48 8) 32 4 + 1) with
    | .words ws s => (ws, s)
    | _ => (((t.region.rep.map (·.insns)).getD []), s)

/-- R385: one guestbook entry replayed. -/
def State.replay (c : CoreId) (base : Nat) (h : HartId) (s : State) (e : Entry) : State :=
  if e.kind = 1 then s.pokeBytes (tcmKey c (base + e.off)) e.data
  else s.mapHart h fun t => { t with arrivals := t.arrivals.setIfInBounds e.port (t.arrivals.toArray.getD e.port [] ++ [BitVec.ofNat 64 (ofBytes e.data)]) }

/-- R382, R385: the context and the TCM piece come back, the guestbook is replayed, and the thread runs. -/
def State.reloadThread (s : State) (h : HartId) : State :=
  let t := s.hart h
  let a := t.ctx.savea.toNat
  let (m, s) := s.readFor h a areaLen
  let (body, s) := s.savedBody t m
  let s := s.mapHart h fun t => { t.reload m body with state := .running, stage := if t.stage = .aborted then .aborted else .active }
  match s.launchOf t, t.id.core? with
  | some l, some c =>
    if t.ctx.swap then
      let n := l.tcmlBytes
      let key := tcmKey c (t.tcmb l)
      let (piece, s) := s.readFor h (a + areaLen) n
      let s := s.pokeBytes key piece
      let s := { s with holders := (key, n, l.info.slot) :: trimHolders key n s.holders }
      let es := s.guestbook t
      let s := es.foldl (State.replay c (t.tcmb l) h) (s.guestRead t)
      let s := s.mapHart h fun t => { t with latch := t.latch || !es.isEmpty, ctx := { t.ctx with swap := false, asker := none } }
      s.pokeBytes t.ctx.gba.toNat (List.replicate 16 0)
    else s.mapHart h fun t => { t with ctx := { t.ctx with asker := none } }
  | _, _ => s

/-- R382: the save area names the thread set and core, and a piece that was released finds its offset free. -/
def State.restorable (s : State) (t : Thread) : Bool :=
  let a := t.ctx.savea.toNat
  match t.id, s.launchOf t with
  | .thread c k, some l =>
    decide (fieldN (s.peekN a 8) 24 2 = k) && decide (s.peekN (a + 72) 8 % 2 ^ 18 = (injOf t.id).toNat) &&
    (!t.ctx.swap || rangeFree (t.tcmb l) l.tcmlBytes (s.tcmHeld c))
  | _, _ => false

/-- R326: a block holds the guestbook header that the replay of a context clears (R385). -/
def State.headerHeld (s : State) (t : Thread) : Bool := t.ctx.swap && s.unitsHeld t.ctx.gba.toNat 16

/-- R38, R382: a RESTORE of a SAVED context: it is reloaded, a troupe's members together once each of them has been commanded and
stands in PENDING. An aborted one stays so (R375). The command waits while a guestbook header is held (R326). What the check reads of
the area meets its ECC, of a command that is discarded too (R389). -/
def State.restore (s : State) (h : HartId) : Option State :=
  let saved := decide ((s.hart h).state = .saved)
  let s := if saved then (s.readFor h (s.hart h).ctx.savea.toNat 80).2 else s
  let t := s.hart h
  if saved ∧ s.restorable t then
    let s := s.mapHart h fun t => { t with state := .pending, stage := if t.stage = .aborted then .aborted else .restoring }
    let all := s.together (s.hart h)
    let apart := s.evicted.any fun u => u.troupe.isSome && decide (u.troupe = t.troupe)
    if !apart && all.all (fun u => decide (u.state = .pending) && (decide (u.stage = .restoring) || decide (u.stage = .aborted))) then
      if all.any s.headerHeld then none else some (all.foldl (fun s u => s.reloadThread u.id) s).startRings
    else some s
  else some s

/-- TCTL_RESTORE (R38, R326, R382, R385). -/
def execTctlRestore (id : Nat) (s : State) : Result :=
  .next (s.onCommand id (fun reg => match reg with | .tctl _ => true | _ => false) fun s r reg v =>
    match reg with
    | .tctl h => if tctlCmd v = 4 then ((s.restore h).map fun s => s.performed r []).getD s else s
    | _ => s)

/-! ### Channel units (R386, R387) -/

/-- What an event does with an NMUCMD store whose CMD it knows; the store is acknowledged whatever becomes of the command. -/
def State.onNmucmd (s : State) (id : Nat) (cmds : List Nat) (act : State → (ch cmd : Nat) → State) : State :=
  s.onCommand id (fun reg => match reg with | .nmucmd _ => true | _ => false) fun s r reg v =>
    match reg with
    | .nmucmd ch => if fieldN v 0 2 ∈ cmds then (act s ch (fieldN v 0 2)).performed r [] else s
    | _ => s

/-- NMUSAVE names HBM of the unit's own channel (R370). -/
def ChUnit.areaOk (u : ChUnit) (ch : Nat) : Bool := match phys u.nmusave.toNat with | .hbm c _ => decide (c = ch) | _ => false

/-- NMU_PREEMPT (R370, R386): a RUNNING unit begins to save; CMD values that name no command are discarded. -/
def execNmuPreempt (id : Nat) (s : State) : Result :=
  .next (s.onNmucmd id [0, 1, 3] fun s ch cmd =>
    if cmd = 1 ∧ (s.unit ch).nstate = .running ∧ (s.unit ch).areaOk ch then s.setUnit ch { s.unit ch with nstate := .saving } else s)

/-- NMU_RESTORE (R386): a SAVED unit begins to restore. -/
def execNmuRestore (id : Nat) (s : State) : Result :=
  .next (s.onNmucmd id [2] fun s ch _ =>
    if (s.unit ch).nstate = .saved then s.setUnit ch { s.unit ch with nstate := .restoring } else s)

/-- A ticket word (R320). -/
def Block.ticket (b : Block) : Nat := b.seq.toNat + b.stream * 2 ^ 32

/-- R387: a stream's entry, with the ticket and 256 bytes of each waiting block. -/
def Stream.bytes (st : Stream) (k : Nat) : List Byte :=
  leBytes 8 (k + flag st.halted * 2 ^ 16 + st.waiting.length % 16 * 2 ^ 20 + st.next.toNat * 2 ^ 32) ++ leBytes 8 0 ++
  st.waiting.flatMap fun b => leBytes 8 b.ticket ++ b.bytes ++ List.replicate (256 - b.bytes.length) 0

/-- The block of a unit that holds units, if one does (R326, R387). -/
def ChUnit.holder (u : ChUnit) : Option (Nat × Active) :=
  u.streams.findSome? fun e => e.2.active.bind fun a => if a.start.isSome then some (e.1, a) else none

/-- R387: the bytes of a unit's save area, from its address on. -/
def State.unitBytes (s : State) (ch : Nat) : List Byte :=
  let u := s.unit ch
  let t := s.hart (.overlay ch)
  let run := decide (t.state ≠ .free)
  let hold (f : Nat × Active → Nat) : Nat := (u.holder.map f).getD 0
  let units := (u.holder.map fun e => e.2.held).getD []
  leBytes 8 1 ++ leBytes 8 ch ++ leBytes 8 (flag run + flag u.holder.isSome * 2) ++ leBytes 8 (if run then t.pc.toNat else 0) ++
  leBytes 8 ((u.overlay.map fun o => o.toNat + 2 ^ 16).getD 0) ++ leBytes 8 (hold fun e => e.1 + e.2.block.seq.toNat * 2 ^ 32) ++
  leBytes 8 (hold fun e => e.2.began.toNat) ++ leBytes 8 (units.length + u.streams.length * 2 ^ 32) ++
  (t.x.toList.flatMap fun w => leBytes 8 w.toNat) ++ t.predBytes ++ List.replicate 672 0 ++
  s.peek (overlayKey ch 0) 4096 ++ s.peek (scratchKey ch 0) 32768 ++
  (u.streams.flatMap fun e => e.2.bytes e.1) ++ units.flatMap fun w => leBytes 8 w

/-- R389: a save reads the unit's overlay memory and scratch: single-bit errors are corrected and counted, and a double-bit error aborts
the launch whose overlay the unit runs, if it runs one (log 138). -/
def State.unitEcc (s : State) (ch : Nat) : State :=
  let (bad, s) := s.eccRead (overlayKey ch 0) 4096
  let (bad', s) := s.eccRead (scratchKey ch 0) 32768
  if (bad || bad') && decide ((s.hart (.overlay ch)).state ≠ .free) then s.poison (s.hart (.overlay ch)) else s

/-- A notice of a channel unit to the module steward, with the channel's number (R386). -/
def State.unitNotice (s : State) (ch : Nat) (code : BitVec 8) (arg : Nat) : State :=
  s.report .module ⟨injOf (.overlay ch), code, 0, BitVec.ofNat 64 arg⟩

/-- R326: a block of another unit holds a 256-byte unit of a range. A unit's own hold does not keep its own save back (log 137). -/
def State.unitsHeldBy (s : State) (ch key n : Nat) : Bool :=
  s.holds.any fun (w, c, _) => decide (c ≠ ch) && decide (key / 256 ≤ w) && decide (w ≤ (key + n - 1) / 256)

/-- NMU_SAVE_DONE (R386, R387): a unit whose overlay stands between two instructions with its operations complete, whose
command in progress is complete and whose completion words are written is saved. Its own block's hold does not stop it (log 137). -/
def execNmuSaveDone (ch : Nat) (s : State) : Result :=
  .next (let u := s.unit ch
    let t := s.hart (.overlay ch)
    if u.nstate ≠ .saving then s
    else if !t.pend.isEmpty then s.mapHart t.id Thread.age
    else if t.stage ≠ .active ∨ !s.quiet t.id ∨ s.net.any (fun r => decide (r.src = .unit ch)) ∨ u.streams.any (fun e => (e.2.active.map fun a => decide (0 < a.paid) && a.ended.isNone).getD false) ∨
        s.unitsHeldBy ch u.nmusave.toNat (s.unitBytes ch).length then s
    else
      let s := (s.unitEcc ch).pokeBytes u.nmusave.toNat (s.unitBytes ch)
      (s.setUnit ch { u with nstate := .saved }).unitNotice ch 0x12 ch)

/-- R387: a stream of the table at an address: its identifier, the stream, and the address after it. Who sent a waiting block is
kept with the unit, in the order of the table (log 41). -/
def State.loadStream (s : State) (u : ChUnit) (a : Nat) : (Nat × Stream) × Nat :=
  let w := s.peekN a 8
  let k := fieldN w 0 16
  let n := fieldN w 20 4
  let old := u.stream k
  let load (i : Nat) : Block :=
    let p := a + 16 + 264 * i
    let b := old.waiting.getD i ⟨.queue, 0, 0, 0, false, k, 0, List.replicate 256 0⟩
    { b with seq := BitVec.ofNat 32 (s.peekN p 4), stream := k, bytes := s.peek (p + 8) b.bytes.length }
  ((k, { old with next := BitVec.ofNat 32 (fieldN w 32 32), halted := fieldN w 16 1 == 1, waiting := (List.range n).map load }),
   a + 16 + 264 * n)

/-- R387: the streams of the table at an address, and the address after them. -/
def State.loadStreams (s : State) (u : ChUnit) : (n a : Nat) → List (Nat × Stream) × Nat
  | 0, a => ([], a)
  | n + 1, a =>
    let (e, a') := s.loadStream u a
    let (r, a'') := s.loadStreams u n a'
    (e :: r, a'')

/-- R386, R387: the hold of a save area: the block of HSTREAM and HSEQ holds the listed units, since HSTART in real time; no other
block holds any. -/
def State.loadHold (s : State) (a units : Nat) (e : Nat × Stream) : Nat × Stream :=
  let on := fieldN (s.peekN (a + 16) 8) 1 1 == 1
  let began : BitVec 56 := BitVec.ofNat 56 (s.peekN (a + 48) 8)
  (e.1, { e.2 with active := e.2.active.map fun q =>
    if on && decide (e.1 = s.peekN (a + 40) 2) && decide (q.block.seq.toNat = s.peekN (a + 44) 4) then
      { q with held := (List.range (s.peekN (a + 56) 4)).map (fun i => s.peekN (units + 8 * i) 8)
               start := some (s.now - (s.clk - began).toNat), began }
    else { q with held := [], start := none } })

/-- R387: the bytes of a save area from its address to the end of its tables; reading them meets their ECC (R389). -/
def State.areaEcc (s : State) (a : Nat) (streams : List (Nat × Stream)) : State :=
  (s.eccRead a (37888 + (streams.map fun e => (e.2.bytes e.1).length).sum + 8 * s.peekN (a + 56) 4)).2

/-- R387: the unit is reloaded from its save area, and its streams go on (R386). -/
def State.loadUnit (s : State) (ch : Nat) : State :=
  let u := s.unit ch
  let a := u.nmusave.toNat
  let o := s.peekN (a + 32) 8
  let run := fieldN (s.peekN (a + 16) 8) 0 1 == 1
  let (streams, units) := s.loadStreams u (s.peekN (a + 60) 4) (a + 37888)
  let streams := (streams.map (s.loadHold a units)).map fun e => (e.1, { e.2 with active := e.2.active.map fun q => { q with running := q.running && run } })
  let s' := ((s.areaEcc a streams).pokeBytes (overlayKey ch 0) (s.peek (a + 1024) 4096)).pokeBytes (scratchKey ch 0) (s.peek (a + 5120) 32768)
  let s' := s'.setUnit ch { u with
    nstate := .running, overlay := if fieldN o 16 1 = 1 then some (BitVec.ofNat 16 o) else none, streams
    runner := (streams.find? fun e => (e.2.active.map (·.running)).getD false).map (·.1) }
  (streams.foldl (fun s e => s.startBlock ch e.1) s').mapHart (.overlay ch) fun t =>
    if run then { t with
      pc := BitVec.ofNat 64 (s.peekN (a + 24) 8), wait := none,
      x := Vector.ofFn fun i => if i.val = 0 then 0 else BitVec.ofNat 64 (s.peekN (a + 64 + 8 * i.val) 8),
      p := Vector.ofFn fun i => if i.val = 0 then 0 else BitVec.ofNat 32 (s.peekN (a + 320 + 4 * i.val) 4) }
    else { t with state := .free }

/-- NMU_RESTORE_DONE (R386, R387): the unit runs again; an image of another VERSION is refused with MCHECK. -/
def execNmuRestoreDone (ch : Nat) (s : State) : Result :=
  .next (let u := s.unit ch
    if u.nstate ≠ .restoring then s
    else if s.peekN u.nmusave.toNat 2 ≠ 1 then (s.setUnit ch { u with nstate := .saved }).unitNotice ch 0x10 u.nmusave.toNat
    else (s.loadUnit ch).unitNotice ch 0x12 ch)

end Sys2Proof.Machine
end

