-- ==== Sys2Proof/Machine/Pages.lean ====
section
/-! DEFINITION. Writes to control pages: plain registers (R369), invalidations (R373), exclusions (R388, R399), error counters
and scrubbing (R389), and the failure of the module (R390). -/

namespace Sys2Proof.Machine

/-- REGISTER_WRITE (R336, R369, R370, R376, R395): a store to plain registers updates their RW fields. -/
def execRegisterWrite (id : Nat) (s : State) : Result :=
  .next (s.onCommand id (fun reg => !reg.command) fun s r _ _ => s.performed r [])

/-- CECNT_CLEAR (R369): any write clears the die's count. -/
def execCecntClear (id : Nat) (s : State) : Result :=
  .next (s.onCommand id (fun reg => match reg with | .cecnt _ => true | _ => false) fun s r reg _ =>
    match reg with
    | .cecnt d => { s with mc := { s.mc with cecnt := s.mc.cecnt.setIfInBounds d 0 } }.performed r []
    | _ => s)

/-! ### Invalidations -/

/-- INVC (R373): an invalidation begins; a store to INVC while one is pending waits. -/
def execInvc (id : Nat) (s : State) : Result :=
  .next (s.onCommand id (fun reg => decide (reg = .invc)) fun s r _ _ =>
    if s.mc.invPending.isNone then { s with mc := { s.mc with invPending := some (r.id, s.mc.inva) } } else s)

/-- R373: whether an invalidation drops a translation. -/
def invDrops (v : Nat) (inva : Word) (e : TlbEntry) : Bool :=
  match fieldN v 4 2 with
  | 0 => decide (e.space = fieldN v 0 4) && decide (e.page ≤ inva.toNat / 65536) && decide (inva.toNat / 65536 < e.page + e.pages)
  | 1 => decide (e.space = fieldN v 0 4)
  | _ => true

/-- R373: whether an invalidation drops an instruction-cache line of a slot. -/
def invDropsCode (v slot : Nat) : Bool := decide (fieldN v 6 1 = 1) && (decide (2 ≤ fieldN v 4 2) || decide (slot = fieldN v 0 4))

/-- R373: the entries that an INVC value names are dropped everywhere. -/
def State.invalidate (s : State) (v : Nat) (inva : Word) : State :=
  { s with tlb := s.tlb.filter fun e => !invDrops v inva e.2, icache := s.icache.filter fun e => !invDropsCode v e.1.2.1 }

/-- INVALIDATION_DONE (R373): every cache has dropped the entries, and the store is acknowledged. -/
def execInvalidationDone (s : State) : Result :=
  .next (match s.mc.invPending with
    | some (id, inva) =>
      let s := { s with mc := { s.mc with invPending := none } }
      match s.req? id with
      | some r =>
        match r.body, s.reqKey? r with
        | .store bytes, some key => (s.invalidate (storedWord key bytes) inva).performed r []
        | _, _ => s
      | none => s
    | none => s)

/-! ### Exclusion -/

/-- R388: an input of a port is excluded from the port's watermark; what is in the network already still comes through. -/
def State.exclude (s : State) (port input : Nat) : State :=
  let r := s.portRec port
  let s' := s.setPort port { r with excluded := insertKey input ((lookup? input r.excluded).getD (s.net.map (·.id))) r.excluded }
  if s'.watermark port = s.watermark port then s' else s'.setPort port { s'.portRec port with since := s.now }

/-- EXCL (R388). -/
def execExcl (id : Nat) (s : State) : Result :=
  .next (s.onCommand id (fun reg => match reg with | .excl _ => true | _ => false) fun s r _ v =>
    (s.exclude (fieldN v 8 21 * 2 ^ 8) (fieldN v 0 8)).performed r [])

/-- R398: a reply of this request, sent through a port, is still due. A held access that returns nothing has had its own when it was
accepted (R118). -/
def Req.dueFrom (r : Req) (p : Nat) : Bool :=
  decide (r.via = some p) &&
  (match r.phase with | .atHome => true | .performed _ _ => true | .accepted _ => r.body.returns | _ => false)

/-- R398: a port is down: what was sent through it and has had no reply completes with PORT_DOWN. A group's arrival is sent again
(log 86). -/
def State.takeDown (s : State) (p : Nat) : State :=
  let due (r : Req) : Bool := r.dueFrom p
  let unsent (l : Launch) : Launch := if l.fbVia = some p then { l with fbSent := false, fbVia := none } else l
  let s := { s with mc := { s.mc with fports := s.mc.fports &&& ~~~ (1#64 <<< p) }, launches := s.launches.map unsent }
  (s.net.filter due).foldl (fun s r => s.refuse r ACCESS) s

/-- FEXCL (R399): the port goes down and stays down until the module is reset. -/
def execFexcl (id : Nat) (s : State) : Result :=
  .next (s.onCommand id (fun reg => decide (reg = .fexcl)) fun s r _ v =>
    let p := fieldN v 0 6
    ({ s with mc := { s.mc with fexcl := s.mc.fexcl ||| (1#64 <<< p) } }.takeDown p).performed r [])

/-! ### Machine checks (R389, R390) -/

/-- MCHECK to the module steward (R351). -/
def State.mcheck (s : State) (arg : Nat) : State := s.report .module ⟨0, 0x10, 0, BitVec.ofNat 64 arg⟩

/-- R390: the module has failed: it accepts no launch record, and every live launch ends with FCODE 0x10. -/
def State.fail (s : State) : State :=
  let s := s.launches.foldl (fun s l => s.abortLaunch l.info.lid 0x10 0 (0, 0, 0, 0)) s
  { s with failed := true, launches := s.launches.map fun l => { l with fcode := 0x10, ftask := 0 } }

/-- SCRUB (R389): scrubbing reaches a word: a single-bit error is corrected and counted, a double-bit error reported. -/
def execScrub (pa : Nat) (s : State) : Result :=
  .next (let key := pa / 8 * 8
    let (bad, s) := s.eccRead key 8
    if bad then s.mcheck (if key < 2 ^ 47 then key else 0) else s)

/-- MCHECK_STATE_ERROR (R389, R390): an error in steward, Innkeeper or Waystation state fails the module. -/
def execMcheckStateError (_die : Nat) (s : State) : Result := .next (s.mcheck 0).fail

/-- THERMAL_MCHECK (R409): a die sensor above 105 °C. -/
def execThermalMcheck (_die : Nat) (s : State) : Result := .next (s.mcheck 0).fail

end Sys2Proof.Machine
end

