-- ==== Sys2Proof/Machine/Fabric.lean ====
section
/-! DEFINITION. The fabric: ports and their links (R391, R392, R398), what a fabric request may reach (R393 to R395), time (R396),
and window reductions (R400, R401). -/

namespace Sys2Proof.Machine

/-! ### Ports -/

/-- FLIT_RETRY (R389, R392): a flit that still fails after 8 retries fails the module. -/
def execFlitRetry (_port failures : Nat) (s : State) : Result := .next (if 8 < failures then (s.mcheck 0).fail else s)

/-- PORT_DOWN (R398). -/
def execPortDown (port : Nat) (s : State) : Result := .next (if port < 64 then s.takeDown port else s)

/-- PORT_UP (R398, R399, R404): a port whose link trains comes up, unless it was excluded. -/
def execPortUp (port : Nat) (s : State) : Result :=
  .next (if port < 64 ∧ !s.mc.fexcl.getLsbD port then { s with mc := { s.mc with fports := s.mc.fports ||| (1#64 <<< port) } } else s)

/-! ### Requests -/

/-- R394: where the fabric frame table's entry of a physical address lies. -/
def State.frameAt (s : State) (pa : Nat) : Nat := s.mc.fftb + (if pa < 2 ^ 41 then pa / 65536 else 2 ^ 25 + (pa - 0x400000000000) / 65536)

/-- R394: the fabric frame table's entry of a physical address: its byte, zero while FFTB is 0. -/
def State.frameEntry (s : State) (pa : Nat) : Nat := if s.mc.fftb = 0 then 0 else (s.peek (s.frameAt pa) 1).foldl (fun _ b => b.toNat) 0

/-- R389: reading an entry corrects and counts; no launch reads it, so that a double-bit error has none to abort (log 126). -/
def State.frameRead (s : State) (pa : Nat) : State := if s.mc.fftb = 0 then s else (s.eccRead (s.frameAt pa) 1).2

/-- R404: the first 64 MiB of die 0's shared SRAM, which the fabric may write in AWAIT. -/
def inImageRegion (pa n : Nat) : Bool := decide (0x400000000000 ≤ pa) && decide (pa + n ≤ 0x400000000000 + 2 ^ 26)

/-- Fabric statuses of R393. -/
inductive FabricStatus where
  | ok | noMemory | accessRefused | atomicRefused
  deriving DecidableEq, Repr

/-- Bytes that a request covers, whether it is an atomic, and whether it writes. -/
def fabricShape : FabricAct → Nat × Bool × Bool
  | .read n _ => (n, false, false)
  | .write bs _ => (bs.length, false, true)
  | .atomic _ size _ _ _ => (size, true, true)
  | .reduction .. => (8, true, true)
  | .close _ _ => (8, false, true)

/-- R393, R395: a byte lies in the launch window or the quote window, which stand next to each other. -/
def inWindow (pa : Nat) : Bool := decide (pageReg pa = .launch) || decide (pageReg pa = .qreq)

/-- R393, R395: what the fabric may do to n bytes of a control page: they lie in one register, or all in a window. -/
def State.fabricReg (s : State) (pa n : Nat) (atomic writes : Bool) : Bool :=
  !atomic && (decide (pageReg (pa + n - 1) = pageReg pa) || (inWindow pa && inWindow (pa + n - 1))) && (match phys pa, pageReg pa with
    | .modulePage _, .bootstat => !writes
    | .modulePage _, .lcs => !writes
    | .modulePage _, .fwgo => writes && decide (s.mc.boot = .await)
    | .modulePage _, .launch => writes
    | .modulePage _, .qreq => writes
    | _, _ => false)

/-- R393: the checks of a receiving port in their order. -/
def State.fabricCheck (s : State) (pa : Nat) (act : FabricAct) : FabricStatus :=
  let (n, atomic, writes) := fabricShape act
  let memory := isPlain pa && isPlain (pa + n - 1)
  let entry := s.frameEntry pa
  if memory then
    if decide (s.mc.boot = .await) && writes && !atomic && inImageRegion pa n then .ok
    else if entry % 2 = 0 then .accessRefused
    else if atomic && decide (entry / 2 % 2 = 0) then .atomicRefused
    else .ok
  else if s.fabricReg pa n atomic writes then .ok
  else .noMemory

/-- A packet's length is one that the fabric carries: 1 to 256 bytes inside one 256-byte unit, an atomic aligned (R105, R393). -/
def fabricShapeOk (pa : Nat) (act : FabricAct) : Bool :=
  let (n, atomic, _) := fabricShape act
  decide (1 ≤ n) && decide (pa % 256 + n ≤ 256) && decide (pa < 2 ^ 47) &&
  (!atomic || ((decide (n = 4) || decide (n = 8)) && decide (pa % n = 0)))

/-- What a request asks of its home. -/
def fabricBody : FabricAct → Body
  | .read n _ => .load n (.x 0 false)
  | .write bs _ => .store (bs.map some)
  | .atomic op size y cmp _ => .amo (BitVec.ofNat 3 op) size y cmp 0
  | .reduction w op count merged v => .reduction w op count merged v
  | .close _ _ => .load 0 (.x 0 false)

/-- R130, R364: the mark of a request: of an ordered one its issuer's stamp, of a partner's held access its logical stamp with
its group. -/
def fabricMark : FabricAct → Option FabricMark
  | .read _ m => m
  | .write _ m => m
  | .atomic _ _ _ _ m => m
  | .reduction .. => none
  | .close _ _ => none

/-- R130: the stamp of a mark. -/
def markStamp (m : FabricMark) : Stamp := ⟨BitVec.ofNat 56 m.time, BitVec.ofNat 17 m.dev, BitVec.ofNat 18 m.inj, BitVec.ofNat 5 m.seq⟩

/-- R108, R364: the class of a request: a marked one is ordered, a group's write or atomic held (loads never are, R31). -/
def fabricCls (act : FabricAct) : Cls :=
  match fabricMark act with
  | none => .bulk
  | some m => if m.fbid ≠ 0 ∧ (fabricShape act).2.2 then .held else .ordered

/-- A fabric request as it goes on to its home. -/
def fabricReq (port pa id : Nat) (act : FabricAct) : Req :=
  let mark := (fabricMark act).getD ⟨0, 0, 0, 0, 0⟩
  let held := decide (fabricCls act = .held)
  { asReq .moduleSteward 0 0 with
    id, grp := id, src := .fabric port, phys := true, served := false, cls := fabricCls act, stamp := markStamp mark,
    fbid := if held then mark.fbid else 0, superstep := if held then fieldN mark.time 24 32 else 0,
    addr := BitVec.ofNat 64 (0x0100 * 2 ^ 48 + pa), body := fabricBody act }

/-- FABRIC_REQUEST (R130, R364, R393, R394, R395, R399): a request from the fabric arrives at a port: it is admitted as a request
on its way to its home, or refused without effect; on an excluded port it is discarded and reported. The close of a partner
module's superstep is no memory request. -/
def execFabricRequest (port pa : Nat) (act : FabricAct) (s : State) : Result :=
  .next (if port ≥ 64 then s
    else if s.mc.fexcl.getLsbD port then s.reportSystem 6 0 0 0 (0x100000000 + port)
    else if !s.mc.fports.getLsbD port then s
    else match act with
      | .close fbid superstep => s.groupClose fbid superstep
      | act =>
        let ok := fabricShapeOk pa act && decide (s.fabricCheck pa act = .ok)
        let s := if fabricShapeOk pa act && isPlain pa then s.frameRead pa else s
        if !ok then s
        else { s with nextId := s.nextId + 1, net := s.net ++ [fabricReq port pa s.nextId act] })

/-! ### Time (R396) -/

/-- TIME_MESSAGE (R112, R396): a message over the fabric gives the offset: it is slewed away, and LOCKED says whether it is within
4 ns. -/
def execTimeMessage (offset : Int) (s : State) : Result :=
  .next (if s.mc.fports = 0 then s
    else
      let near := decide (-4 ≤ offset ∧ offset ≤ 4)
      { s with mc := { s.mc with
        offset, slew := offset, locked := near, lost := s.mc.lost && !near,
        unlockedSince := if near || s.mc.locked then s.now else s.mc.unlockedSince } })

/-- R412: the time-synchronisation unit's injector number. -/
def injTime : BitVec 18 := BitVec.ofNat 18 (124 * 2 ^ 6 + 2)

/-- CLOCK_LOCK_LOST (R396, R412): the clock has been out of lock, or without messages, for 2^20 ns. -/
def execClockLockLost (s : State) : Result :=
  .next (if s.mc.unlockedSince + 2 ^ 20 ≤ s.now ∧ !s.mc.lost then
      { s with mc := { s.mc with lost := true, locked := false } }.reportSystem 8 injTime 0 0 0
    else s)

/-! ### Window reductions (R401) -/

/-- R401: a round's merged value is applied as one atomic of its operation, and every contributor is acknowledged. -/
def State.applyRound (s : State) (q : Round) : State :=
  let s := { s with rounds := s.rounds.filter fun p => !(decide (p.window = q.window) && decide (p.pa = q.pa)) }
  let (_, s) := s.eccRead q.pa 8
  let s := (s.amoAt q.pa (BitVec.ofNat 3 q.op) 8 q.value 0).2
  q.ids.foldl (fun s id => match s.req? id with | some r => s.performed r [] | none => s) s

/-- R326: a block holds the word's unit. -/
def State.roundHeld (s : State) (pa : Nat) : Bool := s.holds.any fun (w, _, _) => decide (w = pa / 256)

/-- R401: a contribution is merged into the open round of its word and window, or opens one; the round is applied once COUNT
contributions are counted. One that leaves for another module is that module's to merge. -/
def State.contribute (s : State) (r : Req) (key : Nat) : State :=
  match r.body with
  | .reduction w op count merged v =>
    if 2 ^ 50 ≤ key then s
    else if 5 < op ∨ key % 8 ≠ 0 then s.performed r []
    else if s.rounds.any fun p => decide (r.id ∈ p.ids) then s
    else
      let mine (p : Round) : Bool := decide (p.window = w) && decide (p.pa = key)
      let q : Round := match s.rounds.find? mine with
        | some p => { p with got := p.got + merged, value := (amoNew (BitVec.ofNat 3 p.op) 8 p.value v 0).getD v, ids := p.ids ++ [r.id] }
        | none => ⟨w, key, op, count, merged, v, [r.id], s.now⟩
      if q.count ≤ q.got then s.applyRound q
      else { s with rounds := q :: s.rounds.filter fun p => !mine p }
  | _ => s

/-- REDUCTION_PACKET (R326, R401). -/
def execReductionPacket (id : Nat) (s : State) : Result :=
  .next (s.atHome id (fun r => match r.body with | .reduction .. => true | _ => false) State.contribute)

/-- REDUCTION_TIMEOUT (R401, R412): a round that has stood incomplete for 2^20 ns is applied in part and reported. -/
def execReductionTimeout (window pa : Nat) (s : State) : Result :=
  .next (match s.rounds.find? fun p => decide (p.window = window) && decide (p.pa = pa) with
    | some q =>
      if q.opened + 2 ^ 20 ≤ s.now ∧ !s.roundHeld pa then (s.applyRound q).reportSystem 7 0 0 0 (pa % 2 ^ 47) else s
    | none => s)

end Sys2Proof.Machine
end

