-- ==== Sys2Proof/Machine/Boot.lean ====
section
/-! DEFINITION. Reset and boot (R404), images and the life cycle (R405, R406), quotes (R407, R408), power and heat (R409). -/

namespace Sys2Proof.Machine

/-! ### Reset -/

/-- R404: a reset: every register is at its reset value and the boot stands before WIPE; the fuses stay, the blades that are
lost while power stays on, what the memories hold until WIPE, and what belongs to the model. -/
def State.restart (s : State) : State :=
  { State.reset with
    mem := s.mem, ecc := s.ecc
    blades := if s.off then [] else s.blades, agenda := s.agenda, delays := s.delays, nextId := s.nextId
    mc := { ModuleRegs.fresh with lcs := s.mc.lcs, svn := s.mc.svn, secretGone := s.mc.secretGone } }

/-- RESET (R404): power-on, or a reset. -/
def execReset (s : State) : Result := .next s.restart

/-- R5, R404: the next step of a boot that stands before AWAIT: WIPE writes every byte with zero and valid ECC; SELFTEST tests every
core, steward, Waystation and engine, and one failure marks the module failed and ends the boot; else the clock locks. -/
def State.bootStep (s : State) : State :=
  match s.mc.boot with
  | .wipe => { s with mem := [], ecc := [], mc := { s.mc with boot := .selftest } }
  | .selftest =>
    let s' := { s with nextId := s.nextId + 1 }
    if Config.selfTestOk s.nextId then { s' with mc := { s.mc with boot := .await, locked := true, unlockedSince := s.now } }
    else { s' with failed := true, mc := { s.mc with boot := .failed } }
  | _ => s

/-- R404: the module is in a boot step that no packet and no instruction can meet. -/
def State.booting (s : State) : Bool := decide (s.mc.boot = .wipe) || decide (s.mc.boot = .selftest)

/-- FWGO (R395, R404): in AWAIT the check of the delivered image begins. -/
def execFwgo (id : Nat) (s : State) : Result :=
  .next (s.onCommand id (fun reg => decide (reg = .fwgo)) fun s r _ v =>
    (if s.mc.boot = .await then { s with mc := { s.mc with boot := .checking, fwgo := fieldN v 0 26 } } else s).performed r [])

/-! ### Images (R405) -/

/-- Where an image is delivered: the start of die 0's shared SRAM (R404). -/
def imageBase : Nat := 0x400000000000

/-- Bytes of an ML-DSA-65 signature (R405). -/
def sigLen : Nat := 3309

/-- An image's header. -/
structure Header where
  magic : Nat
  kind : Nat
  svn : Nat
  length : Nat
  entry : Nat
  tolcs : Nat
  serial : Nat
  zeros : Bool
  deriving DecidableEq, Repr

/-- R405: the header's fields. -/
def Header.ofBytes (m : List Byte) : Header :=
  { magic := numAt m 0 4, kind := numAt m 4 4, svn := numAt m 8 4, length := numAt m 16 8, entry := numAt m 24 8,
    tolcs := numAt m 32 8 % 4, serial := numAt m 40 16,
    zeros := decide (numAt m 12 4 = 0) && decide (numAt m 32 8 / 4 = 0) && decide (numAt m 56 8 = 0) }

/-- R405: the first code that refuses the image, as REJECT gives it (R395). The signature is checked only for an image of its
LENGTH, under the vendor's key, which is the one whose digest is fused. -/
def State.imageReject (s : State) (hd : Header) : Option (BitVec 8) :=
  if hd.magic ≠ 0x4D445242 ∨ 1 < hd.kind ∨ !hd.zeros then some 1
  else if s.mc.fwgo ≠ 64 + hd.length + sigLen ∨ 2 ^ 26 < s.mc.fwgo then some 5
  else if shake256 Config.vendorKey ≠ Config.vendorDigest ∨
      !dsaVerify Config.vendorKey (shake256 (s.peek imageBase (64 + hd.length))) (s.peek (imageBase + 64 + hd.length) sigLen) then some 2
  else if hd.svn < s.mc.svn.toNat then some 3
  else if hd.kind = 1 ∧ (hd.serial ≠ Config.serial.toNat ∨ hd.tolcs ≠ s.mc.lcs.toNat + 1) then some 4
  else none

/-- The stewards of the module (R1, R351). -/
def allStewards : List HartId := .moduleSteward :: (List.range 32).flatMap fun d => (List.range 4).map fun k => .steward d k

/-- R404: the module steward starts at ENTRY, and the die stewards with it (log 43). -/
def State.startStewards (s : State) (entry : Nat) : State :=
  let pc := BitVec.ofNat 64 (0x0100 * 2 ^ 48 + imageBase + 64 + entry)
  allStewards.foldl (fun s h => s.mapHart h fun _ =>
    { Thread.fresh h with pc, state := .running, region := { (Thread.fresh h).region with entry := pc } }) s

/-- R404: a rejected image is wiped and the module waits for the next. -/
def State.rejectImage (s : State) (code : BitVec 8) : State :=
  let s := s.wipe imageBase (2 ^ 26)
  { s with mc := { s.mc with boot := .await, reject := code } }

/-- R405: a firmware image that passed runs, and raises the fused minimum version. -/
def State.runImage (s : State) (hd : Header) : State :=
  let digest := shake256 (s.peek imageBase (64 + hd.length))
  { s with mc := { s.mc with boot := .running, svn := BitVec.ofNat 32 hd.svn, digest } }.startStewards hd.entry

/-- R406, R407: a life-cycle command that passed: one state forward, every memory wiped, and a reset; entering RETURNED erases the
device secret. -/
def State.nextLife (s : State) : State :=
  { s with mc := { s.mc with lcs := s.mc.lcs + 1, secretGone := s.mc.secretGone || decide (s.mc.lcs = 2) } }.restart

/-- IMAGE_CHECK (R404, R405, R406). -/
def execImageCheck (s : State) : Result :=
  .next (if s.mc.boot ≠ .checking then s
    else
      let hd := Header.ofBytes (s.peek imageBase 64)
      match s.imageReject hd with
      | some code => s.rejectImage code
      | none => if hd.kind = 1 then s.nextLife else s.runImage hd)

/-! ### Quotes (R407, R408) -/

/-- R408: a well-formed quote request: its nonce and destination. -/
def State.quoteRequest (s : State) (key : Nat) (bytes : List (Option Byte)) : Option (List Byte × Nat) :=
  let bs := bytes.map fun b => b.getD 0
  let dst := numAt bs 32 8
  if bytes.length = 64 ∧ key % 64 = 0 ∧ bytes.all Option.isSome ∧ dst % 8 = 0 ∧ isPlain dst ∧ s.frameEntry dst % 2 = 1 ∧
      (bs.drop 40).all (fun b => b = 0) then some (bs.take 32, dst)
  else none

/-- QREQ (R408, R412): in PROVISIONED or DEPLOYED a quote is asked for; a malformed request is discarded and reported. A request
waits for the quote before it. -/
def execQreq (id : Nat) (s : State) : Result :=
  .next (s.atHome id (fun r => match r.body with | .store _ => true | _ => false) fun s r key =>
    match r.body with
    | .store bytes =>
      if onPage key && decide (pageReg key = .qreq) then
        let ask := s.quoteRequest key bytes
        let s := if bytes.length = 64 then s.frameRead (numAt (bytes.map fun b => b.getD 0) 32 8) else s
        match ask with
        | none => (s.reportSystem 5 (injOf .moduleSteward) 0 0 bytes.length).performed r []
        | some q =>
          if s.mc.lcs ≠ 1 ∧ s.mc.lcs ≠ 2 then s.performed r []
          else if s.mc.quote.isSome then s
          else { s with mc := { s.mc with quote := some q } }.performed r []
      else s
    | _ => s)

/-- Exactly n bytes of a list. -/
def exactly (n : Nat) (bs : List Byte) : List Byte := (List.range n).map (byteAt bs)

/-- R407: the seed of the device's key pair. -/
def deviceSeed : List Byte := shake256n 32 (Config.deviceSecret ++ leBytes 16 Config.serial.toNat)

/-- R407: the device's key pair. -/
def deviceKey : DsaKey := dsaKey deviceSeed

/-- R408: bytes 0 to 191 of a quote. -/
def State.quoteHead (s : State) (nonce : List Byte) : List Byte :=
  leBytes 8 (1 + s.mc.lcs.toNat * 2 ^ 16) ++ leBytes 8 (Config.deviceId.toNat + s.mc.svn.toNat * 2 ^ 32) ++
  leBytes 16 Config.serial.toNat ++ exactly 32 nonce ++ exactly 64 s.mc.digest ++
  exactly 64 (shake256 deviceKey.pub)

/-- R408: the quote's 3,501 bytes; what is random in its signature is free (log 10). -/
def State.quoteBytes (s : State) (nonce : List Byte) : List Byte :=
  let head := s.quoteHead nonce
  head ++ exactly sigLen (dsaSign deviceKey head (exactly 32 (Config.quoteRandom s.nextId)))

/-- QUOTE_WRITE (R408): the ROM writes the quote to the memory at its destination; a hold there makes it wait (R326). -/
def execQuoteWrite (s : State) : Result :=
  .next (match s.mc.quote with
    | some (nonce, dst) =>
      let bs := s.quoteBytes nonce
      if s.unitsHeld dst 3501 then s
      else
        let s := s.poke dst (bs.zipIdx.map fun (b, i) => if isPlain (dst + i) then some b else none)
        { s with nextId := s.nextId + 1, mc := { s.mc with quote := none } }
    | none => s)

/-! ### Power and heat (R409) -/

/-- BLADE_FAILURE (R409): a third lost blade powers the module off. -/
def execBladeFailure (blade : Nat) (s : State) : Result :=
  .next (if blade < 24 ∧ blade ∉ s.blades then
      { s with blades := blade :: s.blades, off := s.off || decide (2 ≤ s.blades.length) }
    else s)

/-- THERMAL_POWER_OFF (R409). -/
def execThermalPowerOff (_die : Nat) (s : State) : Result := .next { s with off := true }

end Sys2Proof.Machine
end

