-- ==== Sys2Proof/Machine/Scalar.lean ====
section
/-! DEFINITION. Scalar integer instructions: ALU, MULDIV and the immediate forms (R185 to R191). -/

namespace Sys2Proof.Machine

/-! ### What each operation computes (R185) -/

/-- The shift amount: bits [5:0]. -/
def shamt (y : Word) : Nat := y.toNat % 64

/-- ADD (R185). -/
def valAdd (x y : Word) : Word := x + y
/-- SUB (R185). -/
def valSub (x y : Word) : Word := x - y
/-- AND (R185). -/
def valAnd (x y : Word) : Word := x &&& y
/-- OR (R185). -/
def valOr (x y : Word) : Word := x ||| y
/-- XOR (R185). -/
def valXor (x y : Word) : Word := x ^^^ y
/-- ANDN (R185). -/
def valAndn (x y : Word) : Word := x &&& ~~~ y
/-- SLL (R185). -/
def valSll (x y : Word) : Word := x <<< shamt y
/-- SRL (R185). -/
def valSrl (x y : Word) : Word := x >>> shamt y
/-- SRA (R185). -/
def valSra (x y : Word) : Word := x.sshiftRight (shamt y)
/-- ROR (R185). -/
def valRor (x y : Word) : Word := x.rotateRight (shamt y)
/-- SLT (R185). -/
def valSlt (x y : Word) : Word := if x.slt y then 1 else 0
/-- SLTU (R185). -/
def valSltu (x y : Word) : Word := if x.ult y then 1 else 0
/-- MIN (R185). -/
def valMin (x y : Word) : Word := if x.slt y then x else y
/-- MAX (R185). -/
def valMax (x y : Word) : Word := if x.slt y then y else x
/-- MINU (R185). -/
def valMinu (x y : Word) : Word := if x.ult y then x else y
/-- MAXU (R185). -/
def valMaxu (x y : Word) : Word := if x.ult y then y else x
/-- ADDSH1 (R185). -/
def valAddsh1 (x y : Word) : Word := (x <<< 1) + y
/-- ADDSH2 (R185). -/
def valAddsh2 (x y : Word) : Word := (x <<< 2) + y
/-- ADDSH3 (R185). -/
def valAddsh3 (x y : Word) : Word := (x <<< 3) + y
/-- ADDW (R185). -/
def valAddw (x y : Word) : Word := (x + y).setWidth 32 |>.signExtend 64
/-- SUBW (R185). -/
def valSubw (x y : Word) : Word := (x - y).setWidth 32 |>.signExtend 64
/-- CLZ (R185). -/
def valClz (x : Word) : Word := BitVec.ofNat 64 (leadingZeros 64 x.toNat)
/-- CTZ (R185). -/
def valCtz (x : Word) : Word := BitVec.ofNat 64 (trailingZeros 64 x.toNat)
/-- POPC (R185). -/
def valPopc (x : Word) : Word := BitVec.ofNat 64 (popCount 64 x.toNat)
/-- BYTEREV (R185). -/
def valByterev (x : Word) : Word := byteReverse x
/-- SEXTW (R185). -/
def valSextw (x : Word) : Word := (x.setWidth 32).signExtend 64
/-- ZEXTW (R185). -/
def valZextw (x : Word) : Word := (x.setWidth 32).setWidth 64

/-! ### MULDIV (R187): a zero divisor gives all ones and the dividend -/

/-- MUL (R187). -/
def valMul (x y : Word) : Word := x * y
/-- MULH (R187). -/
def valMulh (x y : Word) : Word := BitVec.ofInt 64 (x.toInt * y.toInt / 2 ^ 64)
/-- MULHU (R187). -/
def valMulhu (x y : Word) : Word := BitVec.ofNat 64 (x.toNat * y.toNat / 2 ^ 64)
/-- MULHSU (R187). -/
def valMulhsu (x y : Word) : Word := BitVec.ofInt 64 (x.toInt * (y.toNat : Int) / 2 ^ 64)
/-- DIV (R187). -/
def valDiv (x y : Word) : Word := if y = 0 then BitVec.allOnes 64 else BitVec.ofInt 64 (x.toInt.tdiv y.toInt)
/-- DIVU (R187). -/
def valDivu (x y : Word) : Word := if y = 0 then BitVec.allOnes 64 else x / y
/-- REM (R187). -/
def valRem (x y : Word) : Word := if y = 0 then x else BitVec.ofInt 64 (x.toInt.tmod y.toInt)
/-- REMU (R187). -/
def valRemu (x y : Word) : Word := if y = 0 then x else x % y

/-! ### The shared forms -/

/-- Reads x[a] then x[b], writes x[d] (R185). -/
def binary (f : Word → Word → Word) (d a b : BitVec 5) : M Unit := do
  checkPorts [a, b, d]
  let x ← readX a
  let y ← readX b
  writeX d (f x y)

/-- Reads x[a], writes x[d]. -/
def unary (f : Word → Word) (d a : BitVec 5) : M Unit := do
  checkPorts [a, d]
  let x ← readX a
  writeX d (f x)

/-- A signed 11-bit immediate (R139). -/
def imm11 (i : BitVec 11) : Word := i.signExtend 64
/-- A signed 16-bit immediate (R139). -/
def imm16 (i : BitVec 16) : Word := i.signExtend 64

/-! ### The instructions -/

/-- ADD (R185). -/
def execAdd (g : Guard) (d a b : BitVec 5) (s : State) : Result := .next (s.scalar .engine g (binary valAdd d a b))
/-- SUB (R185). -/
def execSub (g : Guard) (d a b : BitVec 5) (s : State) : Result := .next (s.scalar .engine g (binary valSub d a b))
/-- AND (R185). -/
def execAnd (g : Guard) (d a b : BitVec 5) (s : State) : Result := .next (s.scalar .engine g (binary valAnd d a b))
/-- OR (R185). -/
def execOr (g : Guard) (d a b : BitVec 5) (s : State) : Result := .next (s.scalar .engine g (binary valOr d a b))
/-- XOR (R185). -/
def execXor (g : Guard) (d a b : BitVec 5) (s : State) : Result := .next (s.scalar .engine g (binary valXor d a b))
/-- ANDN (R185). -/
def execAndn (g : Guard) (d a b : BitVec 5) (s : State) : Result := .next (s.scalar .engine g (binary valAndn d a b))
/-- SLL (R185). -/
def execSll (g : Guard) (d a b : BitVec 5) (s : State) : Result := .next (s.scalar .engine g (binary valSll d a b))
/-- SRL (R185). -/
def execSrl (g : Guard) (d a b : BitVec 5) (s : State) : Result := .next (s.scalar .engine g (binary valSrl d a b))
/-- SRA (R185). -/
def execSra (g : Guard) (d a b : BitVec 5) (s : State) : Result := .next (s.scalar .engine g (binary valSra d a b))
/-- ROR (R185). -/
def execRor (g : Guard) (d a b : BitVec 5) (s : State) : Result := .next (s.scalar .engine g (binary valRor d a b))
/-- SLT (R185). -/
def execSlt (g : Guard) (d a b : BitVec 5) (s : State) : Result := .next (s.scalar .engine g (binary valSlt d a b))
/-- SLTU (R185). -/
def execSltu (g : Guard) (d a b : BitVec 5) (s : State) : Result := .next (s.scalar .engine g (binary valSltu d a b))
/-- MIN (R185). -/
def execMin (g : Guard) (d a b : BitVec 5) (s : State) : Result := .next (s.scalar .engine g (binary valMin d a b))
/-- MAX (R185). -/
def execMax (g : Guard) (d a b : BitVec 5) (s : State) : Result := .next (s.scalar .engine g (binary valMax d a b))
/-- MINU (R185). -/
def execMinu (g : Guard) (d a b : BitVec 5) (s : State) : Result := .next (s.scalar .engine g (binary valMinu d a b))
/-- MAXU (R185). -/
def execMaxu (g : Guard) (d a b : BitVec 5) (s : State) : Result := .next (s.scalar .engine g (binary valMaxu d a b))
/-- ADDSH1 (R185). -/
def execAddsh1 (g : Guard) (d a b : BitVec 5) (s : State) : Result := .next (s.scalar .engine g (binary valAddsh1 d a b))
/-- ADDSH2 (R185). -/
def execAddsh2 (g : Guard) (d a b : BitVec 5) (s : State) : Result := .next (s.scalar .engine g (binary valAddsh2 d a b))
/-- ADDSH3 (R185). -/
def execAddsh3 (g : Guard) (d a b : BitVec 5) (s : State) : Result := .next (s.scalar .engine g (binary valAddsh3 d a b))
/-- ADDW (R185). -/
def execAddw (g : Guard) (d a b : BitVec 5) (s : State) : Result := .next (s.scalar .engine g (binary valAddw d a b))
/-- SUBW (R185). -/
def execSubw (g : Guard) (d a b : BitVec 5) (s : State) : Result := .next (s.scalar .engine g (binary valSubw d a b))
/-- CLZ (R185). -/
def execClz (g : Guard) (d a : BitVec 5) (s : State) : Result := .next (s.scalar .engine g (unary valClz d a))
/-- CTZ (R185). -/
def execCtz (g : Guard) (d a : BitVec 5) (s : State) : Result := .next (s.scalar .engine g (unary valCtz d a))
/-- POPC (R185). -/
def execPopc (g : Guard) (d a : BitVec 5) (s : State) : Result := .next (s.scalar .engine g (unary valPopc d a))
/-- BYTEREV (R185). -/
def execByterev (g : Guard) (d a : BitVec 5) (s : State) : Result := .next (s.scalar .engine g (unary valByterev d a))
/-- SEXTW (R185). -/
def execSextw (g : Guard) (d a : BitVec 5) (s : State) : Result := .next (s.scalar .engine g (unary valSextw d a))
/-- ZEXTW (R185). -/
def execZextw (g : Guard) (d a : BitVec 5) (s : State) : Result := .next (s.scalar .engine g (unary valZextw d a))
/-- MUL (R187). -/
def execMul (g : Guard) (d a b : BitVec 5) (s : State) : Result := .next (s.scalar .engine g (binary valMul d a b))
/-- MULH (R187). -/
def execMulh (g : Guard) (d a b : BitVec 5) (s : State) : Result := .next (s.scalar .engine g (binary valMulh d a b))
/-- MULHU (R187). -/
def execMulhu (g : Guard) (d a b : BitVec 5) (s : State) : Result := .next (s.scalar .engine g (binary valMulhu d a b))
/-- MULHSU (R187). -/
def execMulhsu (g : Guard) (d a b : BitVec 5) (s : State) : Result := .next (s.scalar .engine g (binary valMulhsu d a b))
/-- DIV (R187). -/
def execDiv (g : Guard) (d a b : BitVec 5) (s : State) : Result := .next (s.scalar .engine g (binary valDiv d a b))
/-- DIVU (R187). -/
def execDivu (g : Guard) (d a b : BitVec 5) (s : State) : Result := .next (s.scalar .engine g (binary valDivu d a b))
/-- REM (R187). -/
def execRem (g : Guard) (d a b : BitVec 5) (s : State) : Result := .next (s.scalar .engine g (binary valRem d a b))
/-- REMU (R187). -/
def execRemu (g : Guard) (d a b : BitVec 5) (s : State) : Result := .next (s.scalar .engine g (binary valRemu d a b))
/-- ADDI (R189). -/
def execAddi (g : Guard) (d a : BitVec 5) (i : BitVec 11) (s : State) : Result := .next (s.scalar .engine g (unary (fun x => valAdd x (imm11 i)) d a))
/-- ANDI (R189). -/
def execAndi (g : Guard) (d a : BitVec 5) (i : BitVec 11) (s : State) : Result := .next (s.scalar .engine g (unary (fun x => valAnd x (imm11 i)) d a))
/-- ORI (R189). -/
def execOri (g : Guard) (d a : BitVec 5) (i : BitVec 11) (s : State) : Result := .next (s.scalar .engine g (unary (fun x => valOr x (imm11 i)) d a))
/-- XORI (R189). -/
def execXori (g : Guard) (d a : BitVec 5) (i : BitVec 11) (s : State) : Result := .next (s.scalar .engine g (unary (fun x => valXor x (imm11 i)) d a))
/-- SLTI (R189). -/
def execSlti (g : Guard) (d a : BitVec 5) (i : BitVec 11) (s : State) : Result := .next (s.scalar .engine g (unary (fun x => valSlt x (imm11 i)) d a))
/-- SLTIU (R189). -/
def execSltiu (g : Guard) (d a : BitVec 5) (i : BitVec 11) (s : State) : Result := .next (s.scalar .engine g (unary (fun x => valSltu x (imm11 i)) d a))
/-- SLLI (R190). -/
def execSlli (g : Guard) (d a : BitVec 5) (h : BitVec 6) (s : State) : Result := .next (s.scalar .engine g (unary (fun x => valSll x (h.setWidth 64)) d a))
/-- SRLI (R190). -/
def execSrli (g : Guard) (d a : BitVec 5) (h : BitVec 6) (s : State) : Result := .next (s.scalar .engine g (unary (fun x => valSrl x (h.setWidth 64)) d a))
/-- SRAI (R190). -/
def execSrai (g : Guard) (d a : BitVec 5) (h : BitVec 6) (s : State) : Result := .next (s.scalar .engine g (unary (fun x => valSra x (h.setWidth 64)) d a))
/-- RORI (R190). -/
def execRori (g : Guard) (d a : BitVec 5) (h : BitVec 6) (s : State) : Result := .next (s.scalar .engine g (unary (fun x => valRor x (h.setWidth 64)) d a))
/-- LI (R191). -/
def execLi (g : Guard) (d : BitVec 5) (i : BitVec 16) (s : State) : Result := .next (s.scalar .engine g (do checkPorts [d]; writeX d (imm16 i)))
/-- LIS (R186, R191): d is read, then written. -/
def execLis (g : Guard) (d : BitVec 5) (i : BitVec 16) (s : State) : Result :=
  .next (s.scalar .engine g (unary (fun x => (x <<< 16) ||| i.setWidth 64) d d))
/-- ADDPC (R140, R191): pc is the instruction's own address. -/
def execAddpc (g : Guard) (d : BitVec 5) (i : BitVec 16) (s : State) : Result :=
  .next (s.scalar .engine g (do checkPorts [d]; let t ← focus; writeX d (t.pc + imm16 i * 2)))

end Sys2Proof.Machine
end

