-- ==== Sys2Proof/Machine/Control.lean ====
section
/-! DEFINITION. Transfers of control and repeat blocks (R195 to R205). -/

namespace Sys2Proof.Machine

/-! ### J, JAL, JALR, DJNZ -/

/-- The target of a relative transfer: pc plus a signed count of halfwords (R139, R140). -/
def relative {n : Nat} (pc : Word) (i : BitVec n) : Word := pc + i.signExtend 64 * 2

/-- Sets the next pc. -/
def jump (target : Word) : M Unit := setFocus fun t => { t with npc := target, taken := true }

/-- R196: reads x[a], traps on an odd target, then links and jumps. -/
def jumpReg (d a : BitVec 5) (off : Word) (len : Nat) : M Unit := do
  checkPorts [a, d]
  let x ← readX a
  let t ← focus
  let target := x + off
  check (target.toNat % 2 = 0) MISALIGN target
  writeX d (t.pc + BitVec.ofNat 64 len)
  jump target

/-- J (R195). -/
def execJ (g : Guard) (i : BitVec 21) (s : State) : Result :=
  .next (s.scalar .engine g (do let t ← focus; jump (relative t.pc i)))

/-- JAL (R195): links into x1. -/
def execJal (g : Guard) (i : BitVec 21) (s : State) : Result :=
  .next (s.scalar .engine g (do let t ← focus; writeX 1 (t.pc + 4); jump (relative t.pc i)))

/-- JALR (R196). -/
def execJalr (g : Guard) (d a : BitVec 5) (i : BitVec 11) (s : State) : Result :=
  .next (s.scalar .engine g (jumpReg d a (imm11 i * 2) 4))

/-- DJNZ (R186, R197). -/
def execDjnz (g : Guard) (d : BitVec 5) (i : BitVec 16) (s : State) : Result :=
  .next (s.scalar .engine g (do
    checkPorts [d]
    let x ← readX d
    let n := x - 1
    writeX d n
    let t ← focus
    if n ≠ 0 then jump (relative t.pc i)))

/-! ### REP -/

/-- R201: whether a body word is one that no body may hold: majors J to TRP, SYNC and SYS, and JR.N, JALR.N, HALT.N. -/
def bodyForbids (w : W32) : Bool :=
  if isLong (w.extractLsb' 0 16) then
    let m := (w.extractLsb' 22 6 : BitVec 6).toNat
    (0x13 ≤ m && m ≤ 0x18) || m == 0x23 || m == 0x2f
  else
    let op := (w.extractLsb' 11 5 : BitVec 5).toNat
    op == 0x14 || op == 0x15 || op == 0x17

/-- R201: which of the fields d, a and b name an x or v register in the instruction's entry. -/
def staggers : Instr → Bool × Bool × Bool
  | .add _ _ _ _ => (true, true, true)
  | .sub _ _ _ _ => (true, true, true)
  | .and _ _ _ _ => (true, true, true)
  | .or _ _ _ _ => (true, true, true)
  | .xor _ _ _ _ => (true, true, true)
  | .andn _ _ _ _ => (true, true, true)
  | .sll _ _ _ _ => (true, true, true)
  | .srl _ _ _ _ => (true, true, true)
  | .sra _ _ _ _ => (true, true, true)
  | .ror _ _ _ _ => (true, true, true)
  | .slt _ _ _ _ => (true, true, true)
  | .sltu _ _ _ _ => (true, true, true)
  | .min _ _ _ _ => (true, true, true)
  | .max _ _ _ _ => (true, true, true)
  | .minu _ _ _ _ => (true, true, true)
  | .maxu _ _ _ _ => (true, true, true)
  | .addsh1 _ _ _ _ => (true, true, true)
  | .addsh2 _ _ _ _ => (true, true, true)
  | .addsh3 _ _ _ _ => (true, true, true)
  | .clz _ _ _ => (true, true, false)
  | .ctz _ _ _ => (true, true, false)
  | .popc _ _ _ => (true, true, false)
  | .byterev _ _ _ => (true, true, false)
  | .sextw _ _ _ => (true, true, false)
  | .zextw _ _ _ => (true, true, false)
  | .addw _ _ _ _ => (true, true, true)
  | .subw _ _ _ _ => (true, true, true)
  | .mul _ _ _ _ => (true, true, true)
  | .mulh _ _ _ _ => (true, true, true)
  | .mulhu _ _ _ _ => (true, true, true)
  | .mulhsu _ _ _ _ => (true, true, true)
  | .div _ _ _ _ => (true, true, true)
  | .divu _ _ _ _ => (true, true, true)
  | .rem _ _ _ _ => (true, true, true)
  | .remu _ _ _ _ => (true, true, true)
  | .addi _ _ _ _ => (true, true, false)
  | .andi _ _ _ _ => (true, true, false)
  | .ori _ _ _ _ => (true, true, false)
  | .xori _ _ _ _ => (true, true, false)
  | .slti _ _ _ _ => (true, true, false)
  | .sltiu _ _ _ _ => (true, true, false)
  | .slli _ _ _ _ => (true, true, false)
  | .srli _ _ _ _ => (true, true, false)
  | .srai _ _ _ _ => (true, true, false)
  | .rori _ _ _ _ => (true, true, false)
  | .li _ _ _ => (true, false, false)
  | .lis _ _ _ => (true, false, false)
  | .addpc _ _ _ => (true, false, false)
  | .cmp _ _ _ _ _ _ _ => (false, true, true)
  | .cmpi _ _ _ _ _ _ _ => (false, true, false)
  | .pfromx _ _ _ => (false, true, false)
  | .ptox _ _ _ => (true, false, false)
  | .pcnt _ _ _ => (true, false, false)
  | .vcmp _ _ _ _ _ _ _ => (false, true, true)
  | .vfcmp _ _ _ _ _ _ _ => (false, true, true)
  | .jalr _ _ _ _ => (true, true, false)
  | .djnz _ _ _ => (true, false, false)
  | .rep _ _ _ _ => (false, true, false)
  | .trpForm _ _ _ => (false, true, true)
  | .trpPos _ _ => (true, false, false)
  | .trpWidth _ _ => (true, false, false)
  | .ld _ _ _ _ _ _ => (true, true, false)
  | .ldu _ _ _ _ _ _ => (true, true, false)
  | .st _ _ _ _ _ _ => (true, true, false)
  | .sto _ _ _ _ _ _ => (true, true, false)
  | .fld _ _ _ _ _ _ => (false, true, false)
  | .fst _ _ _ _ _ _ => (false, true, false)
  | .vld _ _ _ _ _ _ => (true, true, false)
  | .vst _ _ _ _ _ _ => (true, true, false)
  | .amoAdd _ _ _ _ _ _ => (true, true, true)
  | .amoAnd _ _ _ _ _ _ => (true, true, true)
  | .amoOr _ _ _ _ _ _ => (true, true, true)
  | .amoXor _ _ _ _ _ _ => (true, true, true)
  | .amoMin _ _ _ _ _ _ => (true, true, true)
  | .amoMax _ _ _ _ _ _ => (true, true, true)
  | .amoSwap _ _ _ _ _ _ => (true, true, true)
  | .amoCas _ _ _ _ _ _ => (true, true, true)
  | .cpy _ _ _ _ _ _ _ => (true, true, true)
  | .fmvxf _ _ _ => (true, false, false)
  | .fmvfx _ _ _ => (false, true, false)
  | .fcvtFX _ _ _ => (false, true, false)
  | .fcvtXF _ _ _ => (true, false, false)
  | .fkey _ _ _ => (true, false, false)
  | .fclass _ _ _ => (true, false, false)
  | .vadd _ _ _ _ _ => (true, true, true)
  | .vsub _ _ _ _ _ => (true, true, true)
  | .vmul _ _ _ _ _ => (true, true, true)
  | .vmin _ _ _ _ _ => (true, true, true)
  | .vmax _ _ _ _ _ => (true, true, true)
  | .vminu _ _ _ _ _ => (true, true, true)
  | .vmaxu _ _ _ _ _ => (true, true, true)
  | .vand _ _ _ _ _ => (true, true, true)
  | .vor _ _ _ _ _ => (true, true, true)
  | .vxor _ _ _ _ _ => (true, true, true)
  | .vsll _ _ _ _ _ => (true, true, true)
  | .vsrl _ _ _ _ _ => (true, true, true)
  | .vsra _ _ _ _ _ => (true, true, true)
  | .vabs _ _ _ _ => (true, true, false)
  | .vadds _ _ _ _ _ => (true, true, true)
  | .vsubs _ _ _ _ _ => (true, true, true)
  | .vfadd _ _ _ _ _ => (true, true, true)
  | .vfsub _ _ _ _ _ => (true, true, true)
  | .vfmul _ _ _ _ _ => (true, true, true)
  | .vfmin _ _ _ _ _ => (true, true, true)
  | .vfmax _ _ _ _ _ => (true, true, true)
  | .vffma _ _ _ _ _ => (true, true, true)
  | .vfdiv _ _ _ _ _ => (true, true, true)
  | .vfsqrt _ _ _ _ => (true, true, false)
  | .vfabs _ _ _ _ => (true, true, false)
  | .vfneg _ _ _ _ => (true, true, false)
  | .vbcast _ _ _ _ => (true, true, false)
  | .vbcastf _ _ _ _ => (true, false, false)
  | .vext _ _ _ _ _ => (true, true, true)
  | .vins _ _ _ _ _ => (true, true, true)
  | .vperm _ _ _ _ _ => (true, true, true)
  | .vredadd _ _ _ _ => (false, true, false)
  | .vredmax _ _ _ _ => (false, true, false)
  | .vcvt _ _ _ _ _ => (true, true, false)
  | .vkey _ _ _ _ => (true, true, false)
  | .vmov _ _ _ _ => (true, true, false)
  | .vzero _ _ _ => (true, false, false)
  | .viota _ _ _ => (true, false, false)
  | .mma _ _ _ _ _ => (false, true, false)
  | .mrdF32 _ _ _ _ => (false, true, false)
  | .mrdBf16 _ _ _ _ => (false, true, false)
  | .mrdF16 _ _ _ _ => (false, true, false)
  | .mexp _ _ _ => (true, false, false)
  | .msete _ _ _ => (false, true, false)
  | .mred _ _ _ _ => (false, true, false)
  | .macc _ _ _ _ => (false, true, true)
  | .mcvtI8 _ _ _ _ => (false, true, true)
  | .geom _ _ _ _ => (true, true, true)
  | .geomg _ _ _ => (true, true, false)
  | .mcvtI4 _ _ _ _ => (false, true, true)
  | .bld _ _ _ => (false, true, false)
  | .bst _ _ _ => (false, true, false)
  | .desc _ _ _ _ => (true, true, false)
  | .bkup _ _ _ _ _ => (true, true, true)
  | .unmk _ _ _ _ _ => (true, true, true)
  | .expnd _ _ _ _ _ => (true, true, true)
  | .nalloc _ _ _ _ _ => (true, true, true)
  | .rcyc _ _ _ _ => (true, true, false)
  | .nstat _ _ _ _ => (true, true, false)
  | .ninit _ _ _ _ => (true, true, false)
  | .nmsend _ _ _ => (false, true, false)
  | .nmovl _ _ _ => (false, true, false)
  | .nmrst _ _ _ => (false, true, false)
  | .fault _ _ => (false, true, false)
  | .csrrw _ _ _ _ => (true, true, false)
  | .csrrs _ _ _ _ => (true, true, false)
  | .csrrc _ _ _ _ => (true, true, false)
  | .sete _ _ _ => (false, true, false)
  | .gete _ _ _ => (true, false, false)
  | .rand _ _ _ _ _ => (true, true, true)
  | _ => (false, false, false)

/-- R201: the entry that a body word belongs to, whatever its guard, its fields d, a and b, its condition, size and mode hold: a field
that names no register in that entry is refused under a mark. -/
def entryOf (w : W32) : Option Instr :=
  let major := w.extractLsb' 22 6
  let body := w.extractLsb' 1 21
  let under (body : BitVec 21) : Option Instr := decodeMajor (guardOf w) major body
  ((under body).orElse fun _ => under (body &&& 0x3f)).orElse
    fun _ => if major = 0x1f ∨ major = 0x20 then under (body &&& 0x33) else none

/-- R201: whether a marked body word may be staggered by the descriptor. A word of no entry is not refused here. -/
def markOk (desc : Nat) (w : W32) : Bool :=
  isLong (w.extractLsb' 0 16) &&
  match entryOf w with
  | some i =>
    let (d, a, b) := staggers i
    (fieldN desc 19 1 == 0 || d) && (fieldN desc 20 1 == 0 || a) && (fieldN desc 21 1 == 0 || b)
  | none => true

/-- R201: the checks on descriptor and body. -/
def bodyOk (desc : Nat) (insns : List (W32 × Nat)) : Bool :=
  decide (desc < 2 ^ 22) && decide (fieldN desc 0 16 < 2 ^ insns.length) &&
  (insns.all fun e => !bodyForbids e.1) &&
  (insns.zipIdx.all fun (e, i) => fieldN desc i 1 == 0 || markOk desc e.1)

/-- The bytes of a body. -/
def bodyLen (insns : List (W32 × Nat)) : Nat := (insns.map (·.2)).sum

/-- R200: REP opens a repeat context of n passes, or skips the body when n is 0. -/
def openRep (n : Nat) (desc : Word) (insns : List (W32 × Nat)) : M Unit :=
  setFocus fun t =>
    if n = 0 then { t with npc := t.pc + 4 + BitVec.ofNat 64 (bodyLen insns) }
    else { t with rep := some ⟨t.pc + 4, insns, desc, 0, n, 0⟩ }

/-- R205: what the leader's REP at this slot gave another member: the context that it opened, or, for a count of 0, where it
went on behind the body. -/
def leaderRep : M (Option (RepCtx ⊕ Word)) := do
  let s ← get
  let t := s.focus
  return (s.troupeOf t).bind fun tr =>
    if t.tpos = 0 then none
    else (tr.stream[t.slotNo]?).bind fun r => match r.rep with
      | some c => some (.inl c)
      | none => if r.npc = r.pc + 4 then none else some (.inr r.npc)

/-- REP (R200 to R202, R205): the count from x[a], the descriptor from e, the body fetched and checked first. A troupe
member whose count equals the leader's takes the leader's descriptor. A failing fetch of the body leaves STRADDLE clear and IWORD the
REP's own word, also where a body word straddles two pages (log 145). -/
def execRep (g : Guard) (a : BitVec 5) (l : BitVec 4) (e : BitVec 3) (s : State) : Result :=
  .next (s.scalar .core g (do
    let before := (← focus).arrivals
    checkPorts [a]
    let n ← readX a
    let own ← readE e
    let lead ← leaderRep
    let t ← focus
    match lead with
    | some (.inl c) => if c.remaining = n.toNat then openRep n.toNat c.desc c.insns else openOwn before t n own l
    | some (.inr pc) => if n = 0 then setFocus fun t => { t with npc := pc } else openOwn before t n own l
    | none => openOwn before t n own l))
where
  /-- REP by the hart itself: fetch, check, open. -/
  openOwn (before : Vector (List Word) 4) (t : Thread) (n own : Word) (l : BitVec 4) : M Unit := do
    let s ← get
    match s.fetchBody t (t.pc + 4) (l.toNat + 1) with
    | .fail fa s' => do
      set { s' with focus := { s'.focus with arrivals := before } }
      throw (.fetch fa)
    | .wait => waitFor .other
    | .words insns s' => do
      set s'
      check (bodyOk own.toNat insns) ILLEGAL
      openRep n.toNat own insns

end Sys2Proof.Machine
end

