-- ==== Sys2Proof/Machine/Compact.lean ====
section
/-! DEFINITION. The 16-bit forms but HALT.N: each has the effect of its 32-bit equivalent under p0 (R182, R209). -/

namespace Sys2Proof.Machine

/-- MV.N (R209): add d, x0, s. -/
def execMvN (d s' : BitVec 5) (s : State) : Result := .next (s.compact .engine (binary valAdd d 0 s'))
/-- ADD.N (R209). -/
def execAddN (d s' : BitVec 5) (s : State) : Result := .next (s.compact .engine (binary valAdd d d s'))
/-- SUB.N (R209). -/
def execSubN (d s' : BitVec 5) (s : State) : Result := .next (s.compact .engine (binary valSub d d s'))
/-- AND.N (R209). -/
def execAndN (d s' : BitVec 5) (s : State) : Result := .next (s.compact .engine (binary valAnd d d s'))
/-- OR.N (R209). -/
def execOrN (d s' : BitVec 5) (s : State) : Result := .next (s.compact .engine (binary valOr d d s'))
/-- XOR.N (R209). -/
def execXorN (d s' : BitVec 5) (s : State) : Result := .next (s.compact .engine (binary valXor d d s'))
/-- SLL.N (R209). -/
def execSllN (d s' : BitVec 5) (s : State) : Result := .next (s.compact .engine (binary valSll d d s'))
/-- SRL.N (R209). -/
def execSrlN (d s' : BitVec 5) (s : State) : Result := .next (s.compact .engine (binary valSrl d d s'))
/-- SRA.N (R209). -/
def execSraN (d s' : BitVec 5) (s : State) : Result := .next (s.compact .engine (binary valSra d d s'))
/-- ADDI.N (R209): the immediate is sign-extended. -/
def execAddiN (d i : BitVec 5) (s : State) : Result :=
  .next (s.compact .engine (unary (fun x => valAdd x (i.signExtend 64)) d d))
/-- LI.N (R209). -/
def execLiN (d i : BitVec 5) (s : State) : Result :=
  .next (s.compact .engine (do checkPorts [d]; writeX d (i.signExtend 64)))
/-- SLLI.N (R209). -/
def execSlliN (d h : BitVec 5) (s : State) : Result :=
  .next (s.compact .engine (unary (fun x => valSll x (h.setWidth 64)) d d))
/-- SRLI.N (R209). -/
def execSrliN (d h : BitVec 5) (s : State) : Result :=
  .next (s.compact .engine (unary (fun x => valSrl x (h.setWidth 64)) d d))
/-- SRAI.N (R209). -/
def execSraiN (d h : BitVec 5) (s : State) : Result :=
  .next (s.compact .engine (unary (fun x => valSra x (h.setWidth 64)) d d))
/-- LD.D.N (R209): with dc0. -/
def execLdDN (d s' : BitVec 5) (s : State) : Result := .next (s.compact .engine (loadInt true d s' 0 8 0))
/-- ST.D.N (R209): with dc0. -/
def execStDN (d s' : BitVec 5) (s : State) : Result := .next (s.compact .engine (storeInt false d s' 0 8 0))
/-- LD.W.N (R209): with dc0. -/
def execLdWN (d s' : BitVec 5) (s : State) : Result := .next (s.compact .engine (loadInt true d s' 0 4 0))
/-- ST.W.N (R209): with dc0. -/
def execStWN (d s' : BitVec 5) (s : State) : Result := .next (s.compact .engine (storeInt false d s' 0 4 0))
/-- VMOV.N (R182, R335): all 256 bits. -/
def execVmovN (d s' : BitVec 5) (s : State) : Result := .next (s.compact .core (do let x ← readV s'; writeV d x))
/-- JR.N (R196, R209). -/
def execJrN (s' : BitVec 5) (s : State) : Result := .next (s.compact .engine (jumpReg 0 s' 0 2))
/-- JALR.N (R196, R209): links pc + 2. -/
def execJalrN (d s' : BitVec 5) (s : State) : Result := .next (s.compact .engine (jumpReg d s' 0 2))
/-- NOP.N (R182). -/
def execNopN (s : State) : Result := .next (s.compact .engine (pure ()))

end Sys2Proof.Machine
end

