-- ==== Sys2Proof/Machine/FloatOps.lean ====
section
/-! DEFINITION. Scalar floating-point instructions: FOP, FMISC and FCMP (R230 to R233). -/

namespace Sys2Proof.Machine

/-- The format of a type code (R165). -/
def fmtOf {n : Nat} (t : BitVec n) : Fmt :=
  match t.toNat with
  | 0 => .f32
  | 1 => .f16
  | _ => .bf16

/-- A format's encoding held in an f register as binary32 (R51). -/
def hold (f : Fmt) (r : Nat) : W32 := BitVec.ofNat 32 (widen f r).1

/-- The binary32 value of an f register. -/
def valF (w : W32) : FVal := Fmt.f32.val w.toNat

/-- R230: a FOP of two sources. -/
def fop (op : Fmt → RM → FVal → FVal → Nat × FFlags) (t : BitVec 3) (d a b : BitVec 4) : M Unit := do
  let x ← readF a
  let y ← readF b
  let rm ← roundingMode
  let (r, fl) := op (fmtOf t) rm (valF x) (valF y)
  writeF d (hold (fmtOf t) r)
  raiseFlags fl

/-- FADD (R230). -/
def execFadd (g : Guard) (d a b : BitVec 4) (t : BitVec 3) (s : State) : Result := .next (s.scalar .core g (fop Fmt.add t d a b))
/-- FSUB (R230). -/
def execFsub (g : Guard) (d a b : BitVec 4) (t : BitVec 3) (s : State) : Result := .next (s.scalar .core g (fop Fmt.sub t d a b))
/-- FMUL (R230). -/
def execFmul (g : Guard) (d a b : BitVec 4) (t : BitVec 3) (s : State) : Result := .next (s.scalar .core g (fop Fmt.mul t d a b))
/-- FDIV (R230). -/
def execFdiv (g : Guard) (d a b : BitVec 4) (t : BitVec 3) (s : State) : Result := .next (s.scalar .core g (fop Fmt.div t d a b))
/-- FMIN (R84, R230). -/
def execFmin (g : Guard) (d a b : BitVec 4) (t : BitVec 3) (s : State) : Result := .next (s.scalar .core g (fop (fun f rm => f.minMax rm false) t d a b))
/-- FMAX (R84, R230). -/
def execFmax (g : Guard) (d a b : BitVec 4) (t : BitVec 3) (s : State) : Result := .next (s.scalar .core g (fop (fun f rm => f.minMax rm true) t d a b))
/-- FSQRT (R230). -/
def execFsqrt (g : Guard) (d a : BitVec 4) (t : BitVec 3) (s : State) : Result :=
  .next (s.scalar .core g (do
    let x ← readF a
    let rm ← roundingMode
    let (r, fl) := (fmtOf t).sqrt rm (valF x)
    writeF d (hold (fmtOf t) r)
    raiseFlags fl))
/-- FFMA (R230): the addend is f[d]. -/
def execFfma (g : Guard) (d a b : BitVec 4) (t : BitVec 3) (s : State) : Result :=
  .next (s.scalar .core g (do
    let x ← readF a
    let y ← readF b
    let z ← readF d
    let rm ← roundingMode
    let (r, fl) := (fmtOf t).fma rm (valF x) (valF y) (valF z)
    writeF d (hold (fmtOf t) r)
    raiseFlags fl))

/-! ### FMISC (R231, R232) -/

/-- FMVXF (R231): the raw bits. -/
def execFmvxf (g : Guard) (d : BitVec 5) (a : BitVec 4) (s : State) : Result :=
  .next (s.scalar .core g (do checkPorts [d]; let x ← readF a; writeX d (x.setWidth 64)))
/-- FMVFX (R231): the raw bits. -/
def execFmvfx (g : Guard) (d : BitVec 4) (a : BitVec 5) (s : State) : Result :=
  .next (s.scalar .core g (do checkPorts [a]; let x ← readX a; writeF d (x.setWidth 32)))
/-- FCVT.F.X (R86, R231). -/
def execFcvtFX (g : Guard) (d : BitVec 4) (a : BitVec 5) (s : State) : Result :=
  .next (s.scalar .core g (do
    checkPorts [a]
    let x ← readX a
    let rm ← roundingMode
    let (r, fl) := Fmt.f32.ofInt rm x.toInt 0 false
    writeF d (BitVec.ofNat 32 r)
    raiseFlags fl))
/-- FCVT.X.F (R86, R231). -/
def execFcvtXF (g : Guard) (d : BitVec 5) (a : BitVec 4) (s : State) : Result :=
  .next (s.scalar .core g (do
    checkPorts [d]
    let x ← readF a
    let rm ← roundingMode
    let (r, fl) := toInt64 rm (valF x)
    writeX d r
    raiseFlags fl))
/-- FKEY (R88, R231). -/
def execFkey (g : Guard) (d : BitVec 5) (a : BitVec 4) (s : State) : Result :=
  .next (s.scalar .core g (do checkPorts [d]; let x ← readF a; writeX d (BitVec.ofNat 64 (Fmt.f32.key x.toNat))))
/-- R232: the class of a binary32. -/
def classOf (w : W32) : Nat :=
  match valF w with
  | .inf true => 0
  | .inf false => 7
  | .zero true => 3
  | .zero false => 4
  | .nan true => 8
  | .nan false => 9
  | .fin neg m _ => if m < 2 ^ 23 then (if neg then 2 else 5) else (if neg then 1 else 6)
/-- FCLASS (R232). -/
def execFclass (g : Guard) (d : BitVec 5) (a : BitVec 4) (s : State) : Result :=
  .next (s.scalar .core g (do checkPorts [d]; let x ← readF a; writeX d (BitVec.ofNat 64 (2 ^ classOf x))))

/-! ### FCMP (R233) -/

/-- R233: when a float condition raises NV. -/
def condInvalid (cond : Nat) (x y : FVal) : Bool :=
  match cond with
  | 1 => x.isNan || y.isNan
  | 2 => x.isNan || y.isNan
  | _ => x.signals || y.signals

/-- FCMP (R193, R233). -/
def execFcmp (g : Guard) (m : BitVec 2) (d : BitVec 3) (a b : BitVec 4) (e c : BitVec 3) (s : State) : Result :=
  .next (s.scalar .core g (do
    let x ← readF a
    let y ← readF b
    writePreds m (floatCond c.toNat (valF x) (valF y)) d e
    raiseFlags (if condInvalid c.toNat (valF x) (valF y) then .invalid else .none)))

end Sys2Proof.Machine
end

