-- ==== Sys2Proof/Machine/NodeIssue.lean ====
section
/-! DEFINITION. Node instructions as they are issued (R290 to R292, R296, R303). -/

namespace Sys2Proof.Machine

/-- R291: the pool base of e6, checked. -/
def poolBase : M Word := do
  let base ← readE 6
  check (base.toNat / 2 ^ 48 = 0x0100) ACCESS base
  aligned base 512
  return base

/-- R290, R291: how a node command travels: ordered at every home, held in a DET launch. -/
def nodeManner (k : BitVec 2) : Manner := ⟨some k, false, false, true, true, false, false⟩

/-- R291: sends a node command and claims its destinations. -/
def sendNode (op : NodeOp) (base a b : Word) (block : List Byte) (d d2 : BitVec 5) (k : BitVec 2) : M Unit := do
  claimX d
  claimX d2
  send (nodeManner k) [⟨base, .node op a b block d d2⟩]

/-- R34, R303: an enabled node instruction closes a region at issue, and one that its Waystation refuses is undone then (log 105). -/
def State.nodeCloses (s : State) : Closing := .node s.nextId

/-- The even register of a pair and its partner (R180). -/
def pairLo (d : BitVec 4) : BitVec 5 := BitVec.ofNat 5 (2 * d.toNat)
def pairHi (d : BitVec 4) : BitVec 5 := BitVec.ofNat 5 (2 * d.toNat + 1)

/-- A node command whose destinations are given and whose b is a source when `useB`. -/
def nodeCommand (op : NodeOp) (d d2 a b : BitVec 5) (useB : Bool) (k : BitVec 2) : M Unit := do
  openGate
  checkPorts (if useB then [a, b, d, d2] else [a, d, d2])
  let x ← readX a
  let y ← if useB then readX b else pure 0
  let base ← poolBase
  sendNode op base x y [] d d2 k

/-- R296: the expansion block that EXPND reads at issue. -/
def expansionBlock (ea : Word) : M (List Byte) := do
  let key ← tcmRange ea 8
  let head ← readLocal key 8
  let w := ofBytes head
  let n := if fieldN w 8 1 = 0 ∧ fieldN w 0 8 ≤ 14 then 8 + 24 * fieldN w 0 8 else 8
  let key ← tcmRange ea n
  aligned ea 8
  readLocal key n

/-- DESC (R294). -/
def execDesc (g : Guard) (d : BitVec 4) (a : BitVec 5) (k : BitVec 2) (s : State) : Result :=
  .next (s.scalar .core g (nodeCommand .desc (pairLo d) (pairHi d) a 0 false k) noPre s.nodeCloses)
/-- BKUP (R295). -/
def execBkup (g : Guard) (d a b : BitVec 5) (k : BitVec 2) (s : State) : Result :=
  .next (s.scalar .core g (nodeCommand .bkup d 0 a b true k) noPre s.nodeCloses)
/-- UNMK (R295). -/
def execUnmk (g : Guard) (d a b : BitVec 5) (k : BitVec 2) (s : State) : Result :=
  .next (s.scalar .core g (nodeCommand .unmk d 0 a b true k) noPre s.nodeCloses)
/-- EXPND (R283, R296, R297): the block is read at issue, then the release waits. -/
def execExpnd (g : Guard) (d a b : BitVec 5) (k : BitVec 2) (s : State) : Result :=
  .next (s.scalar .core g (do
    let before ← focus
    openGate
    checkPorts [a, b, d]
    let x ← readX a
    let y ← readX b
    let base ← poolBase
    let block ← copied (expansionBlock y)
    releaseAfter before block
    sendNode .expnd base x y block d 0 k) noPre s.nodeCloses)
/-- NALLOC (R292, R298): b is its second destination. -/
def execNalloc (g : Guard) (d a b : BitVec 5) (k : BitVec 2) (s : State) : Result :=
  .next (s.scalar .core g (nodeCommand .nalloc d b a 0 false k) noPre s.nodeCloses)
/-- RCYC (R299). -/
def execRcyc (g : Guard) (d a : BitVec 5) (k : BitVec 2) (s : State) : Result :=
  .next (s.scalar .core g (nodeCommand .rcyc d 0 a 0 false k) noPre s.nodeCloses)
/-- NSTAT (R300). -/
def execNstat (g : Guard) (d : BitVec 4) (a : BitVec 5) (k : BitVec 2) (s : State) : Result :=
  .next (s.scalar .core g (nodeCommand .nstat (pairLo d) (pairHi d) a 0 false k) noPre s.nodeCloses)
/-- NINIT (R301). -/
def execNinit (g : Guard) (d a : BitVec 5) (k : BitVec 2) (s : State) : Result :=
  .next (s.scalar .core g (nodeCommand .ninit d 0 a 0 false k) noPre s.nodeCloses)

end Sys2Proof.Machine
end

