-- ==== Sys2Proof/Machine/Predicate.lean ====
section
/-! DEFINITION. Scalar compares and predicate logic (R192 to R194). -/

namespace Sys2Proof.Machine

/-- CMP (R192, R193). -/
def execCmp (g : Guard) (m : BitVec 2) (d : BitVec 3) (a b : BitVec 5) (e c : BitVec 3) (s : State) : Result :=
  .next (s.scalar .engine g (do
    checkPorts [a, b]
    let x ← readX a
    let y ← readX b
    writePreds m (intCond c x y) d e))

/-- CMPI (R192, R193): y is the signed 5-bit immediate. -/
def execCmpi (g : Guard) (m : BitVec 2) (d : BitVec 3) (a i : BitVec 5) (e c : BitVec 3) (s : State) : Result :=
  .next (s.scalar .engine g (do
    checkPorts [a]
    let x ← readX a
    writePreds m (intCond c x (i.signExtend 64)) d e))

/-- R194: a predicate operation of two sources. -/
def plog2 (f : W32 → W32 → W32) (d a b : BitVec 3) : M Unit := do writeP d (f (← readP a) (← readP b))

/-- R194: a predicate operation of one source. -/
def plog1 (f : W32 → W32) (d a : BitVec 3) : M Unit := do writeP d (f (← readP a))

/-- PAND (R194). -/
def execPand (g : Guard) (d a b : BitVec 3) (s : State) : Result := .next (s.scalar .engine g (plog2 (fun x y => x &&& y) d a b))
/-- POR (R194). -/
def execPor (g : Guard) (d a b : BitVec 3) (s : State) : Result := .next (s.scalar .engine g (plog2 (fun x y => x ||| y) d a b))
/-- PXOR (R194). -/
def execPxor (g : Guard) (d a b : BitVec 3) (s : State) : Result := .next (s.scalar .engine g (plog2 (fun x y => x ^^^ y) d a b))
/-- PANDN (R194). -/
def execPandn (g : Guard) (d a b : BitVec 3) (s : State) : Result := .next (s.scalar .engine g (plog2 (fun x y => x &&& ~~~ y) d a b))
/-- PORN (R194). -/
def execPorn (g : Guard) (d a b : BitVec 3) (s : State) : Result := .next (s.scalar .engine g (plog2 (fun x y => x ||| ~~~ y) d a b))
/-- PNOT (R194). -/
def execPnot (g : Guard) (d a : BitVec 3) (s : State) : Result := .next (s.scalar .engine g (plog1 (fun x => ~~~ x) d a))
/-- PFIRST (R194): the lowest set bit alone. -/
def execPfirst (g : Guard) (d a : BitVec 3) (s : State) : Result := .next (s.scalar .engine g (plog1 (fun x => x &&& -x) d a))
/-- PFROMX (R194). -/
def execPfromx (g : Guard) (d : BitVec 3) (a : BitVec 5) (s : State) : Result :=
  .next (s.scalar .engine g (do checkPorts [a]; let x ← readX a; writeP d (x.setWidth 32)))
/-- PTOX (R194); not for engines (R335). -/
def execPtox (g : Guard) (d : BitVec 5) (a : BitVec 3) (s : State) : Result :=
  .next (s.scalar .core g (do checkPorts [d]; writeX d ((← readP a).setWidth 64)))
/-- PCNT (R194); not for engines (R335). -/
def execPcnt (g : Guard) (d : BitVec 5) (a : BitVec 3) (s : State) : Result :=
  .next (s.scalar .core g (do checkPorts [d]; writeX d (BitVec.ofNat 64 (popCount 32 (← readP a).toNat))))

end Sys2Proof.Machine
end

