-- ==== Sys2Proof/Machine/Troupe.lean ====
section
/-! DEFINITION. Troupes: TRP.FORM, TRP.SPLIT, TRP.POS, TRP.WIDTH and the events that form a troupe or time a forming out
(R18 to R24, R206 to R208). -/

namespace Sys2Proof.Machine

/-- A run of members: the launch, the grid row, the first grid column, width and skew (R18). -/
structure Run where
  lid : Nat
  grow : Nat
  gcol : Nat
  width : Nat
  skew : Nat
  deriving DecidableEq, Repr

/-- Two runs share a core. -/
def Run.meets (a b : Run) : Bool :=
  decide (a.lid = b.lid) && decide (a.grow = b.grow) && decide (a.gcol < b.gcol + b.width) && decide (b.gcol < a.gcol + a.width)

/-- R18: the run of a core for a width, counted from the domain's west edge. -/
def runOf (l : Launch) (c : CoreId) (w sk : Nat) : Run :=
  let west := 4 * l.ccol
  ⟨l.info.lid, c.grow, west + w * ((c.gcol - west) / w), w, sk⟩

/-- R19: the run stays in its die and its domain. -/
def Run.fits (r : Run) (l : Launch) : Bool :=
  decide (r.gcol + r.width ≤ 4 * (l.ccol + l.info.dw)) && decide (r.gcol / 64 = (r.gcol + r.width - 1) / 64)

/-- The run of a thread that waits in TRP.FORM. -/
def State.waitingRun (s : State) (t : Thread) : Option Run :=
  match t.wait, s.launchOf t, t.id.core? with
  | some (.form w sk, _), some l, some c => if t.stage = .active then some (runOf l c w sk) else none
  | _, _, _ => none

/-- R18, R19, R206: width and skew of a TRP.FORM with the traps that its own operands decide. -/
def formArgs (a b : BitVec 5) : M Run := do
  checkPorts [a, b]
  let w ← readX a
  let k ← readX b
  let s ← get
  let t := s.focus
  check t.troupe.isNone ILLEGAL
  check (1 ≤ w.toNat && w.toNat ≤ 64 && k.toNat ≤ 4) ILLEGAL
  match s.launchOf t, t.id.core? with
  | some l, some c => do
    let r := runOf l c w.toNat (if k = 0 then 2 else k.toNat)
    check (r.fits l) ILLEGAL
    return r
  | _, _ => trap ILLEGAL

/-- R19: waiting threads whose run shares a core with this run under another width or skew. -/
def State.conflicts (s : State) (r : Run) (self : HartId) : List HartId :=
  (s.harts.filter fun t => decide (t.id ≠ self) &&
    (match s.waitingRun t with
     | some q => q.meets r && !(decide (q.width = r.width) && decide (q.skew = r.skew))
     | none => false)).map (·.id)

/-- R19: another thread of the core waits in TRP.FORM or belongs to a troupe, a saved member too (log 140). -/
def State.coreTaken (s : State) (t : Thread) : Bool :=
  s.harts.any fun u => decide (u.id.core? = t.id.core?) && decide (u.id ≠ t.id) && (u.troupe.isSome || (s.waitingRun u).isSome)

/-- The run of an enabled TRP.FORM that passes its own checks and whose core is free to join: a thread whose core is taken by
another one waits, whatever the other's width and skew (log 107). -/
def State.formRun (s : State) (g : Guard) (a b : BitVec 5) : Option Run :=
  if bit (s.focus.guard g) 0 && Avail.core.allows s.focus.id && !s.coreTaken s.focus then
    match formArgs a b s with
    | .ok r _ => some r
    | .error _ _ => none
  else none

/-- TRP.FORM (R18, R19, R206): the thread waits until its run is complete. When its run conflicts with waiting ones, it
and they trap with ILLEGAL. While its core has another waiting thread or a member it stalls, and conflicts are looked for
once the core is free (log 107). -/
def execTrpForm (g : Guard) (a b : BitVec 5) (s : State) : Result :=
  let hs := match s.formRun g a b with
    | some r => s.conflicts r s.focus.id
    | none => []
  .next (if hs.isEmpty then
      s.scalar .core g (do
        let r ← formArgs a b
        let s ← get
        await (!s.coreTaken s.focus) .formBlocked
        waitFor (.form r.width r.skew))
    else (hs.foldl (fun s h => s.onHart h fun s => s.raise ILLEGAL 0) s).raise ILLEGAL 0)

/-- R24, R207: members that have passed the slot leave at once, the others after it. -/
def splitTroupe : M Unit := do
  let s ← get
  let t := s.focus
  match t.troupe, s.troupeOf t with
  | some i, some tr => do
    let s := { s with troupes := insertKey i { tr with splitAt := some t.slotNo } s.troupes }
    let passed := s.harts.filter fun u => decide (u.troupe = some i) && decide (t.slotNo < u.slotNo)
    set (passed.foldl (fun s u => s.splitOff u.id) s)
  | _, _ => pure ()

/-- TRP.SPLIT (R24, R207). -/
def execTrpSplit (g : Guard) (s : State) : Result := .next (s.scalar .core g splitTroupe)

/-- TRP.POS (R208). -/
def execTrpPos (g : Guard) (d : BitVec 5) (s : State) : Result :=
  .next (s.scalar .core g (do
    checkPorts [d]
    let s ← get
    writeX d (BitVec.ofNat 64 (fieldN (s.trinfo s.focus).toNat 0 7))))

/-- TRP.WIDTH (R208). -/
def execTrpWidth (g : Guard) (d : BitVec 5) (s : State) : Result :=
  .next (s.scalar .core g (do
    checkPorts [d]
    let s ← get
    writeX d (BitVec.ofNat 64 (fieldN (s.trinfo s.focus).toNat 8 7))))

/-- The thread that waits in TRP.FORM on each core of a run, west to east; none when one is missing. -/
def State.runHarts (s : State) (r : Run) : (k n : Nat) → Option (List HartId)
  | _, 0 => some []
  | k, n + 1 =>
    match s.harts.find? fun t => decide (t.id.core? = some (coreAt r.grow (r.gcol + k))) && decide (s.waitingRun t = some r) with
    | some t => (s.runHarts r (k + 1) n).map fun hs => t.id :: hs
    | none => none

/-- A member's TRP.FORM completes: its operands are taken, it retires and joins at its position. -/
def joinTroupe (i : Nat) (s : State) (h : HartId) (k : Nat) : State :=
  s.onHart h fun s =>
    let s' := match decode32 s.focus.iword with
      | some (.trpForm _ a b) => match formArgs a b s with | .ok _ s' => s' | .error _ _ => s
      | _ => s
    let s' := (s'.mapFocus fun t => { t with npc := t.pc + 4 }).retire { s.focus with troupe := none } 4 .no false
    s'.mapFocus fun t => { t with troupe := some i, tpos := k, slotNo := 0, entrySlot := 0, marks := t.marks.map Mark.outside, deaf := false }

/-- TROUPE_FORMED (R18, R206): when every member of a run waits in TRP.FORM, the troupe forms. -/
def execTroupeFormed (h : HartId) (s : State) : Result :=
  .next (match s.waitingRun (s.hart h) with
    | some r =>
      match s.runHarts r 0 r.width with
      | some hs =>
        let i := s.nextId
        let c := coreAt r.grow r.gcol
        let tr : Troupe := ⟨c.die, c.row, c.col, r.width, r.skew, hs.map some, [], none, none, []⟩
        let s := hs.zipIdx.foldl (fun s (h, k) => joinTroupe i s h k) s
        { s with nextId := i + 1, troupes := insertKey i tr s.troupes }
      | none => s
    | none => s)

/-- Since when a hart waits in TRP.FORM, with its core free or not (R19, log 107). -/
def Thread.formingSince (t : Thread) : Option Nat :=
  match t.wait with
  | some (.form _ _, since) => some since
  | some (.formBlocked, since) => some since
  | _ => none

/-- TRP_FORM_TIMEOUT (R19): a wait in TRP.FORM longer than the port-wait limit traps. -/
def execTrpFormTimeout (h : HartId) (s : State) : Result :=
  .next (match (s.hart h).formingSince with
    | some since =>
      if s.waitedOut since ∧ (s.hart h).stage = .active then s.onHart h fun s => s.raise PORT_TIMEOUT 0 else s
    | none => s)

/-- THREAD_SWITCH_QUANTUM (R16): after 256 consecutive issues with another thread ready, the core switches. -/
def execThreadSwitchQuantum (core : CoreId) (s : State) : Result :=
  .next (match lookup? core s.streaks with
    | some (h, n) =>
      if 256 ≤ n then
        match s.nextReady core h with
        | some id =>
          let s := { s with streaks := insertKey core (id.set, 0) s.streaks }
          if s.focus.id = .thread core h then s.focusOn id else s
        | none => s
      else s
    | none => s)

end Sys2Proof.Machine
end

