-- ==== Sys2Proof/Machine/Vector.lean ====
section
/-! DEFINITION. Vector instructions on registers: VINT, VFLT, VCMP, VFCMP and VMISC (R234 to R237, R241 to R244). -/

namespace Sys2Proof.Machine

/-- Lane width of an integer type: i8, i16, i32 (R52). -/
def intWidth (t : BitVec 2) : Nat := 8 * 2 ^ t.toNat
/-- Lane count of an integer type. -/
def intLanes (t : BitVec 2) : Nat := 32 / 2 ^ t.toNat
/-- Lane count of a float type. -/
def fltLanes (t : BitVec 2) : Nat := if t = 0 then 8 else 16

/-- Replaces the enabled lanes of width w among the first n (R53, R234). -/
def mapLanes (w n : Nat) (mask : W32) (old : VReg) (f : Nat → BitVec w) : VReg :=
  (List.range n).foldl (fun v i => if bit mask i then setLane w v i (f i) else v) old

/-- As mapLanes, with the union of the enabled lanes' flags (R82). -/
def mapLanesF (w n : Nat) (mask : W32) (old : VReg) (f : Nat → Nat × FFlags) : VReg × FFlags :=
  (mapLanes w n mask old fun i => BitVec.ofNat w (f i).1,
   (List.range n).foldl (fun fl i => if bit mask i then fl.or (f i).2 else fl) .none)

/-! ### VINT (R235) -/

/-- A signed number clamped to w bits. -/
def clamp (w : Nat) (z : Int) : BitVec w := BitVec.ofInt w (max (-(2 ^ (w - 1))) (min (2 ^ (w - 1) - 1) z))

/-- VADD in one lane (R235). -/
def laneAdd (w : Nat) (a b : BitVec w) : BitVec w := a + b
/-- VSUB in one lane (R235). -/
def laneSub (w : Nat) (a b : BitVec w) : BitVec w := a - b
/-- VMUL in one lane (R235). -/
def laneMul (w : Nat) (a b : BitVec w) : BitVec w := a * b
/-- VMIN in one lane (R235). -/
def laneMin (w : Nat) (a b : BitVec w) : BitVec w := if a.slt b then a else b
/-- VMAX in one lane (R235). -/
def laneMax (w : Nat) (a b : BitVec w) : BitVec w := if a.slt b then b else a
/-- VMINU in one lane (R235). -/
def laneMinu (w : Nat) (a b : BitVec w) : BitVec w := if a.ult b then a else b
/-- VMAXU in one lane (R235). -/
def laneMaxu (w : Nat) (a b : BitVec w) : BitVec w := if a.ult b then b else a
/-- VAND in one lane (R235). -/
def laneAnd (w : Nat) (a b : BitVec w) : BitVec w := a &&& b
/-- VOR in one lane (R235). -/
def laneOr (w : Nat) (a b : BitVec w) : BitVec w := a ||| b
/-- VXOR in one lane (R235). -/
def laneXor (w : Nat) (a b : BitVec w) : BitVec w := a ^^^ b
/-- VSLL in one lane (R235). -/
def laneSll (w : Nat) (a b : BitVec w) : BitVec w := a <<< (b.toNat % w)
/-- VSRL in one lane (R235). -/
def laneSrl (w : Nat) (a b : BitVec w) : BitVec w := a >>> (b.toNat % w)
/-- VSRA in one lane (R235). -/
def laneSra (w : Nat) (a b : BitVec w) : BitVec w := a.sshiftRight (b.toNat % w)
/-- VADDS in one lane (R235). -/
def laneAdds (w : Nat) (a b : BitVec w) : BitVec w := clamp w (a.toInt + b.toInt)
/-- VSUBS in one lane (R235). -/
def laneSubs (w : Nat) (a b : BitVec w) : BitVec w := clamp w (a.toInt - b.toInt)
/-- VABS in one lane (R235): the most negative value gives itself. -/
def laneAbs (w : Nat) (a : BitVec w) : BitVec w := if a.msb then -a else a

/-- R235: a VINT of two sources. -/
def vint2 (op : (w : Nat) → BitVec w → BitVec w → BitVec w) (t : BitVec 2) (d a b : BitVec 5) (mask : W32) : M Unit := do
  let x ← readV a
  let y ← readV b
  let old ← readV d
  let w := intWidth t
  writeV d (mapLanes w (intLanes t) mask old fun i => op w (lane w x i) (lane w y i))

/-- VADD (R235). -/
def execVadd (g : Guard) (d a b : BitVec 5) (t : BitVec 2) (s : State) : Result := .next (s.vector g (intLanes t) (vint2 laneAdd t d a b))
/-- VSUB (R235). -/
def execVsub (g : Guard) (d a b : BitVec 5) (t : BitVec 2) (s : State) : Result := .next (s.vector g (intLanes t) (vint2 laneSub t d a b))
/-- VMUL (R235). -/
def execVmul (g : Guard) (d a b : BitVec 5) (t : BitVec 2) (s : State) : Result := .next (s.vector g (intLanes t) (vint2 laneMul t d a b))
/-- VMIN (R235). -/
def execVmin (g : Guard) (d a b : BitVec 5) (t : BitVec 2) (s : State) : Result := .next (s.vector g (intLanes t) (vint2 laneMin t d a b))
/-- VMAX (R235). -/
def execVmax (g : Guard) (d a b : BitVec 5) (t : BitVec 2) (s : State) : Result := .next (s.vector g (intLanes t) (vint2 laneMax t d a b))
/-- VMINU (R235). -/
def execVminu (g : Guard) (d a b : BitVec 5) (t : BitVec 2) (s : State) : Result := .next (s.vector g (intLanes t) (vint2 laneMinu t d a b))
/-- VMAXU (R235). -/
def execVmaxu (g : Guard) (d a b : BitVec 5) (t : BitVec 2) (s : State) : Result := .next (s.vector g (intLanes t) (vint2 laneMaxu t d a b))
/-- VAND (R235). -/
def execVand (g : Guard) (d a b : BitVec 5) (t : BitVec 2) (s : State) : Result := .next (s.vector g (intLanes t) (vint2 laneAnd t d a b))
/-- VOR (R235). -/
def execVor (g : Guard) (d a b : BitVec 5) (t : BitVec 2) (s : State) : Result := .next (s.vector g (intLanes t) (vint2 laneOr t d a b))
/-- VXOR (R235). -/
def execVxor (g : Guard) (d a b : BitVec 5) (t : BitVec 2) (s : State) : Result := .next (s.vector g (intLanes t) (vint2 laneXor t d a b))
/-- VSLL (R235). -/
def execVsll (g : Guard) (d a b : BitVec 5) (t : BitVec 2) (s : State) : Result := .next (s.vector g (intLanes t) (vint2 laneSll t d a b))
/-- VSRL (R235). -/
def execVsrl (g : Guard) (d a b : BitVec 5) (t : BitVec 2) (s : State) : Result := .next (s.vector g (intLanes t) (vint2 laneSrl t d a b))
/-- VSRA (R235). -/
def execVsra (g : Guard) (d a b : BitVec 5) (t : BitVec 2) (s : State) : Result := .next (s.vector g (intLanes t) (vint2 laneSra t d a b))
/-- VADDS (R235). -/
def execVadds (g : Guard) (d a b : BitVec 5) (t : BitVec 2) (s : State) : Result := .next (s.vector g (intLanes t) (vint2 laneAdds t d a b))
/-- VSUBS (R235). -/
def execVsubs (g : Guard) (d a b : BitVec 5) (t : BitVec 2) (s : State) : Result := .next (s.vector g (intLanes t) (vint2 laneSubs t d a b))
/-- VABS (R235). -/
def execVabs (g : Guard) (d a : BitVec 5) (t : BitVec 2) (s : State) : Result :=
  .next (s.vector g (intLanes t) (vint2 (fun w x _ => laneAbs w x) t d a a))

/-! ### VFLT (R236) -/

/-- R236: a VFLT; the lane operation gets the format, the rounding mode and the encodings of a, b and d. -/
def vflt (op : Fmt → RM → FVal → FVal → FVal → Nat × FFlags) (t : BitVec 2) (d a b : BitVec 5) (mask : W32) : M Unit := do
  let x ← readV a
  let y ← readV b
  let old ← readV d
  let rm ← roundingMode
  let f := fmtOf t
  let w := f.width
  let at' (v : VReg) (i : Nat) : FVal := f.val (lane w v i).toNat
  let (r, fl) := mapLanesF w (fltLanes t) mask old fun i => op f rm (at' x i) (at' y i) (at' old i)
  writeV d r
  raiseFlags fl

/-- VFADD (R236). -/
def execVfadd (g : Guard) (d a b : BitVec 5) (t : BitVec 2) (s : State) : Result :=
  .next (s.vector g (fltLanes t) (vflt (fun f rm x y _ => f.add rm x y) t d a b))
/-- VFSUB (R236). -/
def execVfsub (g : Guard) (d a b : BitVec 5) (t : BitVec 2) (s : State) : Result :=
  .next (s.vector g (fltLanes t) (vflt (fun f rm x y _ => f.sub rm x y) t d a b))
/-- VFMUL (R236). -/
def execVfmul (g : Guard) (d a b : BitVec 5) (t : BitVec 2) (s : State) : Result :=
  .next (s.vector g (fltLanes t) (vflt (fun f rm x y _ => f.mul rm x y) t d a b))
/-- VFMIN (R236). -/
def execVfmin (g : Guard) (d a b : BitVec 5) (t : BitVec 2) (s : State) : Result :=
  .next (s.vector g (fltLanes t) (vflt (fun f rm x y _ => f.minMax rm false x y) t d a b))
/-- VFMAX (R236). -/
def execVfmax (g : Guard) (d a b : BitVec 5) (t : BitVec 2) (s : State) : Result :=
  .next (s.vector g (fltLanes t) (vflt (fun f rm x y _ => f.minMax rm true x y) t d a b))
/-- VFFMA (R236). -/
def execVffma (g : Guard) (d a b : BitVec 5) (t : BitVec 2) (s : State) : Result :=
  .next (s.vector g (fltLanes t) (vflt (fun f rm x y z => f.fma rm x y z) t d a b))
/-- VFDIV (R236). -/
def execVfdiv (g : Guard) (d a b : BitVec 5) (t : BitVec 2) (s : State) : Result :=
  .next (s.vector g (fltLanes t) (vflt (fun f rm x y _ => f.div rm x y) t d a b))
/-- VFSQRT (R236). -/
def execVfsqrt (g : Guard) (d a : BitVec 5) (t : BitVec 2) (s : State) : Result :=
  .next (s.vector g (fltLanes t) (vflt (fun f rm x _ _ => f.sqrt rm x) t d a a))
/-- VFABS (R236). -/
def execVfabs (g : Guard) (d a : BitVec 5) (t : BitVec 2) (s : State) : Result :=
  .next (s.vector g (fltLanes t) (vflt (fun f rm x _ _ => f.ofVal rm (if x.neg? then x.negate else x)) t d a a))
/-- VFNEG (R236). -/
def execVfneg (g : Guard) (d a : BitVec 5) (t : BitVec 2) (s : State) : Result :=
  .next (s.vector g (fltLanes t) (vflt (fun f rm x _ _ => f.ofVal rm x.negate) t d a a))

/-! ### Vector compares (R237) -/

/-- R237: writes the enabled bits of pd and their complements in pe; register 0 is no destination. -/
def writeLaneBits (n : Nat) (mask : W32) (d e : BitVec 3) (c : Nat → Bool) : M Unit := do
  let pd ← readP d
  let pe ← readP e
  writeP d ((List.range n).foldl (fun p i => if bit mask i then setBit p i (c i) else p) pd)
  writeP e ((List.range n).foldl (fun p i => if bit mask i then setBit p i (!c i) else p) pe)

/-- VCMP (R192, R237). -/
def execVcmp (g : Guard) (t : BitVec 2) (d : BitVec 3) (a b : BitVec 5) (e c : BitVec 3) (s : State) : Result :=
  .next (s.vector g (intLanes t) fun mask => do
    let x ← readV a
    let y ← readV b
    let w := intWidth t
    writeLaneBits (intLanes t) mask d e fun i => intCond c (lane w x i) (lane w y i))

/-- VFCMP (R233, R237). -/
def execVfcmp (g : Guard) (t : BitVec 2) (d : BitVec 3) (a b : BitVec 5) (e c : BitVec 3) (s : State) : Result :=
  .next (s.vector g (fltLanes t) fun mask => do
    let x ← readV a
    let y ← readV b
    let f := fmtOf t
    let w := f.width
    let at' (v : VReg) (i : Nat) : FVal := f.val (lane w v i).toNat
    writeLaneBits (fltLanes t) mask d e fun i => floatCond c.toNat (at' x i) (at' y i)
    let nv := (List.range (fltLanes t)).any fun i => bit mask i && condInvalid c.toNat (at' x i) (at' y i)
    raiseFlags (if nv then .invalid else .none))

/-! ### VMISC (R241 to R244) -/

/-- VBCAST (R241): x[a] is read once. -/
def execVbcast (g : Guard) (d a : BitVec 5) (t : BitVec 2) (s : State) : Result :=
  .next (s.vector g (intLanes t) fun mask => do
    checkPorts [a]
    let x ← readX a
    let old ← readV d
    let w := intWidth t
    writeV d (mapLanes w (intLanes t) mask old fun _ => x.setWidth w))

/-- VBCASTF (R213, R241). -/
def execVbcastf (g : Guard) (d : BitVec 5) (a : BitVec 4) (t : BitVec 2) (s : State) : Result :=
  .next (s.vector g (fltLanes t) fun mask => do
    let x ← readF a
    let old ← readV d
    let rm ← roundingMode
    let f := fmtOf t
    let (r, fl) := if t = 0 then (x.toNat, FFlags.none) else convert .f32 f rm x.toNat
    writeV d (mapLanes f.width (fltLanes t) mask old fun _ => BitVec.ofNat f.width r)
    raiseFlags fl)

/-- VEXT (R242): one selected lane, sign-extended; x[d] is pushed, and its port must be there, only when the lane is enabled. -/
def execVext (g : Guard) (d a b : BitVec 5) (t : BitVec 2) (s : State) : Result :=
  .next (s.vector g (intLanes t) fun mask => do
    checkPorts [b]
    let v ← readV a
    let k ← readX b
    let l := k.toNat % intLanes t
    if bit mask l then do
      checkPorts [d]
      writeX d ((lane (intWidth t) v l).signExtend 64))

/-- VINS (R242): x[b] is read before x[a], which only an enabled lane reads. -/
def execVins (g : Guard) (d a b : BitVec 5) (t : BitVec 2) (s : State) : Result :=
  .next (s.vector g (intLanes t) fun mask => do
    checkPorts [b]
    let k ← readX b
    let l := k.toNat % intLanes t
    if bit mask l then do
      checkPorts [a]
      let x ← readX a
      let old ← readV d
      writeV d (setLane (intWidth t) old l (x.setWidth (intWidth t))))

/-- VPERM (R241). -/
def execVperm (g : Guard) (d a b : BitVec 5) (t : BitVec 2) (s : State) : Result :=
  .next (s.vector g (intLanes t) (fun mask => do
    let x ← readV a
    let y ← readV b
    let old ← readV d
    let w := intWidth t
    writeV d (mapLanes w (intLanes t) mask old fun i => lane w x ((lane w y i).toNat % intLanes t))))

/-- R243: the reduction of the enabled lanes in ascending order. -/
def reduceLanes (f : Fmt) (rm : RM) (op : FVal → FVal → Nat × FFlags) : List Nat → Nat × FFlags
  | [] => (0, .none)
  | x :: r =>
    let start := f.ofVal rm (f.val x)
    if r.isEmpty then start
    else r.foldl (fun (acc : Nat × FFlags) y =>
      let (z, fl) := op (f.val acc.1) (f.val y)
      (z, acc.2.or fl)) (x, .none)

/-- R85, R243: VREDADD and VREDMAX. -/
def vred (op : Fmt → RM → FVal → FVal → Nat × FFlags) (t : BitVec 2) (d : BitVec 4) (a : BitVec 5) (mask : W32) : M Unit := do
  let x ← readV a
  let rm ← roundingMode
  let f := fmtOf t
  let lanes := ((List.range (fltLanes t)).filter fun i => bit mask i).map fun i => (lane f.width x i).toNat
  let (r, fl) := reduceLanes f rm (op f rm) lanes
  writeF d (hold f r)
  raiseFlags fl

/-- VREDADD (R243). -/
def execVredadd (g : Guard) (d : BitVec 4) (a : BitVec 5) (t : BitVec 2) (s : State) : Result :=
  .next (s.vector g (fltLanes t) (vred Fmt.add t d a))
/-- VREDMAX (R243). -/
def execVredmax (g : Guard) (d : BitVec 4) (a : BitVec 5) (t : BitVec 2) (s : State) : Result :=
  .next (s.vector g (fltLanes t) (vred (fun f rm => f.minMax rm true) t d a))

/-- VCVT (R244): from the source type t to the target type u. -/
def execVcvt (g : Guard) (d a : BitVec 5) (u t : BitVec 2) (s : State) : Result :=
  let n := min (fltLanes t) (fltLanes u)
  .next (s.vector g n fun mask => do
    let x ← readV a
    let old ← readV d
    let rm ← roundingMode
    let src := fmtOf t
    let dst := fmtOf u
    let (r, fl) := mapLanesF dst.width n mask old fun i => convert src dst rm (lane src.width x i).toNat
    writeV d r
    raiseFlags fl)

/-- VKEY (R88, R241). -/
def execVkey (g : Guard) (d a : BitVec 5) (t : BitVec 2) (s : State) : Result :=
  .next (s.vector g (fltLanes t) (fun mask => do
    let x ← readV a
    let old ← readV d
    let f := fmtOf t
    writeV d (mapLanes f.width (fltLanes t) mask old fun i => BitVec.ofNat f.width (f.key (lane f.width x i).toNat))))

/-- VMOV (R241). -/
def execVmov (g : Guard) (d a : BitVec 5) (t : BitVec 2) (s : State) : Result :=
  .next (s.vector g (intLanes t) (fun mask => do
    let x ← readV a
    let old ← readV d
    writeV d (mapLanes (intWidth t) (intLanes t) mask old fun i => lane (intWidth t) x i)))

/-- VZERO (R241). -/
def execVzero (g : Guard) (d : BitVec 5) (t : BitVec 2) (s : State) : Result :=
  .next (s.vector g (intLanes t) (fun mask => do
    let old ← readV d
    writeV d (mapLanes (intWidth t) (intLanes t) mask old fun _ => 0)))

/-- VIOTA (R241). -/
def execViota (g : Guard) (d : BitVec 5) (t : BitVec 2) (s : State) : Result :=
  .next (s.vector g (intLanes t) (fun mask => do
    let old ← readV d
    writeV d (mapLanes (intWidth t) (intLanes t) mask old fun i => BitVec.ofNat (intWidth t) i)))

end Sys2Proof.Machine
end

