-- ==== Sys2Proof/Machine/VectorMem.lean ====
section
/-! DEFINITION. Vector loads and stores (R55, R238 to R240). -/

namespace Sys2Proof.Machine

/-- Bytes of an element under the stride descriptor of e1 (R55). -/
def elemSize (mode : BitVec 1) (e1 : Word) : Nat := if mode = 0 then 1 else 2 ^ fieldN e1.toNat 62 2

/-- R238: the elements of a vector access that the mask enables: lane number and address. -/
def elements (mode : BitVec 1) (ea e1 : Word) (mask : W32) : List (Nat × Word) :=
  let n := elemSize mode e1
  let stride : Word := if mode = 0 then 1 else sext 48 e1.toNat
  ((List.range (32 / n)).filter fun j => bit mask j).map fun j => (j, ea + BitVec.ofNat 64 j * stride)

/-- R91, R105, R238: the region of every enabled element is checked, then its alignment. -/
def checkElements (mode : BitVec 1) (ea : Word) (n : Nat) (write : Bool) (es : List (Nat × Word)) : M Unit := do
  es.forM fun (_, a) => do let _ ← placeRange a n write; pure ()
  if mode = 0 then aligned ea 32 else es.forM fun (_, a) => aligned a n

/-- The local key of an element, if its home is local. -/
def State.localElem (s : State) (a : Word) : Option Nat :=
  match placeOf s.focus.id (s.launchOf s.focus) a with
  | .loc key => some key
  | _ => none

/-- R106: elements of a strided access by 64-byte blocks, in ascending element order of their first element. -/
def groupBlocks (es : List (Nat × Word)) : List (List (Nat × Word)) :=
  es.foldl (fun gs e =>
    let same (g : List (Nat × Word)) : Bool := g.any fun q => decide (q.2.toNat / 64 = e.2.toNat / 64)
    if gs.any same then gs.map fun g => if same g then g ++ [e] else g else gs ++ [[e]]) []

/-- The requests' element groups: one for mode 00, one per block for mode 01 (R106). -/
def requestGroups (mode : BitVec 1) (es : List (Nat × Word)) : List (List (Nat × Word)) :=
  if mode = 0 then (if es.isEmpty then [] else [es]) else groupBlocks es

/-- The lowest address of a group. -/
def groupBase (g : List (Nat × Word)) : Word := BitVec.ofNat 64 (g.foldl (fun m e => min m e.2.toNat) (2 ^ 64))

/-- The byte offsets of a group's elements from its base, with their places in the register image. -/
def groupBytes (n : Nat) (g : List (Nat × Word)) : List (Nat × Nat) :=
  g.flatMap fun e => (List.range n).map fun k => (e.2.toNat - (groupBase g).toNat + k, e.1 * n + k)

/-- R239: a remote vector load's request for a group. -/
def loadAsk (d : BitVec 5) (n : Nat) (g : List (Nat × Word)) : Ask :=
  ⟨groupBase g, .loadAt ((groupBytes n g).map (·.1)) (.v d ((groupBytes n g).map (·.2)))⟩

/-- R240: a vector store's request for a group: of overlapping elements the higher one's bytes remain. -/
def storeAsk (v : VReg) (n : Nat) (g : List (Nat × Word)) : Ask :=
  let bs := groupBytes n g
  let len := bs.foldl (fun m b => max m (b.1 + 1)) 0
  ⟨groupBase g, .store ((List.range len).map fun o =>
    bs.foldl (fun acc b => if b.1 = o then some ((vBytes v).getD b.2 0) else acc) none)⟩

/-- R239: a local vector load reads its elements in ascending order. -/
def loadElements (n : Nat) : List Nat → M (List Byte)
  | [] => pure []
  | key :: r => do
    let bs ← readLocal key n
    let more ← loadElements n r
    return bs ++ more

/-- R240: a local vector store writes its elements in ascending order. -/
def storeElements (n : Nat) (v : VReg) : List (Nat × Nat) → M Unit
  | [] => pure ()
  | (j, key) :: r => do
    writeLocal key ((List.range n).map fun k => some ((vBytes v).getD (j * n + k) 0))
    storeElements n v r

/-- R101: two scratchpad words lie in one bank; TCM has none (log 117). -/
def bankClash (k k' : Nat) : Bool :=
  let pad (k : Nat) : Bool := decide (2 ^ 48 ≤ k ∧ k < 2 ^ 49)
  pad k && pad k' && decide (k / 8 ≠ k' / 8) && decide (k / 8 % 64 = k' / 8 % 64)

/-- R101: how many elements, from the first, one cycle performs: no two of them take one bank twice. -/
def cycleLen : List Nat → List Nat → Nat
  | _, [] => 0
  | seen, k :: r => if seen.any (bankClash k) then 0 else cycleLen (k :: seen) r + 1

/-- R101: the cycle of a strided access ends after `n` of its elements. It keeps its base address, and the bytes that a load has read
or a store's register. -/
def again (before : Thread) (n : Nat) (x : Word) (bs : List Byte) : M Unit := do
  setFocus fun t => { t with arrivals := before.arrivals, part := some (n, x, bs) }
  throw .again

/-- VLD (R238, R239). -/
def vld (mode : BitVec 1) (d a : BitVec 5) (i : BitVec 7) (c : BitVec 2) (mask : W32) : M Unit := do
  let before ← focus
  openGate
  checkPorts [a]
  let x ← readX a
  let (done, x, read) := before.part.getD (0, x, [])
  let e1 ← readE 1
  let ea := offset x i 32
  let n := elemSize mode e1
  let es := elements mode ea e1 mask
  checkElements mode ea n false es
  scoreboard (.v d)
  let s ← get
  let keys := es.map fun e => (e.1, s.localElem e.2)
  if keys.all fun k => k.2.isSome then do
    let old := s.focus.v.toArray.getD d.toNat 0
    let rest := (keys.drop done).map fun k => k.2.getD 0
    let now := if mode = 0 then rest.length else cycleLen [] rest
    let bs ← loadElements n (rest.take now)
    if now < rest.length then again before (done + now) x (read ++ bs)
    else loadLocal (.inr (.inr d)) (placeBytes old (keys.flatMap fun k => (List.range n).map fun i => k.1 * n + i) (read ++ bs))
  else do
    let busy (e : Nat × Word) : Bool := match s.keyFor? s.focus e.2 with
      | some key => decide (s.forward s.focus.id key n ≠ .home)
      | none => false
    match requestGroups mode es with
    | [g] => do
      -- R119: bytes that the store buffer holds
      let bytes := (groupBytes n g).map fun b => match s.keyFor? s.focus (groupBase g + BitVec.ofNat 64 b.1) with
        | some key => s.forward s.focus.id key 1
        | none => .home
      if bytes.all fun f => match f with | .bytes _ => true | _ => false then do
        setFocus fun t => t.cancel (.inr (.inr d))
        send { loadManner c with wide := true } [loadAsk d n g] (some (bytes.flatMap fun f => match f with | .bytes bs => bs | _ => []))
      else do
        await (!es.any busy)
        setFocus fun t => t.cancel (.inr (.inr d))
        send { loadManner c with wide := true } [loadAsk d n g]
    | gs => do
      await (!es.any busy)
      setFocus fun t => t.cancel (.inr (.inr d))
      send { loadManner c with wide := true } (gs.map (loadAsk d n))

/-- Lanes of a vector access (R52, R238). -/
def accessLanes (mode : BitVec 1) (s : State) : Nat := 32 / elemSize mode (s.focus.e.toArray.getD 1 0)

/-- VLD (R238, R239). -/
def execVld (g : Guard) (d a : BitVec 5) (i : BitVec 7) (m : BitVec 1) (c : BitVec 2) (s : State) : Result :=
  .next (s.vector g (accessLanes m s) (vld m d a i c))

/-- VST (R238, R240): local elements are written at issue, the others go through the store buffer. -/
def vst (mode : BitVec 1) (d a : BitVec 5) (i : BitVec 7) (c : BitVec 2) (mask : W32) : M Unit := do
  let before ← focus
  openGate
  checkPorts [a]
  let x ← readX a
  let e1 ← readE 1
  let v ← readV d
  let (done, x, v) := match before.part with
    | some (done, x, bs) => (done, x, (BitVec.ofNat 256 (ofBytes bs) : VReg))
    | none => (0, x, v)
  let ea := offset x i 32
  let n := elemSize mode e1
  let es := elements mode ea e1 mask
  checkElements mode ea n true es
  let s ← get
  let isLoc (e : Nat × Word) : Bool := (s.localElem e.2).isSome
  let rest := ((es.filter isLoc).drop done).map fun e => (e.1, (s.localElem e.2).getD 0)
  let now := if mode = 0 then rest.length else cycleLen [] (rest.map (·.2))
  storeElements n v (rest.take now)
  if now < rest.length then again before (done + now) x (vBytes v)
  else
    let asks := (requestGroups mode (es.filter fun e => !isLoc e)).map (storeAsk v n)
    if asks.isEmpty then return () else send { storeManner c false with wide := true } asks

/-- VST (R238, R240). -/
def execVst (g : Guard) (d a : BitVec 5) (i : BitVec 7) (m : BitVec 1) (c : BitVec 2) (s : State) : Result :=
  .next (s.vector g (accessLanes m s) (vst m d a i c))

end Sys2Proof.Machine
end

