-- ==== Sys2Proof/Machine/Dispatch.lean ====
section
/-! DEFINITION. One arm per row of the opcode table: a direct call of the row's meaning. -/

namespace Sys2Proof.Machine

def exec (i : Instr) (s : State) : Host.Outcome State Fault Refusal :=
  match i with
  | .add g d a b => Sys2Proof.Machine.execAdd g d a b s
  | .sub g d a b => Sys2Proof.Machine.execSub g d a b s
  | .and g d a b => Sys2Proof.Machine.execAnd g d a b s
  | .or g d a b => Sys2Proof.Machine.execOr g d a b s
  | .xor g d a b => Sys2Proof.Machine.execXor g d a b s
  | .andn g d a b => Sys2Proof.Machine.execAndn g d a b s
  | .sll g d a b => Sys2Proof.Machine.execSll g d a b s
  | .srl g d a b => Sys2Proof.Machine.execSrl g d a b s
  | .sra g d a b => Sys2Proof.Machine.execSra g d a b s
  | .ror g d a b => Sys2Proof.Machine.execRor g d a b s
  | .slt g d a b => Sys2Proof.Machine.execSlt g d a b s
  | .sltu g d a b => Sys2Proof.Machine.execSltu g d a b s
  | .min g d a b => Sys2Proof.Machine.execMin g d a b s
  | .max g d a b => Sys2Proof.Machine.execMax g d a b s
  | .minu g d a b => Sys2Proof.Machine.execMinu g d a b s
  | .maxu g d a b => Sys2Proof.Machine.execMaxu g d a b s
  | .addsh1 g d a b => Sys2Proof.Machine.execAddsh1 g d a b s
  | .addsh2 g d a b => Sys2Proof.Machine.execAddsh2 g d a b s
  | .addsh3 g d a b => Sys2Proof.Machine.execAddsh3 g d a b s
  | .clz g d a => Sys2Proof.Machine.execClz g d a s
  | .ctz g d a => Sys2Proof.Machine.execCtz g d a s
  | .popc g d a => Sys2Proof.Machine.execPopc g d a s
  | .byterev g d a => Sys2Proof.Machine.execByterev g d a s
  | .sextw g d a => Sys2Proof.Machine.execSextw g d a s
  | .zextw g d a => Sys2Proof.Machine.execZextw g d a s
  | .addw g d a b => Sys2Proof.Machine.execAddw g d a b s
  | .subw g d a b => Sys2Proof.Machine.execSubw g d a b s
  | .mul g d a b => Sys2Proof.Machine.execMul g d a b s
  | .mulh g d a b => Sys2Proof.Machine.execMulh g d a b s
  | .mulhu g d a b => Sys2Proof.Machine.execMulhu g d a b s
  | .mulhsu g d a b => Sys2Proof.Machine.execMulhsu g d a b s
  | .div g d a b => Sys2Proof.Machine.execDiv g d a b s
  | .divu g d a b => Sys2Proof.Machine.execDivu g d a b s
  | .rem g d a b => Sys2Proof.Machine.execRem g d a b s
  | .remu g d a b => Sys2Proof.Machine.execRemu g d a b s
  | .addi g d a imm => Sys2Proof.Machine.execAddi g d a imm s
  | .andi g d a imm => Sys2Proof.Machine.execAndi g d a imm s
  | .ori g d a imm => Sys2Proof.Machine.execOri g d a imm s
  | .xori g d a imm => Sys2Proof.Machine.execXori g d a imm s
  | .slti g d a imm => Sys2Proof.Machine.execSlti g d a imm s
  | .sltiu g d a imm => Sys2Proof.Machine.execSltiu g d a imm s
  | .slli g d a h => Sys2Proof.Machine.execSlli g d a h s
  | .srli g d a h => Sys2Proof.Machine.execSrli g d a h s
  | .srai g d a h => Sys2Proof.Machine.execSrai g d a h s
  | .rori g d a h => Sys2Proof.Machine.execRori g d a h s
  | .li g d imm => Sys2Proof.Machine.execLi g d imm s
  | .lis g d imm => Sys2Proof.Machine.execLis g d imm s
  | .addpc g d imm => Sys2Proof.Machine.execAddpc g d imm s
  | .cmp g m d a b e c => Sys2Proof.Machine.execCmp g m d a b e c s
  | .cmpi g m d a imm e c => Sys2Proof.Machine.execCmpi g m d a imm e c s
  | .pand g d a b => Sys2Proof.Machine.execPand g d a b s
  | .por g d a b => Sys2Proof.Machine.execPor g d a b s
  | .pxor g d a b => Sys2Proof.Machine.execPxor g d a b s
  | .pandn g d a b => Sys2Proof.Machine.execPandn g d a b s
  | .porn g d a b => Sys2Proof.Machine.execPorn g d a b s
  | .pnot g d a => Sys2Proof.Machine.execPnot g d a s
  | .pfromx g d a => Sys2Proof.Machine.execPfromx g d a s
  | .ptox g d a => Sys2Proof.Machine.execPtox g d a s
  | .pfirst g d a => Sys2Proof.Machine.execPfirst g d a s
  | .pcnt g d a => Sys2Proof.Machine.execPcnt g d a s
  | .fcmp g m d a b e c => Sys2Proof.Machine.execFcmp g m d a b e c s
  | .vcmp g t d a b e c => Sys2Proof.Machine.execVcmp g t d a b e c s
  | .vfcmp g t d a b e c => Sys2Proof.Machine.execVfcmp g t d a b e c s
  | .j g imm => Sys2Proof.Machine.execJ g imm s
  | .jal g imm => Sys2Proof.Machine.execJal g imm s
  | .jalr g d a imm => Sys2Proof.Machine.execJalr g d a imm s
  | .djnz g d imm => Sys2Proof.Machine.execDjnz g d imm s
  | .rep g a l e => Sys2Proof.Machine.execRep g a l e s
  | .trpForm g a b => Sys2Proof.Machine.execTrpForm g a b s
  | .trpSplit g => Sys2Proof.Machine.execTrpSplit g s
  | .trpPos g d => Sys2Proof.Machine.execTrpPos g d s
  | .trpWidth g d => Sys2Proof.Machine.execTrpWidth g d s
  | .ld g d a imm sz c => Sys2Proof.Machine.execLd g d a imm sz c s
  | .ldu g d a imm sz c => Sys2Proof.Machine.execLdu g d a imm sz c s
  | .st g d a imm sz c => Sys2Proof.Machine.execSt g d a imm sz c s
  | .sto g d a imm sz c => Sys2Proof.Machine.execSto g d a imm sz c s
  | .fld g d a imm sz c => Sys2Proof.Machine.execFld g d a imm sz c s
  | .fst g d a imm sz c => Sys2Proof.Machine.execFst g d a imm sz c s
  | .vld g d a imm m c => Sys2Proof.Machine.execVld g d a imm m c s
  | .vst g d a imm m c => Sys2Proof.Machine.execVst g d a imm m c s
  | .amoAdd g d a b o z => Sys2Proof.Machine.execAmoAdd g d a b o z s
  | .amoAnd g d a b o z => Sys2Proof.Machine.execAmoAnd g d a b o z s
  | .amoOr g d a b o z => Sys2Proof.Machine.execAmoOr g d a b o z s
  | .amoXor g d a b o z => Sys2Proof.Machine.execAmoXor g d a b o z s
  | .amoMin g d a b o z => Sys2Proof.Machine.execAmoMin g d a b o z s
  | .amoMax g d a b o z => Sys2Proof.Machine.execAmoMax g d a b o z s
  | .amoSwap g d a b o z => Sys2Proof.Machine.execAmoSwap g d a b o z s
  | .amoCas g d a b o z => Sys2Proof.Machine.execAmoCas g d a b o z s
  | .fence g sz => Sys2Proof.Machine.execFence g sz s
  | .fenceSt g sz => Sys2Proof.Machine.execFenceSt g sz s
  | .fenceLd g sz => Sys2Proof.Machine.execFenceLd g sz s
  | .sync g l => Sys2Proof.Machine.execSync g l s
  | .arrive g l => Sys2Proof.Machine.execArrive g l s
  | .arrived g l c => Sys2Proof.Machine.execArrived g l c s
  | .wait g l => Sys2Proof.Machine.execWait g l s
  | .waitdc g c h => Sys2Proof.Machine.execWaitdc g c h s
  | .rgn g e => Sys2Proof.Machine.execRgn g e s
  | .yield g => Sys2Proof.Machine.execYield g s
  | .phaseX g l => Sys2Proof.Machine.execPhaseX g l s
  | .cpy g d a b v o c => Sys2Proof.Machine.execCpy g d a b v o c s
  | .fadd g d a b t => Sys2Proof.Machine.execFadd g d a b t s
  | .fsub g d a b t => Sys2Proof.Machine.execFsub g d a b t s
  | .fmul g d a b t => Sys2Proof.Machine.execFmul g d a b t s
  | .fmin g d a b t => Sys2Proof.Machine.execFmin g d a b t s
  | .fmax g d a b t => Sys2Proof.Machine.execFmax g d a b t s
  | .fdiv g d a b t => Sys2Proof.Machine.execFdiv g d a b t s
  | .fsqrt g d a t => Sys2Proof.Machine.execFsqrt g d a t s
  | .ffma g d a b t => Sys2Proof.Machine.execFfma g d a b t s
  | .fmvxf g d a => Sys2Proof.Machine.execFmvxf g d a s
  | .fmvfx g d a => Sys2Proof.Machine.execFmvfx g d a s
  | .fcvtFX g d a => Sys2Proof.Machine.execFcvtFX g d a s
  | .fcvtXF g d a => Sys2Proof.Machine.execFcvtXF g d a s
  | .fkey g d a => Sys2Proof.Machine.execFkey g d a s
  | .fclass g d a => Sys2Proof.Machine.execFclass g d a s
  | .vadd g d a b t => Sys2Proof.Machine.execVadd g d a b t s
  | .vsub g d a b t => Sys2Proof.Machine.execVsub g d a b t s
  | .vmul g d a b t => Sys2Proof.Machine.execVmul g d a b t s
  | .vmin g d a b t => Sys2Proof.Machine.execVmin g d a b t s
  | .vmax g d a b t => Sys2Proof.Machine.execVmax g d a b t s
  | .vminu g d a b t => Sys2Proof.Machine.execVminu g d a b t s
  | .vmaxu g d a b t => Sys2Proof.Machine.execVmaxu g d a b t s
  | .vand g d a b t => Sys2Proof.Machine.execVand g d a b t s
  | .vor g d a b t => Sys2Proof.Machine.execVor g d a b t s
  | .vxor g d a b t => Sys2Proof.Machine.execVxor g d a b t s
  | .vsll g d a b t => Sys2Proof.Machine.execVsll g d a b t s
  | .vsrl g d a b t => Sys2Proof.Machine.execVsrl g d a b t s
  | .vsra g d a b t => Sys2Proof.Machine.execVsra g d a b t s
  | .vabs g d a t => Sys2Proof.Machine.execVabs g d a t s
  | .vadds g d a b t => Sys2Proof.Machine.execVadds g d a b t s
  | .vsubs g d a b t => Sys2Proof.Machine.execVsubs g d a b t s
  | .vfadd g d a b t => Sys2Proof.Machine.execVfadd g d a b t s
  | .vfsub g d a b t => Sys2Proof.Machine.execVfsub g d a b t s
  | .vfmul g d a b t => Sys2Proof.Machine.execVfmul g d a b t s
  | .vfmin g d a b t => Sys2Proof.Machine.execVfmin g d a b t s
  | .vfmax g d a b t => Sys2Proof.Machine.execVfmax g d a b t s
  | .vffma g d a b t => Sys2Proof.Machine.execVffma g d a b t s
  | .vfdiv g d a b t => Sys2Proof.Machine.execVfdiv g d a b t s
  | .vfsqrt g d a t => Sys2Proof.Machine.execVfsqrt g d a t s
  | .vfabs g d a t => Sys2Proof.Machine.execVfabs g d a t s
  | .vfneg g d a t => Sys2Proof.Machine.execVfneg g d a t s
  | .vbcast g d a t => Sys2Proof.Machine.execVbcast g d a t s
  | .vbcastf g d a t => Sys2Proof.Machine.execVbcastf g d a t s
  | .vext g d a b t => Sys2Proof.Machine.execVext g d a b t s
  | .vins g d a b t => Sys2Proof.Machine.execVins g d a b t s
  | .vperm g d a b t => Sys2Proof.Machine.execVperm g d a b t s
  | .vredadd g d a t => Sys2Proof.Machine.execVredadd g d a t s
  | .vredmax g d a t => Sys2Proof.Machine.execVredmax g d a t s
  | .vcvt g d a u t => Sys2Proof.Machine.execVcvt g d a u t s
  | .vkey g d a t => Sys2Proof.Machine.execVkey g d a t s
  | .vmov g d a t => Sys2Proof.Machine.execVmov g d a t s
  | .vzero g d t => Sys2Proof.Machine.execVzero g d t s
  | .viota g d t => Sys2Proof.Machine.execViota g d t s
  | .mma g c a f p => Sys2Proof.Machine.execMma g c a f p s
  | .mz g c => Sys2Proof.Machine.execMz g c s
  | .mrdF32 g c a k => Sys2Proof.Machine.execMrdF32 g c a k s
  | .mrdBf16 g c a k => Sys2Proof.Machine.execMrdBf16 g c a k s
  | .mrdF16 g c a k => Sys2Proof.Machine.execMrdF16 g c a k s
  | .mexp g d c => Sys2Proof.Machine.execMexp g d c s
  | .msete g c a => Sys2Proof.Machine.execMsete g c a s
  | .mred g c a k => Sys2Proof.Machine.execMred g c a k s
  | .macc g c a b => Sys2Proof.Machine.execMacc g c a b s
  | .mcvtI8 g c a b => Sys2Proof.Machine.execMcvtI8 g c a b s
  | .geom g d a b => Sys2Proof.Machine.execGeom g d a b s
  | .geomg g d a => Sys2Proof.Machine.execGeomg g d a s
  | .mcvtI4 g c a b => Sys2Proof.Machine.execMcvtI4 g c a b s
  | .bld g a k => Sys2Proof.Machine.execBld g a k s
  | .brot g => Sys2Proof.Machine.execBrot g s
  | .bswap g => Sys2Proof.Machine.execBswap g s
  | .bst g a k => Sys2Proof.Machine.execBst g a k s
  | .desc g d a k => Sys2Proof.Machine.execDesc g d a k s
  | .bkup g d a b k => Sys2Proof.Machine.execBkup g d a b k s
  | .unmk g d a b k => Sys2Proof.Machine.execUnmk g d a b k s
  | .expnd g d a b k => Sys2Proof.Machine.execExpnd g d a b k s
  | .nalloc g d a b k => Sys2Proof.Machine.execNalloc g d a b k s
  | .rcyc g d a k => Sys2Proof.Machine.execRcyc g d a k s
  | .nstat g d a k => Sys2Proof.Machine.execNstat g d a k s
  | .ninit g d a k => Sys2Proof.Machine.execNinit g d a k s
  | .nmsend g a k => Sys2Proof.Machine.execNmsend g a k s
  | .nmovl g a k => Sys2Proof.Machine.execNmovl g a k s
  | .nmrst g a k => Sys2Proof.Machine.execNmrst g a k s
  | .ecall g => Sys2Proof.Machine.execEcall g s
  | .ebreak g => Sys2Proof.Machine.execEbreak g s
  | .halt g => Sys2Proof.Machine.execHalt g s
  | .wfe g => Sys2Proof.Machine.execWfe g s
  | .fault g a => Sys2Proof.Machine.execFault g a s
  | .tret g => Sys2Proof.Machine.execTret g s
  | .csrrw g d a imm => Sys2Proof.Machine.execCsrrw g d a imm s
  | .csrrs g d a imm => Sys2Proof.Machine.execCsrrs g d a imm s
  | .csrrc g d a imm => Sys2Proof.Machine.execCsrrc g d a imm s
  | .sete g d a => Sys2Proof.Machine.execSete g d a s
  | .gete g d a => Sys2Proof.Machine.execGete g d a s
  | .rand g d a b w => Sys2Proof.Machine.execRand g d a b w s
  | .mvN d sz => Sys2Proof.Machine.execMvN d sz s
  | .addN d sz => Sys2Proof.Machine.execAddN d sz s
  | .subN d sz => Sys2Proof.Machine.execSubN d sz s
  | .andN d sz => Sys2Proof.Machine.execAndN d sz s
  | .orN d sz => Sys2Proof.Machine.execOrN d sz s
  | .xorN d sz => Sys2Proof.Machine.execXorN d sz s
  | .sllN d sz => Sys2Proof.Machine.execSllN d sz s
  | .srlN d sz => Sys2Proof.Machine.execSrlN d sz s
  | .sraN d sz => Sys2Proof.Machine.execSraN d sz s
  | .addiN d imm => Sys2Proof.Machine.execAddiN d imm s
  | .liN d imm => Sys2Proof.Machine.execLiN d imm s
  | .slliN d h => Sys2Proof.Machine.execSlliN d h s
  | .srliN d h => Sys2Proof.Machine.execSrliN d h s
  | .sraiN d h => Sys2Proof.Machine.execSraiN d h s
  | .ldDN d sz => Sys2Proof.Machine.execLdDN d sz s
  | .stDN d sz => Sys2Proof.Machine.execStDN d sz s
  | .ldWN d sz => Sys2Proof.Machine.execLdWN d sz s
  | .stWN d sz => Sys2Proof.Machine.execStWN d sz s
  | .vmovN d sz => Sys2Proof.Machine.execVmovN d sz s
  | .jrN sz => Sys2Proof.Machine.execJrN sz s
  | .jalrN d sz => Sys2Proof.Machine.execJalrN d sz s
  | .nopN => Sys2Proof.Machine.execNopN s
  | .haltN => Sys2Proof.Machine.execHaltN s
  | .reservedEncoding word => Sys2Proof.Machine.execReservedEncoding word s
  | .fetchFault faddr straddle iword => Sys2Proof.Machine.execFetchFault faddr straddle iword s
  | .threadSwitchQuantum core => Sys2Proof.Machine.execThreadSwitchQuantum core s
  | .portWordArrival h port => Sys2Proof.Machine.execPortWordArrival h port s
  | .portTimeout h => Sys2Proof.Machine.execPortTimeout h s
  | .troupeFormed h => Sys2Proof.Machine.execTroupeFormed h s
  | .trpFormTimeout h => Sys2Proof.Machine.execTrpFormTimeout h s
  | .ringDeliveryStart h => Sys2Proof.Machine.execRingDeliveryStart h s
  | .ringDeliveryDone h => Sys2Proof.Machine.execRingDeliveryDone h s
  | .bldFillDone h => Sys2Proof.Machine.execBldFillDone h s
  | .bswapTimeout h => Sys2Proof.Machine.execBswapTimeout h s
  | .arrivedArrival h level => Sys2Proof.Machine.execArrivedArrival h level s
  | .barrierComplete lid level group => Sys2Proof.Machine.execBarrierComplete lid level group s
  | .holdAccept id => Sys2Proof.Machine.execHoldAccept id s
  | .holdApply lid => Sys2Proof.Machine.execHoldApply lid s
  | .fbArrival dev fbid fbn occ count => Sys2Proof.Machine.execFbArrival dev fbid fbn occ count s
  | .fbAck lid => Sys2Proof.Machine.execFbAck lid s
  | .storeBufferDrain core => Sys2Proof.Machine.execStoreBufferDrain core s
  | .cpyPacketInject id => Sys2Proof.Machine.execCpyPacketInject id s
  | .stridedRequestInject h => Sys2Proof.Machine.execStridedRequestInject h s
  | .routerForward id => Sys2Proof.Machine.execRouterForward id s
  | .bulkPerform id => Sys2Proof.Machine.execBulkPerform id s
  | .orderedPerform id => Sys2Proof.Machine.execOrderedPerform id s
  | .hbmChannelService id => Sys2Proof.Machine.execHbmChannelService id s
  | .lantern port input => Sys2Proof.Machine.execLantern port input s
  | .lanternReceive port input => Sys2Proof.Machine.execLanternReceive port input s
  | .watermark port => Sys2Proof.Machine.execWatermark port s
  | .loadReply id => Sys2Proof.Machine.execLoadReply id s
  | .replyPortPush id => Sys2Proof.Machine.execReplyPortPush id s
  | .storeAck id => Sys2Proof.Machine.execStoreAck id s
  | .negativeReply id => Sys2Proof.Machine.execNegativeReply id s
  | .faultRecordWrite h => Sys2Proof.Machine.execFaultRecordWrite h s
  | .reaperStart h => Sys2Proof.Machine.execReaperStart h s
  | .haltComplete h => Sys2Proof.Machine.execHaltComplete h s
  | .wfeWake h => Sys2Proof.Machine.execWfeWake h s
  | .wfeTimeout h => Sys2Proof.Machine.execWfeTimeout h s
  | .tableWalk id => Sys2Proof.Machine.execTableWalk id s
  | .descApply id => Sys2Proof.Machine.execDescApply id s
  | .bkupApply id => Sys2Proof.Machine.execBkupApply id s
  | .unmkApply id => Sys2Proof.Machine.execUnmkApply id s
  | .expndApply id => Sys2Proof.Machine.execExpndApply id s
  | .nallocApply id => Sys2Proof.Machine.execNallocApply id s
  | .rcycApply id => Sys2Proof.Machine.execRcycApply id s
  | .nstatApply id => Sys2Proof.Machine.execNstatApply id s
  | .ninitApply id => Sys2Proof.Machine.execNinitApply id s
  | .nodeReply id => Sys2Proof.Machine.execNodeReply id s
  | .nmuBlockArrive id => Sys2Proof.Machine.execNmuBlockArrive id s
  | .nmuFill ch stream => Sys2Proof.Machine.execNmuFill ch stream s
  | .nmuGath ch stream => Sys2Proof.Machine.execNmuGath ch stream s
  | .nmuIred ch stream => Sys2Proof.Machine.execNmuIred ch stream s
  | .nmuRun ch stream => Sys2Proof.Machine.execNmuRun ch stream s
  | .nmuOverlayLoad ch stream => Sys2Proof.Machine.execNmuOverlayLoad ch stream s
  | .holdTimeout ch stream => Sys2Proof.Machine.execHoldTimeout ch stream s
  | .runLimit ch => Sys2Proof.Machine.execRunLimit ch s
  | .nmuCompletion ch stream => Sys2Proof.Machine.execNmuCompletion ch stream s
  | .nmuStreamReset id => Sys2Proof.Machine.execNmuStreamReset id s
  | .kick id => Sys2Proof.Machine.execKick id s
  | .noticeAppend ring => Sys2Proof.Machine.execNoticeAppend ring s
  | .launchRecord id => Sys2Proof.Machine.execLaunchRecord id s
  | .launchPlacement => Sys2Proof.Machine.execLaunchPlacement s
  | .launchRelease lid => Sys2Proof.Machine.execLaunchRelease lid s
  | .doneEmpty lid => Sys2Proof.Machine.execDoneEmpty lid s
  | .launchCompletion lid => Sys2Proof.Machine.execLaunchCompletion lid s
  | .tctlResume id => Sys2Proof.Machine.execTctlResume id s
  | .tctlKill id => Sys2Proof.Machine.execTctlKill id s
  | .tctlPreempt id => Sys2Proof.Machine.execTctlPreempt id s
  | .tctlRestore id => Sys2Proof.Machine.execTctlRestore id s
  | .preemptSave h => Sys2Proof.Machine.execPreemptSave h s
  | .guestbookAppend id => Sys2Proof.Machine.execGuestbookAppend id s
  | .nmuPreempt id => Sys2Proof.Machine.execNmuPreempt id s
  | .nmuRestore id => Sys2Proof.Machine.execNmuRestore id s
  | .nmuSaveDone ch => Sys2Proof.Machine.execNmuSaveDone ch s
  | .nmuRestoreDone ch => Sys2Proof.Machine.execNmuRestoreDone ch s
  | .invc id => Sys2Proof.Machine.execInvc id s
  | .invalidationDone => Sys2Proof.Machine.execInvalidationDone s
  | .excl id => Sys2Proof.Machine.execExcl id s
  | .fexcl id => Sys2Proof.Machine.execFexcl id s
  | .cecntClear id => Sys2Proof.Machine.execCecntClear id s
  | .registerWrite id => Sys2Proof.Machine.execRegisterWrite id s
  | .scrub pa => Sys2Proof.Machine.execScrub pa s
  | .mcheckStateError die => Sys2Proof.Machine.execMcheckStateError die s
  | .flitRetry port failures => Sys2Proof.Machine.execFlitRetry port failures s
  | .fabricRequest port pa act => Sys2Proof.Machine.execFabricRequest port pa act s
  | .portDown port => Sys2Proof.Machine.execPortDown port s
  | .timeMessage offset => Sys2Proof.Machine.execTimeMessage offset s
  | .clockLockLost => Sys2Proof.Machine.execClockLockLost s
  | .reductionPacket id => Sys2Proof.Machine.execReductionPacket id s
  | .reductionTimeout window pa => Sys2Proof.Machine.execReductionTimeout window pa s
  | .reset => Sys2Proof.Machine.execReset s
  | .fwgo id => Sys2Proof.Machine.execFwgo id s
  | .imageCheck => Sys2Proof.Machine.execImageCheck s
  | .qreq id => Sys2Proof.Machine.execQreq id s
  | .quoteWrite => Sys2Proof.Machine.execQuoteWrite s
  | .bladeFailure blade => Sys2Proof.Machine.execBladeFailure blade s
  | .thermalMcheck die => Sys2Proof.Machine.execThermalMcheck die s
  | .thermalPowerOff die => Sys2Proof.Machine.execThermalPowerOff die s
  | .portUp port => Sys2Proof.Machine.execPortUp port s
  | .supervisorAbort lid code => Sys2Proof.Machine.execSupervisorAbort lid code s

end Sys2Proof.Machine
end

