-- ==== Sys2Proof/Machine/Step.lean ====
section
/-! DEFINITION. One step of the machine: time passes, the world's next turn is taken, and either an event happens or a
hart fetches, decodes and executes one instruction. -/

namespace Sys2Proof.Machine

/-- The issuing hart executes what framing found: an instruction, or a reserved encoding (R158, R159). -/
def runDecoded (d : Decoded) (s : State) : Host.Outcome State Fault Refusal :=
  match d with
  | .instr i word _ => exec i (s.withWord word)
  | .reserved word _ => exec (.reservedEncoding word) (s.withWord word)

/-- The issuing hart's turn: it fetches and executes, unless it is not ready, its core must turn to another thread
(R16), a local load's push is due first (R49), its troupe holds it back (R20), or its fetch waits or was poisoned (R389). A
fetch that waits leaves the hart in the wait of its instruction (R224). -/
def issueStep (s : State) : Host.Outcome State Fault Refusal :=
  if !s.ready s.focus then .next s.switch
  else if s.quantumDue then exec (.threadSwitchQuantum s.focusCore) s
  else if s.focus.pend.any fun q => decide (q.left = 0) then .next s.pushStep
  else if !s.slotOpen s.focus then .next s
  else if s.cycleStalled runDecoded then .next (s.cycleWaits runDecoded)
  else match s.fetch with
    | .word lo hi s' => if s'.focus.stage = .active then runDecoded (decodeHalves lo hi) s' else .next s'
    | .fail faddr straddle iword s' => if s'.focus.stage = .active then exec (.fetchFault faddr straddle iword) s' else .next s'
    | .wait => .next (s.stall ((s.focus.wait.map (·.1)).getD .other))

/-- One step. Without power nothing happens but the reset that powers the module on (R404, R409); then come the steps of the boot
that stand before AWAIT. -/
def step (s : State) : Host.Outcome State Fault Refusal :=
  if !s.off && s.booting then .next s.tick.bootStep
  else match s.off, s.nextTurn with
  | true, (some (.event .reset), s') => exec .reset s'
  | true, _ => .fault .poweredOff
  | false, (some (.event e), s') => if e.happens then exec e s'.tick else .next s'.tick
  | false, (some (.issue h), s') => issueStep (s'.tick.turnTo runDecoded h)
  | false, (none, s') => issueStep (s'.tick.turnTo runDecoded s'.focus.id)

/-- `s` with an instruction of `nbits` bits placed where the next step fetches: a launch of one thread, placed on the
first cluster and released, whose code page holds the instruction's bits at its task entry (log 13). -/
def State.withFetchWord (s : State) (nbits w : Nat) : State := s.placeProgram (leBytes 8 (w % 2 ^ nbits))

end Sys2Proof.Machine
end

