-- ==== Sys2Proof/Safety.lean ====
section
/-! DEFINITION. What a safe run is: the invariant that every step keeps, and a machine that never stops while it has
power. -/

namespace Sys2Proof.Machine

/-- The memory keeps its canonical form. -/
def State.MemOk (s : State) : Prop := Memory.wf s.mem = true

/-- A step is safe when it ends in a next state: neither a fault nor a refusal. -/
def State.StepSafe (s : State) : Prop := ∃ t, step s = .next t

end Sys2Proof.Machine
end

