-- ==== Sys2Proof/Certificates/Slice0/Obligations.lean ====
section
/-! DEFINITION. The statements for the provers, with the vocabulary they are written in: what an instruction's operands
are, when it is enabled, and how it retires. Each statement's docstring names the rules it formalises. -/

namespace Sys2Proof.Claim

open Sys2Proof.Machine

/-! ### Vocabulary: one instruction at issue -/

/-- R134, R335: the issuing hart may execute the instruction, and bit 0 of its guard is 1. -/
abbrev Enabled (s : State) (av : Avail) (g : Guard) : Prop := av.allows s.focus.id = true ∧ bit (s.focus.guard g) 0 = true

/-- R50: every port register that is named leads to a core of the launch's domain. -/
abbrev PortsOk (s : State) (rs : List (BitVec 5)) : Prop :=
  ∀ r ∈ rs, ∀ p, portOf s.focus.id r = some p → s.portOk s.focus p = true

/-- R102: nothing in flight will write the register of the issuing hart. -/
abbrev Clear (s : State) (r : Reg) : Prop := s.writers s.focus r = []

/-- The issuing hart at the start of an instruction of `len` bytes: its next pc is the following instruction's. -/
def start (s : State) (len : Nat) : Thread := 
  { s.focus with npc := s.focus.pc + BitVec.ofNat 64 len, taken := false }

/-- R48, R49, R102, R214: taking x[r] as an operand: x0 is zero; no access in flight may be going to write the register; a
port register gives the oldest word of its arrival queue, which leaves it; any other gives its value. -/
def take (s : State) (t : Thread) (r : BitVec 5) : Option (Word × Thread) :=
  if r = 0 then some (0, t)
  else if s.writers t (.x r) ≠ [] then none
  else match portOf t.id r with
    | some p => match t.arrivals[p] with
      | [] => none
      | w :: ws => some (w, { t with arrivals := t.arrivals.set p ws })
    | none => some (t.x.toArray.getD r.toNat 0, t)

/-- R48, R49, R100, R102, R214: giving x[r] a result: x0 discards it; a port register's output queue takes the pushes that
are due from local loads and then the word, when it has room for all; any other takes the value and an older pending load
of it is dropped. -/
def give (s : State) (t : Thread) (r : BitVec 5) (w : Word) : Option Thread :=
  if r = 0 then some t
  else if s.writers t (.x r) ≠ [] then none
  else match portOf t.id r with
    | none => some { t with pend := t.pend.filter fun q => q.dest ≠ .inl r, x := t.x.setIfInBounds r.toNat w }
    | some p =>
      let due := (t.pend.filter fun q => q.dest = .inl r).map fun q => q.value.setWidth 64
      if t.outputs[p].length + due.length + 1 ≤ 2 then
        some { t with outputs := t.outputs.set p (t.outputs[p] ++ due ++ [w]), pend := t.pend.filter fun q => q.dest ≠ .inl r }
      else none

/-- The state in which an instruction that left the issuing hart as `t` has retired: only that hart has changed, and what
retirement itself does (statement RetiresAlone). -/
def retired (s : State) (t : Thread) (len : Nat) (cl : Closing) : State := { s with focus := t }.retire s.focus len cl true

/-- The instruction completes: it leaves the issuing hart as `t` and retires. -/
abbrev Completes (i : Instr) (s : State) (t : Thread) (len : Nat) (cl : Closing := .no) : Prop :=
  exec i s = .next (retired s t len cl)

/-- x[d] := f x[a] x[b] for an instruction: it completes with that result. -/
def BinaryResult (i : Guard → BitVec 5 → BitVec 5 → BitVec 5 → Instr) (f : Word → Word → Word) : Prop :=
  ∀ s g d a b x y t₁ t₂ t₃, Enabled s .engine g → PortsOk s [a, b, d] →
    take s (start s 4) a = some (x, t₁) → take s t₁ b = some (y, t₂) → give s t₂ d (f x y) = some t₃ →
    Completes (i g d a b) s t₃ 4

/-- x[d] := f x[a] for an instruction. -/
def UnaryResult (i : Guard → BitVec 5 → BitVec 5 → Instr) (f : Word → Word) : Prop :=
  ∀ s g d a x t₁ t₂, Enabled s .engine g → PortsOk s [a, d] →
    take s (start s 4) a = some (x, t₁) → give s t₁ d (f x) = some t₂ → Completes (i g d a) s t₂ 4

/-! ### Scalar integer instructions -/

/-- R185: what ADD to SUBW write, of x[a] = x and x[b] = y; a shift takes its amount from bits [5:0] of y. -/
def aluOps : List ((Guard → BitVec 5 → BitVec 5 → BitVec 5 → Instr) × (Word → Word → Word)) :=
  [(.add, fun x y => BitVec.ofNat 64 (x.toNat + y.toNat)), (.sub, fun x y => BitVec.ofInt 64 (x.toNat - y.toNat)),
   (.and, fun x y => x &&& y), (.or, fun x y => x ||| y), (.xor, fun x y => x ^^^ y), (.andn, fun x y => x &&& ~~~ y),
   (.sll, fun x y => x <<< (y.toNat % 64)), (.srl, fun x y => BitVec.ofNat 64 (x.toNat / 2 ^ (y.toNat % 64))),
   (.sra, fun x y => BitVec.ofInt 64 (x.toInt / 2 ^ (y.toNat % 64))),
   (.ror, fun x y => BitVec.ofNat 64 (x.toNat / 2 ^ (y.toNat % 64) + x.toNat * 2 ^ (64 - y.toNat % 64)))] ++
  [(.slt, fun x y => if x.toInt < y.toInt then 1 else 0), (.sltu, fun x y => if x.toNat < y.toNat then 1 else 0),
   (.min, fun x y => BitVec.ofInt 64 (min x.toInt y.toInt)), (.max, fun x y => BitVec.ofInt 64 (max x.toInt y.toInt)),
   (.minu, fun x y => BitVec.ofNat 64 (min x.toNat y.toNat)), (.maxu, fun x y => BitVec.ofNat 64 (max x.toNat y.toNat)),
   (.addsh1, fun x y => BitVec.ofNat 64 (x.toNat * 2 + y.toNat)), (.addsh2, fun x y => BitVec.ofNat 64 (x.toNat * 4 + y.toNat)),
   (.addsh3, fun x y => BitVec.ofNat 64 (x.toNat * 8 + y.toNat)),
   (.addw, fun x y => ((BitVec.ofNat 32 (x.toNat + y.toNat)).signExtend 64)),
   (.subw, fun x y => ((BitVec.ofInt 32 (x.toNat - y.toNat)).signExtend 64))]

/-- R187: what MUL to REMU write. -/
def mulDivOps : List ((Guard → BitVec 5 → BitVec 5 → BitVec 5 → Instr) × (Word → Word → Word)) :=
  [(.mul, fun x y => BitVec.ofNat 64 (x.toNat * y.toNat)), (.mulh, fun x y => BitVec.ofInt 64 (x.toInt * y.toInt / 2 ^ 64)),
   (.mulhu, fun x y => BitVec.ofNat 64 (x.toNat * y.toNat / 2 ^ 64)),
   (.mulhsu, fun x y => BitVec.ofInt 64 (x.toInt * y.toNat / 2 ^ 64)),
   (.div, fun x y => if y = 0 then BitVec.allOnes 64 else BitVec.ofInt 64 (x.toInt.tdiv y.toInt)),
   (.divu, fun x y => if y = 0 then BitVec.allOnes 64 else BitVec.ofNat 64 (x.toNat / y.toNat)),
   (.rem, fun x y => if y = 0 then x else BitVec.ofInt 64 (x.toInt.tmod y.toInt)),
   (.remu, fun x y => if y = 0 then x else BitVec.ofNat 64 (x.toNat % y.toNat))]

/-- R185: what the one-source ALU instructions write: CLZ counts the powers of two above x, CTZ those that divide it, POPC
the one bits; BYTEREV moves byte i to byte 7 - i. -/
def aluUnaryOps : List ((Guard → BitVec 5 → BitVec 5 → Instr) × (Word → Word)) :=
  [(.clz, fun x => BitVec.ofNat 64 ((List.range 64).countP fun k => x.toNat < 2 ^ k)),
   (.ctz, fun x => BitVec.ofNat 64 ((List.range 64).countP fun k => x.toNat % 2 ^ (k + 1) = 0)),
   (.popc, fun x => BitVec.ofNat 64 ((List.range 64).countP fun k => x.getLsbD k)),
   (.byterev, fun x => BitVec.ofNat 64 (((List.range 8).map fun i => x.toNat / 2 ^ (8 * i) % 256 * 2 ^ (8 * (7 - i))).sum)),
   (.sextw, fun x => (x.setWidth 32).signExtend 64), (.zextw, fun x => BitVec.ofNat 64 (x.toNat % 2 ^ 32))]

/-- R189: the immediate forms, with i = sext(imm11, 11). -/
def immOps : List ((Guard → BitVec 5 → BitVec 5 → BitVec 11 → Instr) × (Word → Word → Word)) :=
  [(.addi, fun x i => BitVec.ofNat 64 (x.toNat + i.toNat)), (.andi, fun x i => x &&& i), (.ori, fun x i => x ||| i),
   (.xori, fun x i => x ^^^ i), (.slti, fun x i => if x.toInt < i.toInt then 1 else 0),
   (.sltiu, fun x i => if x.toNat < i.toNat then 1 else 0)]

/-- R190: the shift immediates, with their amount. -/
def shiftImmOps : List ((Guard → BitVec 5 → BitVec 5 → BitVec 6 → Instr) × (Word → Nat → Word)) :=
  [(.slli, fun x n => x <<< n), (.srli, fun x n => BitVec.ofNat 64 (x.toNat / 2 ^ n)),
   (.srai, fun x n => BitVec.ofInt 64 (x.toInt / 2 ^ n)),
   (.rori, fun x n => BitVec.ofNat 64 (x.toNat / 2 ^ n + x.toNat * 2 ^ (64 - n)))]

/-! ### 16-bit forms of the integer instructions -/

/-- R209: the two-register forms: x[d] := f x[d] x[s]. -/
def halfOps : List ((BitVec 5 → BitVec 5 → Instr) × (Word → Word → Word)) :=
  [(.addN, fun x y => x + y), (.subN, fun x y => x - y), (.andN, fun x y => x &&& y), (.orN, fun x y => x ||| y),
   (.xorN, fun x y => x ^^^ y), (.sllN, fun x y => x <<< (y.toNat % 64)), (.srlN, fun x y => x >>> (y.toNat % 64)),
   (.sraN, fun x y => x.sshiftRight (y.toNat % 64))]

/-- R209: the shift forms of one register with an amount of five bits. -/
def halfShiftOps : List ((BitVec 5 → BitVec 5 → Instr) × (Word → Nat → Word)) :=
  [(.slliN, fun x n => x <<< n), (.srliN, fun x n => x >>> n), (.sraiN, fun x n => x.sshiftRight n)]

end Sys2Proof.Claim

open Sys2Proof Sys2Proof.Machine Sys2Proof.Claim

/-- R185: every ALU instruction writes its function of x[a] and x[b] to x[d], for x0, port registers and the others alike, sets
no flag and traps on no data: nothing changes but the issuing hart's operands and what retirement does. -/
def Obligations.AluWritesItsFunction : Prop :=
  (∀ e ∈ aluOps, BinaryResult e.1 e.2) ∧ (∀ e ∈ aluUnaryOps, UnaryResult e.1 e.2)

/-- R187: MUL, MULH, MULHU, MULHSU, DIV, DIVU, REM and REMU write their results; a zero divisor gives all ones and the
dividend, without a trap. -/
def Obligations.MulDivWritesItsFunction : Prop := ∀ e ∈ mulDivOps, BinaryResult e.1 e.2

/-- R189, R190, R191: the immediate forms, the shift immediates, LI, LIS and ADDPC write their results. -/
def Sys2Proof.Claim.ImmediatesWriteTheirFunction : Prop :=
  (∀ e ∈ immOps, ∀ i : BitVec 11, UnaryResult (fun g d a => e.1 g d a i) fun x => e.2 x (i.signExtend 64)) ∧
  (∀ e ∈ shiftImmOps, ∀ n : BitVec 6, UnaryResult (fun g d a => e.1 g d a n) fun x => e.2 x n.toNat) ∧
  (∀ (s : State) g d (i : BitVec 16) t, Enabled s .engine g → PortsOk s [d] → give s (start s 4) d (i.signExtend 64) = some t →
    Completes (.li g d i) s t 4) ∧
  (∀ (s : State) g d (i : BitVec 16) x t₁ t₂, Enabled s .engine g → PortsOk s [d] → take s (start s 4) d = some (x, t₁) →
    give s t₁ d (BitVec.ofNat 64 (x.toNat * 65536 + i.toNat)) = some t₂ → Completes (.lis g d i) s t₂ 4) ∧
  (∀ (s : State) g d (i : BitVec 16) t, Enabled s .engine g → PortsOk s [d] →
    give s (start s 4) d (BitVec.ofInt 64 (s.focus.pc.toNat + 2 * i.toInt)) = some t → Completes (.addpc g d i) s t 4)

/-- R182, R209: the 16-bit integer forms act as their 32-bit forms under p0 do, with their two bytes of length: MV.N, the
two-register forms, ADDI.N, LI.N and the shifts; NOP.N does nothing. -/
def Sys2Proof.Claim.HalfwordIntegerForms : Prop :=
  (∀ (s : State) d a x t₁ t₂, PortsOk s [0, a, d] → take s (start s 2) a = some (x, t₁) → give s t₁ d x = some t₂ →
    Completes (.mvN d a) s t₂ 2) ∧
  (∀ e ∈ halfOps, ∀ (s : State) d a x y t₁ t₂ t₃, PortsOk s [d, a] → take s (start s 2) d = some (x, t₁) →
    take s t₁ a = some (y, t₂) → give s t₂ d (e.2 x y) = some t₃ → Completes (e.1 d a) s t₃ 2) ∧
  (∀ (s : State) d (i : BitVec 5) x t₁ t₂, PortsOk s [d] → take s (start s 2) d = some (x, t₁) →
    give s t₁ d (x + i.signExtend 64) = some t₂ → Completes (.addiN d i) s t₂ 2) ∧
  (∀ (s : State) d (i : BitVec 5) t, PortsOk s [d] → give s (start s 2) d (i.signExtend 64) = some t → Completes (.liN d i) s t 2) ∧
  (∀ e ∈ halfShiftOps, ∀ (s : State) d (n : BitVec 5) x t₁ t₂, PortsOk s [d] → take s (start s 2) d = some (x, t₁) →
    give s t₁ d (e.2 x n.toNat) = some t₂ → Completes (e.1 d n) s t₂ 2) ∧
  (∀ s : State, Completes .nopN s (start s 2) 2)

/-- R16, R32, R49, R50, R102: what keeps a two-source ALU or MULDIV instruction from completing. A port that leads out of the
domain traps with PORT_ABSENT; an empty arrival queue makes it wait to pop that port; a source, port register or not, that an
access in flight will write makes it wait, or traps with DET_ORDER when that access is held; and a result for a port whose
output queue is full makes it wait to push that port. A trap leaves no effect but its entry. -/
def Sys2Proof.Claim.OperandsHoldBack : Prop :=
  ∀ e ∈ aluOps ++ mulDivOps, ∀ (s : State) g d a b, Enabled s .engine g →
    (¬ PortsOk s [a, b, d] → exec (e.1 g d a b) s = .next (s.raise 0x08 0)) ∧
    (PortsOk s [a, b, d] → Clear s (.x a) → ∀ p, portOf s.focus.id a = some p → s.focus.arrivals[p] = [] →
      exec (e.1 g d a b) s = .next (s.stall (.port p false))) ∧
    (PortsOk s [a, b, d] → a ≠ 0 → ¬ Clear s (.x a) →
      exec (e.1 g d a b) s = .next (if (s.writers s.focus (.x a)).any (fun r => decide (r.cls = .held)) then s.raise 0x14 0 else s.stall .other)) ∧
    (PortsOk s [a, b, d] → ∀ x y t₁ t₂ p, take s (start s 4) a = some (x, t₁) → take s t₁ b = some (y, t₂) →
      portOf s.focus.id d = some p → Clear s (.x d) → s.focus.outputs[p].length = 2 → exec (e.1 g d a b) s = .next (s.stall (.port p true)))

/-- R134: a guard whose bit 0 is 0 makes an ALU, MULDIV or immediate instruction retire with no effect: it reads and pops
nothing, and the pc moves past it. -/
def Sys2Proof.Claim.DisabledHasNoEffect : Prop :=
  ∀ (s : State) g, bit (s.focus.guard g) 0 = false →
    (∀ e ∈ aluOps ++ mulDivOps, ∀ d a b, exec (e.1 g d a b) s = .next ({ s with focus := start s 4 }.retire s.focus 4 .no false)) ∧
    (∀ e ∈ aluUnaryOps, ∀ d a, exec (e.1 g d a) s = .next ({ s with focus := start s 4 }.retire s.focus 4 .no false)) ∧
    (∀ e ∈ immOps, ∀ d a i, exec (e.1 g d a i) s = .next ({ s with focus := start s 4 }.retire s.focus 4 .no false)) ∧
    (∀ e ∈ shiftImmOps, ∀ d a i, exec (e.1 g d a i) s = .next ({ s with focus := start s 4 }.retire s.focus 4 .no false))

/-- R16, R99, R134: retirement, for a hart outside a troupe that repeats nothing: the pc becomes the next pc, local loads come
one instruction nearer, the hart waits for nothing, its core counts one more issue of it in a row, and everything else is as
the instruction left it. -/
def Sys2Proof.Claim.RetiresAlone : Prop :=
  ∀ (s : State) (t : Thread) len, s.focus.troupe = none → s.focus.rep = none →
    retired s t len .no = { s with
      focus := { ({ t with pc := t.npc } : Thread).age with wait := none, part := none, cycles := t.cycles + 1 }
      streaks := (retired s t len .no).streaks } ∧
    (∀ c h, t.id = .thread c h → lookup? c (retired s t len .no).streaks =
      some (h, match lookup? c s.streaks with | some (h', n) => if h' = h then n + 1 else 1 | none => 1))

namespace Sys2Proof.Claim

/-! ### Predicates and compares -/

/-- R192: condition c on x and y. -/
def condHolds {w : Nat} (c : BitVec 3) (x y : BitVec w) : Bool :=
  match c.toNat with
  | 0 => decide (x = y)
  | 1 => decide (x ≠ y)
  | 2 => decide (x.toInt < y.toInt)
  | 3 => decide (y.toInt ≤ x.toInt)
  | 4 => decide (x.toNat < y.toNat)
  | 5 => decide (y.toNat ≤ x.toNat)
  | 6 => decide (x &&& y ≠ 0)
  | _ => decide (x &&& y = 0)

/-- A predicate register written: a write to p0 is discarded (R53). -/
def withP (t : Thread) (r : BitVec 3) (w : W32) : Thread := if r = 0 then t else { t with p := t.p.setIfInBounds r.toNat w }

/-- R193: the hart after a scalar compare with truth value c, by its mode; the old values are read before any write. -/
def compared (t : Thread) (mode : BitVec 2) (c : Bool) (pd pe : BitVec 3) : Thread :=
  let m : W32 := if c then 0xFFFFFFFF else 0
  let oldD := t.pred pd
  let oldE := t.pred pe
  let new : W32 × W32 :=
    if mode = 0 then (m, ~~~ m) else if mode = 1 then (oldD &&& m, oldE ||| ~~~ m) else (oldD ||| m, oldE &&& ~~~ m)
  withP (withP t pd new.1) pe new.2

/-- R194: the predicate operations of two sources. -/
def plogOps : List ((Guard → BitVec 3 → BitVec 3 → BitVec 3 → Instr) × (W32 → W32 → W32)) :=
  [(.pand, fun a b => a &&& b), (.por, fun a b => a ||| b), (.pxor, fun a b => a ^^^ b), (.pandn, fun a b => a &&& ~~~ b),
   (.porn, fun a b => a ||| ~~~ b)]

/-- R201: a word that no body may hold: a 32-bit one by its major (J to TRP, SYNC, SYS), a 16-bit one by its operation (JR.N, JALR.N,
HALT.N). -/
def forbiddenWord (w : W32) : Prop :=
  if w.toNat % 2 = 1 then
    let m := w.toNat / 2 ^ 22 % 64
    (0x13 ≤ m ∧ m ≤ 0x18) ∨ m = 0x23 ∨ m = 0x2f
  else w.toNat / 2 ^ 11 % 32 ∈ [0x14, 0x15, 0x17]

/-- The hart after a transfer of control that is taken (R198). -/
def jumping (t : Thread) (target : Word) : Thread := { t with npc := target, taken := true }

/-- The lowest set bit of a predicate alone, or 0. -/
def lowestBit (a : W32) : W32 := match (List.range 32).find? fun i => a.getLsbD i with | some i => 1 <<< i | none => 0

end Sys2Proof.Claim

/-- R192, R193: CMP and CMPI write their predicates by condition and mode. -/
def Sys2Proof.Claim.ComparesWritePredicates : Prop :=
  (∀ (s : State) g m d a b e c x y t₁ t₂, Enabled s .engine g → PortsOk s [a, b] → take s (start s 4) a = some (x, t₁) →
    take s t₁ b = some (y, t₂) → Completes (.cmp g m d a b e c) s (compared t₂ m (condHolds c x y) d e) 4) ∧
  (∀ (s : State) g m d a (i : BitVec 5) e c x t₁, Enabled s .engine g → PortsOk s [a] → take s (start s 4) a = some (x, t₁) →
    Completes (.cmpi g m d a i e c) s (compared t₁ m (condHolds c x (i.signExtend 64)) d e) 4)

/-- R194: the predicate operations write their destination; p0 discards, and PTOX and PCNT write an x register. -/
def Sys2Proof.Claim.PredicateLogic : Prop :=
  (∀ e ∈ plogOps, ∀ (s : State) g d a b, Enabled s .engine g →
    Completes (e.1 g d a b) s (withP (start s 4) d (e.2 (s.focus.pred a) (s.focus.pred b))) 4) ∧
  (∀ (s : State) g d a, Enabled s .engine g → Completes (.pnot g d a) s (withP (start s 4) d (~~~ s.focus.pred a)) 4) ∧
  (∀ (s : State) g d a, Enabled s .engine g → Completes (.pfirst g d a) s (withP (start s 4) d (lowestBit (s.focus.pred a))) 4) ∧
  (∀ (s : State) g d a x t, Enabled s .engine g → PortsOk s [a] → take s (start s 4) a = some (x, t) →
    Completes (.pfromx g d a) s (withP t d (BitVec.ofNat 32 x.toNat)) 4) ∧
  (∀ (s : State) g d a t, Enabled s .core g → PortsOk s [d] → give s (start s 4) d ((s.focus.pred a).setWidth 64) = some t →
    Completes (.ptox g d a) s t 4) ∧
  (∀ (s : State) g d a t, Enabled s .core g → PortsOk s [d] →
    give s (start s 4) d (BitVec.ofNat 64 ((List.range 32).countP fun i => (s.focus.pred a).getLsbD i)) = some t →
    Completes (.pcnt g d a) s t 4)

/-- R195, R196, R197, R209: the jumps go to their targets: J and JAL relative to the pc, JALR, JR.N and JALR.N to a register,
DJNZ while its count is not zero; the links are the following address. An odd register target traps with MISALIGN, its
FADDR the target, and writes no link. -/
def Sys2Proof.Claim.JumpsGoToTheirTargets : Prop :=
  (∀ (s : State) g (i : BitVec 21), Enabled s .engine g →
    Completes (.j g i) s (jumping (start s 4) (BitVec.ofInt 64 (s.focus.pc.toNat + 2 * i.toInt))) 4) ∧
  (∀ (s : State) g (i : BitVec 21) t, Enabled s .engine g → give s (start s 4) 1 (s.focus.pc + 4) = some t →
    Completes (.jal g i) s (jumping t (BitVec.ofInt 64 (s.focus.pc.toNat + 2 * i.toInt))) 4) ∧
  (∀ (s : State) g d a (i : BitVec 11) x t₁, Enabled s .engine g → PortsOk s [a, d] → take s (start s 4) a = some (x, t₁) →
    let target := BitVec.ofInt 64 (x.toNat + 2 * i.toInt)
    (target.toNat % 2 = 1 → exec (.jalr g d a i) s = .next (s.raise 0x03 target)) ∧
    (∀ t₂, target.toNat % 2 = 0 → give s t₁ d (s.focus.pc + 4) = some t₂ → Completes (.jalr g d a i) s (jumping t₂ target) 4)) ∧
  (∀ (s : State) a x t₁, PortsOk s [a, 0] → take s (start s 2) a = some (x, t₁) →
    (x.toNat % 2 = 1 → exec (.jrN a) s = .next (s.raise 0x03 x)) ∧
    (x.toNat % 2 = 0 → Completes (.jrN a) s (jumping t₁ x) 2)) ∧
  (∀ (s : State) d a x t₁, PortsOk s [a, d] → take s (start s 2) a = some (x, t₁) →
    (x.toNat % 2 = 1 → exec (.jalrN d a) s = .next (s.raise 0x03 x)) ∧
    (∀ t₂, x.toNat % 2 = 0 → give s t₁ d (s.focus.pc + 2) = some t₂ → Completes (.jalrN d a) s (jumping t₂ x) 2)) ∧
  (∀ (s : State) g d (i : BitVec 16) x t₁ t₂, Enabled s .engine g → PortsOk s [d] → take s (start s 4) d = some (x, t₁) →
    give s t₁ d (x - 1) = some t₂ →
    Completes (.djnz g d i) s (if x = 1 then t₂ else jumping t₂ (BitVec.ofInt 64 (s.focus.pc.toNat + 2 * i.toInt))) 4)

/-- R200, R201, R205: REP fetches its body, checks it and opens a repeat context of x[a] passes, or skips the body when the
count is 0; a body that R201 forbids traps with ILLEGAL and a failing fetch with FETCH at the failing address, its reads being charged, no
word popped, and STRADDLE clear (log 145). A troupe member
whose count equals the leader's, 0 or not, takes the leader's descriptor and body; one whose count differs, or whose leader's REP
was not enabled, acts for itself (the model's choice, log 108). -/
def Sys2Proof.Claim.RepOpensItsBlock : Prop :=
  ∀ (s : State) g a l e n t₁, Enabled s .core g → PortsOk s [a] → take s (start s 4) a = some (n, t₁) →
    let desc := s.focus.e.toArray.getD e.toNat 0
    let body : Word := s.focus.pc + 4
    let opened (s' : State) (d : Word) (insns : List (W32 × Nat)) : State :=
      (s'.mapFocus fun t =>
        if n = 0 then { t with npc := body + BitVec.ofNat 64 (insns.map (·.2)).sum }
        else { t with rep := some ⟨body, insns, d, 0, n.toNat, 0⟩ }).retire s.focus 4 .no true
    let leads : Option Nat := (s.troupeOf s.focus).bind fun tr => if s.focus.tpos = 0 then none else (tr.stream[s.focus.slotNo]?).bind fun r =>
      match r.rep with | some c => some c.remaining | none => if r.npc = r.pc + 4 then none else some 0
    (leads ≠ some n.toNat →
      (∀ insns s', State.fetchBody { s with focus := t₁ } t₁ body (l.toNat + 1) = .words insns s' →
        exec (.rep g a l e) s = .next (if bodyOk desc.toNat insns then opened s' desc insns else s.raise 0x01 0)) ∧
      (∀ fa s', State.fetchBody { s with focus := t₁ } t₁ body (l.toNat + 1) = .fail fa s' →
        exec (.rep g a l e) s = .next ({ s' with focus := { s'.focus with arrivals := s.focus.arrivals } }.raise 0x05 fa)) ∧
      (State.fetchBody { s with focus := t₁ } t₁ body (l.toNat + 1) = .wait → exec (.rep g a l e) s = .next (s.stall .other))) ∧
    (∀ tr r c, s.troupeOf s.focus = some tr → s.focus.tpos ≠ 0 → tr.stream[s.focus.slotNo]? = some r → r.rep = some c →
      c.remaining = n.toNat → n ≠ 0 → exec (.rep g a l e) s = .next (opened { s with focus := t₁ } c.desc c.insns)) ∧
    (∀ tr r, s.troupeOf s.focus = some tr → s.focus.tpos ≠ 0 → tr.stream[s.focus.slotNo]? = some r → r.rep = none → r.npc ≠ r.pc + 4 →
      n = 0 → exec (.rep g a l e) s = .next (retired s { t₁ with npc := r.npc } 4 .no))

/-- R201: the checks of REP on its descriptor and its body: a set bit above the fields or a mark beyond the body, a word of a major
that no body may hold (J to TRP, SYNC, SYS) or JR.N, JALR.N or HALT.N, and a marked halfword are refused, and so is a marked
32-bit word with a marked field that names no x or v register in its entry, the same word with other numbers there included. -/
def Sys2Proof.Claim.RepeatBodiesAreChecked : Prop :=
  (∀ desc insns, bodyOk desc insns = true ↔
    desc < 2 ^ 22 ∧ (∀ i < 16, desc.testBit i = true → i < insns.length) ∧ (∀ e ∈ insns, ¬ forbiddenWord e.1) ∧
    ∀ i e, i < 16 → insns[i]? = some e → desc.testBit i = true → markOk desc e.1 = true) ∧
  (∀ desc w, markOk desc w = true → w.toNat % 2 = 1) ∧
  (∀ desc w i, w.toNat % 2 = 1 → decode32 w = some i → (markOk desc w = true ↔
    (desc.testBit 19 = true → (staggers i).1 = true) ∧ (desc.testBit 20 = true → (staggers i).2.1 = true) ∧
    (desc.testBit 21 = true → (staggers i).2.2 = true))) ∧
  (∀ desc g d a b, ∀ fn ∈ [0x13#6, 0x14#6, 0x15#6, 0x16#6, 0x17#6, 0x18#6], desc.testBit 21 = true → markOk desc (wordA g 0x01#6 d a b fn) = false) ∧
  (∀ g d a b, (∀ e ∈ aluOps ++ mulDivOps, staggers (e.1 g d a b) = (true, true, true)) ∧
    (∀ e ∈ aluUnaryOps, staggers (e.1 g d a) = (true, true, false)) ∧ (∀ e ∈ immOps, ∀ i, staggers (e.1 g d a i) = (true, true, false)) ∧
    (∀ e ∈ shiftImmOps, ∀ n, staggers (e.1 g d a n) = (true, true, false)) ∧ (∀ i, staggers (.li g d i) = (true, false, false))) ∧
  (∀ g d a b, (∀ e ∈ plogOps, staggers (e.1 g d a b) = (false, false, false)) ∧ (∀ q r, staggers (.pfromx g q r) = (false, true, false)) ∧
    ∀ m x y c, staggers (.cmp g m d x y a c) = (false, true, true))

/-- R200: how a repeat block runs, shown on NOP.N: inside the body the pc goes on, after its last instruction the next pass
begins at the body's first while passes remain, and after the last pass the block is left. -/
def Sys2Proof.Claim.RepeatBlockAdvances : Prop :=
  ∀ (s : State) c, s.focus.troupe = none → s.focus.rep = some c → ∃ u, exec .nopN s = .next u ∧
    (c.pos + 1 < c.insns.length → u.focus.pc = s.focus.pc + 2 ∧ u.focus.rep = some { c with pos := c.pos + 1 }) ∧
    (c.insns.length ≤ c.pos + 1 → 1 < c.remaining →
      u.focus.pc = c.body ∧ u.focus.rep = some { c with pos := 0, pass := c.pass + 1, remaining := c.remaining - 1 }) ∧
    (c.insns.length ≤ c.pos + 1 → c.remaining ≤ 1 → u.focus.pc = s.focus.pc + 2 ∧ u.focus.rep = none)

/-- R200: the word of a body instruction in pass p: each of the fields d, a and b that the descriptor marks is moved by
p times the stride, modulo 32, when the instruction is marked; every other bit stays. -/
def Sys2Proof.Claim.RepeatStaggersMarkedFields : Prop :=
  ∀ (c : RepCtx) w len, c.insns[c.pos]? = some (w, len) → c.pos < 16 →
    let D := c.desc.toNat
    let marked (f : Nat) : Bool := D.testBit c.pos && D.testBit f
    let step : BitVec 5 := BitVec.ofNat 5 (c.pass * (D / 2 ^ 16 % 8))
    c.current.2 = len ∧
    c.current.1.extractLsb' 17 5 = (w.extractLsb' 17 5 : BitVec 5) + (if marked 19 then step else 0) ∧
    c.current.1.extractLsb' 12 5 = (w.extractLsb' 12 5 : BitVec 5) + (if marked 20 then step else 0) ∧
    c.current.1.extractLsb' 7 5 = (w.extractLsb' 7 5 : BitVec 5) + (if marked 21 then step else 0) ∧
    c.current.1.extractLsb' 22 10 = (w.extractLsb' 22 10 : BitVec 10) ∧ c.current.1.extractLsb' 0 7 = (w.extractLsb' 0 7 : BitVec 7)

/-- R18, R19, R206: TRP.FORM waits for its run with its width and skew (0 standing for 2); it traps with ILLEGAL for a width or
skew out of range, a run outside the die or domain, and in a troupe, and waits while another thread of its core forms or
belongs to a troupe (that this comes before a conflict is looked for, and that a saved member counts, are the model's readings, logs
107 and 140); a conflict traps it
and the waiting threads that it conflicts with. When every core of the run has a thread waiting with the same width and skew, TROUPE_FORMED makes them
the members of one troupe, each at its position and before slot 0. -/
def Sys2Proof.Claim.TroupesForm : Prop :=
  (∀ (s : State) g a b w k t₁ t₂ l c, Enabled s .core g → PortsOk s [a, b] → take s (start s 4) a = some (w, t₁) →
    take s t₁ b = some (k, t₂) → s.launchOf s.focus = some l → s.focus.id.core? = some c →
    let skew := if k.toNat = 0 then 2 else k.toNat
    let west := c.gcol - 4 * l.ccol
    let first := 4 * l.ccol + w.toNat * (west / w.toNat)
    let legal := s.focus.troupe = none ∧ 1 ≤ w.toNat ∧ w.toNat ≤ 64 ∧ k.toNat ≤ 4 ∧
      first + w.toNat ≤ 4 * (l.ccol + l.info.dw) ∧ first / 64 = (first + w.toNat - 1) / 64
    (¬ legal → s.formRun g a b = none → exec (.trpForm g a b) s = .next (s.raise 0x01 0)) ∧
    (legal → s.coreTaken s.focus = true → exec (.trpForm g a b) s = .next (s.stall .formBlocked)) ∧
    (legal → s.coreTaken s.focus = false → s.conflicts (runOf l c w.toNat skew) s.focus.id ≠ [] →
      exec (.trpForm g a b) s = .next (((s.conflicts (runOf l c w.toNat skew) s.focus.id).foldl
        (fun s h => s.onHart h fun s => s.raise 0x01 0) s).raise 0x01 0)) ∧
    (legal → s.coreTaken s.focus = false → (∀ h, h ∉ s.conflicts (runOf l c w.toNat skew) s.focus.id) →
      exec (.trpForm g a b) s = .next (s.stall (.form w.toNat skew)))) ∧
  (∀ (s : State) h r hs, s.waitingRun (s.hart h) = some r → s.runHarts r 0 r.width = some hs → hs.Nodup →
    ∃ u tr, exec (.troupeFormed h) s = .next u ∧ lookup? s.nextId u.troupes = some tr ∧
      tr.width = r.width ∧ tr.skew = r.skew ∧ tr.members = hs.map some ∧ tr.stream = [] ∧ tr.broken = none ∧ tr.closed = [] ∧
      ∀ k id, hs[k]? = some id → (u.hart id).troupe = some s.nextId ∧ (u.hart id).tpos = k ∧ (u.hart id).slotNo = 0 ∧ (u.hart id).wait = none)

/-- R23, R24: a member that leaves its troupe goes on alone, and the ring is broken from its slot on; when it is the leader, or the last
member, the troupe dissolves and every member goes on alone. -/
def Sys2Proof.Claim.MembersLeave : Prop :=
  ∀ (s : State) h i tr, (s.hart h).troupe = some i → lookup? i s.troupes = some tr →
    let alone (t : Thread) : Thread :=
      { t with troupe := none, tpos := 0, slotNo := 0, entrySlot := 0, marks := t.marks.map fun m => { m with slot := 0 } }
    let members := tr.members.set (s.hart h).tpos none
    let u := s.leaveTroupe h
    u.mem = s.mem ∧ u.launches = s.launches ∧ u.net = s.net ∧
    (((s.hart h).tpos = 0 ∨ ∀ m ∈ members, m = none) → lookup? i u.troupes = none ∧
      ∀ k, u.hart k = if (s.hart k).troupe = some i then alone (s.hart k) else s.hart k) ∧
    ((s.hart h).tpos ≠ 0 → (∃ m ∈ members, m ≠ none) →
      lookup? i u.troupes = some { tr with members, broken := some (match tr.broken with
        | some n => min n (s.hart h).slotNo | none => (s.hart h).slotNo) } ∧
      u.hart h = alone (s.hart h) ∧ ∀ k, k ≠ h → u.hart k = s.hart k)

/-- R24, R207, R208: outside a troupe TRP.SPLIT does nothing, and TRP.POS and TRP.WIDTH write 0; in a troupe they write the
member's position and the width, and TRP.SPLIT marks its slot as the one after which every member goes on alone. -/
def Sys2Proof.Claim.TroupeReadsAndSplit : Prop :=
  (∀ (s : State) g d t, Enabled s .core g → PortsOk s [d] →
    (give s (start s 4) d (match s.troupeOf s.focus with | some _ => BitVec.ofNat 64 (s.focus.tpos % 128) | none => 0) = some t →
      (∀ tr, s.troupeOf s.focus = some tr → tr.width < 256 ∧ tr.skew < 256 ∧ s.focus.tpos < 256) → Completes (.trpPos g d) s t 4) ∧
    (give s (start s 4) d (match s.troupeOf s.focus with | some tr => BitVec.ofNat 64 (tr.width % 128) | none => 0) = some t →
      (∀ tr, s.troupeOf s.focus = some tr → tr.width < 256 ∧ tr.skew < 256 ∧ s.focus.tpos < 256) → Completes (.trpWidth g d) s t 4)) ∧
  (∀ (s : State) g, Enabled s .core g → s.focus.troupe = none → Completes (.trpSplit g) s (start s 4) 4) ∧
  (∀ (s : State) g i tr, Enabled s .core g → s.focus.troupe = some i → lookup? i s.troupes = some tr →
    (∀ u ∈ s.parked, u.troupe = some i → u.slotNo ≤ s.focus.slotNo) → s.focus.tpos = 0 → s.focus.rep = none →
    ∃ u, exec (.trpSplit g) s = .next u ∧ u.focus.troupe = none ∧ u.focus.pc = s.focus.pc + 4 ∧
      (∀ tr', lookup? i u.troupes = some tr' → tr'.splitAt = some s.focus.slotNo ∧ tr'.stream.length = tr.stream.length + 1))

namespace Sys2Proof.Claim

/-! ### Memory accesses -/

/-- R102, R214: what a load does to its destination at issue: an older pending load of it is dropped, and a port's output
queue takes the pushes that are due; it waits for a write in flight. -/
def claim (s : State) (t : Thread) (r : BitVec 5) : Option Thread :=
  if r = 0 then some t
  else if s.writers t (.x r) ≠ [] then none
  else match portOf t.id r with
    | none => some { t with pend := t.pend.filter fun q => q.dest ≠ .inl r }
    | some p =>
      let due := (t.pend.filter fun q => q.dest = .inl r).map fun q => q.value.setWidth 64
      if due = [] ∨ t.outputs[p].length + due.length ≤ 2 then
        some { t with outputs := t.outputs.set p (t.outputs[p] ++ due), pend := t.pend.filter fun q => q.dest ≠ .inl r }
      else none

/-- The address of an M-format access (R139). -/
def effective (x : Word) (i : BitVec 7) (n : Nat) : Word := BitVec.ofInt 64 (x.toNat + i.toInt * n)

/-- An access of n bytes may issue: no acquire holds it back (R123), its range is the hart's (R91) and it is aligned (R105). -/
abbrev InRange (s : State) (ea : Word) (n align : Nat) (write : Bool) : Prop :=
  s.focus.acquires = [] ∧ rangeOk s.focus.id (s.launchOf s.focus) ea n write = true ∧ ea.toNat % align = 0

/-- The address is the hart's own memory, at a byte key. -/
abbrev IsLocal (s : State) (ea : Word) (key : Nat) : Prop := placeOf s.focus.id (s.launchOf s.focus) ea = .loc key

/-- The address is elsewhere: a core window or a global address. -/
abbrev IsRemote (s : State) (ea : Word) : Prop := ∀ key, placeOf s.focus.id (s.launchOf s.focus) ea ≠ .loc key

/-- Nothing of the hart's core that is still under way touches the words of these bytes, and none of them has an ECC error
(R119, R389). -/
abbrev Quiet (s : State) (key n : Nat) : Prop :=
  (∀ r ∈ s.underway s.focus.id, spansMeet [(key, n)] (s.reqSpans r) = false) ∧
  s.asyncBusy s.focus.id s.nextId [(key, n)] = false ∧ (∀ e ∈ s.ecc, shareWord key n e.1 8 = false)

/-- The loaded integer of bytes that are n in number: sign-extended or zero-extended (R210). -/
def loadedWord (signed : Bool) (n : Nat) (bs : List Byte) : Word :=
  let v := ofBytes bs
  if signed ∧ 2 ^ (8 * n - 1) ≤ v then BitVec.ofInt 64 ((v : Int) - 2 ^ (8 * n)) else BitVec.ofNat 64 v

/-- R99, R100: a hart with a local load's value pending for a register: the third following instruction is the first to see it. -/
def pending (t : Thread) (d : Sum (BitVec 5) (Sum (BitVec 4) (BitVec 5))) (v : VReg) : Thread :=
  { t with pend := (t.pend.filter fun q => q.dest ≠ d) ++ [⟨d, v, 3⟩] }

/-- The instruction completes, leaving the issuing hart as `t` and the rest as in `s'`. -/
abbrev CompletesIn (i : Instr) (s s' : State) (t : Thread) (len : Nat) (cl : Closing := .no) : Prop :=
  exec i s = .next ({ s' with focus := t }.retire s.focus len cl true)

/-- A DET launch keeps the old bytes of its superstep (R31); then the bytes are in memory, and their words have valid ECC. -/
def stored (s : State) (key : Nat) (bytes : List (Option Byte)) : State :=
  (s.keepOld s.focus.lid s.focus.superstep key bytes.length).poke key bytes

/-! ### Requests -/

/-- R102, R106, R108, R114, R122: the k-th request of the issuing hart's instruction. -/
def request (s : State) (m : Manner) (k : Nat) (a : Word) (b : Body) : Req :=
  let cls := s.clsOf s.focus a m.ordered m.holdable
  { id := s.nextId + k, grp := s.nextId, src := .hart s.focus.id, lid := s.focus.lid, task := s.focus.task, space := s.focus.space
    phys := s.focus.isSteward, cls
    stamp := match cls, s.launchOf s.focus, s.focus.id.core? with
      | .held, some l, some c => logicalStamp s.focus.superstep s.focus.h (s.focus.heldIdx + k) (l.lcore c)
      | _, _, _ => ⟨0, 0, 0, 0⟩
    dc := m.dc, counted := m.counted, acquire := m.acquire, addr := a, body := b, phase := .sent, served := false
    wide := m.wide, forced := m.ordered, idx := s.focus.heldIdx, superstep := s.focus.superstep, pc := s.focus.pc, iword := s.focus.iword }

/-- The requests of an instruction, in order. -/
def requests (s : State) (m : Manner) (asks : List (Word × Body)) : List Req := asks.zipIdx.map fun (a, k) => request s m k a.1 a.2

/-- How many of them are held (R31). -/
def heldOf (s : State) (m : Manner) (asks : List (Word × Body)) : Nat :=
  asks.countP fun a => decide (s.clsOf s.focus a.1 m.ordered m.holdable = .held)

/-- R119, R121: each ordered write among the requests, unless a store buffer takes them, comes after everything that its hart issued
before it to its words: all of that has been sent. -/
abbrev OrdersKept (s : State) (m : Manner) (asks : List (Word × Body)) : Prop :=
  (m.buffered = true ∧ hasBuffer s.focus.id = true) ∨
  ∀ r ∈ requests s m asks, r.cls = .ordered → r.body.writes = true → s.unsent s.focus.id r.grp (s.reqSpans r) = false

/-- R57, R102, R106, R107, R114, R119, R211: the instruction's requests may be sent: its counter is below 63, its held accesses
have indexes, and its permits and buffer entries are free and the order of its words is kept, or it can never have them all
and is injected in turn. -/
abbrev MaySend (s : State) (m : Manner) (asks : List (Word × Body)) : Prop :=
  s.focus.heldIdx + heldOf s m asks ≤ 4194304 ∧ (∀ c ∈ m.dc, s.focus.counter c ≠ 63) ∧
  (s.oversized s.focus.id m (requests s m asks) = true ∨
    (s.permitsFree s.focus.id (requests s m asks) = true ∧ s.bufferRoom s.focus.id m.buffered asks.length = true ∧ OrdersKept s m asks))

/-- R57, R122, R123: the issuing hart with its requests counted. -/
def booked (s : State) (t : Thread) (m : Manner) (asks : List (Word × Body)) : Thread :=
  let t := match m.dc with | some c => t.setCounter c (t.counter c + 1) | none => t
  { t with heldIdx := t.heldIdx + heldOf s m asks
           unack := if m.counted then t.unack + asks.length else t.unack
           acquires := if m.acquire then t.acquires ++ [s.nextId] else t.acquires }

/-- The state after the issuing hart, left as `t`, has sent the requests: they are in its store buffer, or in the network, or wait
to be injected in turn. -/
def sent (s : State) (t : Thread) (m : Manner) (asks : List (Word × Body)) : State :=
  let s' : State := { s with focus := booked s t m asks, nextId := s.nextId + asks.length }
  if s.oversized s.focus.id m (requests s m asks) then { s' with strided := s'.strided ++ [⟨s.focus.id, requests s m asks⟩] }
  else (requests s m asks).foldl (fun s r => s.enter s.focus.id m.buffered r) s'

/-- The instruction completes by sending its requests. -/
abbrev Sends (i : Instr) (s : State) (t : Thread) (m : Manner) (asks : List (Word × Body)) (len : Nat) (cl : Closing := .no) : Prop :=
  exec i s = .next ((sent s t m asks).retire s.focus len cl true)

/-- A load's manner: counted on its counter alone. -/
def asLoad (c : BitVec 2) : Manner := ⟨some c, false, false, false, false, false, false⟩
/-- A store's manner: buffered, counted as a store (R122), held in a DET launch (R31), ordered when it releases (R108, R212). -/
def asStore (c : BitVec 2) (ordered : Bool) : Manner := ⟨some c, true, false, ordered, true, true, false⟩

/-- No store of the core's buffer or network has these bytes (R119). -/
abbrev NotForwarded (s : State) (ea : Word) (n : Nat) : Prop :=
  ∀ key ∈ s.keyFor? s.focus ea, s.forward s.focus.id key n = .home

/-- The scalar loads: their extension. -/
def loadOps : List ((Guard → BitVec 5 → BitVec 5 → BitVec 7 → BitVec 2 → BitVec 2 → Instr) × Bool) := [(.ld, true), (.ldu, false)]
/-- The scalar stores: whether they release. -/
def storeOps : List ((Guard → BitVec 5 → BitVec 5 → BitVec 7 → BitVec 2 → BitVec 2 → Instr) × Bool) := [(.st, false), (.sto, true)]
/-- The 16-bit loads and their sizes. -/
def halfLoads : List ((BitVec 5 → BitVec 5 → Instr) × Nat) := [(.ldDN, 8), (.ldWN, 4)]
/-- The 16-bit stores and their sizes. -/
def halfStores : List ((BitVec 5 → BitVec 5 → Instr) × Nat) := [(.stDN, 8), (.stWN, 4)]

/-- R213: the value and flags of a loaded float: FP16 0, BF16 1, FP32 2. -/
def floatIn (fmt : BitVec 2) (bs : List Byte) : W32 × FFlags :=
  if fmt = 0 then (BitVec.ofNat 32 (convert .f16 .f32 .rne (ofBytes bs)).1, (convert .f16 .f32 .rne (ofBytes bs)).2)
  else if fmt = 1 then (BitVec.ofNat 32 (convert .bf16 .f32 .rne (ofBytes bs)).1, (convert .bf16 .f32 .rne (ofBytes bs)).2)
  else (BitVec.ofNat 32 (ofBytes bs), .none)

/-- R213: the stored number of an f register and its flags, rounded by fcsr. -/
def floatOut (fmt : BitVec 2) (rm : RM) (w : W32) : Nat × FFlags :=
  if fmt = 0 then convert .f32 .f16 rm w.toNat else if fmt = 1 then convert .f32 .bf16 rm w.toNat else (w.toNat, .none)

/-- Bytes of a float access. -/
def floatBytes (fmt : BitVec 2) : Nat := if fmt = 2 then 4 else 2

end Sys2Proof.Claim

/-- R99, R100, R210: a local load reads its bytes at issue and leaves their value pending for its destination; x0 takes none. The
16-bit loads are the forms with offset 0. -/
def Sys2Proof.Claim.LocalLoadsPendTheirValue : Prop :=
  (∀ e ∈ loadOps, ∀ (s : State) g d a i sz c x t₁ t₂ key, Enabled s .engine g → PortsOk s [a, d] →
    take s (start s 4) a = some (x, t₁) → claim s t₁ d = some t₂ →
    let n := 2 ^ sz.toNat
    let ea := effective x i n
    InRange s ea n n false → IsLocal s ea key → Quiet s key n →
    Completes (e.1 g d a i sz c) s
      (if d = 0 then t₂ else pending t₂ (.inl d) ((loadedWord e.2 n (s.peek key n)).setWidth 256)) 4) ∧
  (∀ e ∈ halfLoads, ∀ (s : State) d a x t₁ t₂ key, PortsOk s [a, d] → take s (start s 2) a = some (x, t₁) → claim s t₁ d = some t₂ →
    InRange s x e.2 e.2 false → IsLocal s x key → Quiet s key e.2 →
    Completes (e.1 d a) s (if d = 0 then t₂ else pending t₂ (.inl d) ((loadedWord true e.2 (s.peek key e.2)).setWidth 256)) 2)

/-- R99: a pending value comes one instruction nearer with each instruction that retires, and reaches its register with the
last; the other registers keep their values. -/
def Sys2Proof.Claim.PendingLoadsLand : Prop :=
  ∀ (t : Thread) q, t.pend = [q] →
    (1 < q.left → t.age = { t with pend := [{ q with left := q.left - 1 }] }) ∧
    (q.left ≤ 1 →
      (∀ d, q.dest = .inl d → d ≠ 0 → portOf t.id d = none →
        t.age = { t with pend := [], x := t.x.setIfInBounds d.toNat (q.value.setWidth 64) }) ∧
      (∀ d p, q.dest = .inl d → portOf t.id d = some p → t.outputs[p].length < 2 →
        t.age = { t with pend := [], outputs := t.outputs.set p (t.outputs[p] ++ [q.value.setWidth 64]) }) ∧
      (∀ d p, q.dest = .inl d → portOf t.id d = some p → 2 ≤ t.outputs[p].length → t.age = { t with pend := [{ q with left := 0 }] }) ∧
      (∀ d, q.dest = .inr (.inl d) → t.age = { t with pend := [], f := t.f.setIfInBounds d.toNat (q.value.setWidth 32) }) ∧
      (∀ d, q.dest = .inr (.inr d) → t.age = { t with pend := [], v := t.v.setIfInBounds d.toNat q.value }))

/-- R64, R99, R211, R212: a local store puts the low bytes of its register at its address at issue, lowest byte first, and changes
no other byte; a releasing one waits until every earlier counted store is acknowledged and every value returned. -/
def Sys2Proof.Claim.LocalStoresWriteTheirBytes : Prop :=
  (∀ e ∈ storeOps, ∀ (s : State) g d a i sz c x y t₁ t₂ key, Enabled s .engine g → PortsOk s [a, d] →
    take s (start s 4) a = some (x, t₁) → take s t₁ d = some (y, t₂) →
    let n := 2 ^ sz.toNat
    let ea := effective x i n
    InRange s ea n n true → IsLocal s ea key → Quiet s key n →
    ((e.2 = true ∧ s.released s.focus = false) → exec (e.1 g d a i sz c) s = .next (s.stall .other)) ∧
    ((e.2 = false ∨ s.released s.focus = true) →
      CompletesIn (e.1 g d a i sz c) s (stored s key ((leBytes n y.toNat).map some)) t₂ 4 ∧
      (Memory.wf s.mem = true → ∀ u, exec (e.1 g d a i sz c) s = .next u →
        (∀ k < n, Memory.read u.mem (key + k) = BitVec.ofNat 8 (y.toNat / 2 ^ (8 * k))) ∧
        ∀ k, k < key ∨ key + n ≤ k → Memory.read u.mem k = Memory.read s.mem k))) ∧
  (∀ e ∈ halfStores, ∀ (s : State) d a x y t₁ t₂ key, PortsOk s [a, d] → take s (start s 2) a = some (x, t₁) →
    take s t₁ d = some (y, t₂) → InRange s x e.2 e.2 true → IsLocal s x key → Quiet s key e.2 →
    CompletesIn (e.1 d a) s (stored s key ((leBytes e.2 y.toNat).map some)) t₂ 2 ∧
    (Memory.wf s.mem = true → ∀ u, exec (e.1 d a) s = .next u →
      (∀ k < e.2, Memory.read u.mem (key + k) = BitVec.ofNat 8 (y.toNat / 2 ^ (8 * k))) ∧
      ∀ k, k < key ∨ key + e.2 ≤ k → Memory.read u.mem k = Memory.read s.mem k))

/-- R102, R106, R108, R119, R210, R211, R212: a load or store whose home is elsewhere sends one request, counts its counter up
and retires; no memory byte changes. The 16-bit forms do so with dc0. -/
def Sys2Proof.Claim.RemoteAccessesSendRequests : Prop :=
  (∀ e ∈ loadOps, ∀ (s : State) g d a i sz c x t₁ t₂, Enabled s .engine g → PortsOk s [a, d] →
    take s (start s 4) a = some (x, t₁) → claim s t₁ d = some t₂ →
    let n := 2 ^ sz.toNat
    let ea := effective x i n
    InRange s ea n n false → IsRemote s ea → NotForwarded s ea n → MaySend s (asLoad c) [(ea, .load n (.x d e.2))] →
    Sends (e.1 g d a i sz c) s t₂ (asLoad c) [(ea, .load n (.x d e.2))] 4) ∧
  (∀ e ∈ storeOps, ∀ (s : State) g d a i sz c x y t₁ t₂, Enabled s .engine g → PortsOk s [a, d] →
    take s (start s 4) a = some (x, t₁) → take s t₁ d = some (y, t₂) →
    let n := 2 ^ sz.toNat
    let ea := effective x i n
    let ask : List (Word × Body) := [(ea, .store ((leBytes n y.toNat).map some))]
    InRange s ea n n true → IsRemote s ea → (e.2 = true → s.released s.focus = true) → MaySend s (asStore c e.2) ask →
    Sends (e.1 g d a i sz c) s t₂ (asStore c e.2) ask 4) ∧
  (∀ e ∈ halfLoads, ∀ (s : State) d a x t₁ t₂, PortsOk s [a, d] → take s (start s 2) a = some (x, t₁) → claim s t₁ d = some t₂ →
    InRange s x e.2 e.2 false → IsRemote s x → NotForwarded s x e.2 → MaySend s (asLoad 0) [(x, .load e.2 (.x d true))] →
    Sends (e.1 d a) s t₂ (asLoad 0) [(x, .load e.2 (.x d true))] 2) ∧
  (∀ e ∈ halfStores, ∀ (s : State) d a x y t₁ t₂, PortsOk s [a, d] → take s (start s 2) a = some (x, t₁) →
    take s t₁ d = some (y, t₂) → InRange s x e.2 e.2 true → IsRemote s x →
    MaySend s (asStore 0 false) [(x, .store ((leBytes e.2 y.toNat).map some))] →
    Sends (e.1 d a) s t₂ (asStore 0 false) [(x, .store ((leBytes e.2 y.toNat).map some))] 2)

/-- R31, R108, R113, R211, R223: the class of an access: held for a DET launch's thread where its kind can be held, else ordered
when forced or when the home lies on the hart's own die, else bulk; an overlay's are bulk unless forced, and an access to a
hart's own memory, a copy's packet, is bulk unless forced. -/
def Sys2Proof.Claim.AccessClasses : Prop :=
  ∀ (s : State) (t : Thread) (a : Word) forced holdable,
    (a.toNat < 2 ^ 48 → s.clsOf t a forced holdable = if forced then .ordered else .bulk) ∧
    (2 ^ 48 ≤ a.toNat → s.isDet t = true → holdable = true → s.clsOf t a forced holdable = .held) ∧
    (2 ^ 48 ≤ a.toNat → (s.isDet t = false ∨ holdable = false) → forced = true → s.clsOf t a forced holdable = .ordered) ∧
    (2 ^ 48 ≤ a.toNat → (s.isDet t = false ∨ holdable = false) → forced = false → (∀ ch, t.id ≠ .overlay ch) →
      s.clsOf t a forced holdable = if (s.keyFor? t a).bind dieOfKey = some t.id.die then .ordered else .bulk) ∧
    (forced = false → (∃ ch, t.id = .overlay ch) → s.clsOf t a forced holdable = .bulk)

/-- R91, R105: a scalar load or store outside the hart's ranges traps with ACCESS, one that is not aligned with MISALIGN, each with
its address as FADDR and no other effect, whatever a load's destination is; a store has its data first. -/
def Sys2Proof.Claim.BadAddressesTrap : Prop :=
  ∀ e ∈ loadOps.map (fun e => (e.1, false)) ++ storeOps.map (fun e => (e.1, true)), ∀ (s : State) g d a i sz c x t₁,
    Enabled s .engine g → PortsOk s [a, d] → s.focus.acquires = [] → take s (start s 4) a = some (x, t₁) →
    (e.2 = true → ∃ q, take s t₁ d = some q) →
    let n := 2 ^ sz.toNat
    let ea := effective x i n
    (rangeOk s.focus.id (s.launchOf s.focus) ea n e.2 = false → exec (e.1 g d a i sz c) s = .next (s.raise 0x04 ea)) ∧
    (rangeOk s.focus.id (s.launchOf s.focus) ea n e.2 = true → ea.toNat % n ≠ 0 → exec (e.1 g d a i sz c) s = .next (s.raise 0x03 ea))

/-- R51, R86, R213: FLD reads an FP16, BF16 or FP32 and FST writes one rounded by fcsr; a local FLD raises its flags at issue
(the model's reading, log 60) and its value is pending, FST raises its flags at issue, and remote ones send a request. -/
def Sys2Proof.Claim.FloatLoadsAndStores : Prop :=
  (∀ (s : State) g d a i sz c x t₁, Enabled s .core g → PortsOk s [a] → take s (start s 4) a = some (x, t₁) → Clear s (.f d) →
    let n := floatBytes sz
    let ea := effective x i n
    InRange s ea n n false →
    (∀ key, IsLocal s ea key → Quiet s key n →
      Completes (.fld g d a i sz c) s
        (pending (t₁.raiseFlags (floatIn sz (s.peek key n)).2) (.inr (.inl d)) ((floatIn sz (s.peek key n)).1.setWidth 256)) 4) ∧
    (IsRemote s ea → NotForwarded s ea n → MaySend s (asLoad c) [(ea, .load n (.f d sz))] →
      Sends (.fld g d a i sz c) s { t₁ with pend := t₁.pend.filter fun q => q.dest ≠ .inr (.inl d) } (asLoad c) [(ea, .load n (.f d sz))] 4)) ∧
  (∀ (s : State) g d a i sz c x t₁, Enabled s .core g → PortsOk s [a] → take s (start s 4) a = some (x, t₁) → Clear s (.f d) →
    let n := floatBytes sz
    let ea := effective x i n
    let r := floatOut sz (rmOf s.focus.fcsr) (s.focus.f.toArray.getD d.toNat 0)
    let bytes := (leBytes n r.1).map some
    InRange s ea n n true →
    (∀ key, IsLocal s ea key → Quiet s key n →
      CompletesIn (.fst g d a i sz c) s (stored s key bytes) (t₁.raiseFlags r.2) 4 ∧
      (Memory.wf s.mem = true → ∀ u, exec (.fst g d a i sz c) s = .next u →
        (∀ k < n, Memory.read u.mem (key + k) = BitVec.ofNat 8 (r.1 / 2 ^ (8 * k))) ∧
        ∀ k, k < key ∨ key + n ≤ k → Memory.read u.mem k = Memory.read s.mem k)) ∧
    (IsRemote s ea → MaySend s (asStore c false) [(ea, .store bytes)] →
      Sends (.fst g d a i sz c) s (t₁.raiseFlags r.2) (asStore c false) [(ea, .store bytes)] 4))

/-- R90, R91, R92, R93, R94, R95: where the n bytes from an address lie for a hart. A thread reaches the launch's area of its own
TCM, its cluster's reservation of the scratchpad, the area of any core of the launch's domain through the core window, its own
core included, and the global region, each without leaving it; every other access is outside. A byte of the window is the
local byte of the core it names. A Porter has no local region, and an overlay sees its scratch at 0 to 0x7FFF and its code, which it
may only read, at 0x10000 to 0x10FFF (R335). A steward reaches the global region alone (the model's reading, log 15). -/
def Sys2Proof.Claim.AddressRangesAreRight : Prop :=
  (∀ c k (l : Launch) (a : Word) n w, 1 ≤ n →
    let A := a.toNat
    let areaEnd := l.tcmOff + l.info.tc * (l.info.tcml * 256)
    let target : CoreId := ⟨A / 2 ^ 33 % 32, A / 2 ^ 26 % 128, A / 2 ^ 20 % 64⟩
    (rangeOk (.thread c k) (some l) a n w = true ↔
      (l.tcmOff ≤ A ∧ A + n ≤ areaEnd ∧ A + n ≤ 0x60000) ∨
      (0x100000 ≤ A ∧ A + n ≤ 0x200000 ∧ A + n ≤ 0x100000 + l.info.spb) ∨
      (A / 2 ^ 48 = 1 ∧ A / 2 ^ 38 % 2 ^ 10 = 0 ∧ l.hasCore target = true ∧
        l.tcmOff ≤ A % 2 ^ 20 ∧ A % 2 ^ 20 + n ≤ areaEnd ∧ A % 2 ^ 20 + n ≤ 0x60000) ∨
      (2 ^ 56 ≤ A ∧ A + n ≤ 2 ^ 56 + 2 ^ 48)) ∧
    (rangeOk (.thread c k) (some l) a n w = true →
      placeOf (.thread c k) (some l) a =
        if A < 0x60000 then .loc (tcmKey c A)
        else if A < 0x200000 then .loc (padKey c.cluster (l.padOff c.cluster (A - 0x100000)))
        else if A / 2 ^ 48 = 1 then .window target (A % 2 ^ 20) else .glob (A % 2 ^ 48))) ∧
  (∀ (l : Launch) (c : CoreId), l.hasCore c = true ↔ c.die < 32 ∧ c.row < 80 ∧ c.col < 64 ∧
    l.crow ≤ (80 * (c.die / 8) + c.row) / 4 ∧ (80 * (c.die / 8) + c.row) / 4 < l.crow + l.info.dh ∧
    l.ccol ≤ (64 * (c.die % 8) + c.col) / 4 ∧ (64 * (c.die % 8) + c.col) / 4 < l.ccol + l.info.dw) ∧
  (∀ (s : State) (t : Thread) (a : Word), a.toNat / 2 ^ 48 = 1 →
    s.keyFor? t a = some (tcmKey ⟨a.toNat / 2 ^ 33 % 32, a.toNat / 2 ^ 26 % 128, a.toNat / 2 ^ 20 % 64⟩ (a.toNat % 2 ^ 20))) ∧
  (∀ d i l (a : Word) n w, rangeOk (.porter d i) l a n w = true → a.toNat / 2 ^ 48 = 1 ∨ a.toNat / 2 ^ 48 = 0x100) ∧
  (∀ ch l (a : Word) n w, 1 ≤ n →
    (rangeOk (.overlay ch) l a n w = true ↔
      a.toNat + n ≤ 0x8000 ∨ (w = false ∧ 0x10000 ≤ a.toNat ∧ a.toNat + n ≤ 0x11000) ∨
      (2 ^ 56 ≤ a.toNat ∧ a.toNat + n ≤ 2 ^ 56 + 2 ^ 48)) ∧
    (a.toNat < 0x8000 → placeOf (.overlay ch) l a = .loc (scratchKey ch a.toNat)) ∧
    (0x10000 ≤ a.toNat → a.toNat < 0x11000 → placeOf (.overlay ch) l a = .loc (overlayKey ch (a.toNat - 0x10000)))) ∧
  (∀ d i (a : Word) n w, rangeOk (.steward d i) none a n w = true → a.toNat / 2 ^ 48 = 0x100)

/-- R106, R123: when a release may go on, and when requests find their permits. A release waits until its hart has no
unacknowledged counted store and every value-returning access of it has returned, a held one until its home has accepted it.
New requests of a core find permits when all that it holds and they are at most 16, and at most 4 go to each home router
that they name; and two homes have one router exactly when R106 gives them one (a die's control page counts on its slice
router 0, the model's choice, log 12). -/
def Sys2Proof.Claim.ReleasesAndPermitsAreRight : Prop :=
  (∀ (s : State) (t : Thread), s.released t = true ↔ t.unack = 0 ∧
    ∀ r ∈ s.net, r.src = .hart t.id → r.body.returns = true →
      r.cls = .held ∧ r.phase ≠ .sent ∧ r.phase ≠ .atHome ∧ ∀ c a, r.phase ≠ .refused c a) ∧
  (∀ (s : State) (h : HartId) reqs, limited h = true →
    (s.permitsFree h reqs = true ↔
      (s.permitted h).length + reqs.length ≤ 16 ∧
      ∀ r ∈ reqs, ∀ k, s.routerOf r = some k → (s.permitted h ++ reqs).countP (fun q => decide (s.routerOf q = some k)) ≤ 4)) ∧
  (∀ (s : State) (c c' : CoreId), c.die < 32 → c'.die < 32 → c.row < 80 → c'.row < 80 → c.col < 64 → c'.col < 64 →
    (s.homeRouter (.tcm c) = s.homeRouter (.tcm c') ↔ c.die = c'.die ∧ c.row / 8 = c'.row / 8 ∧ c.col / 8 = c'.col / 8)) ∧
  (∀ (s : State) d sl d' sl', d < 32 → d' < 32 → sl < 16 → sl' < 16 →
    (s.homeRouter (.slice d sl) = s.homeRouter (.slice d' sl') ↔ d = d' ∧ sl / 2 = sl' / 2)) ∧
  (∀ (s : State) ch ch', ch < 1024 → ch' < 1024 → (s.homeRouter (.channel ch) = s.homeRouter (.channel ch') ↔ ch / 32 = ch' / 32)) ∧
  (∀ (s : State) dev dev' p p', s.exitPort dev = some p → s.exitPort dev' = some p' →
    (s.homeRouter (.remote dev) = s.homeRouter (.remote dev') ↔ p / 32 = p' / 32)) ∧
  (∀ (s : State) (c : CoreId) d sl ch dev p, c.die < 32 → c.row < 80 → c.col < 64 → d < 32 → sl < 16 → ch < 1024 → s.exitPort dev = some p →
    [s.homeRouter (.tcm c), s.homeRouter (.slice d sl), s.homeRouter (.channel ch), s.homeRouter (.remote dev)].Nodup)

namespace Sys2Proof.Claim

/-! ### Atomics, fences, barriers, copies -/

/-- An AMO instruction of an operation. -/
abbrev AmoForm := Guard → BitVec 5 → BitVec 5 → BitVec 5 → BitVec 2 → BitVec 1 → Instr

/-- R169, R216: the atomics, their codes and their new values on n-byte operands: old, y, and CAS's comparand; none leaves memory. -/
def amoOps : List (AmoForm × BitVec 3 × (Nat → Word → Word → Word → Option Word)) :=
  [(.amoAdd, 0, fun _ o y _ => some (BitVec.ofNat 64 (o.toNat + y.toNat))), (.amoAnd, 1, fun _ o y _ => some (o &&& y)),
   (.amoOr, 2, fun _ o y _ => some (o ||| y)), (.amoXor, 3, fun _ o y _ => some (o ^^^ y)),
   (.amoMin, 4, fun n o y _ => some (if n = 8 then (if y.toInt < o.toInt then y else o)
     else if (y.setWidth 32).toInt < (o.setWidth 32).toInt then y else o)),
   (.amoMax, 5, fun n o y _ => some (if n = 8 then (if o.toInt < y.toInt then y else o)
     else if (o.setWidth 32).toInt < (y.setWidth 32).toInt then y else o)),
   (.amoSwap, 6, fun _ _ y _ => some y),
   (.amoCas, 7, fun n o y c => if n = 8 then (if o = c then some y else none)
     else if (o.setWidth 32 : W32) = c.setWidth 32 then some y else none)]

/-- Bytes of an atomic. -/
def amoBytes (z : BitVec 1) : Nat := if z = 1 then 8 else 4

/-- An atomic's operands: a and b, and for CAS the comparand d. -/
abbrev AmoTakes (s : State) (op : BitVec 3) (d a b : BitVec 5) (ea y cmp : Word) (t : Thread) : Prop :=
  ∃ t₁ t₂, take s (start s 4) a = some (ea, t₁) ∧ take s t₁ b = some (y, t₂) ∧
    (if op = 7 then take s t₂ d = some (cmp, t) else cmp = 0 ∧ t = t₂)

/-- R127: the home of a byte key lies within a scope of a hart: 1 its cluster's TCMs and scratchpad, 2 its die's homes, 3 every home
but another module's, else every home. -/
def Within (scope : BitVec 3) (t : Thread) (key : Nat) : Prop :=
  if scope.toNat = 1 then ∃ c c', homeOf key = .tcm c ∧ t.id.core? = some c' ∧ key < 2 ^ 49 ∧ c.cluster = c'.cluster
  else if scope.toNat = 2 then dieOfKey key = some t.id.die
  else if scope.toNat = 3 then ∀ dev, homeOf key ≠ .remote dev
  else True

/-- The barrier level exists for the issuing hart (R25, R26): its launch has it. -/
abbrev HasLevel (s : State) (level : Nat) : Prop := s.levelOk level = true

/-- R31, R114: a hart that arrives at a level: in a DET launch its next held access is the first of the next superstep when the
level's barrier ends the superstep. -/
def arriving (s : State) (t : Thread) (level : Nat) (a : Arrival) : Thread :=
  if s.endsStep level then { t.setArrival level a with superstep := t.superstep + 1, heldIdx := 0 } else t.setArrival level a

/-- R28: every arrival of a hart that waits for a counter which reads zero is recorded. -/
def recorded (t : Thread) (upto : Nat) : Thread :=
  { t with arrived := t.arrived.map fun a => match a with | .pending c => if t.counter c = 0 then .arrived upto else .pending c | a => a }

/-- A request leaves for the network; an ordered one is stamped (R111). -/
def injected (s : State) (r : Req) : State :=
  if r.cls = .ordered then { (s.stamp r.src.inj).2 with net := s.net ++ [{ r with stamp := (s.stamp r.src.inj).1 }] }
  else { s with net := s.net ++ [r] }

/-- R27, R31: an access of a DET launch to an address outside its hart's own memory belongs to a superstep that has not begun. -/
abbrev Ahead (l : Launch) (superstep : Nat) (a : Word) : Prop := l.info.det = true ∧ l.sstep < superstep ∧ 2 ^ 48 ≤ a.toNat

/-- R114, R221, R222, R223: the packet that carries a copy's next bytes to an address: of the copy's class there, counted as a store,
with its counter, and in a DET launch with the logical stamp of its place among the copy's packets. -/
def copyPacket (s : State) (c : Copy) (a : Word) (bs : List Byte) : Req :=
  let cls := s.clsOf (s.hart c.hart) a c.ordered true
  { asReq c.hart c.lid c.space with
    id := s.nextId, grp := c.id, task := (s.hart c.hart).task, cls, dc := c.dc, counted := true, addr := a, body := .store (bs.map some)
    served := false, wide := true, packet := true, failed := c.dc.isNone, idx := c.idx
    stamp := match cls, s.launch? c.lid, c.hart.core? with
      | .held, some l, some core => logicalStamp c.superstep (s.hart c.hart).h (c.idx + (a.toNat / 256 - c.dst.toNat / 256)) (l.lcore core)
      | _, _, _ => ⟨0, 0, 0, 0⟩
    superstep := c.superstep, pc := c.pc, iword := c.iword }

/-- R87, R220: the bytes that a conversion makes of source bytes. A BF16 or FP16 and an FP32 convert as R231 has them, to nearest even. -/
def convertedBytes (conv : BitVec 3) (bs : List Byte) : List Byte :=
  let pieces (n : Nat) : List Nat := (List.range ((bs.length + n - 1) / n)).map fun i => ofBytes ((bs.drop (n * i)).take n)
  let rx (v : Int) : List Byte := leBytes 4 (rxOf v).toNat
  match conv.toNat with
  | 1 => bs.flatMap fun b => rx b.toInt
  | 2 => bs.flatMap fun b => rx (b.extractLsb' 0 4).toInt ++ rx (b.extractLsb' 4 4).toInt
  | 3 => (pieces 4).flatMap fun v => leBytes 2 (convert .f32 .bf16 .rne v).1
  | 4 => (pieces 2).flatMap fun v => leBytes 4 (convert .bf16 .f32 .rne v).1
  | 5 => (pieces 4).flatMap fun v => leBytes 2 (convert .f32 .f16 .rne v).1
  | 6 => (pieces 2).flatMap fun v => leBytes 4 (convert .f16 .f32 .rne v).1
  | _ => bs

/-- R220, R221: where the source of a copy's next n destination bytes begins, how long it is, and how many converted bytes come before
them: an I4 byte makes eight. -/
def sourcePiece (c : Copy) (n : Nat) : Nat × Nat × Nat :=
  match c.conv.toNat with
  | 1 => (c.done / 4, n / 4, 0)
  | 2 => (c.done / 8, (c.done + n + 7) / 8 - c.done / 8, c.done % 8)
  | 3 => (2 * c.done, 2 * n, 0)
  | 4 => (c.done / 2, n / 2, 0)
  | 5 => (2 * c.done, 2 * n, 0)
  | 6 => (c.done / 2, n / 2, 0)
  | _ => (c.done, n, 0)

/-- The address of that source. -/
def sourceAddress (c : Copy) (n : Nat) : Word := c.src + BitVec.ofNat 64 (sourcePiece c n).1

/-- R105, R108, R221: of the pieces of a copy's source of n destination bytes, some go in ordered class: the copy's hart is no overlay,
the source is not its own memory, and the home of such a piece lies on its own die. -/
def ReadOrdered (s : State) (c : Copy) (n : Nat) : Prop :=
  2 ^ 48 ≤ (sourceAddress c n).toNat ∧ (∀ ch, c.hart ≠ .overlay ch) ∧ ∃ x ∈ s.sourceRuns c n, dieOfKey x.1 = some c.hart.die

/-- R119, R221, R223, R385, R392, R403: the source of a copy's next n destination bytes may be read, at a key, and its charge leaves
state `s'`: the hart's earlier stores there are performed, its superstep has begun and no restore will overwrite it (`sourceOpen`); it
lies in one 256-byte unit of this module's memories, free of ECC errors and not swapped out; and the launch is not deterministic, or the
memory the hart's own. -/
abbrev SourceReadable (s s' : State) (c : Copy) (n key : Nat) : Prop :=
  let src := sourceAddress c n
  let len := (sourcePiece c n).2.1
  s.sourceOpen c n = true ∧ s.paySource c n = some s' ∧ 0 < len ∧ src.toNat % 256 + len ≤ 256 ∧
  s.xlat (asReq c.hart c.lid c.space) src .read = .hit key ∧ key < 2 ^ 50 ∧ isPage key = false ∧ s.swappedAt c.lid key len = none ∧
  (∀ e ∈ s.ecc, shareWord key len e.1 8 = false) ∧
  (src.toNat < 2 ^ 48 ∨ ∀ l ∈ s.launches, l.info.lid = c.lid → l.info.det = false)

/-- R87, R220: the bytes that it gives the packet. -/
def sourceBytes (s : State) (c : Copy) (n key : Nat) : List Byte :=
  ((convertedBytes c.conv (s.peek key (sourcePiece c n).2.1)).drop (sourcePiece c n).2.2).take n

/-- R111: the reply of a home that is not the hart's own raises its G. -/
def replyHeard (s : State) (c : Copy) (n : Nat) : State :=
  if (sourceAddress c n).toNat < 2 ^ 48 then s else s.receiveTime (injOf c.hart) s.clk

/-- A copy changed in the state. -/
def withCopy (s : State) (c : Copy) : State := { s with copies := s.copies.map fun q => if q.id = c.id then c else q }

end Sys2Proof.Claim

/-- R216: a local atomic reads its word, writes the operation's result (a failing CAS writes nothing) and gives x[d] the old value,
sign-extended; it closes a region. A releasing one first waits. -/
def Sys2Proof.Claim.LocalAtomics : Prop :=
  ∀ e ∈ amoOps, ∀ (s : State) g d a b o z ea y cmp t t' key, Enabled s .porter g → PortsOk s [a, b, d] →
    AmoTakes s e.2.1 d a b ea y cmp t →
    let n := amoBytes z
    let old := ofBytes (s.peek key n)
    InRange s ea n n true → IsLocal s ea key → Quiet s key n → (2 ≤ o.toNat → s.released s.focus = true) →
    give s t d (loadedWord true n (s.peek key n)) = some t' →
    (∀ w, e.2.2 n (BitVec.ofNat 64 old) y cmp = some w →
      CompletesIn (e.1 g d a b o z) s (stored s key ((leBytes n w.toNat).map some)) t' 4 .yes) ∧
    (e.2.2 n (BitVec.ofNat 64 old) y cmp = none →
      CompletesIn (e.1 g d a b o z) s (s.keepOld s.focus.lid s.focus.superstep key n) t' 4 .yes)

/-- R123, R216, R217: a remote atomic sends one request that carries the operation, the operand and the comparand; it takes no
counter, counts as a store, and an acquiring one holds every later access back until its reply. -/
def Sys2Proof.Claim.RemoteAtomics : Prop :=
  ∀ e ∈ amoOps, ∀ (s : State) g d a b o z ea y cmp t t', Enabled s .porter g → PortsOk s [a, b, d] →
    AmoTakes s e.2.1 d a b ea y cmp t → claim s t d = some t' →
    let n := amoBytes z
    let m : Manner := ⟨none, true, decide (o.toNat % 2 = 1), decide (2 ≤ o.toNat), true, false, false⟩
    InRange s ea n n true → IsRemote s ea → (2 ≤ o.toNat → s.released s.focus = true) → MaySend s m [(ea, .amo e.2.1 n y cmp d)] →
    Sends (e.1 g d a b o z) s t' m [(ea, .amo e.2.1 n y cmp d)] 4 .yes

/-- R128, R216: an atomic performed at its home: one indivisible read and write of its word, whatever the home. -/
def Sys2Proof.Claim.AtomicsAtTheirHome : Prop :=
  ∀ e ∈ amoOps, ∀ (s : State) key n y cmp, n = 4 ∨ n = 8 →
    s.amoAt key e.2.1 n y cmp = (s.peek key n,
      match e.2.2 n (BitVec.ofNat 64 (ofBytes (s.peek key n))) y cmp with
      | some w => s.pokeBytes key (leBytes n w.toNat)
      | none => s)

/-- R124, R219: a fence stalls its thread while what it counts within its scope is not done, and then retires with no other effect. -/
def Sys2Proof.Claim.FencesWait : Prop :=
  ∀ e ∈ ([(.fence, true, true), (.fenceSt, true, false), (.fenceLd, false, true)] : List ((Guard → BitVec 3 → Instr) × Bool × Bool)),
    ∀ (s : State) g sz, Enabled s .porter g →
      ((s.focus.acquires ≠ [] ∨ s.fenceHeld s.focus sz e.2.1 e.2.2 = true) → exec (e.1 g sz) s = .next (s.stall .other)) ∧
      (s.focus.acquires = [] → s.fenceHeld s.focus sz e.2.1 e.2.2 = false → Completes (e.1 g sz) s (start s 4) 4)

/-- R124, R127: what a fence waits for, exactly: within its scope, a counted store of its hart for FENCE and FENCE.ST, a
value-returning access for FENCE and FENCE.LD, each buffered or in flight and, when held, not accepted yet; and for FENCE and
FENCE.ST a packet of the hart's copies that has not left. With none of these, and no acquire, each fence completes. That the read of
a tile load is none of these is the model's reading (log 133). -/
def Sys2Proof.Claim.FencesCoverStores : Prop :=
  (∀ (s : State) (t : Thread) (scope : BitVec 3) (st ld : Bool), s.fenceHeld t scope st ld = true ↔
    (∃ r ∈ s.buffered t.id ++ s.net, r.src = .hart t.id ∧ ((st = true ∧ r.counted = true) ∨ (ld = true ∧ r.body.returns = true)) ∧
      Within scope t (s.reqKey r) ∧ (r.cls = .held → r.phase = .sent ∨ r.phase = .atHome ∨ ∃ c a, r.phase = .refused c a)) ∨
    (st = true ∧ ∃ c ∈ s.copies, c.hart = t.id ∧ ∃ key ∈ s.copyKeys c, Within scope t key)) ∧
  (∀ (s : State) (c : Copy) key, key ∈ s.copyKeys c ↔ ∃ o, c.done ≤ o ∧ o < c.len ∧ (o = c.done ∨ (c.dst.toNat + o) % 256 = 0) ∧
    s.keyAt? (.hart c.hart) c.lid c.space c.hart.physical (BitVec.ofNat 64 (c.dst.toNat + o)) = some key) ∧
  (∀ (s : State) g sz, Enabled s .porter g → s.focus.acquires = [] →
    let nothing (st ld : Bool) : Prop := (∀ r ∈ s.buffered s.focus.id ++ s.net, r.src = .hart s.focus.id →
      (st = true → r.counted = false) ∧ (ld = true → r.body.returns = false)) ∧ (st = true → ∀ c ∈ s.copies, c.hart ≠ s.focus.id)
    (nothing true true → Completes (.fence g sz) s (start s 4) 4) ∧ (nothing true false → Completes (.fenceSt g sz) s (start s 4) 4) ∧
    (nothing false true → Completes (.fenceLd g sz) s (start s 4) 4))

/-- R57, R226: WAITDC waits while its counter is above its threshold and then retires. -/
def Sys2Proof.Claim.WaitdcWaits : Prop :=
  ∀ (s : State) g c h, Enabled s .core g →
    (h.toNat < (s.focus.counter c).toNat → exec (.waitdc g c h) s = .next (s.stall .other)) ∧
    ((s.focus.counter c).toNat ≤ h.toNat → Completes (.waitdc g c h) s (start s 4) 4)

/-- R34, R227: RGN makes the following instruction the region entry of a thread outside a troupe, with e[a] as its live-in mask
and copies of its tiles, latches and repeat context. -/
def Sys2Proof.Claim.RgnMovesTheRegion : Prop :=
  ∀ (s : State) g e, Enabled s .core g → Completes (.rgn g e) s (start s 4) 4 (.rgn (s.focus.e.toArray.getD e.toNat 0)) ∧
    (s.focus.troupe = none → s.focus.rep = none → s.focus.pend = [] → ∃ u, exec (.rgn g e) s = .next u ∧
      u.focus.region = ⟨s.focus.pc + 4, s.focus.e.toArray.getD e.toNat 0, s.focus.c0, s.focus.c1, s.focus.b0, s.focus.b1, s.focus.fill, none⟩ ∧
      u.focus.pc = s.focus.pc + 4 ∧ u.mem = s.mem)

/-- R16, R228: YIELD retires, and the core's next issue is the first ready thread set after it, counting round; with none ready the
thread goes on. -/
def Sys2Proof.Claim.YieldTurnsTheCore : Prop :=
  ∀ (s : State) g c h, Enabled s .core g → s.focus.id = .thread c h →
    let r := retired s (start s 4) 4 .no
    ∃ u, exec (.yield g) s = .next u ∧ lookup? c u.streaks = some (u.focus.id.set, 0) ∧
      (∀ k, u.hart k = r.hart k) ∧ u.mem = s.mem ∧
      u.focus.id = (r.nextReady c h).getD (.thread c h)

/-- R25, R29, R229: PHASE.X opens the exchange phase of a level that its launch has; a level that it has not traps with
BARRIER_LEVEL, as SYNC, ARRIVE, ARRIVED and WAIT do. -/
def Sys2Proof.Claim.PhasesAndLevels : Prop :=
  (∀ (s : State) g l, Enabled s .core g → HasLevel s l.toNat →
    Completes (.phaseX g l) s { start s 4 with phases := s.focus.phases.setIfInBounds (l.toNat - 1) true } 4) ∧
  (∀ (s : State) g l c, Enabled s .core g → ¬ HasLevel s l.toNat →
    exec (.phaseX g l) s = .next (s.raise 0x0B 0) ∧ exec (.arrive g l) s = .next (s.raise 0x0B 0) ∧
    exec (.arrived g l c) s = .next (s.raise 0x0B 0) ∧ exec (.wait g l) s = .next (s.raise 0x0B 0) ∧
    exec (.sync g l) s = .next (s.raise 0x0B 0))

/-- R27, R28, R31, R224: ARRIVE records that its thread has arrived with every access issued so far, ARRIVED when its counter reads
zero (at once if it does, as another level's ARRIVED is then), and each traps with BARRIER_LEVEL while an arrival at the
level waits for its WAIT. At the level that ends a superstep the thread's part in it ends with the arrival. -/
def Sys2Proof.Claim.ArrivalsAreRecorded : Prop :=
  ∀ (s : State) g l c, Enabled s .core g → HasLevel s l.toNat →
    (s.focus.arrival l.toNat = .none → Completes (.arrive g l) s (arriving s (start s 4) l.toNat (.arrived s.nextId)) 4) ∧
    (s.focus.arrival l.toNat = .none →
      Completes (.arrived g l c) s (recorded (arriving s (start s 4) l.toNat (.pending c)) s.nextId) 4) ∧
    (s.focus.arrival l.toNat ≠ .none → exec (.arrive g l) s = .next (s.raise 0x0B 0) ∧ exec (.arrived g l c) s = .next (s.raise 0x0B 0))

/-- R28, R29, R32, R34, R224: WAIT, and SYNC that has arrived, wait for their barrier and return once it has completed: the arrival
is spent, the level's exchange phase ends, and a region closes exactly when one was open; where the barrier ended a superstep, the
held results of the supersteps that are over reach their registers. SYNC's first attempt is its arrival. -/
def Sys2Proof.Claim.WaitsReturnAfterTheBarrier : Prop :=
  (∀ (s : State) g l, Enabled s .core g → HasLevel s l.toNat →
    let left (t : Thread) : Thread := { t.setArrival l.toNat .none with phases := t.phases.setIfInBounds (l.toNat - 1) false }
    let returns (i : Instr) : Prop := ∀ la, s.launchOf s.focus = some la → exec i s = .next
      ((if s.endsStep l.toNat then State.deliverHeld { s with focus := left (start s 4) } s.focus.id la.sstep else { s with focus := left (start s 4) }).retire
        s.focus 4 (if s.focus.phases.toArray.getD (l.toNat - 1) false then .yes else .other) true)
    (s.focus.arrival l.toNat = .passed → returns (.wait g l)) ∧
    (s.focus.arrival l.toNat = .none → exec (.wait g l) s = .next (s.raise 0x0B 0)) ∧
    (s.focus.arrival l.toNat ≠ .none → s.focus.arrival l.toNat ≠ .passed → exec (.wait g l) s = .next (s.stall (.barrier l.toNat))) ∧
    (s.focus.arrival l.toNat = .none →
      exec (.sync g l) s = .next ((s.mapFocus fun t => arriving s t l.toNat (.arrived s.nextId)).stall (.barrier l.toNat))) ∧
    (∀ since, s.focus.wait = some (.barrier l.toNat, since) →
      (s.focus.arrival l.toNat = .passed → returns (.sync g l)) ∧
      (s.focus.arrival l.toNat ≠ .none → s.focus.arrival l.toNat ≠ .passed → exec (.sync g l) s = .next (s.stall (.barrier l.toNat))))) ∧
  (∀ (s : State) h below r op n y cmp d data time,
    (s.net.filter fun q => decide (q.src = .hart h) && decide (q.lid = (s.hart h).lid) && decide (q.cls = .held) && decide (q.superstep < below)) = [r] →
    r.phase = .performed data time → r.body = .amo op n y cmp d → d ≠ 0 → portOf h d = none → (s.hart h).id = h →
    (s.hart h).stage = .active → (s.hart h).state ≠ .free → data.length = n → n = 4 ∨ n = 8 →
    s.deliverHeld h below = { s.mapHart h fun t => { t with x := t.x.setIfInBounds d.toNat (loadedWord true n data) } with
      net := s.net.filter fun q => decide (q.id ≠ r.id) })

/-- R28, R118: an ARRIVED that waits is recorded once its counter reads zero; nothing else changes. -/
def Sys2Proof.Claim.ArrivedIsRecordedAtZero : Prop :=
  ∀ (s : State) h level c, (s.hart h).arrival level = .pending c → (s.hart h).counter c = 0 →
    exec (.arrivedArrival h level) s = .next (s.setHart ((s.hart h).setArrival level (.arrived s.nextId)))

/-- R26, R27, R30, R43: a barrier of level 1, 2 or 3 that ends no superstep, of a deterministic launch or another, completes when
every member of the group has arrived and every access that an arrival covers has been performed: exactly the arrivals of the
group's members change, and each member's event latch is set (R341). -/
def Sys2Proof.Claim.BarriersComplete : Prop :=
  ∀ (s : State) lid level group l, s.launch? lid = some l → 1 ≤ level → level ≤ 3 → l.hasLevel level = true →
    (l.info.det = true → level = 3 → l.info.fbid ≠ 0) → (l.closing = true → level = 3 → l.info.fbid ≠ 0) → (level = 3 → group = 0) →
    let members := s.groupOf l level group
    members ≠ [] → (∀ t ∈ members, ∃ upto, t.arrival level = .arrived upto ∧
      s.coveredBelow l (decide (level = 3 ∧ l.info.fbid = 0)) t.id upto = true) →
    exec (.barrierComplete lid level group) s = .next (s.mapHarts
      (fun t => decide (t.lid = l.info.lid) && decide (t.state ≠ .free) && l.inGroup level group t)
      fun t => match t.arrival level with | .arrived _ => { t.setArrival level .passed with latch := true } | _ => t)

/-- R27, R28, R31: what an arrival covers: when the arrival of a hart is covered, each of its requests from before the arrival has been
performed or accepted, also those still to be injected, and no copy or tile load from before it is unfinished. Only at the barrier
that ends a superstep (`ends`) does a read that itself waits for the next superstep stay out. -/
def Sys2Proof.Claim.ArrivalsCoverEarlierAccesses : Prop :=
  ∀ (s : State) (l : Launch) ends h upto, s.coveredBelow l ends h upto = true →
    (∀ r ∈ s.buffered h ++ s.net ++ s.strided.flatMap (·.rest), r.src = .hart h → r.grp < upto →
      (r.cls = .held ∨ ends = false ∨ ¬ Ahead l r.superstep r.addr) → r.phase ≠ .sent ∧ r.phase ≠ .atHome ∧ ∀ c a, r.phase ≠ .refused c a) ∧
    (∀ c ∈ s.copies, c.hart = h → c.id < upto → (c.data ≠ none ∨ ends = false ∨ ¬ Ahead l c.superstep c.src) → c.len ≤ c.done) ∧
    (∀ b ∈ s.blds, b.hart = h → (ends = false ∨ ¬ Ahead l b.superstep b.addr) → upto ≤ b.id) ∧
    (∀ u ∈ s.units, ∀ st ∈ u.2.streams, ∀ a, st.2.active = some a → a.block.src = .hart h → upto ≤ a.block.grp)

/-- R30, R118: in a deterministic launch the barrier that ends a superstep closes it when every member has arrived; when no held
access of the superstep is left and no block of the launch runs, the superstep count goes on and every member is released, at
level 3, or at level 4 for a launch with a fabric group (whose occurrences are counted as FabricGroups states). -/
def Sys2Proof.Claim.SuperstepsEnd : Prop :=
  ∀ (s : State) lid l, s.launch? lid = some l → l.info.det = true →
    let level := if l.info.fbid = 0 then 3 else 4
    (l.info.fbid = 0 → l.closing = false → s.groupOf l 3 0 ≠ [] →
      (∀ t ∈ s.groupOf l 3 0, ∃ upto, t.arrival 3 = .arrived upto ∧ s.coveredBelow l true t.id upto = true) →
      exec (.barrierComplete lid 3 0) s = .next (s.mapLaunch lid fun l => { l with closing := true })) ∧
    (l.closing = true → s.heldDue l = [] → s.blocksBusy lid = false →
      exec (.barrierComplete lid level 0) s = .next
        (((({ s with fbCloses := s.fbCloses.filter fun e => !(decide (e.1 = l.info.fbid) && decide (e.2 ≤ l.sstep)) } : State)).mapLaunch lid fun l' => { l' with
        sstep := l'.sstep + 1, closing := false, was := l'.was.filter fun e => decide (l'.sstep < e.2.1) }).mapHarts
          (fun t => decide (t.lid = l.info.lid) && decide (t.state ≠ .free) && l.inGroup level 0 t)
          fun t => match t.arrival level with | .arrived _ => { t.setArrival level .passed with latch := true } | _ => t))

/-- R114, R220, R221, R223: CPY begins a copy: its counter rises once, each of its packets counts as a store from then on (the
model's reading, log 30), in a DET launch each packet to another home takes its place among the held accesses, and no byte moves
yet; a length of 0 does nothing; overlapping ranges, a bad length or alignment trap and begin nothing (the FADDR x[a] for a
bad length is the model's choice, log 111). -/
def Sys2Proof.Claim.CopiesBegin : Prop :=
  ∀ (s : State) g d a b v o c src len dst t₁ t₂ t₃, Enabled s .porter g → PortsOk s [a, b, d] → take s (start s 4) a = some (src, t₁) →
    take s t₁ b = some (len, t₂) → take s t₂ d = some (dst, t₃) →
    (len = 0 → Completes (.cpy g d a b v o c) s t₃ 4) ∧
    (len ≠ 0 → 2 ^ 32 ≤ len.toNat → s.focus.acquires = [] → exec (.cpy g d a b v o c) s = .next (s.raise 0x04 src)) ∧
    (len ≠ 0 → len.toNat < 2 ^ 32 →
      let shape := convShape v len.toNat
      let packets := (dst.toNat + shape.1 - 1) / 256 - dst.toNat / 256 + 1
      InRange s src len.toNat shape.2.1 false → InRange s dst shape.1 shape.2.2.1 true →
      (len.toNat % shape.2.2.2 ≠ 0 → exec (.cpy g d a b v o c) s = .next (s.raise 0x03 src)) ∧
      (len.toNat % shape.2.2.2 = 0 → src.toNat < dst.toNat + shape.1 → dst.toNat < src.toNat + len.toNat →
        exec (.cpy g d a b v o c) s = .next (s.raise 0x04 dst)) ∧
      (len.toNat % shape.2.2.2 = 0 → (dst.toNat + shape.1 ≤ src.toNat ∨ src.toNat + len.toNat ≤ dst.toNat) →
        let held := if s.isDet s.focus = true ∧ 2 ^ 48 ≤ dst.toNat then packets else 0
        (o = 1 → s.released s.focus = true) → s.focus.heldIdx + held ≤ 4194304 → s.focus.counter c ≠ 63 →
        CompletesIn (.cpy g d a b v o c) s
          { s with nextId := s.nextId + 1, copies := s.copies ++ [⟨s.nextId, s.focus.id, s.focus.lid, s.focus.space, some c, decide (o = 1), v,
              src, dst, shape.1, 0, none, .idle, s.focus.superstep, s.focus.heldIdx, s.focus.pc, s.focus.iword⟩] }
          { t₃.setCounter c (t₃.counter c + 1) with unack := t₃.unack + packets, heldIdx := t₃.heldIdx + held } 4))

/-- R87, R106, R114, R119, R121, R220, R221, R222, R223: the packets of copies, also of a hart that is stopped (R339). The next packet ends at a 256-byte boundary or at the
copy's end and leaves, once a permit of its destination is free and what its hart issued before it to its destination has been
sent, as a store in the class of its destination, held in a DET launch and stamped where it is ordered; its copy has then
passed it. It carries the bytes that are next where they are known, of a BST or read before. Else it first reads its source and
converts what it reads: here of a source in one 256-byte unit of this module's memories, in a launch that is not
deterministic or from its hart's own memory, once the hart's earlier stores there are performed and the read's
charge is paid (that the read takes no permit is the model's reading, log 114). Where a piece of it is read in ordered class, the read
is stamped first, and its packet leaves after it, once the read has come in stamp order. A source that fails sends the hart its negative
reply instead, and the copy goes on (R103, R104). A read on an excluded input is discarded and reported, and its packet is never
written (R388). -/
def Sys2Proof.Claim.CopyPacketsLeave : Prop :=
  ∀ (s : State) id c, s.copies.find? (fun c => c.id = id) = some c → c.done < c.len →
    let a := c.dst + BitVec.ofNat 64 c.done
    let n := min (c.len - c.done) (256 - a.toNat % 256)
    let probe := copyPacket s c a (List.replicate n 0)
    let mayLeave : Prop := s.permitsFree c.hart [probe] = true ∧ (probe.cls = .ordered → s.unsent c.hart c.id (s.reqSpans probe) = false)
    let leaves (s' : State) (bs : List Byte) : State :=
      injected { withCopy s' { c with done := c.done + n, read := .idle } with nextId := s'.nextId + 1 } (copyPacket s' c a bs)
    (∀ bs, c.data = some bs → mayLeave → exec (.cpyPacketInject id) s = .next (leaves s ((bs.drop c.done).take n))) ∧
    (∀ bs, c.data = none → c.read = .got bs → mayLeave → exec (.cpyPacketInject id) s = .next (leaves s bs)) ∧
    let arrives : Prop := s.rangeShut (asReq c.hart c.lid c.space) (sourceAddress c n) (sourcePiece c n).2.1 = none
    (∀ key s', c.data = none → c.read = .idle → arrives → ¬ ReadOrdered s c n → mayLeave →
      SourceReadable s s' c n key → exec (.cpyPacketInject id) s = .next (leaves (replyHeard s' c n) (sourceBytes s c n key))) ∧
    (c.data = none → c.read = .idle → arrives → ReadOrdered s c n → s.sourceOpen c n = true →
      exec (.cpyPacketInject id) s = .next (withCopy (s.stamp (injOf c.hart)).2 { c with read := .stamped (s.stamp (injOf c.hart)).1 })) ∧
    (∀ st key s', c.data = none → c.read = .stamped st →
      let here := s.readArrives c.hart.die st (s.packetRuns c)
      SourceReadable here s' c n key → here.readInOrder st (here.packetRuns c) = true →
      exec (.cpyPacketInject id) s = .next (withCopy (replyHeard s' c n) { c with read := .got (sourceBytes here c n key) })) ∧
    (∀ code s', c.data = none → c.read = .idle → arrives → ¬ ReadOrdered s c n → mayLeave → s.sourceOpen c n = true →
      s.paySource c n = some s' → 0 < (sourcePiece c n).2.1 → s'.xlat (asReq c.hart c.lid c.space) (sourceAddress c n) .read = .fail code →
      exec (.cpyPacketInject id) s = .next { withCopy s' { c with done := c.done + n, read := .idle } with
        net := s'.net ++ [{ copyPacket s' c a (List.replicate n 0) with body := .load 0 (.x 0 false), phase := .refused code (sourceAddress c n) }]
        nextId := s'.nextId + 1 }) ∧
    (∀ detail, c.data = none → c.read = .idle → s.sourceOpen c n = true →
      s.rangeShut (asReq c.hart c.lid c.space) (sourceAddress c n) (sourcePiece c n).2.1 = some detail →
      exec (.cpyPacketInject id) s =
        .next (((withCopy s { c with done := c.done + n, dc := none }).forget (copyPacket s c a [])).reportSystem 6 0 0 0 detail))

/-- R107: the next request of an oversized strided access leaves once its permit and buffer entry are free; with the last one its
thread may issue again. -/
def Sys2Proof.Claim.StridedRequestsLeaveInOrder : Prop :=
  ∀ (s : State) h r rest, s.strided.find? (fun d => d.hart = h) = some ⟨h, r :: rest⟩ → s.permitsFree h [r] = true →
    s.bufferRoom h r.body.writes 1 = true → ∃ u, exec (.stridedRequestInject h) s = .next u ∧
    u = ({ s with strided := if rest = [] then s.strided.filter (fun (q : Strided) => decide (q.hart ≠ h))
                             else s.strided.map fun (q : Strided) => if q.hart = h then ⟨h, rest⟩ else q }).enter h r.body.writes r ∧
    (r.body.writes = false → r.cls ≠ .ordered → u.net = s.net ++ [r])

namespace Sys2Proof.Claim

/-! ### Floating point and vectors -/

/-- R51, R61: f[d] := w with the flags that the operation raised; an older pending load of it is dropped. -/
def putF (t : Thread) (d : BitVec 4) (w : W32) (fl : FFlags) : Thread :=
  { t with pend := t.pend.filter fun q => q.dest ≠ .inr (.inl d), f := t.f.setIfInBounds d.toNat w
           fcsr := t.fcsr ||| BitVec.ofNat 64 fl.bits }

/-- v[d] := w with flags. -/
def putV (t : Thread) (d : BitVec 5) (w : VReg) (fl : FFlags) : Thread :=
  { t with pend := t.pend.filter fun q => q.dest ≠ .inr (.inr d), v := t.v.setIfInBounds d.toNat w
           fcsr := t.fcsr ||| BitVec.ofNat 64 fl.bits }

/-- The value of f[a], and its bits. -/
def fBits (s : State) (a : BitVec 4) : W32 := s.focus.f.toArray.getD a.toNat 0
/-- The value that f[a] holds. -/
def fVal (s : State) (a : BitVec 4) : FVal := Fmt.f32.val (fBits s a).toNat
/-- The bits of v[a]. -/
def vBits (s : State) (a : BitVec 5) : VReg := s.focus.v.toArray.getD a.toNat 0

/-- R165: FP32 0, FP16 1, BF16 2. -/
def formatOf (n : Nat) : Fmt := if n = 0 then .f32 else if n = 1 then .f16 else .bf16

/-- A result in a format as the binary32 of the same value (R51). -/
def asF32 (f : Fmt) (r : Nat) : W32 := BitVec.ofNat 32 (convert f .f32 .rne r).1

/-- R81 to R84, R230: the FOPs of two sources. -/
def fopOps : List ((Guard → BitVec 4 → BitVec 4 → BitVec 4 → BitVec 3 → Instr) × (Fmt → RM → FVal → FVal → Nat × FFlags)) :=
  [(.fadd, fun f rm x y => f.add rm x y), (.fsub, fun f rm x y => f.add rm x y.negate), (.fmul, fun f rm x y => f.mul rm x y),
   (.fdiv, fun f rm x y => f.div rm x y), (.fmin, fun f rm x y => f.minMax rm false x y), (.fmax, fun f rm x y => f.minMax rm true x y)]

/-- R236: the VFLT operations on the values of a, b and d in a lane. -/
def vfltOps : List ((Guard → BitVec 5 → BitVec 5 → BitVec 5 → BitVec 2 → Instr) × (Fmt → RM → FVal → FVal → FVal → Nat × FFlags)) :=
  [(.vfadd, fun f rm x y _ => f.add rm x y), (.vfsub, fun f rm x y _ => f.add rm x y.negate), (.vfmul, fun f rm x y _ => f.mul rm x y),
   (.vfdiv, fun f rm x y _ => f.div rm x y), (.vfmin, fun f rm x y _ => f.minMax rm false x y),
   (.vfmax, fun f rm x y _ => f.minMax rm true x y), (.vffma, fun f rm x y z => f.fma rm x y z)]

/-- R236: the VFLT operations of one source. -/
def vfltUnaryOps : List ((Guard → BitVec 5 → BitVec 5 → BitVec 2 → Instr) × (Fmt → RM → FVal → Nat × FFlags)) :=
  [(.vfsqrt, fun f rm x => f.sqrt rm x), (.vfneg, fun f rm x => f.ofVal rm x.negate),
   (.vfabs, fun f rm x => f.ofVal rm (if x.neg? then x.negate else x))]

/-- A signed number limited to w bits (R235). -/
def saturate (w : Nat) (z : Int) : BitVec w :=
  if z < -(2 ^ (w - 1)) then BitVec.ofInt w (-(2 ^ (w - 1))) else if 2 ^ (w - 1) ≤ z then BitVec.ofInt w (2 ^ (w - 1) - 1) else BitVec.ofInt w z

/-- R235: the VINT operations of two sources on lanes of w bits. -/
def vintOps : List ((Guard → BitVec 5 → BitVec 5 → BitVec 5 → BitVec 2 → Instr) × ((w : Nat) → BitVec w → BitVec w → BitVec w)) :=
  [(.vadd, fun w x y => BitVec.ofNat w (x.toNat + y.toNat)), (.vsub, fun w x y => BitVec.ofInt w (x.toInt - y.toInt)),
   (.vmul, fun w x y => BitVec.ofNat w (x.toNat * y.toNat)), (.vand, fun _ x y => x &&& y), (.vor, fun _ x y => x ||| y),
   (.vxor, fun _ x y => x ^^^ y), (.vsll, fun w x y => x <<< (y.toNat % w)), (.vsrl, fun w x y => BitVec.ofNat w (x.toNat / 2 ^ (y.toNat % w))),
   (.vsra, fun w x y => BitVec.ofInt w (x.toInt / 2 ^ (y.toNat % w)))] ++
  [(.vmin, fun _ x y => if y.toInt < x.toInt then y else x), (.vmax, fun _ x y => if x.toInt < y.toInt then y else x),
   (.vminu, fun _ x y => if y.toNat < x.toNat then y else x), (.vmaxu, fun _ x y => if x.toNat < y.toNat then y else x),
   (.vadds, fun w x y => saturate w (x.toInt + y.toInt)), (.vsubs, fun w x y => saturate w (x.toInt - y.toInt))]

/-- The width of an integer type's lanes: i8, i16, i32 (R52). -/
def iWidth (t : BitVec 2) : Nat := 8 * 2 ^ t.toNat
/-- The lanes of an integer type. -/
def iLanes (t : BitVec 2) : Nat := 32 / 2 ^ t.toNat
/-- The lanes of a float type. -/
def fLanes (t : BitVec 2) : Nat := if t = 0 then 8 else 16

/-- R134: lane i of n is enabled by the guard. -/
abbrev LaneOn (s : State) (g : Guard) (n i : Nat) : Prop := i < n ∧ (s.focus.guard g).getLsbD i = true

/-- R134: some lane of n is enabled, on a core. -/
abbrev LanesEnabled (s : State) (g : Guard) (n : Nat) : Prop :=
  Avail.core.allows s.focus.id = true ∧ ∃ i < n, (s.focus.guard g).getLsbD i = true

/-- R53, R234: `r` has `f i` in the enabled lanes i of n lanes of w bits, and the old bits in the others. -/
def Lanes (s : State) (g : Guard) (w n : Nat) (old r : VReg) (f : Nat → BitVec w) : Prop :=
  (∀ i < n, r.extractLsb' (w * i) w = if (s.focus.guard g).getLsbD i then f i else old.extractLsb' (w * i) w) ∧
  ∀ k, w * n ≤ k → r.getLsbD k = old.getLsbD k

/-- R82: the union of the flags of a list of results. -/
def unionFlags (rs : List FFlags) : FFlags :=
  ⟨rs.any (·.nv), rs.any (·.dz), rs.any (·.of), rs.any (·.uf), rs.any (·.nx)⟩

/-- The enabled lanes in ascending order. -/
def onLanes (s : State) (g : Guard) (n : Nat) : List Nat := (List.range n).filter fun i => (s.focus.guard g).getLsbD i

/-- R243: the reduction of encodings in order: one alone is rounded to its own format, else the operation folds them. -/
def reduceBy (f : Fmt) (rm : RM) (op : FVal → FVal → Nat × FFlags) : List Nat → Nat × FFlags
  | [] => (0, .none)
  | [x] => f.ofVal rm (f.val x)
  | x :: y :: r => (y :: r).foldl (fun acc z => ((op (f.val acc.1) (f.val z)).1, acc.2.or (op (f.val acc.1) (f.val z)).2)) (x, .none)

/-- R233: the float conditions EQ 0, LT 1, LE 2 and UN 3 on numbers that are not NaN, as exact comparisons. -/
def lessThan (x y : FVal) : Bool := x.lt false y

/-- R233: a float condition. -/
def floatHolds (c : BitVec 3) (x y : FVal) : Bool :=
  let nan := x.isNan || y.isNan
  if c = 0 then !nan && !lessThan x y && !lessThan y x else if c = 1 then !nan && lessThan x y
  else if c = 2 then !nan && !lessThan y x else nan

/-- R233: LT and LE raise NV on any NaN, EQ and UN on a signalling one. -/
def compareFlags (c : BitVec 3) (x y : FVal) : FFlags :=
  if (if c = 1 ∨ c = 2 then x.isNan || y.isNan else x.signals || y.signals) then ⟨true, false, false, false, false⟩ else .none

/-! ### Exact results, rounded once -/

/-- R67: the magnitude of the encoding b of a number without its sign, in units of the format's least subnormal; beyond the
largest finite number it goes on as if the exponent range were unbounded. -/
def magOf (f : Fmt) (b : Nat) : Nat :=
  if b < 2 ^ (f.p - 1) then b else (2 ^ (f.p - 1) + b % 2 ^ (f.p - 1)) * 2 ^ (b / 2 ^ (f.p - 1) - 1)

/-- The exponent of the least subnormal of a format. -/
def leastExp (f : Fmt) : Int := f.emin - f.p + 1

/-- R61: the mode takes an inexact magnitude away from zero. -/
def awayFromZero (rm : RM) (neg : Bool) : Prop := (rm = .rdn ∧ neg = true) ∨ (rm = .rup ∧ neg = false)

/-- R82: what an overflow delivers. -/
def overflowed (f : Fmt) (rm : RM) (neg : Bool) (r : Nat) : Prop :=
  (rm = .rne ∨ awayFromZero rm neg → r = f.infBits neg) ∧ (¬ (rm = .rne ∨ awayFromZero rm neg) → r = f.infBits neg - 1)

/-- R81, R82: `r` is the number of a sign and an exact positive magnitude rounded once, with the flags of that rounding. The magnitude
is given by what is greater (`lt k`) and what is equal (`eq k`) to it among the multiples of a quarter of the least subnormal. -/
def Rounds (f : Fmt) (rm : RM) (neg : Bool) (lt eq : Nat → Prop) (r : Nat × FFlags) : Prop :=
  ∃ b c, ¬ lt (4 * magOf f b) ∧ lt (4 * magOf f (b + 1)) ∧
    let exact := eq (4 * magOf f b)
    let mid := 2 * (magOf f b + magOf f (b + 1))
    let up := ¬ exact ∧ (awayFromZero rm neg ∨ (rm = .rne ∧ ¬ lt mid ∧ (eq mid → b % 2 = 1)))
    let normal := 4 * 2 ^ (f.p - 1)
    let tiny := lt normal ∧ (rm = .rne → lt (normal - 1)) ∧ (awayFromZero rm neg → lt (normal - 2) ∨ eq (normal - 2))
    (up → c = b + 1) ∧ (¬ up → c = b) ∧
    (f.infBits false ≤ c → overflowed f rm neg r.1 ∧ r.2 = ⟨false, false, true, false, true⟩) ∧
    (c < f.infBits false → r.1 = f.zeroBits neg + c ∧ r.2.nv = false ∧ r.2.dz = false ∧ r.2.of = false ∧
      (r.2.uf = true ↔ ¬ exact ∧ tiny) ∧ (r.2.nx = true ↔ ¬ exact))

/-- `r` is ±(x / y)·2^e rounded once. -/
def RoundsQuotient (f : Fmt) (rm : RM) (neg : Bool) (x y : Nat) (e : Int) (r : Nat × FFlags) : Prop :=
  let n := x * 2 ^ (e - leastExp f).toNat
  let d := y * 2 ^ (leastExp f - e).toNat
  Rounds f rm neg (fun k => 4 * n < k * d) (fun k => 4 * n = k * d) r

/-- The square root of m·2^e rounded once is `r`. -/
def RoundsRoot (f : Fmt) (rm : RM) (m : Nat) (e : Int) (r : Nat × FFlags) : Prop :=
  let n := m * 2 ^ (e - 2 * leastExp f).toNat
  let d := 2 ^ (2 * leastExp f - e).toNat
  Rounds f rm false (fun k => 16 * n < k * k * d) (fun k => 16 * n = k * k * d) r

/-- `r` is the exact sum of z·2^e and z'·2^e' rounded once; a sum of zero is +0, under RDN -0. -/
def RoundsSum (f : Fmt) (rm : RM) (z : Int) (e : Int) (z' : Int) (e' : Int) (r : Nat × FFlags) : Prop :=
  let sum := z * 2 ^ (e - min e e').toNat + z' * 2 ^ (e' - min e e').toNat
  (sum = 0 → r = (f.zeroBits (decide (rm = .rdn)), .none)) ∧
  (sum ≠ 0 → RoundsQuotient f rm (decide (sum < 0)) sum.natAbs 1 (min e e') r)

/-- A signed number. -/
def signed (neg : Bool) (m : Nat) : Int := if neg then -(m : Int) else m

/-- The formats of R67. -/
def formats : List Fmt := [.f32, .f16, .bf16]

end Sys2Proof.Claim

/-- R51, R61, R81, R82, R84, R230: each FOP writes its result, rounded once to its type under fcsr.RM and held as a binary32, and sets
the flags that it raises; FFMA's addend is f[d]. -/
def Sys2Proof.Claim.FopsWriteTheirResult : Prop :=
  (∀ e ∈ fopOps, ∀ (s : State) g d a b t, Enabled s .core g → Clear s (.f a) → Clear s (.f b) → Clear s (.f d) →
    let r := e.2 (formatOf t.toNat) (rmOf s.focus.fcsr) (fVal s a) (fVal s b)
    Completes (e.1 g d a b t) s (putF (start s 4) d (asF32 (formatOf t.toNat) r.1) r.2) 4) ∧
  (∀ (s : State) g d a t, Enabled s .core g → Clear s (.f a) → Clear s (.f d) →
    let r := (formatOf t.toNat).sqrt (rmOf s.focus.fcsr) (fVal s a)
    Completes (.fsqrt g d a t) s (putF (start s 4) d (asF32 (formatOf t.toNat) r.1) r.2) 4) ∧
  (∀ (s : State) g d a b t, Enabled s .core g → Clear s (.f a) → Clear s (.f b) → Clear s (.f d) →
    let r := (formatOf t.toNat).fma (rmOf s.focus.fcsr) (fVal s a) (fVal s b) (fVal s d)
    Completes (.ffma g d a b t) s (putF (start s 4) d (asF32 (formatOf t.toNat) r.1) r.2) 4)

/-- R67, R81, R82: the numbers of a format are what their encodings say, and every number is rounded once to the nearest encoding
of its mode, with OF, UF and NX as R82 gives them. -/
def Sys2Proof.Claim.RoundingIsExact : Prop :=
  (∀ f ∈ formats, ∀ neg b, 0 < b → b < f.infBits false → ∃ m e, f.val (f.zeroBits neg + b) = .fin neg m e ∧ 0 < m ∧ leastExp f ≤ e ∧
    m * 2 ^ (e - leastExp f).toNat = magOf f b) ∧
  (∀ f ∈ formats, ∀ neg, f.val (f.zeroBits neg) = .zero neg ∧ f.val (f.infBits neg) = .inf neg ∧
    ∀ b, 0 < b → b < 2 ^ (f.p - 1) → f.val (f.infBits neg + b) = .nan (decide (b < 2 ^ (f.p - 2)))) ∧
  (∀ f ∈ formats, f.canon = f.infBits false + 2 ^ (f.p - 2)) ∧
  (∀ f ∈ formats, ∀ rm neg m e, 0 < m → RoundsQuotient f rm neg m 1 e (f.round rm neg m e))

/-- R81: addition, multiplication, the fused operation, division and the square root of numbers give the exact result rounded once.
The operands are numbers of the formats, whose significands lie below 2^24. -/
def Sys2Proof.Claim.ArithmeticIsExact : Prop :=
  ∀ f ∈ formats, ∀ rm n m e n' m' e', 0 < m → 0 < m' → m < 2 ^ 24 → m' < 2 ^ 24 →
    RoundsSum f rm (signed n m) e (signed n' m') e' (f.add rm (.fin n m e) (.fin n' m' e')) ∧
    RoundsQuotient f rm (n != n') (m * m') 1 (e + e') (f.mul rm (.fin n m e) (.fin n' m' e')) ∧
    (∀ n'' m'' e'', 0 < m'' → RoundsSum f rm (signed (n != n') (m * m')) (e + e') (signed n'' m'') e''
      (f.fma rm (.fin n m e) (.fin n' m' e') (.fin n'' m'' e''))) ∧
    (∀ z, RoundsQuotient f rm (n != n') (m * m') 1 (e + e') (f.fma rm (.fin n m e) (.fin n' m' e') (.zero z))) ∧
    RoundsQuotient f rm (n != n') m m' (e - e') (f.div rm (.fin n m e) (.fin n' m' e')) ∧
    RoundsRoot f rm m e (f.sqrt rm (.fin false m e))

/-- R81, R82, R83: what the operations give for NaNs, infinities and zeros: a NaN operand gives the canonical NaN, and NV when one
signals; the invalid operations give it with NV; a number divided by zero gives an infinity with DZ; zeros and infinities
otherwise follow their signs. -/
def Sys2Proof.Claim.SpecialOperandsAreRight : Prop :=
  ∀ f ∈ formats, ∀ rm (x y d : FVal) n n' m e, 0 < m →
    let nan (nv : Bool) : Nat × FFlags := (f.canon, if nv then ⟨true, false, false, false, false⟩ else .none)
    ((x.isNan || y.isNan) = true → f.add rm x y = nan (x.signals || y.signals) ∧ f.mul rm x y = nan (x.signals || y.signals) ∧
      f.div rm x y = nan (x.signals || y.signals)) ∧
    ((x.isNan || y.isNan) = true → f.fma rm x y d = nan (x.signals || y.signals || d.signals)) ∧
    (d.isNan = true → f.fma rm (.fin n m e) (.fin n' m e) d = nan d.signals) ∧
    (∀ n'', f.fma rm (.inf n) (.fin n' m e) (.inf n'') = if (n != n') = n'' then (f.infBits n'', .none) else nan true) ∧
    f.add rm (.fin n m e) (.zero n') = f.ofVal rm (.fin n m e) ∧ f.add rm (.zero n') (.fin n m e) = f.ofVal rm (.fin n m e) ∧
    (∀ g, f.sqrt rm (.nan g) = nan g) ∧ f.sqrt rm (.fin true m e) = nan true ∧ f.sqrt rm (.inf true) = nan true ∧
    f.sqrt rm (.zero n) = (f.zeroBits n, .none) ∧ f.sqrt rm (.inf false) = (f.infBits false, .none) ∧
    f.add rm (.inf n) (.inf n') = (if n = n' then (f.infBits n, .none) else nan true) ∧
    f.add rm (.inf n) (.fin n' m e) = (f.infBits n, .none) ∧ f.add rm (.fin n' m e) (.inf n) = (f.infBits n, .none) ∧
    f.add rm (.zero n) (.zero n') = (f.zeroBits (if n = n' then n else decide (rm = .rdn)), .none) ∧
    f.mul rm (.inf n) (.zero n') = nan true ∧ f.mul rm (.zero n) (.inf n') = nan true ∧
    f.mul rm (.inf n) (.fin n' m e) = (f.infBits (n != n'), .none) ∧ f.mul rm (.zero n) (.fin n' m e) = (f.zeroBits (n != n'), .none) ∧
    f.fma rm (.inf n) (.zero n') d = nan true ∧ f.fma rm (.zero n) (.inf n') d = nan true ∧
    f.div rm (.inf n) (.inf n') = nan true ∧ f.div rm (.zero n) (.zero n') = nan true ∧
    f.div rm (.fin n m e) (.zero n') = (f.infBits (n != n'), ⟨false, true, false, false, false⟩) ∧
    f.div rm (.fin n m e) (.inf n') = (f.zeroBits (n != n'), .none) ∧ f.div rm (.inf n) (.fin n' m e) = (f.infBits (n != n'), .none) ∧
    f.div rm (.zero n) (.fin n' m e) = (f.zeroBits (n != n'), .none)

/-- R84, R86, R233: comparisons are exact; FMIN and FMAX select an operand and round it once to the type; a conversion between formats
rounds once, and one to a 64-bit integer rounds to an integer and limits it. -/
def Sys2Proof.Claim.SelectionsAndConversionsAreExact : Prop :=
  (∀ sz n m e n' m' e', 0 < m → 0 < m' → ((FVal.fin n m e).lt sz (.fin n' m' e') = true ↔
    signed n m * 2 ^ (e - min e e').toNat < signed n' m' * 2 ^ (e' - min e e').toNat)) ∧
  (∀ sz n n' m e, 0 < m → (FVal.fin n m e).lt sz (.zero n') = n ∧ (FVal.zero n').lt sz (.fin n m e) = !n ∧
    (FVal.zero n).lt sz (.zero n') = (sz && n && !n') ∧ (FVal.inf n).lt sz (.fin n' m e) = n ∧ (FVal.fin n' m e).lt sz (.inf n) = !n ∧
    (FVal.inf n).lt sz (.zero n') = n ∧ (FVal.zero n').lt sz (.inf n) = !n ∧ (FVal.inf n).lt sz (.inf n') = (n && !n')) ∧
  (∀ f ∈ formats, ∀ rm (x y : FVal), let nv := x.signals || y.signals
    let with' (r : Nat × FFlags) : Nat × FFlags := (r.1, { r.2 with nv := r.2.nv || nv })
    (x.isNan = true → y.isNan = true → ∀ mx, f.minMax rm mx x y = with' (f.canon, .none)) ∧
    (x.isNan = true → y.isNan = false → ∀ mx, f.minMax rm mx x y = with' (f.ofVal rm y) ∧ f.minMax rm mx y x = with' (f.ofVal rm y)) ∧
    (x.isNan = false → y.isNan = false → f.minMax rm false x y = with' (f.ofVal rm (if y.lt true x then y else x)) ∧
      f.minMax rm true x y = with' (f.ofVal rm (if x.lt true y then y else x)))) ∧
  (∀ f ∈ formats, ∀ rm n, (∀ g, f.ofVal rm (.nan g) = (f.canon, if g then ⟨true, false, false, false, false⟩ else .none)) ∧
    f.ofVal rm (.inf n) = (f.infBits n, .none) ∧ f.ofVal rm (.zero n) = (f.zeroBits n, .none) ∧
    ∀ m e, 0 < m → RoundsQuotient f rm n m 1 e (f.ofVal rm (.fin n m e))) ∧
  (∀ src dst rm x, convert src dst rm x = dst.ofVal rm (src.val x)) ∧
  (∀ rm n m e, 0 < m →
    let num := m * 2 ^ e.toNat
    let den := 2 ^ (-e).toNat
    let k := num / den
    let rest := num % den
    let up : Prop := rest ≠ 0 ∧ (awayFromZero rm n ∨ (rm = .rne ∧ (den < 2 * rest ∨ (2 * rest = den ∧ k % 2 = 1))))
    ∃ z : Int, (up → z = signed n (k + 1)) ∧ (¬ up → z = signed n k) ∧
      (z < -(2 ^ 63) → toInt64 rm (.fin n m e) = (BitVec.ofInt 64 (-(2 ^ 63)), ⟨true, false, false, false, false⟩)) ∧
      (2 ^ 63 ≤ z → toInt64 rm (.fin n m e) = (BitVec.ofInt 64 (2 ^ 63 - 1), ⟨true, false, false, false, false⟩)) ∧
      (-(2 ^ 63) ≤ z → z < 2 ^ 63 → toInt64 rm (.fin n m e) = (BitVec.ofInt 64 z, ⟨false, false, false, false, decide (rest ≠ 0)⟩))) ∧
  (∀ rm n g, toInt64 rm (.nan g) = (0, ⟨true, false, false, false, false⟩) ∧ toInt64 rm (.zero n) = (0, .none) ∧
    toInt64 rm (.inf n) = (BitVec.ofInt 64 (if n then -(2 ^ 63) else 2 ^ 63 - 1), ⟨true, false, false, false, false⟩))

/-- R86, R88, R231, R232: the moves between x and f registers copy bits, the conversions round under fcsr.RM, FKEY gives its key and
FCLASS one bit of ten. -/
def Sys2Proof.Claim.FloatMovesAndConversions : Prop :=
  (∀ (s : State) g d a t, Enabled s .core g → PortsOk s [d] → Clear s (.f a) → give s (start s 4) d ((fBits s a).setWidth 64) = some t →
    Completes (.fmvxf g d a) s t 4) ∧
  (∀ (s : State) g d a x t, Enabled s .core g → PortsOk s [a] → take s (start s 4) a = some (x, t) → Clear s (.f d) →
    Completes (.fmvfx g d a) s (putF t d (BitVec.ofNat 32 x.toNat) .none) 4 ∧
    (let r := if x = 0 then (0, FFlags.none) else Fmt.f32.round (rmOf s.focus.fcsr) (decide (x.toInt < 0)) x.toInt.natAbs 0
     Completes (.fcvtFX g d a) s (putF t d (BitVec.ofNat 32 r.1) r.2) 4)) ∧
  (∀ (s : State) g d a t, Enabled s .core g → PortsOk s [d] → Clear s (.f a) →
    give s (start s 4) d (toInt64 (rmOf s.focus.fcsr) (fVal s a)).1 = some t →
    Completes (.fcvtXF g d a) s { t with fcsr := t.fcsr ||| BitVec.ofNat 64 (toInt64 (rmOf s.focus.fcsr) (fVal s a)).2.bits } 4) ∧
  (∀ (s : State) g d a t, Enabled s .core g → PortsOk s [d] → Clear s (.f a) →
    give s (start s 4) d (BitVec.ofNat 64 (Fmt.f32.key (fBits s a).toNat)) = some t → Completes (.fkey g d a) s t 4) ∧
  (∀ (s : State) g d a t k, Enabled s .core g → PortsOk s [d] → Clear s (.f a) →
    (match fVal s a with
     | .inf true => k = 0 | .fin true m _ => k = (if m < 2 ^ 23 then 2 else 1) | .zero true => k = 3 | .zero false => k = 4
     | .fin false m _ => k = (if m < 2 ^ 23 then 5 else 6) | .inf false => k = 7 | .nan true => k = 8 | .nan false => k = 9) →
    give s (start s 4) d (BitVec.ofNat 64 (2 ^ k)) = some t → Completes (.fclass g d a) s t 4)

/-- R88: the key of an encoding orders the numbers of its format as integers: a lesser number has a lesser key, and -0 comes just
below +0. -/
def Obligations.KeysOrderNumbers : Prop :=
  ∀ f ∈ [Fmt.f32, Fmt.f16, Fmt.bf16], ∀ x y, x < 2 ^ f.width → y < 2 ^ f.width → (f.val x).isNan = false → (f.val y).isNan = false →
    ((f.val x).lt true (f.val y) = true ↔ f.key x < f.key y)

/-- R193, R233: FCMP writes its predicates by condition and mode and sets NV as its condition says. -/
def Sys2Proof.Claim.FloatCompares : Prop :=
  ∀ (s : State) g m d a b e c, Enabled s .core g → Clear s (.f a) → Clear s (.f b) → c.toNat < 4 →
    Completes (.fcmp g m d a b e c) s
      ((compared (start s 4) m (floatHolds c (fVal s a) (fVal s b)) d e).raiseFlags (compareFlags c (fVal s a) (fVal s b))) 4

/-- R53, R134, R234, R235: each VINT operation writes its function of a's and b's lane in every enabled lane of v[d] and keeps the
bits of the others; no flag changes. -/
def Sys2Proof.Claim.VectorIntegerLanes : Prop :=
  (∀ e ∈ vintOps, ∀ (s : State) g d a b t, LanesEnabled s g (iLanes t) → Clear s (.v a) → Clear s (.v b) → Clear s (.v d) →
    ∃ r, Completes (e.1 g d a b t) s (putV (start s 4) d r .none) 4 ∧
      Lanes s g (iWidth t) (iLanes t) (vBits s d) r fun i =>
        e.2 (iWidth t) ((vBits s a).extractLsb' (iWidth t * i) (iWidth t)) ((vBits s b).extractLsb' (iWidth t * i) (iWidth t))) ∧
  (∀ (s : State) g d a t, LanesEnabled s g (iLanes t) → Clear s (.v a) → Clear s (.v d) →
    ∃ r, Completes (.vabs g d a t) s (putV (start s 4) d r .none) 4 ∧
      Lanes s g (iWidth t) (iLanes t) (vBits s d) r fun i =>
        BitVec.ofInt (iWidth t) |((vBits s a).extractLsb' (iWidth t * i) (iWidth t)).toInt|)

/-- R241: VBCAST, VPERM, VMOV, VZERO and VIOTA write their lanes; VMOV.N copies all 256 bits. -/
def Sys2Proof.Claim.VectorMovesWriteLanes : Prop :=
  (∀ (s : State) g d a t x t₁, LanesEnabled s g (iLanes t) → PortsOk s [a] → take s (start s 4) a = some (x, t₁) → Clear s (.v d) →
    ∃ r, Completes (.vbcast g d a t) s (putV t₁ d r .none) 4 ∧
      Lanes s g (iWidth t) (iLanes t) (vBits s d) r fun _ => BitVec.ofNat (iWidth t) x.toNat) ∧
  (∀ (s : State) g d a b t, LanesEnabled s g (iLanes t) → Clear s (.v a) → Clear s (.v b) → Clear s (.v d) →
    ∃ r, Completes (.vperm g d a b t) s (putV (start s 4) d r .none) 4 ∧
      Lanes s g (iWidth t) (iLanes t) (vBits s d) r fun i =>
        (vBits s a).extractLsb' (iWidth t * (((vBits s b).extractLsb' (iWidth t * i) (iWidth t)).toNat % iLanes t)) (iWidth t)) ∧
  (∀ (s : State) g d a t, LanesEnabled s g (iLanes t) → Clear s (.v a) → Clear s (.v d) →
    ∃ r, Completes (.vmov g d a t) s (putV (start s 4) d r .none) 4 ∧
      Lanes s g (iWidth t) (iLanes t) (vBits s d) r fun i => (vBits s a).extractLsb' (iWidth t * i) (iWidth t)) ∧
  (∀ (s : State) g d t, LanesEnabled s g (iLanes t) → Clear s (.v d) →
    (∃ r, Completes (.vzero g d t) s (putV (start s 4) d r .none) 4 ∧ Lanes s g (iWidth t) (iLanes t) (vBits s d) r fun _ => 0) ∧
    (∃ r, Completes (.viota g d t) s (putV (start s 4) d r .none) 4 ∧
      Lanes s g (iWidth t) (iLanes t) (vBits s d) r fun i => BitVec.ofNat (iWidth t) i)) ∧
  (∀ (s : State) d a, Avail.core.allows s.focus.id = true → Clear s (.v a) → Clear s (.v d) →
    Completes (.vmovN d a) s (putV (start s 2) d (vBits s a) .none) 2)

/-- R81, R82, R88, R236, R241, R244: the float vector operations write their rounded results in the enabled lanes and set the union of
those lanes' flags; VKEY, VCVT and VBCASTF do as well. -/
def Obligations.VectorFloatLanes : Prop :=
  (∀ e ∈ vfltOps, ∀ (s : State) g d a b t, LanesEnabled s g (fLanes t) → Clear s (.v a) → Clear s (.v b) → Clear s (.v d) →
    let f := formatOf t.toNat
    let at' (r : BitVec 5) (i : Nat) : FVal := f.val ((vBits s r).extractLsb' (f.width * i) f.width).toNat
    let res (i : Nat) : Nat × FFlags := e.2 f (rmOf s.focus.fcsr) (at' a i) (at' b i) (at' d i)
    ∃ r, Completes (e.1 g d a b t) s (putV (start s 4) d r (unionFlags ((onLanes s g (fLanes t)).map fun i => (res i).2))) 4 ∧
      Lanes s g f.width (fLanes t) (vBits s d) r fun i => BitVec.ofNat f.width (res i).1) ∧
  (∀ e ∈ vfltUnaryOps, ∀ (s : State) g d a t, LanesEnabled s g (fLanes t) → Clear s (.v a) → Clear s (.v d) →
    let f := formatOf t.toNat
    let res (i : Nat) : Nat × FFlags := e.2 f (rmOf s.focus.fcsr) (f.val ((vBits s a).extractLsb' (f.width * i) f.width).toNat)
    ∃ r, Completes (e.1 g d a t) s (putV (start s 4) d r (unionFlags ((onLanes s g (fLanes t)).map fun i => (res i).2))) 4 ∧
      Lanes s g f.width (fLanes t) (vBits s d) r fun i => BitVec.ofNat f.width (res i).1) ∧
  (∀ (s : State) g d a t, LanesEnabled s g (fLanes t) → Clear s (.v a) → Clear s (.v d) →
    let f := formatOf t.toNat
    ∃ r, Completes (.vkey g d a t) s (putV (start s 4) d r .none) 4 ∧
      Lanes s g f.width (fLanes t) (vBits s d) r fun i =>
        BitVec.ofNat f.width (f.key ((vBits s a).extractLsb' (f.width * i) f.width).toNat)) ∧
  (∀ (s : State) g d a u t, let n := min (fLanes t) (fLanes u)
    LanesEnabled s g n → Clear s (.v a) → Clear s (.v d) →
    let src := formatOf t.toNat
    let dst := formatOf u.toNat
    let res (i : Nat) : Nat × FFlags := convert src dst (rmOf s.focus.fcsr) ((vBits s a).extractLsb' (src.width * i) src.width).toNat
    ∃ r, Completes (.vcvt g d a u t) s (putV (start s 4) d r (unionFlags ((onLanes s g n).map fun i => (res i).2))) 4 ∧
      Lanes s g dst.width n (vBits s d) r fun i => BitVec.ofNat dst.width (res i).1) ∧
  (∀ (s : State) g d a t, LanesEnabled s g (fLanes t) → Clear s (.f a) → Clear s (.v d) →
    let f := formatOf t.toNat
    let res : Nat × FFlags := if t = 0 then ((fBits s a).toNat, .none) else convert .f32 f (rmOf s.focus.fcsr) (fBits s a).toNat
    ∃ r, Completes (.vbcastf g d a t) s (putV (start s 4) d r res.2) 4 ∧
      Lanes s g f.width (fLanes t) (vBits s d) r fun _ => BitVec.ofNat f.width res.1)

/-- R192, R233, R237: VCMP and VFCMP write the condition's truth to bit i of pd and its complement to bit i of pe for every enabled
lane i, keep the other bits, and p0 discards. -/
def Sys2Proof.Claim.VectorComparesWriteBits : Prop :=
  (∀ (s : State) g t d a b e c, LanesEnabled s g (iLanes t) → Clear s (.v a) → Clear s (.v b) →
    let w := iWidth t
    let holds (i : Nat) : Bool := condHolds c ((vBits s a).extractLsb' (w * i) w) ((vBits s b).extractLsb' (w * i) w)
    ∃ nd ne : W32, Completes (.vcmp g t d a b e c) s (withP (withP (start s 4) d nd) e ne) 4 ∧
      (∀ i < 32, nd.getLsbD i = if i < iLanes t ∧ (s.focus.guard g).getLsbD i = true then holds i else (s.focus.pred d).getLsbD i) ∧
      (∀ i < 32, ne.getLsbD i = if i < iLanes t ∧ (s.focus.guard g).getLsbD i = true then !holds i else (s.focus.pred e).getLsbD i)) ∧
  (∀ (s : State) g t d a b e c, LanesEnabled s g (fLanes t) → Clear s (.v a) → Clear s (.v b) → c.toNat < 4 →
    let f := formatOf t.toNat
    let at' (r : BitVec 5) (i : Nat) : FVal := f.val ((vBits s r).extractLsb' (f.width * i) f.width).toNat
    let fl := unionFlags ((onLanes s g (fLanes t)).map fun i => compareFlags c (at' a i) (at' b i))
    ∃ nd ne : W32, Completes (.vfcmp g t d a b e c) s ((withP (withP (start s 4) d nd) e ne).raiseFlags fl) 4 ∧
      (∀ i < 32, nd.getLsbD i = if i < fLanes t ∧ (s.focus.guard g).getLsbD i = true then floatHolds c (at' a i) (at' b i)
        else (s.focus.pred d).getLsbD i) ∧
      (∀ i < 32, ne.getLsbD i = if i < fLanes t ∧ (s.focus.guard g).getLsbD i = true then !floatHolds c (at' a i) (at' b i)
        else (s.focus.pred e).getLsbD i))

/-- R85, R242, R243: VEXT and VINS move one selected lane when it is enabled and do nothing but read its number when it is not;
VREDADD and VREDMAX reduce the enabled lanes in ascending order. -/
def Sys2Proof.Claim.VectorSelectsAndReductions : Prop :=
  (∀ (s : State) g d a b t k t₁, LanesEnabled s g (iLanes t) → PortsOk s [b] → Clear s (.v a) → take s (start s 4) b = some (k, t₁) →
    let l := k.toNat % iLanes t
    ((s.focus.guard g).getLsbD l = false → Completes (.vext g d a b t) s t₁ 4) ∧
    (∀ t₂, (s.focus.guard g).getLsbD l = true → PortsOk s [d] →
      give s t₁ d (((vBits s a).extractLsb' (iWidth t * l) (iWidth t)).signExtend 64) = some t₂ → Completes (.vext g d a b t) s t₂ 4)) ∧
  (∀ (s : State) g d a b t k t₁, LanesEnabled s g (iLanes t) → PortsOk s [b] → take s (start s 4) b = some (k, t₁) →
    let l := k.toNat % iLanes t
    ((s.focus.guard g).getLsbD l = false → Completes (.vins g d a b t) s t₁ 4) ∧
    (∀ x t₂, (s.focus.guard g).getLsbD l = true → PortsOk s [a] → take s t₁ a = some (x, t₂) → Clear s (.v d) →
      ∃ r, Completes (.vins g d a b t) s (putV t₂ d r .none) 4 ∧
        ∀ i < iLanes t, r.extractLsb' (iWidth t * i) (iWidth t) =
          if i = l then BitVec.ofNat (iWidth t) x.toNat else (vBits s d).extractLsb' (iWidth t * i) (iWidth t))) ∧
  (∀ e ∈ ([(.vredadd, fun f rm => f.add rm), (.vredmax, fun f rm => f.minMax rm true)] :
      List ((Guard → BitVec 4 → BitVec 5 → BitVec 2 → Instr) × (Fmt → RM → FVal → FVal → Nat × FFlags))),
    ∀ (s : State) g d a t, LanesEnabled s g (fLanes t) → Clear s (.v a) → Clear s (.f d) →
      let f := formatOf t.toNat
      let lanes := (onLanes s g (fLanes t)).map fun i => ((vBits s a).extractLsb' (f.width * i) f.width).toNat
      let r := reduceBy f (rmOf s.focus.fcsr) (e.2 f (rmOf s.focus.fcsr)) lanes
      Completes (e.1 g d a t) s (putF (start s 4) d (asF32 f r.1) r.2) 4)

namespace Sys2Proof.Claim

/-! ### Matrix instructions, latches and the carousel -/

/-- R252: a block's packets go as stores, a doubleword among them as no store of one (R336). -/
def asPackets (c : BitVec 2) : Manner := { asStore c false with wide := true }

/-- R58: the issuing thread owns accumulator c. -/
abbrev OwnsTile (s : State) (c : BitVec 1) : Prop := c.toNat < s.accCount

/-- R58: the issuing thread owns its latches. -/
abbrev OwnsLatches (s : State) : Prop := s.accCount ≠ 0

/-- R92: n bytes from an address lie in the launch's area of the core's own TCM, at a byte key. -/
abbrev InArea (s : State) (a : Word) (n key : Nat) : Prop :=
  ∃ l ∈ s.launchOf s.focus, ∃ c ∈ s.focus.id.core?, a.toNat + n ≤ 0x60000 ∧ l.inArea a.toNat = true ∧
    l.inArea (a.toNat + n - 1) = true ∧ key = tcmKey c a.toNat

/-- Accumulator c of a hart. -/
def tileOf (t : Thread) (c : BitVec 1) : Tile := if c = 0 then t.c0 else t.c1
/-- A hart with accumulator c replaced. -/
def withTile (t : Thread) (c : BitVec 1) (x : Tile) : Thread := if c = 0 then { t with c0 := x } else { t with c1 := x }

/-- R75: a sum brought into the signed range of the residue triples. -/
def wrapped (v : Int) : Int := (v + 1048512) % 2097024 - 1048512

/-- R74, R75: the 64 dot products of an 8 by 32 operand's integers with a latch. -/
def products (a : Nat → Nat → Int) (l : Latch) : List Int :=
  (List.range 64).map fun n => wrapped ((List.range 32).map fun k => a (n / 8) k * rxValue (l.body.toArray.getD (8 * k + n % 8) 0)).sum

/-- R65, R248: element (i, k) of an I8, I4 or RX tile in memory as an integer, for the A half of a format pair: 1 and 2 I8, 3
and 4 I4, else RX. -/
def element (p : BitVec 6) (bs : List Byte) (i k : Nat) : Int :=
  if p = 1 ∨ p = 2 then (bs.getD (32 * i + k) 0).toInt
  else if p = 3 ∨ p = 4 then
    (if k % 2 = 0 then (bs.getD (16 * i + k / 2) 0).extractLsb' 0 4 else (bs.getD (16 * i + k / 2) 0).extractLsb' 4 4 : BitVec 4).toInt
  else rxValue (BitVec.ofNat 32 (numAt bs (4 * (32 * i + k)) 4))

/-- R248: the bytes of an A tile. -/
def tileBytes (p : BitVec 6) : Nat := if p = 1 ∨ p = 2 then 256 else if p = 3 ∨ p = 4 then 128 else 1024

/-- R68: the scale of an E8 byte: none for a NaN scale. -/
def scaleOf (b : Nat) : Option Int := if b = 255 then none else some ((b : Int) - 127)

/-- R60: the geometry CSR. -/
def geomOf (s : State) : Word := match s.launchOf s.focus with | some l => l.info.geom | none => 0

/-- R257: the place of tile i in an output of m by n elements cut into tm by tn tiles: row, column, rows and columns; none beyond it. -/
def placeInOutput (tm tn m n i : Nat) : Option (Nat × Nat × Nat × Nat) :=
  let across := (n + tn - 1) / tn
  let down := (m + tm - 1) / tm
  if tm = 0 ∨ tn = 0 ∨ m = 0 ∨ n = 0 ∨ down * across ≤ i then none
  else
    let row := i / across * tm
    let col := i % across * tn
    some (row, col, min tm (m - row), min tn (n - col))

/-- Field k of four 16-bit fields. -/
def quarter (w : Word) (k : Nat) : Nat := w.toNat / 2 ^ (16 * k) % 2 ^ 16

end Sys2Proof.Claim

/-- R74, R75: the residue dot product of two lists of integers is their true sum of products brought into the range from -1,048,512 to
1,048,511 by a multiple of 2,097,024; in range it is the true sum. -/
def Obligations.DotProductsAreExact : Prop :=
  ∀ xs : List (Int × Int),
    dot (xs.map fun p => (resOf p.1, resOf p.2)) = wrapped (xs.map fun p => p.1 * p.2).sum ∧
    (-1048512 ≤ (xs.map fun p => p.1 * p.2).sum → (xs.map fun p => p.1 * p.2).sum ≤ 1048511 →
      dot (xs.map fun p => (resOf p.1, resOf p.2)) = (xs.map fun p => p.1 * p.2).sum)

/-- R78: rne_shift is the identity at 0 and 0 from 40 on; between, no integer is nearer to v / 2^k than it is, and where two are as
near it is the even one. -/
def Sys2Proof.Claim.RneShiftIsNearestEven : Prop :=
  ∀ (v : Int) (k : Nat), rneShift v 0 = v ∧ (40 ≤ k → rneShift v k = 0) ∧
    (1 ≤ k → k ≤ 39 → ∀ n : Int, |v - rneShift v k * 2 ^ k| ≤ |v - n * 2 ^ k| ∧
      (|v - rneShift v k * 2 ^ k| = |v - n * 2 ^ k| → n ≠ rneShift v k → rneShift v k % 2 = 0))

/-- R66, R71, R87: a tile loaded into a latch and sent out again in its own format comes back bit for bit. -/
def Sys2Proof.Claim.LatchesKeepTheirTiles : Prop :=
  ∀ (header : Word) (body : List Byte), body.length = bodyBytes header →
    (Latch.load header body).tile = leBytes 8 header.toNat ++ body

/-- R76, R248, R249: MMA reads its A tile and adds the 64 dot products with b0, at the sum of the two scale exponents, to its
accumulator by align_add; a NaN scale makes a NaN contribution. -/
def Sys2Proof.Claim.MmaAccumulates : Prop :=
  ∀ (s : State) g c a f p ea t key, Enabled s .core g → OwnsTile s c → PortsOk s [a] → s.focus.acquires = [] →
    take s (start s 4) a = some (ea, t) → Clear s (.f f) →
    let n := tileBytes p
    let eA := scaleOf ((s.focus.f.toArray.getD f.toNat 0).toNat / 2 ^ 23 % 256)
    let eB := scaleOf (s.focus.b0.header.toNat % 256)
    InArea s ea n key → ea.toNat % n = 0 → Quiet s key n →
    Completes (.mma g c a f p) s (withTile t c ((tileOf s.focus c).alignAdd (products (element p (s.peek key n)) s.focus.b0)
      (BitVec.ofInt 16 (eA.getD 0 + eB.getD 0)) (eA.isNone || eB.isNone))) 4

/-- R77: align_add, on a tile that is neither NaN nor given a NaN contribution: an empty tile takes the contribution; else the
smaller exponent's side is shifted by rne_shift to the larger exponent and the sums are added; every sum is limited to 36
bits, and a limit sets SAT. A NaN tile stays as it is, and a NaN contribution makes a tile NaN. -/
def Sys2Proof.Claim.AlignAddRule : Prop :=
  ∀ (t : Tile) (xs : List Int) (e : BitVec 16) n, n < 64 → xs.length = 64 →
    (t.nan = true → ∀ b, t.alignAdd xs e b = t) ∧
    (t.nan = false → t.alignAdd xs e true = { t with nan := true, empty := false }) ∧
    (t.nan = false →
      let r := t.alignAdd xs e false
      let exp := if t.empty = true ∨ t.exp.toInt < e.toInt then e else t.exp
      let sum (i : Nat) : Int :=
        let v := (t.sums.toArray.getD i 0).toInt
        let x := xs.getD i 0
        if t.empty then x else rneShift v (exp.toInt - t.exp.toInt).toNat + rneShift x (exp.toInt - e.toInt).toNat
      r.exp = exp ∧ r.empty = false ∧ r.nan = false ∧
      (r.sums.toArray.getD n 0).toInt = max (-(2 ^ 35)) (min (2 ^ 35 - 1) (sum n)) ∧
      (r.sat = true ↔ t.sat = true ∨ ∃ i < 64, sum i < -(2 ^ 35) ∨ 2 ^ 35 ≤ sum i))

/-- R58, R251: MZ empties a tile, MSETE adds 64 zero sums at its exponent, and MEXP reads exponent and flags; the tile must be the
thread's, else ILLEGAL before the guard. -/
def Sys2Proof.Claim.TileControl : Prop :=
  (∀ (s : State) g c, Enabled s .core g → OwnsTile s c →
    Completes (.mz g c) s (withTile (start s 4) c ⟨Vector.replicate 64 0, 0, true, false, false⟩) 4) ∧
  (∀ (s : State) g c a x t, Enabled s .core g → OwnsTile s c → PortsOk s [a] → take s (start s 4) a = some (x, t) →
    Completes (.msete g c a) s (withTile t c ((tileOf s.focus c).alignAdd (List.replicate 64 0) (BitVec.ofNat 16 x.toNat) false)) 4) ∧
  (∀ (s : State) g d c t, Enabled s .core g → OwnsTile s c → PortsOk s [d] →
    let x := tileOf s.focus c
    give s (start s 4) d (BitVec.ofNat 64 (x.exp.toNat + (if x.empty then 2 ^ 16 else 0) + (if x.sat then 2 ^ 17 else 0) +
      (if x.nan then 2 ^ 18 else 0))) = some t → Completes (.mexp g d c) s t 4) ∧
  (∀ (s : State) g c, Avail.core.allows s.focus.id = true → ¬ OwnsTile s c →
    exec (.mz g c) s = .next (s.raise 0x01 0) ∧ (∀ a, exec (.msete g c a) s = .next (s.raise 0x01 0)) ∧
    (∀ d, exec (.mexp g d c) s = .next (s.raise 0x01 0)) ∧ (∀ a f p, exec (.mma g c a f p) s = .next (s.raise 0x01 0)) ∧
    (∀ a k, exec (.mrdF32 g c a k) s = .next (s.raise 0x01 0) ∧ exec (.mred g c a k) s = .next (s.raise 0x01 0)) ∧
    (∀ a b, exec (.macc g c a b) s = .next (s.raise 0x01 0) ∧ exec (.mcvtI8 g c a b) s = .next (s.raise 0x01 0)))

/-- R80, R252: MRD writes the 64 elements of its tile, row by row, each rounded to its format under fcsr.RM: in place at a local
address, else as packets cut at 256-byte boundaries through the store buffer; the union of the flags is set. -/
def Sys2Proof.Claim.TilesAreReadOut : Prop :=
  ∀ e ∈ ([(.mrdF32, .f32, 4), (.mrdBf16, .bf16, 2), (.mrdF16, .f16, 2)] :
      List ((Guard → BitVec 1 → BitVec 5 → BitVec 2 → Instr) × Fmt × Nat)),
    ∀ (s : State) g c a k ea t, Enabled s .core g → OwnsTile s c → PortsOk s [a] → take s (start s 4) a = some (ea, t) →
      let x := tileOf s.focus c
      let res (i : Nat) : Nat × FFlags :=
        if x.nan then (e.2.1.canon, .none) else if x.empty then (0, .none)
        else
          let z := (x.sums.toArray.getD i 0).toInt
          if z = 0 then (0, .none) else e.2.1.round (rmOf s.focus.fcsr) (decide (z < 0)) z.natAbs x.exp.toInt
      let bytes := (List.range 64).flatMap fun i => leBytes e.2.2 (res i).1
      let u := t.raiseFlags (unionFlags ((List.range 64).map fun i => (res i).2))
      let asks : List (Word × Body) := (pieces bytes.length ea bytes).map fun q => (q.1, .store (q.2.map some))
      InRange s ea (64 * e.2.2) 32 true →
      (∀ key, IsLocal s ea key → Quiet s key (64 * e.2.2) →
        CompletesIn (e.1 g c a k) s (stored s key (bytes.map some)) u 4) ∧
      (IsRemote s ea → MaySend s (asPackets k) asks → Sends (e.1 g c a k) s u (asPackets k) asks 4)

/-- R253, R254, R255: MRED writes its tile's 528-byte message; MACC with no slot does nothing, and applies the messages of its slots in
ascending order to its tile. The fields of a message are KIND, EMPTY, SAT, NAN and LCORE in its first word, the exponent and the
64 sums, sign-extended, with zeros for an empty tile; what it does to a tile follows KIND, EMPTY, NAN and SAT, and reserved
bits do nothing; a message of a tile applied to an empty tile gives its sums, exponent and flags. -/
def Sys2Proof.Claim.ReductionMessages : Prop :=
  (∀ (s : State) g c a k ea t, Enabled s .core g → OwnsTile s c → PortsOk s [a] → take s (start s 4) a = some (ea, t) →
    let bytes := (tileOf s.focus c).message s.lcore
    let asks : List (Word × Body) := (pieces bytes.length ea bytes).map fun q => (q.1, .store (q.2.map some))
    bytes.length = 528 ∧
    (InRange s ea 528 8 true →
      (∀ key, IsLocal s ea key → Quiet s key 528 → CompletesIn (.mred g c a k) s (stored s key (bytes.map some)) t 4) ∧
      (IsRemote s ea → MaySend s (asPackets k) asks → Sends (.mred g c a k) s t (asPackets k) asks 4))) ∧
  (∀ (s : State) g c a b ea n t₁ t₂, Enabled s .core g → OwnsTile s c → PortsOk s [a, b] → take s (start s 4) a = some (ea, t₁) →
    take s t₁ b = some (n, t₂) →
    (n = 0 → Completes (.macc g c a b) s t₂ 4) ∧
    (64 < n.toNat → exec (.macc g c a b) s = .next (s.raise 0x01 0)) ∧
    (∀ key, n ≠ 0 → n.toNat ≤ 64 → s.focus.acquires = [] → InArea s ea (528 * n.toNat) key → ea.toNat % 8 = 0 →
      Quiet s key (528 * n.toNat) →
      Completes (.macc g c a b) s (withTile t₂ c ((List.range n.toNat).foldl
        (fun x j => x.applyMessage (s.peek (key + 528 * j) 528)) (tileOf s.focus c))) 4)) ∧
  (∀ (x : Tile) i, x.empty = false → x.nan = false → Tile.zero.applyMessage (x.message i) = x) ∧
  (∀ (x : Tile) i,
    let word (o : Nat) : Nat := ofBytes (((x.message i).drop o).take 8)
    word 0 = 1 + (if x.empty then 2 ^ 8 else 0) + (if x.sat then 2 ^ 9 else 0) + (if x.nan then 2 ^ 10 else 0) + i % 2 ^ 32 * 2 ^ 32 ∧
    word 8 = (if x.empty then 0 else (x.exp.signExtend 64).toNat) ∧
    ∀ m < 64, word (16 + 8 * m) = if x.empty then 0 else ((x.sums.toArray.getD m 0).signExtend 64).toNat) ∧
  (∀ (x : Tile) (m : List Byte), m.length = 528 →
    let word (o : Nat) : Nat := ofBytes ((m.drop o).take 8)
    (word 0 % 256 ≠ 1 → x.applyMessage m = x) ∧
    (word 0 % 256 = 1 → (word 0).testBit 8 = true → (word 0).testBit 10 = false → x.applyMessage m = x) ∧
    (word 0 % 256 = 1 → ((word 0).testBit 8 = false ∨ (word 0).testBit 10 = true) →
      x.applyMessage m = ({ x with sat := x.sat || (word 0).testBit 9 } : Tile).alignAdd
        ((List.range 64).map fun k => (BitVec.ofNat 36 (word (16 + 8 * k))).toInt) (BitVec.ofNat 16 (word 8)) ((word 0).testBit 10)))

/-- R256: MCVT writes eight rows of a tile as I8 or I4, each element rounded to the target exponent of x[b] by rne_shift and limited
to its width; rows lie 32 or 16 bytes apart at local addresses, and no other byte changes. -/
def Sys2Proof.Claim.TilesAreNarrowed : Prop :=
  ∀ e ∈ ([(.mcvtI8, 8, 32, 8), (.mcvtI4, 4, 16, 4)] : List ((Guard → BitVec 1 → BitVec 5 → BitVec 5 → Instr) × Nat × Nat × Nat)),
    ∀ (s : State) g c a b ea y t₁ t₂ key, Enabled s .core g → OwnsTile s c → PortsOk s [a, b] → take s (start s 4) a = some (ea, t₁) →
      take s t₁ b = some (y, t₂) → s.focus.acquires = [] → ea.toNat % e.2.2.2 = 0 →
      (∀ i < 8, rangeOk s.focus.id (s.launchOf s.focus) (ea + BitVec.ofNat 64 (e.2.2.1 * i)) e.2.2.2 true = true ∧
        IsLocal s (ea + BitVec.ofNat 64 (e.2.2.1 * i)) (key + e.2.2.1 * i) ∧
        Quiet s (key + e.2.2.1 * i) e.2.2.2) →
      let x := tileOf s.focus c
      let target := (BitVec.ofNat 16 y.toNat).toInt
      let elem (n : Nat) : Int :=
        if x.empty || x.nan then 0
        else
          let v := (x.sums.toArray.getD n 0).toInt
          let q := if target ≤ x.exp.toInt then v * 2 ^ (min 40 (x.exp.toInt - target).toNat) else rneShift v (target - x.exp.toInt).toNat
          max (-(2 ^ (e.2.1 - 1))) (min (2 ^ (e.2.1 - 1) - 1) q)
      let row (i : Nat) : List Byte :=
        if e.2.1 = 8 then (List.range 8).map fun j => BitVec.ofInt 8 (elem (8 * i + j))
        else (List.range 4).map fun j =>
          (BitVec.ofInt 4 (elem (8 * i + 2 * j + 1)) : BitVec 4) ++ (BitVec.ofInt 4 (elem (8 * i + 2 * j)) : BitVec 4)
      CompletesIn (e.1 g c a b) s ((List.range 8).foldl (fun s i => stored s (key + e.2.2.1 * i) ((row i).map some)) s) t₂ 4 ∧
      (Memory.wf s.mem = true → ∀ u, exec (e.1 g c a b) s = .next u →
        (∀ i < 8, ∀ j < e.2.2.2, Memory.read u.mem (key + e.2.2.1 * i + j) = (row i).getD j 0) ∧
        ∀ k, (∀ i < 8, k < key + e.2.2.1 * i ∨ key + e.2.2.1 * i + e.2.2.2 ≤ k) → Memory.read u.mem k = Memory.read s.mem k)

namespace Sys2Proof.Claim

/-- R259: the search of a group table, each group with its rows and first row: both result words of tile i, where `g` groups with
`before` tiles in all have been passed. -/
def searchGroups (tm tn n i : Nat) : (g before : Nat) → List (Nat × Nat) → Nat × Nat
  | _, _, [] => (0, 0xFFFFFFFF00000000)
  | g, before, (rows, first) :: r =>
    let across := (n + tn - 1) / tn
    let tiles := (rows + tm - 1) / tm * across
    if i < before + tiles then
      let k := i - before
      ((first + k / across * tm) % 2 ^ 32 + k % across * tn * 2 ^ 32,
       min tm (rows - k / across * tm) + min tn (n - k % across * tn) * 2 ^ 16 + g * 2 ^ 32)
    else searchGroups tm tn n i (g + 1) (before + tiles) r

/-- R66, R72: the RX word of a signed integer. -/
def rxWord (v : Int) : W32 := BitVec.ofNat 32 ((v % 127).toNat + (v % 128).toNat * 2 ^ 8 + (v % 129).toNat * 2 ^ 16)

/-- R70: the bytes of a B tile's body in a BFMT. -/
def tileBody (f : Nat) : Nat := if f = 2 then 128 else if f = 5 then 1024 else 256

end Sys2Proof.Claim

/-- R257: GEOM writes row, column, rows and columns of tile x[a] as four 16-bit fields, or 0 where the index names no tile; the
geometry is x[b], or the geom register where b is x0. -/
def Sys2Proof.Claim.GeomPlacesTiles : Prop :=
  ∀ (s : State) g d a b i w t₁ t₂ t₃, Enabled s .core g → PortsOk s [a, b, d] → take s (start s 4) a = some (i, t₁) →
    (if b = 0 then w = geomOf s ∧ t₂ = t₁ else take s t₁ b = some (w, t₂)) →
    give s t₂ d (match placeInOutput (quarter w 0) (quarter w 1) (quarter w 2) (quarter w 3) i.toNat with
      | some (r, c, h, k) => BitVec.ofNat 64 (r + c * 2 ^ 16 + h * 2 ^ 32 + k * 2 ^ 48)
      | none => 0) = some t₃ → Completes (.geom g d a b) s t₃ 4

/-- R258, R259: GEOMG reads the group table at e4 and writes both words of the search to its register pair. -/
def Sys2Proof.Claim.GeomgSearchesGroups : Prop :=
  ∀ (s : State) g (d : BitVec 4) a i key t₁ t₂ t₃, Enabled s .core g → s.focus.acquires = [] →
    let lo : BitVec 5 := BitVec.ofNat 5 (2 * d.toNat)
    let e4 := s.focus.e.toArray.getD 4 0
    let n := ofBytes (s.peek key 8) % 2 ^ 12
    let bs := s.peek key (8 + 8 * n)
    let groups := (List.range n).map fun k => (numAt bs (8 + 8 * k) 4, numAt bs (12 + 8 * k) 4)
    let w := geomOf s
    let r := if quarter w 0 = 0 ∨ quarter w 1 = 0 ∨ quarter w 3 = 0 then (0, 0xFFFFFFFF00000000)
      else searchGroups (quarter w 0) (quarter w 1) (quarter w 3) i.toNat 0 0 groups
    PortsOk s [a, lo, lo + 1] → take s (start s 4) a = some (i, t₁) → InArea s e4 8 key → InArea s e4 (8 + 8 * n) key →
    e4.toNat % 8 = 0 → Quiet s key (8 + 8 * n) →
    give s t₁ lo (BitVec.ofNat 64 r.1) = some t₂ → give s t₂ (lo + 1) (BitVec.ofNat 64 r.2) = some t₃ →
    Completes (.geomg g d a) s t₃ 4

/-- R58, R114, R223, R260, R261: BLD begins to fill b1, waiting while it is filling, and counts its counter up (that it takes no
permit is the model's reading, log 130); BST begins a copy of b0's tile to memory, each of its packets counted as a store from
then on (log 30) and in a DET launch held when it leaves the core. Both are ILLEGAL before the guard on a thread without
latches, as BROT and BSWAP are. -/
def Sys2Proof.Claim.TileLoadsAndStoresBegin : Prop :=
  (∀ (s : State) g a k ea t, Enabled s .core g → OwnsLatches s → PortsOk s [a] → take s (start s 4) a = some (ea, t) →
    InRange s ea 8 8 false →
    ((∃ b, s.focus.fill = .filling b) → exec (.bld g a k) s = .next (s.stall .other)) ∧
    ((∀ b, s.focus.fill ≠ .filling b) → s.focus.counter k ≠ 63 →
      CompletesIn (.bld g a k) s { s with nextId := s.nextId + 1, blds := s.blds ++
          [⟨s.nextId, s.focus.id, k, ea, s.focus.superstep, s.focus.heldIdx, none, s.focus.pc, s.focus.iword⟩] }
        { t.setCounter k (t.counter k + 1) with fill := .filling true } 4)) ∧
  (∀ (s : State) g a k ea t, Enabled s .core g → OwnsLatches s → PortsOk s [a] → take s (start s 4) a = some (ea, t) →
    let bytes := s.focus.b0.tile
    let packets := (ea.toNat + bytes.length - 1) / 256 - ea.toNat / 256 + 1
    let held := if s.isDet s.focus = true ∧ 2 ^ 48 ≤ ea.toNat then packets else 0
    InRange s ea bytes.length 8 true → s.focus.heldIdx + held ≤ 4194304 → s.focus.counter k ≠ 63 →
    CompletesIn (.bst g a k) s { s with nextId := s.nextId + 1, copies := s.copies ++ [⟨s.nextId, s.focus.id, s.focus.lid, s.focus.space,
        some k, false, 0, ea, ea, bytes.length, 0, some bytes, .idle, s.focus.superstep, s.focus.heldIdx, s.focus.pc, s.focus.iword⟩] }
      { t.setCounter k (t.counter k + 1) with unack := t.unack + packets, heldIdx := t.heldIdx + held } 4) ∧
  (∀ (s : State) g a k, Avail.core.allows s.focus.id = true → ¬ OwnsLatches s →
    exec (.bld g a k) s = .next (s.raise 0x01 0) ∧ exec (.bst g a k) s = .next (s.raise 0x01 0) ∧
    exec (.brot g) s = .next (s.raise 0x01 0) ∧ exec (.bswap g) s = .next (s.raise 0x01 0))

/-- R23, R262: BROT copies b0 to the outgoing buffer for the next member, the last for the first, waiting while it is taken, and every
delivery that can start starts; outside a troupe it is ILLEGAL, and from the slot on at which the ring broke RING_BROKEN. -/
def Sys2Proof.Claim.BrotSendsAround : Prop :=
  ∀ (s : State) g, Enabled s .core g → OwnsLatches s →
    (s.troupeOf s.focus = none → exec (.brot g) s = .next (s.raise 0x01 0)) ∧
    (∀ tr, s.troupeOf s.focus = some tr →
      let broken := ∃ n, tr.broken = some n ∧ n ≤ s.focus.slotNo
      (broken → exec (.brot g) s = .next (s.raise 0x0A 0)) ∧
      (¬ broken → s.focus.outTile ≠ none → exec (.brot g) s = .next (s.stall .other)) ∧
      (¬ broken → s.focus.outTile = none →
        exec (.brot g) s = .next ((State.startRings { s with focus := { start s 4 with
          outTile := some (s.focus.b0, false, some ⟨tr.die, tr.row, tr.col + (s.focus.tpos + 1) % tr.width⟩) } }).retire s.focus 4 .no true)))

/-- R260, R262, R263: BSWAP exchanges the latches when b1 is FULL and leaves it EMPTY, and every delivery that can start starts (before a
BLD of the next slot could, which is the model's reading, log 131); it waits while b1 fills, or is EMPTY with a predecessor in
the ring to send one, and traps with RING_BROKEN where none can; a wait past the limit traps. -/
def Sys2Proof.Claim.BswapExchangesLatches : Prop :=
  (∀ (s : State) g, Enabled s .core g → OwnsLatches s →
    (s.focus.fill = .full → exec (.bswap g) s = .next ((State.startRings { s with focus := { start s 4 with
      b0 := s.focus.b1, b1 := s.focus.b0, fill := .empty } }).retire s.focus 4 .no true)) ∧
    ((∃ b, s.focus.fill = .filling b) → exec (.bswap g) s = .next (s.stall .swap)) ∧
    (s.focus.fill = .empty → s.troupeOf s.focus = none → exec (.bswap g) s = .next (s.raise 0x0A 0)) ∧
    (∀ tr h, s.focus.fill = .empty → s.troupeOf s.focus = some tr →
      tr.members[(s.focus.tpos + tr.width - 1) % tr.width]? = some h →
      exec (.bswap g) s = .next (if h = none then s.raise 0x0A 0 else s.stall .swap))) ∧
  (∀ (s : State) since, s.focus.wait = some (.swap, since) → s.focus.stage = .active → 2 ^ s.mc.pwlim.toNat < s.now - since →
    exec (.bswapTimeout s.focus.id) s = .next (s.raise 0x09 0))

/-- R71, R87, R260, R262, R265, R340: once every delivery that can start has started, no tile waits for a receiver that is absent or
whose b1 is EMPTY. A tile leaves for its receiver, the thread of its launch on the named core, when that thread's b1 is EMPTY, and
arrives in it as FULL with the sender's buffer free again, its elements limited to the range of its BFMT; it is then the tile of a
region entry at which b1 was filling. One whose receiver's task has ended is discarded. -/
def Sys2Proof.Claim.RingDeliveries : Prop :=
  (∀ (s : State) h l c, (s.startRings.hart h).outTile = some (l, false, some c) →
    ∃ r, s.startRings.receiver (s.startRings.hart h).lid c = some r ∧ r.fill ≠ .empty) ∧
  (∀ (s : State) h l c r, (s.hart h).outTile = some (l, false, some c) →
    s.harts.find? (fun t => decide (t.id.core? = some c) && decide (t.lid = (s.hart h).lid) && decide (t.state ≠ .free) && !t.deaf) = some r →
    r.fill = .empty → ∃ u, exec (.ringDeliveryStart h) s = .next u ∧
      (u.hart r.id).fill = .filling false ∧ (u.hart h).outTile = some (l, true, some c) ∧ u.mem = s.mem ∧ u.net = s.net) ∧
  (∀ (s : State) h l c, (s.hart h).outTile = some (l, false, some c) →
    s.harts.find? (fun t => decide (t.id.core? = some c) && decide (t.lid = (s.hart h).lid) && decide (t.state ≠ .free) && !t.deaf) = none →
    exec (.ringDeliveryStart h) s = .next (s.setHart { s.hart h with outTile := none })) ∧
  (∀ (s : State) h l c r, (s.hart h).outTile = some (l, true, some c) →
    s.harts.find? (fun t => decide (t.id.core? = some c) && decide (t.lid = (s.hart h).lid) && decide (t.fill = .filling false)) = some r →
    ∃ u, exec (.ringDeliveryDone h) s = .next u ∧
      (u.hart r.id).b1.header = l.header ∧ (u.hart r.id).fill = .full ∧ (u.hart h).outTile = none ∧ (u.hart h).b0 = (s.hart h).b0 ∧
      (∀ n < 256, let v := l.body.toArray.getD n 0
        (u.hart r.id).b1.body.toArray.getD n 0 = match l.header.toNat / 2 ^ 8 % 256 with
          | 2 => rxWord (max (-8) (min 7 (rxValue v)))
          | 5 => v
          | _ => rxWord (max (-128) (min 127 (rxValue v)))) ∧
      (∀ b, r.region.fill = .filling b → (u.hart r.id).region = { r.region with b1 := (u.hart r.id).b1, fill := .full }) ∧
      u.mem = s.mem ∧ u.net = s.net)

/-- R65, R70, R71, R87, R91, R103, R104, R261: what the interface reads of a tile that lies at a byte key, in memory of this module
that is free of ECC errors, in place, and the hart's own or of a launch that is not deterministic: its header, then the body that
the header's BFMT gives it, each element converted into RX. A body that leaves its region fails at the first byte outside
it, and a piece that does not translate fails at its address. -/
def Sys2Proof.Claim.TilesAreRead : Prop :=
  ∀ (s : State) (b : Bld) key,
    let t := s.hart b.hart
    let r : Req := { asReq b.hart t.lid t.space with superstep := b.superstep }
    let header : Word := BitVec.ofNat 64 (ofBytes (s.peek key 8))
    let f := header.toNat / 2 ^ 8 % 256
    let n := tileBody f
    let body := s.peek (key + 8) n
    let hits (upto : Nat) : Prop := ∀ o < upto, s.xlat r (b.addr + BitVec.ofNat 64 o) .read = .hit (key + o) ∧ isPage (key + o) = false
    key + 1032 ≤ 2 ^ 50 → (∀ o k, o + k ≤ 8 + n → s.swappedAt t.lid (key + o) k = none) →
    (∀ e ∈ s.ecc, shareWord key (8 + n) e.1 8 = false) → b.addr.toNat % 8 = 0 →
    (b.addr.toNat < 2 ^ 48 ∨ ∀ l ∈ s.launches, l.info.lid = t.lid → l.info.det = false) → hits 8 →
    (rangeOk b.hart (s.launch? t.lid) b.addr (8 + n) false = true → hits (8 + n) → ∃ l s', s.readTile b = (.ok l, s') ∧ s'.mem = s.mem ∧
      l.header = header ∧ ∀ i < 256, l.body.toArray.getD i 0 = match f with
        | 2 => rxWord (if i % 2 = 0 then ((body.getD (i / 2) 0).extractLsb' 0 4).toInt else ((body.getD (i / 2) 0).extractLsb' 4 4).toInt)
        | 5 => BitVec.ofNat 32 (numAt body (4 * i) 4)
        | _ => rxWord (body.getD i 0).toInt) ∧
    (∀ i < n, (∀ j < i, rangeOk b.hart (s.launch? t.lid) b.addr (9 + j) false = true) →
      (∀ j < n, i ≤ j → rangeOk b.hart (s.launch? t.lid) b.addr (9 + j) false = false) →
      ∃ s', s.readTile b = (.error (0x04, b.addr + BitVec.ofNat 64 (8 + i)), s') ∧ s'.mem = s.mem) ∧
    (∀ o code, rangeOk b.hart (s.launch? t.lid) b.addr (8 + n) false = true → 8 ≤ o → o < 8 + n → (o = 8 ∨ (b.addr.toNat + o) % 256 = 0) →
      hits o → s.xlat r (b.addr + BitVec.ofNat 64 o) .read = .fail code →
      ∃ s', s.readTile b = (.error (code, b.addr + BitVec.ofNat 64 o), s') ∧ s'.mem = s.mem)

/-- R31, R103, R105, R108, R111, R119, R121, R260, R261, R385, R388, R403: a BLD whose tile may be read (no own store to it is under way, a
port leads to it, a remote one's superstep has come, and no restore will overwrite it), of a stopped hart as well (R339), reads it whole
at one moment (the model's reading, log 31) once its slot's charges, failing or not, are paid (which of them those are is log 79), and
leaves b1 FULL with it, the counter counted down. Where the home of a piece lies on the own die, the read is stamped first, raises the G
of those homes, and waits for its turn in stamp order. One that fails leaves b1 EMPTY, where the next delivery may start, and its negative
reply, which faults the task with the failing address, is on its way. One on an excluded input is discarded and reported, and never
returns. -/
def Sys2Proof.Claim.TileLoadsFill : Prop :=
  ∀ (s : State) h b, s.blds.find? (fun b => b.hart = h) = some b → s.storesUnderway h b.id (s.bldSpans b) = false →
    s.routed (s.bldSpans b) = true → (b.addr.toNat < 2 ^ 48 ∨ s.stepOpen (s.hart h).lid b.superstep = true) →
    (∀ x ∈ s.bldSpans b, s.restoringAt (s.hart h).lid x.1 x.2 = false) →
    let fills (s : State) (u : Host.Outcome State Fault Refusal) : Prop :=
      let t := s.hart h
      let paid := State.payAll t.space (s.readCharges (asReq h t.lid t.space) b.addr (s.tileLen b)) s
      (paid = none → u = .next s) ∧
      (∀ p l s', paid = some p → p.readTile b = (.ok l, s') →
        u = .next ((({ s' with blds := s'.blds.filter fun q => q.id ≠ b.id } : State).mapHart h fun t => t.landTile l).countDown h b.dc)) ∧
      (∀ p code fa s', paid = some p → p.readTile b = (.error (code, fa), s') →
        let refusal : Req := { asReq h t.lid t.space with
          id := s.nextId, grp := b.id, task := t.task, dc := some b.dc, addr := b.addr, superstep := b.superstep, idx := b.idx, pc := b.pc
          iword := b.iword, phase := .refused code fa }
        u = .next ((({ s' with blds := s'.blds.filter fun q => q.id ≠ b.id, net := s'.net ++ [refusal], nextId := s'.nextId + 1 } : State).mapHart h
          fun t => t.emptyTile).startRings))
    let ordered : Prop := 2 ^ 48 ≤ b.addr.toNat ∧ (∀ ch, h ≠ .overlay ch) ∧ ∃ x ∈ s.tileRuns b, dieOfKey x.1 = some h.die
    let shut := s.rangeShut (asReq h (s.hart h).lid (s.hart h).space) b.addr (s.tileLen b)
    (∀ key, s.keyFor? (s.hart h) b.addr = some key →
      let n := 8 + tileBody (ofBytes (s.peek key 8) / 2 ^ 8 % 256)
      s.tileLen b = if rangeOk h (s.launch? (s.hart h).lid) b.addr n false then n else 8) ∧
    (b.stamp = none → shut = none → ¬ ordered → fills s (exec (.bldFillDone h) s)) ∧
    (∀ detail, b.stamp = none → shut = some detail → exec (.bldFillDone h) s =
      .next (({ s with blds := s.blds.filter fun q => q.id ≠ b.id } : State).reportSystem 6 0 0 0 detail)) ∧
    (b.stamp = none → shut = none → ordered → exec (.bldFillDone h) s = .next { (s.stamp (injOf h)).2 with
      blds := (s.stamp (injOf h)).2.blds.map fun q => if q.id = b.id then { q with stamp := some (s.stamp (injOf h)).1 } else q }) ∧
    (∀ st, b.stamp = some st →
      let here := s.readArrives h.die st (s.tileOrdered b)
      (here.readInOrder st (here.tileOrdered b) = false → exec (.bldFillDone h) s = .next here) ∧
      (here.readInOrder st (here.tileOrdered b) = true → fills here (exec (.bldFillDone h) s)))

/-- R260, R265: where a tile lands, and where its filling is given up: b1 and, where b1 was filling at it, the region entry and each place
to which the entry may still move; a BSWAP that waited for the tile waits no more. -/
def Sys2Proof.Claim.TilesLand : Prop :=
  ∀ (t : Thread) (l : Latch),
    (t.landTile l).b1 = l ∧ (t.landTile l).fill = .full ∧ t.emptyTile.b1 = t.b1 ∧ t.emptyTile.fill = .empty ∧
    ((∃ b, t.region.fill = .filling b) → (t.landTile l).region = { t.region with b1 := l, fill := .full } ∧
      t.emptyTile.region = { t.region with fill := .empty }) ∧
    ((∀ b, t.region.fill ≠ .filling b) → (t.landTile l).region = t.region ∧ t.emptyTile.region = t.region) ∧
    (t.landTile l).marks = t.marks.map (fun (m : Mark) => match m.region.fill with
      | .filling _ => { m with region := { m.region with b1 := l, fill := .full } } | _ => m) ∧
    t.emptyTile.marks = t.marks.map (fun (m : Mark) => match m.region.fill with
      | .filling _ => { m with region := { m.region with fill := .empty } } | _ => m) ∧
    (∀ since, t.wait = some (.swap, since) → (t.landTile l).wait = none) ∧ (t.landTile l).x = t.x ∧ t.emptyTile.x = t.x

namespace Sys2Proof.Claim

/-! ### Nodes -/

/-- R291: the pool base in e6 is a global address on a node boundary. -/
abbrev PoolBase (s : State) (base : Word) : Prop :=
  s.focus.e.toArray.getD 6 0 = base ∧ base.toNat / 2 ^ 48 = 0x0100 ∧ base.toNat % 512 = 0

/-- R290, R291: how a node command travels. -/
def asNode (k : BitVec 2) : Manner := ⟨some k, false, false, true, true, false, false⟩

/-- The register pair of a destination field (R180). -/
def pairOf (d : BitVec 4) : BitVec 5 × BitVec 5 := (BitVec.ofNat 5 (2 * d.toNat), BitVec.ofNat 5 (2 * d.toNat + 1))

/-- R34, R38, R303: a node instruction closes a region, until its Waystation refuses it: its tag names the move of the region entry that
a refusal undoes (log 105). -/
def nodeClosing (s : State) : Closing := .node s.nextId

/-- A node instruction that has a source a and destinations d and d2. -/
def NodeSends (i : Instr) (s : State) (g : Guard) (op : NodeOp) (a d d2 : BitVec 5) (k : BitVec 2) : Prop :=
  ∀ x t₁ t₂ t₃ base, Enabled s .core g → PortsOk s [a, d, d2] → s.focus.acquires = [] → take s (start s 4) a = some (x, t₁) →
    PoolBase s base → claim s t₁ d = some t₂ → claim s t₂ d2 = some t₃ →
    MaySend s (asNode k) [(base, .node op x 0 [] d d2)] → Sends i s t₃ (asNode k) [(base, .node op x 0 [] d d2)] 4
      (nodeClosing s)

/-- A request that has arrived at its home and may be performed there at a byte key of this module. -/
abbrev AtHome (s : State) (id : Nat) (r : Req) (key : Nat) : Prop :=
  s.req? id = some r ∧ r.arrived = true ∧ s.gate r = .go key ∧ key < 2 ^ 50

/-- A hart's request performed: its reply carries the data and the time now (R111). -/
def answered (s : State) (r : Req) (data : List Byte) : State := s.putReq { r with phase := .performed data s.clk }

/-- R388: no walk that locates the command's node reads through an excluded input. -/
abbrev WalkArrives (s : State) (r : Req) (key : Nat) : Prop :=
  ∀ va, s.nodeMiss r key = some va → s.walkShut (homeOf key).station r.space va = none

/-- R388, R403: the accesses that a node command makes beyond its pool's header arrive and are charged to its launch's slot, which
leaves state `s'`. -/
abbrev Paid (s s' : State) (r : Req) (key : Nat) : Prop :=
  State.payAll (s.slotOf r) (s.nodeCharges r key) s = some s' ∧ WalkArrives s' r key

/-- The commands that name a node by a handle and answer a status word, with their events. -/
abbrev HandleOp (op : NodeOp) (event : Nat → Instr) : Prop :=
  (op = .desc ∧ event = .descApply) ∨ (op = .bkup ∧ event = .bkupApply) ∨ (op = .unmk ∧ event = .unmkApply) ∨
  (op = .expnd ∧ event = .expndApply) ∨ (op = .rcyc ∧ event = .rcycApply)

/-- R293: such a command's reply that changes nothing: a code and the state that was found; DESC's status is its second word, and a
backup or unmark gives its edge back. -/
def refusal (op : NodeOp) (b : Word) (code found : Nat) : List Byte :=
  let edge := if op = .bkup ∨ op = .unmk then b.toNat % 2 ^ 8 else 0xFF
  let w := code + edge * 2 ^ 8 + found * 2 ^ 16
  if op = .desc then leBytes 8 0 ++ leBytes 8 w else leBytes 8 w ++ leBytes 8 0

/-- R275, R276: what a node's fields can hold. -/
def Fits (n : Node) : Prop :=
  n.ecount ≤ 14 ∧ n.gen < 2 ^ 32 ∧ n.clid < 2 ^ 16 ∧ n.cltask < 2 ^ 32 ∧ n.ntot < 2 ^ 32 ∧ n.ftot < 2 ^ 32 ∧ n.parent < 2 ^ 64 ∧
  n.tval < 2 ^ 32 ∧ n.payload.length = 24 ∧ n.edges.length = 14 ∧ (n.state ≠ .expanding → n.clid = 0 ∧ n.cltask = 0) ∧
  ∀ e ∈ n.edges, -(2 ^ 63) ≤ e.w ∧ e.w < 2 ^ 63 ∧ e.n < 2 ^ 32 ∧ e.f < 2 ^ 16 ∧ e.p < 2 ^ 16 ∧ e.child < 2 ^ 64 ∧ e.epay < 2 ^ 64

/-- R279, R291: a node command's pool and node are found: the pool's header lies at `key`, its node i at `k`, and no word of them has
an ECC error. -/
abbrev Located (s : State) (r : Req) (key i k : Nat) : Prop :=
  s.ecc = [] ∧ s.locate r.space r.addr.toNat key i = (some k, s)

/-- R293: a node handle names node i with its generation, in a pool whose header gives this base. -/
abbrev Named (s : State) (r : Req) (key k : Nat) (a : Word) : Prop :=
  let p := readPool (s.peek key 64)
  let i := a.toNat % 2 ^ 32
  i ≠ 0 ∧ i < p.nnodes ∧ a.toNat / 2 ^ 32 ≠ 0 ∧ a.toNat / 2 ^ 32 = (readNode (s.peek k 512)).gen ∧ r.addr.toNat = p.base

/-- R293: a status word: code, edge, the state that was found, and a value. -/
def statusOf (o : NodeOut) (found : NState') : Word := BitVec.ofNat 64 (o.st + o.edge * 2 ^ 8 + found.code * 2 ^ 16 + o.val * 2 ^ 32)

/-- A node command's effect on memory and its two reply words. -/
def nodeAnswer (s : State) (r : Req) (k : Nat) (o : NodeOut) (w0 w1 : Word) : State :=
  answered (match o.node with | some n => s.pokeBytes k n.bytes | none => s) r (leBytes 8 w0.toNat ++ leBytes 8 w1.toNat)

end Sys2Proof.Claim

/-- R290, R291, R292, R296, R303: a node instruction sends its command, ordered at its home and held in a DET launch, to the pool
base in e6, and closes a region unless its Waystation refuses it: a refusal moves the region entry back to where it was (log 105). EXPND
copies its expansion block at issue, and waits as a release with that copy. -/
def Obligations.NodeCommandsAreSent : Prop :=
  (∀ (s : State) g (d : BitVec 4) a k, NodeSends (.desc g d a k) s g .desc a (pairOf d).1 (pairOf d).2 k) ∧
  (∀ (s : State) g (d : BitVec 4) a k, NodeSends (.nstat g d a k) s g .nstat a (pairOf d).1 (pairOf d).2 k) ∧
  (∀ (s : State) g d a b k, NodeSends (.nalloc g d a b k) s g .nalloc a d b k) ∧
  (∀ (s : State) g d a k, NodeSends (.rcyc g d a k) s g .rcyc a d 0 k) ∧
  (∀ (s : State) g d a k, NodeSends (.ninit g d a k) s g .ninit a d 0 k) ∧
  (∀ e ∈ ([(.bkup, .bkup), (.unmk, .unmk)] : List ((Guard → BitVec 5 → BitVec 5 → BitVec 5 → BitVec 2 → Instr) × NodeOp)),
    ∀ (s : State) g d a b k x y t₁ t₂ t₃ base, Enabled s .core g → PortsOk s [a, b, d, 0] → s.focus.acquires = [] →
      take s (start s 4) a = some (x, t₁) → take s t₁ b = some (y, t₂) → PoolBase s base → claim s t₂ d = some t₃ →
      MaySend s (asNode k) [(base, .node e.2 x y [] d 0)] → 
      Sends (e.1 g d a b k) s t₃ (asNode k) [(base, .node e.2 x y [] d 0)] 4 (nodeClosing s)) ∧
  (∀ (s : State) g d a b k x y t₁ t₂ t₃ base key, Enabled s .core g → PortsOk s [a, b, d] → s.focus.acquires = [] →
    take s (start s 4) a = some (x, t₁) → take s t₁ b = some (y, t₂) → PoolBase s base →
    let first := ofBytes (s.peek key 8)
    let n := if first / 2 ^ 8 % 2 = 0 ∧ first % 2 ^ 8 ≤ 14 then 8 + 24 * (first % 2 ^ 8) else 8
    (s.focus.part = none → InArea s y 8 key → InArea s y n key → y.toNat % 8 = 0 → Quiet s key n →
      (s.released s.focus = false → exec (.expnd g d a b k) s =
        .next ({ s with focus := { t₂ with arrivals := s.focus.arrivals, part := some (0, 0, s.peek key n) } }.stall .other)) ∧
      (s.released s.focus = true → claim s t₂ d = some t₃ → MaySend s (asNode k) [(base, .node .expnd x y (s.peek key n) d 0)] →
        Sends (.expnd g d a b k) s t₃ (asNode k) [(base, .node .expnd x y (s.peek key n) d 0)] 4 (nodeClosing s))) ∧
    (∀ i j bs, s.focus.part = some (i, j, bs) → s.released s.focus = true → claim s t₂ d = some t₃ →
      MaySend s (asNode k) [(base, .node .expnd x y bs d 0)] →
      Sends (.expnd g d a b k) s t₃ (asNode k) [(base, .node .expnd x y bs d 0)] 4 (nodeClosing s))) ∧
  (∀ (s : State) r code, (∃ op a b block d d2, r.body = .node op a b block d d2) → ∃ u, s.refuseAt r code = (s.unclose r.id).putReq u) ∧
  (∀ (t : Thread) tag old g, t.marks = [⟨0, [tag], false, g⟩, ⟨0, [], true, old⟩] → t.fault = none →
    (t.unclose tag).region = old ∧ (t.unclose tag).pc = t.pc ∧ (t.unclose tag).x = t.x)

/-- R279, R293, R294, R295, R297, R299, R300, R388, R403: a command on a node that its handle names, applied whole at the pool's home once
what it reads and writes there is charged (what that is: log 79); one whose walk reads through an excluded input never is, and is reported.
The node becomes what the command's rule makes of it, and the
reply carries the status word. NSTAT reads any node that lies in the pool, whatever its generation; RCYC asks FTOT alone
whether an edge holds a mark (log 147). -/
def Sys2Proof.Claim.NodeCommandsAreApplied : Prop :=
  ∀ (s : State) id r key k op a b block d d2, AtHome s id r key → r.body = .node op a b block d d2 → (∀ p, r.src ≠ .fabric p) →
    s.ecc = [] →
    let p := readPool (s.peek key 64)
    let n := readNode (s.peek k 512)
    (State.payAll (s.slotOf r) (s.nodeCharges r key) s = none → ∀ event, HandleOp op event → exec (event id) s = .next s) ∧
    (∀ u va detail, State.payAll (s.slotOf r) (s.nodeCharges r key) s = some u → u.nodeMiss r key = some va →
      u.walkShut (homeOf key).station r.space va = some detail → ∀ event, HandleOp op event →
      exec (event id) s = .next ((u.drop id).reportSystem 6 0 0 0 detail)) ∧
    (∀ u, Paid s u r key → Located s r key (a.toNat % 2 ^ 32) k → a.toNat % 2 ^ 32 ≠ 0 → a.toNat % 2 ^ 32 < p.nnodes →
      r.addr.toNat = p.base → op = .nstat → exec (.nstatApply id) s = .next (answered u r
        (leBytes 8 (n.state.code + n.ecount * 2 ^ 8 + (if n.sat then 2 ^ 16 else 0) + (if n.ufl then 2 ^ 17 else 0) + n.gen * 2 ^ 32) ++
         leBytes 8 (n.ntot + n.ftot * 2 ^ 32)))) ∧
    (∀ u, Paid s u r key → Located s r key (a.toNat % 2 ^ 32) k → Named s r key k a →
      (op = .desc → exec (.descApply id) s = .next (let o := descNode p n a.toNat r.lid r.task
        nodeAnswer u r k o (BitVec.ofNat 64 o.out) (statusOf o n.state))) ∧
      (op = .bkup → exec (.bkupApply id) s = .next (let o := markNode true n b.toNat; nodeAnswer u r k o (statusOf o n.state) 0)) ∧
      (op = .unmk → exec (.unmkApply id) s = .next (let o := markNode false n b.toNat; nodeAnswer u r k o (statusOf o n.state) 0)) ∧
      (op = .expnd → exec (.expndApply id) s = .next (let o := expndNode n block r.lid r.task; nodeAnswer u r k o (statusOf o n.state) 0)) ∧
      (op = .rcyc →
        (n.state = .free → exec (.rcycApply id) s = .next (answered u r (leBytes 8 (10 + 0xFF * 2 ^ 8) ++ leBytes 8 0))) ∧
        ((n.state = .expanding ∨ (n.state = .expanded ∧ n.ftot ≠ 0)) →
          exec (.rcycApply id) s = .next (answered u r (leBytes 8 (6 + 0xFF * 2 ^ 8 + n.state.code * 2 ^ 16) ++ leBytes 8 0))) ∧
        ((n.state = .leaf ∨ n.state = .terminal ∨ (n.state = .expanded ∧ n.ftot = 0)) →
          exec (.rcycApply id) s = .next (answered
            ((u.pokeBytes k (Node.blank .free (if n.gen = 2 ^ 32 - 1 then 1 else n.gen + 1) p.freehead).bytes).pokeBytes (key + 16)
              (leBytes 4 (a.toNat % 2 ^ 32) ++ leBytes 4 ((p.freecnt + 1) % 2 ^ 32) ++
               leBytes 8 (if p.root = a.toNat % 2 ^ 32 + n.gen * 2 ^ 32 then 0 else p.root)))
            r (leBytes 8 (0xFF * 2 ^ 8 + n.state.code * 2 ^ 16) ++ leBytes 8 0)))))

/-- R273, R274, R291, R293, R300: a command that names no node of its pool changes nothing: an index of 0 or beyond the pool, or a node
that cannot be located, answers STALE; a handle of generation 0 or of another than the node's STALE too, with the node's state;
and a pool whose header gives another base BADSTATE. NSTAT answers zeros without a node. -/
def Sys2Proof.Claim.BadHandlesAreRefused : Prop :=
  ∀ (s : State) id r key op a b block d d2, AtHome s id r key → r.body = .node op a b block d d2 → (∀ p, r.src ≠ .fabric p) →
    s.ecc = [] →
    let p := readPool (s.peek key 64)
    let i := a.toNat % 2 ^ 32
    let gen := a.toNat / 2 ^ 32
    ∀ u, Paid s u r key →
      (∀ event, HandleOp op event →
        ((i = 0 ∨ p.nnodes ≤ i) → exec (event id) s = .next (answered u r (refusal op b 5 0))) ∧
        (∀ v, i ≠ 0 → i < p.nnodes → u.locate r.space r.addr.toNat key i = (none, v) →
          exec (event id) s = .next (answered v r (refusal op b 5 0))) ∧
        (∀ k, i ≠ 0 → i < p.nnodes → Located s r key i k →
          let n := readNode (s.peek k 512)
          ((gen = 0 ∨ gen ≠ n.gen) → exec (event id) s = .next (answered u r (refusal op b 5 n.state.code))) ∧
          (gen ≠ 0 → gen = n.gen → r.addr.toNat ≠ p.base → exec (event id) s = .next (answered u r (refusal op b 10 n.state.code))))) ∧
      (op = .nstat →
        ((i = 0 ∨ p.nnodes ≤ i ∨ r.addr.toNat ≠ p.base) → exec (.nstatApply id) s = .next (answered u r (leBytes 8 0 ++ leBytes 8 0))) ∧
        (∀ v, i ≠ 0 → i < p.nnodes → r.addr.toNat = p.base → u.locate r.space r.addr.toNat key i = (none, v) →
          exec (.nstatApply id) s = .next (answered v r (leBytes 8 0 ++ leBytes 8 0))))

/-- R273, R275, R276, R277, R283: the bytes of a pool's header and of a node, field by field, as they are read: a state above 4 is FREE,
an edge count is at most 14, and only an EXPANDING node has a claimant. A node is written in the same layout, its reserved bits
zero. -/
def Sys2Proof.Claim.NodeBytesAreRight : Prop :=
  (∀ bs : List Byte, bs.length = 64 →
    let w (o : Nat) : Nat := numAt bs o 8
    let half (x : Nat) : Int := (BitVec.ofNat 32 x).toInt
    readPool bs = ⟨w 0, w 8 % 2 ^ 32, w 16 % 2 ^ 32, w 16 / 2 ^ 32, w 24, w 32 % 4, (w 32).testBit 8, half (w 32 / 2 ^ 32), half (w 40),
      half (w 40 / 2 ^ 32)⟩) ∧
  (∀ bs : List Byte, bs.length = 512 →
    let w (o : Nat) : Nat := numAt bs o 8
    let n := readNode bs
    n.state = (match w 0 % 2 ^ 8 with | 1 => .leaf | 2 => .expanding | 3 => .expanded | 4 => .terminal | _ => .free) ∧
    n.ecount = min 14 (w 0 / 2 ^ 8 % 2 ^ 8) ∧ n.sat = (w 0).testBit 16 ∧ n.ufl = (w 0).testBit 17 ∧ n.gen = w 0 / 2 ^ 32 ∧
    (n.state = .expanding → n.clid = w 8 % 2 ^ 16 ∧ n.cltask = w 8 / 2 ^ 16 % 2 ^ 32) ∧
    (n.state ≠ .expanding → n.clid = 0 ∧ n.cltask = 0) ∧
    n.ntot = w 16 % 2 ^ 32 ∧ n.ftot = w 16 / 2 ^ 32 ∧ n.parent = w 24 ∧ n.tval = w 32 % 2 ^ 32 ∧ n.payload = (bs.drop 40).take 24 ∧
    n.edges = (List.range 14).map fun e =>
      ⟨(BitVec.ofNat 64 (w (64 + 32 * e))).toInt, w (72 + 32 * e) % 2 ^ 32, w (72 + 32 * e) / 2 ^ 32 % 2 ^ 16, w (72 + 32 * e) / 2 ^ 48,
       w (80 + 32 * e), w (88 + 32 * e)⟩) ∧
  (∀ n : Node, Fits n → n.bytes.length = 512 ∧ readNode n.bytes = n ∧ numAt n.bytes 0 8 / 2 ^ 18 % 2 ^ 14 = 0 ∧
    numAt n.bytes 8 8 / 2 ^ 48 = 0 ∧ numAt n.bytes 32 8 / 2 ^ 32 = 0)

/-- R285, R298, R301, R403: NALLOC takes the head of the free list, or answers POOL_EMPTY when it is empty, and BADSTATE with no change
when it cannot pop it or the pool has another base; NINIT's request carries the start, size and key of the page that its
Waystation's translation found (a steward's, by the same entries: log 148), and it formats the nodes of that page and links them before the old free list (that FREECNT wraps
at 2^32 is the model's choice, log 112), or answers BADSTATE with no change when a generation marks one of them, the page lies at
another home or the pool has another base. -/
def Sys2Proof.Claim.NodesAreAllocated : Prop :=
  (∀ (s : State) id r key a b block d d2, AtHome s id r key → r.body = .node .nalloc a b block d d2 → (∀ p, r.src ≠ .fabric p) →
    s.ecc = [] →
    let p := readPool (s.peek key 64)
    let answer (st : Nat) : List Byte := leBytes 8 0 ++ leBytes 8 (st + 0xFF * 2 ^ 8)
    ∀ u, Paid s u r key →
    (r.addr.toNat ≠ p.base → exec (.nallocApply id) s = .next (answered u r (answer 10))) ∧
    (r.addr.toNat = p.base →
    (p.freehead = 0 → exec (.nallocApply id) s = .next (answered u r (answer 9))) ∧
    (p.freehead ≠ 0 → p.nnodes ≤ p.freehead → exec (.nallocApply id) s = .next (answered u r (answer 10))) ∧
    (∀ v, p.freehead ≠ 0 → p.freehead < p.nnodes → u.locate r.space r.addr.toNat key p.freehead = (none, v) →
      exec (.nallocApply id) s = .next (answered v r (answer 10))) ∧
    (∀ k, p.freehead ≠ 0 → p.freehead < p.nnodes → Located s r key p.freehead k →
      let n := readNode (s.peek k 512)
      (n.state ≠ .free → exec (.nallocApply id) s = .next (answered u r (answer 10))) ∧
      (n.state = .free →
        let handle := p.freehead + n.gen * 2 ^ 32
        exec (.nallocApply id) s = .next (answered
          ((u.pokeBytes k (Node.blank .leaf n.gen a.toNat).bytes).pokeBytes (key + 16)
            (leBytes 4 (n.parent % 2 ^ 32) ++ leBytes 4 ((p.freecnt + 2 ^ 32 - 1) % 2 ^ 32) ++ leBytes 8 (if a = 0 then handle else p.root)))
          r (leBytes 8 handle ++ leBytes 8 (0xFF * 2 ^ 8))))))) ∧
  (∀ (s : State) r key k a b block d d2 e, r.body = .node .ninit a b block d d2 → r.page = none → a.toNat / 2 ^ 48 = 0x0100 →
    s.xlat r a .node = .hit k → s.cached r.src.station r.space (a.toNat % 2 ^ 48) = some e →
    let size := e.pages * 65536
    (s.translated r key).akey = some key ∧ (s.translated r key).page = some (a.toNat / size * size, size, k - a.toNat % size)) ∧
  (∀ (s : State) id r key k a b block d d2 va size, AtHome s id r key → r.body = .node .ninit a b block d d2 → (∀ p, r.src ≠ .fabric p) →
    s.ecc = [] → r.page = some (va, size, k) →
    let p := readPool (s.peek key 64)
    let lo := max 1 (if va ≤ p.base then 0 else (va - p.base) / 512)
    let hi := min p.nnodes (if va + size ≤ p.base then 0 else (va + size - p.base) / 512)
    let at' (i : Nat) : Nat := k + (p.base + 512 * i - va)
    let answer (st : Nat) : List Byte := leBytes 8 (st + 0xFF * 2 ^ 8) ++ leBytes 8 0
    ∀ u, Paid s u r key →
    ((r.addr.toNat ≠ p.base ∨ homeOf k ≠ homeOf key) → exec (.ninitApply id) s = .next (answered u r (answer 10))) ∧
    (r.addr.toNat = p.base → homeOf k = homeOf key →
      ((∃ i, lo ≤ i ∧ i < hi ∧ s.peekN (at' i + 4) 4 ≠ 0) → exec (.ninitApply id) s = .next (answered u r (answer 10))) ∧
      (hi ≤ lo → exec (.ninitApply id) s = .next (answered u r (answer 0))) ∧
      (lo < hi → (∀ i, lo ≤ i → i < hi → s.peekN (at' i + 4) 4 = 0) →
        exec (.ninitApply id) s = .next (answered ((u.formatNodes p.base va k lo p.freehead (hi - lo)).pokeBytes (key + 16)
          (leBytes 4 lo ++ leBytes 4 ((p.freecnt + (hi - lo)) % 2 ^ 32) ++ leBytes 8 p.root)) r (answer 0))))) ∧
  (∀ (s : State) base va k n, ∀ lo next i, i < n → va ≤ base + 512 * lo → Memory.wf s.mem = true →
    let at' (i : Nat) : Nat := k + (base + 512 * i - va)
    let t := s.formatNodes base va k lo next n
    t.peek (at' (lo + i)) 512 = (Node.blank .free 1 (if i + 1 = n then next else lo + i + 1)).bytes ∧
    (∀ x, (x < at' lo ∨ at' (lo + n) ≤ x) → Memory.read t.mem x = Memory.read s.mem x))

/-- R280, R281: selection on a node: the chosen edge is eligible, no eligible edge has a greater score, and none of the same score has
a lesser index; none is chosen exactly when no edge is eligible. Eligibility and score are those of the rules, on exact integers. -/
def Sys2Proof.Claim.SelectionIsBestEdge : Prop :=
  ∀ (p : Pool) (n : Node),
    let s := isqrt (n.ntot + n.ftot)
    let edge (i : Nat) : Edge := n.edges.getD i Edge.zero
    let fit (i : Nat) : Prop := i < n.edges.length ∧ i < n.ecount ∧ (edge i).f < 65535 ∧ (p.skipnull = true → (edge i).child ≠ 0)
    let score (i : Nat) : Int :=
      let count := (edge i).n + (edge i).f
      let q : Int := if count = 0 then p.qinit else ((edge i).w - p.vl * (edge i).f).fdiv count
      if p.kind = 0 then q + (p.c * (edge i).p * s).fdiv ((1 + count) * 65536)
      else if p.kind = 1 then (edge i).n else if p.kind = 2 then (edge i).p else q
    (∀ i, p.choose n = some i → fit i ∧ (∀ j, fit j → score j ≤ score i) ∧ ∀ j, fit j → score j = score i → i ≤ j) ∧
    (p.choose n = none ↔ ∀ i, ¬ fit i)

/-- R9: isqrt is the integer square root. -/
def Sys2Proof.Claim.IsqrtIsTheRoot : Prop := ∀ n : Nat, isqrt n * isqrt n ≤ n ∧ n < (isqrt n + 1) * (isqrt n + 1)

/-- R282, R283, R294, R295, R297: what DESC, BKUP, UNMK and EXPND make of a node, by its state: claims, marks, the counts and values of a
visit with their limits and flags, underflows, and expansions into edges, a terminal value or a leaf again. -/
def Sys2Proof.Claim.NodeRules : Prop :=
  ∀ (p : Pool) (n : Node) (handle lid task b : Nat) (bs : List Byte), n.edges.length = 14 → n.ecount ≤ 14 →
    (n.state = .leaf → descNode p n handle lid task =
      ⟨1, 0xFF, handle, 0, some { n with clid := lid % 2 ^ 16, cltask := task % 2 ^ 32, state := .expanding }⟩) ∧
    (n.state = .free → descNode p n handle lid task = ⟨5, 0xFF, 0, 0, none⟩) ∧
    (n.state = .expanding → descNode p n handle lid task = ⟨2, 0xFF, 0, 0, none⟩) ∧
    (n.state = .terminal → descNode p n handle lid task = ⟨3, 0xFF, 0, n.tval, none⟩) ∧
    (n.state = .expanded → p.choose n = none → descNode p n handle lid task = ⟨4, 0xFF, 0, 0, none⟩) ∧
    (∀ i, n.state = .expanded → p.choose n = some i → n.ftot < 2 ^ 32 - 1 →
      descNode p n handle lid task = ⟨0, i, (n.edges.getD i Edge.zero).child, 0,
        some { n with edges := n.edges.modify i fun e => { e with f := e.f + 1 }, ftot := n.ftot + 1 }⟩) ∧
    (∀ i, n.state = .expanded → p.choose n = some i → n.ftot = 2 ^ 32 - 1 →
      descNode p n handle lid task = ⟨0, i, (n.edges.getD i Edge.zero).child, 0,
        some { n with edges := n.edges.modify i fun e => { e with f := e.f + 1 }, sat := true }⟩) ∧
    (let i := b % 2 ^ 8
     let e := n.edges.getD i Edge.zero
     (n.state = .expanded → n.ecount ≤ i → markNode true n b = ⟨10, i, 0, 0, none⟩ ∧ markNode false n b = ⟨10, i, 0, 0, none⟩) ∧
     ((n.state = .leaf ∨ n.state = .expanding ∨ n.state = .terminal) →
       markNode true n b = ⟨10, i, 0, 0, none⟩ ∧ markNode false n b = ⟨10, i, 0, 0, none⟩) ∧
     (n.state = .free → markNode true n b = ⟨5, i, 0, 0, none⟩ ∧ markNode false n b = ⟨5, i, 0, 0, none⟩) ∧
     (n.state = .expanded → i < n.ecount →
       (e.f ≠ 0 → markNode false n b = ⟨0, i, 0, 0, some { n with
         edges := n.edges.modify i fun e => { e with f := e.f - 1 }, ftot := n.ftot - 1, ufl := n.ufl || decide (n.ftot = 0) }⟩) ∧
       (e.f = 0 → markNode false n b = ⟨8, i, 0, 0, some { n with ufl := true }⟩) ∧
       (let w := e.w + (BitVec.ofNat 32 (b / 2 ^ 32)).toInt
        let limited := decide (e.n + 1 = 2 ^ 32) || decide (n.ntot + 1 = 2 ^ 32) || decide (w < -(2 ^ 63)) || decide (2 ^ 63 ≤ w)
        markNode true n b = ⟨if e.f = 0 then 8 else 0, i, 0, 0, some { n with
          edges := n.edges.modify i fun e => { e with
            n := min (e.n + 1) (2 ^ 32 - 1), w := max (-(2 ^ 63)) (min (2 ^ 63 - 1) w), f := e.f - 1 }
          ntot := min (n.ntot + 1) (2 ^ 32 - 1), ftot := if e.f = 0 then n.ftot else n.ftot - 1, sat := n.sat || limited
          ufl := n.ufl || decide (e.f = 0) || decide (n.ftot = 0) }⟩))) ∧
    (let count := numAt bs 0 8 % 2 ^ 8
     let final := (numAt bs 0 8).testBit 8
     (n.state = .expanding → n.clid = lid % 2 ^ 16 → n.cltask = task % 2 ^ 32 →
       (final = false → 14 < count → expndNode n bs lid task = ⟨10, 0xFF, 0, 0, none⟩) ∧
       (final = false → count = 0 → expndNode n bs lid task = ⟨0, 0xFF, 0, 0, some { n with
         edges := List.replicate 14 Edge.zero, ntot := 0, ftot := 0, clid := 0, cltask := 0, ecount := 0, state := .leaf }⟩) ∧
       (final = false → 1 ≤ count → count ≤ 14 → expndNode n bs lid task = ⟨0, 0xFF, 0, 0, some { n with
         edges := (List.range 14).map fun i => if i < count
           then ⟨0, 0, 0, numAt bs (8 + 24 * i) 2, numAt bs (16 + 24 * i) 8, numAt bs (24 + 24 * i) 8⟩ else Edge.zero
         ntot := 0, ftot := 0, clid := 0, cltask := 0, ecount := count, state := .expanded }⟩) ∧
       (final = true → expndNode n bs lid task = ⟨0, 0xFF, 0, 0, some { n with
         edges := List.replicate 14 Edge.zero, ntot := 0, ftot := 0, clid := 0, cltask := 0, ecount := 0, tval := numAt bs 4 4
         state := .terminal }⟩))) ∧
    ((n.state = .leaf ∨ n.state = .expanded ∨ n.state = .terminal ∨
        (n.state = .expanding ∧ (n.clid ≠ lid % 2 ^ 16 ∨ n.cltask ≠ task % 2 ^ 32))) →
      expndNode n bs lid task = ⟨7, 0xFF, 0, 0, none⟩) ∧
    (n.state = .free → expndNode n bs lid task = ⟨5, 0xFF, 0, 0, none⟩)

namespace Sys2Proof.Claim

/-! ### Near-memory units -/

/-- R330: the ticket in e5: a stream that the launch owns, and a sequence number. -/
abbrev Ticket (s : State) (stream : Nat) (seq : BitVec 32) : Prop :=
  (s.focus.e.toArray.getD 5 0).toNat = stream * 2 ^ 32 + seq.toNat ∧ stream < 2 ^ 16 ∧
  ∃ l ∈ s.launchOf s.focus, l.info.nmbase ≤ stream ∧ stream < l.info.nmbase + l.info.nmcount

/-- R108, R330, R334: how a block travels. -/
def asBlock (k : BitVec 2) : Manner := ⟨some k, false, false, true, true, false, false⟩
/-- R333: how a stream reset travels: it holds later accesses back until it is applied. -/
def asReset (k : BitVec 2) : Manner := ⟨some k, false, true, false, true, false, false⟩

/-- A stream executes a command of a kind: its unit runs and is inside no other stream's command (R321), its block holds nothing, and
the command has passed its checks for these operands with its pages cached. -/
abbrev CommandOpen (s : State) (ch k kind : Nat) (a : Active) (c : Command) (o : Operands) : Prop :=
  ((s.unit ch).stream k).current = some (a, c) ∧ c.kind = kind ∧ (s.unit ch).nstate = .running ∧ s.commandBusy ch k = false ∧
  a.block.hold = false ∧ a.start = none ∧ s.commandCheck ch a.block c = (.ok o, s) ∧
  ∀ x ∈ o.addrs, s.xlatAt (.stack (ch / 32)) a.block.space (x % 2 ^ 48) .unit ≠ .miss

/-- R411: the channel accesses of a run of bytes: one for each 256-byte unit, with the bytes that lie in it. -/
def unitAccesses (ch key n : Nat) : List (Nat × Nat) :=
  if n = 0 then [] else (List.range ((key + n - 1) / 256 - key / 256 + 1)).map fun i =>
    (ch, min (key + n) ((key / 256 + i + 1) * 256) - max key ((key / 256 + i) * 256))

/-- R324, R411: what a command reads, its index list and its rows and with ACC its destination, and then writes. -/
def commandAccesses (ch : Nat) (c : Command) (o : Operands) : List (Nat × Nat) :=
  let reads := unitAccesses ch o.list (4 * c.nidx) ++ o.rows.flatMap fun k => unitAccesses ch k c.rowb
  if c.kind = 3 then unitAccesses ch o.dst (c.w 1)
  else if c.kind = 2 then reads ++ unitAccesses ch o.dst (c.nidx * c.rowb)
  else reads ++ (if c.acc then unitAccesses ch o.dst c.rowb else []) ++ unitAccesses ch o.dst c.rowb

/-- R411: the table's least times, rounded up to whole nanoseconds; a cycle of the adder array is one (log 149). -/
def leastTime (c : Command) : Nat :=
  let bytes := if c.kind = 3 then c.w 1 else if c.kind = 2 then 4 * c.nidx + 2 * c.nidx * c.rowb
    else 4 * c.nidx + (c.nidx + (if c.acc then 1 else 0) + 1) * c.rowb
  let t := 40 + (10 * bytes + 1023) / 1024
  if c.kind = 1 then max t ((c.nidx * c.rowb + 63) / 64) else t

/-- R403, R411: the command has begun, its accesses are all charged to its launch's slot, its least time has passed, and no other block
holds what it writes. -/
abbrev CommandReady (s : State) (ch k kind : Nat) (a : Active) (c : Command) (o : Operands) : Prop :=
  CommandOpen s ch k kind a c o ∧ 0 < a.paid ∧ (commandAccesses ch c o).length ≤ a.paid ∧ a.since + leastTime c ≤ s.now ∧
  s.writeHeld ch k c o = false ∧ s.ecc = []

/-- R322, R323: the fields of a command of its kind are well formed. -/
def WellFormedCommand (c : Command) : Prop :=
  let rows : Prop := (c.w 3 % 2 ^ 32) % 32 = 0 ∧ 32 ≤ c.w 3 % 2 ^ 32 ∧ c.w 3 % 2 ^ 32 ≤ 4096 ∧ c.w 0 % 32 = 0 ∧ c.w 1 % 32 = 0 ∧ c.w 2 % 4 = 0
  c.h / 2 ^ 11 % 2 ^ 5 = 0 ∧ c.h / 2 ^ 48 % 2 ^ 16 = 0 ∧
  ((c.h % 2 ^ 8 = 1 ∧ c.h / 2 ^ 32 % 2 ^ 16 = 0 ∧ rows) ∨ (c.h % 2 ^ 8 = 2 ∧ c.h / 2 ^ 8 % 2 ^ 3 = 0 ∧ c.h / 2 ^ 32 % 2 ^ 16 = 0 ∧ rows) ∨
   (c.h % 2 ^ 8 = 3 ∧ c.h / 2 ^ 8 % 2 ^ 3 = 0 ∧ c.h / 2 ^ 16 % 2 ^ 32 = 0 ∧ c.w 0 % 8 = 0 ∧ c.w 1 % 8 = 0) ∨
   (c.h % 2 ^ 8 = 4 ∧ c.h / 2 ^ 8 % 2 ^ 3 = 0 ∧ c.h / 2 ^ 16 % 2 ^ 16 = 0))

/-- R324: a range crosses a 2 MiB page boundary. -/
def Crosses (a n : Nat) : Prop := n ≠ 0 ∧ a / 2 ^ 21 ≠ (a + n - 1) / 2 ^ 21

/-- R323: the bytes that a command writes at DST, and those of its index list. -/
def writesBytes (c : Command) : Nat :=
  if c.kind = 1 then c.w 3 % 2 ^ 32 else if c.kind = 2 then (c.h / 2 ^ 16 % 2 ^ 16) * (c.w 3 % 2 ^ 32) else if c.kind = 3 then c.w 1 else 0
/-- The bytes of a command's index list. -/
def listBytes (c : Command) : Nat := if c.kind = 3 then 0 else 4 * (c.h / 2 ^ 16 % 2 ^ 16)

/-- R319, R324: a unit finds an address at a key, or does not find it, with no walk. -/
abbrev Found (s : State) (ch slot a : Nat) (write : Bool) (key : Nat) : Prop := s.unitKey ch slot a write = (some key, s)
/-- An address that a unit may not use. -/
abbrev NotFound (s : State) (ch slot a : Nat) (write : Bool) : Prop := s.unitKey ch slot a write = (none, s)

/-- R324: the checks of a command end with a rejection, having read these runs of bytes. -/
abbrev Rejects (s : State) (ch : Nat) (b : Block) (c : Command) (status : Nat) (runs : List (Nat × Nat)) : Prop :=
  ∃ e u, s.commandCheck ch b c = (.error e, u) ∧ e.status = status ∧ e.runs = runs ∧ u.mem = s.mem

/-- The stream's block ends with a status at the command it stands at. -/
def blockEnds (s : State) (ch k : Nat) (a : Active) (status : Nat) : State :=
  s.mapStream ch k fun st => { st with active := some { a with ended := some (status, a.idx) } }

/-- The stream's block moves to its next command. -/
def nextCommand (s : State) (ch k : Nat) (a : Active) : State :=
  s.mapStream ch k fun st => { st with active := some { a with idx := a.idx + 1, paid := 0 } }

/-- R324: one number of IRED, from memory as binary32. -/
def iredIn (s : State) (c : Command) (key : Nat) : Nat := if c.fp32 then ofBytes (s.peek key 4) else (convert .bf16 .f32 .rne (ofBytes (s.peek key 2))).1

/-- R324: IRED's reduction of one column: a running sum or maximum in binary32, rounded to nearest at each addition. -/
def iredFold (c : Command) (xs : List Nat) : Nat :=
  match xs with
  | [] => if c.max then Fmt.f32.infBits true else 0
  | x :: r => r.foldl (fun a x => if c.max then (Fmt.f32.minMax .rne true (Fmt.f32.val a) (Fmt.f32.val x)).1
                                  else (Fmt.f32.add .rne (Fmt.f32.val a) (Fmt.f32.val x)).1) x

end Sys2Proof.Claim

/-- R330, R331, R332, R333: NMSEND and NMOVL copy their block or descriptor at issue, wait as a release with that copy, then use up the
ticket and send it to its ROUTE; NMRST sends a stream reset that holds every later access back. -/
def Sys2Proof.Claim.BlocksAreSent : Prop :=
  (∀ e ∈ ([(.nmsend, false, 256), (.nmovl, true, 24)] : List ((Guard → BitVec 5 → BitVec 2 → Instr) × Bool × Nat)),
    ∀ (s : State) g a k ea t stream seq key, Enabled s .core g → PortsOk s [a] → s.focus.acquires = [] →
      take s (start s 4) a = some (ea, t) → Ticket s stream seq → ea.toNat % 8 = 0 → InArea s ea e.2.2 key →
      let routeOf (bytes : List Byte) : Word := BitVec.ofNat 64 (numAt bytes 8 8)
      let sends (bytes : List Byte) : Prop := s.released s.focus = true →
        MaySend s (asBlock k) [(routeOf bytes, .block e.2.1 stream seq bytes)] →
        Sends (e.1 g a k) s { t with e := t.e.setIfInBounds 5 (BitVec.ofNat 64 (stream * 2 ^ 32 + (seq + 1).toNat)) } (asBlock k)
          [(routeOf bytes, .block e.2.1 stream seq bytes)] 4 .yes
      let bytes := s.peek key e.2.2
      (s.focus.part = none → Quiet s key e.2.2 → (routeOf bytes).toNat / 2 ^ 48 = 0x0100 → sends bytes ∧
        (s.released s.focus = false → exec (e.1 g a k) s =
          .next ({ s with focus := { t with arrivals := s.focus.arrivals, part := some (0, 0, bytes) } }.stall .other))) ∧
      (∀ i j bs, s.focus.part = some (i, j, bs) → (routeOf bs).toNat / 2 ^ 48 = 0x0100 → sends bs)) ∧
  (∀ (s : State) g a k route t stream seq, Enabled s .core g → PortsOk s [a] → s.focus.acquires = [] →
    take s (start s 4) a = some (route, t) → Ticket s stream seq → route.toNat / 2 ^ 48 = 0x0100 →
    MaySend s (asReset k) [(route, .nmrst stream seq)] → Sends (.nmrst g a k) s t (asReset k) [(route, .nmrst stream seq)] 4)

/-- R320, R328, R333, R386: a block that reaches a running unit begins when it has its stream's next number and the stream is idle, and
waits in order when it is at most 8 ahead; a halted stream rejects it with HALTED, a number already executed or waiting with DUPLICATE (the executing one too, which
is the model's reading, log 50), and one more than 8 ahead with WINDOW. A block whose CADDR is bad executes nothing and
halts its stream, and so does a rejection whose word has nowhere to go. A reset of a stream with nothing waiting sets its number
and clears HALTED; a block that executes meanwhile goes on and counts no more (the model's reading, log 54). -/
def Sys2Proof.Claim.StreamsTakeBlocks : Prop :=
  (∀ (s : State) id r key ch ovl k seq bytes, AtHome s id r key → r.body = .block ovl k seq bytes → (∀ p, r.src ≠ .fabric p) →
    homeOf key = .channel ch → (s.unit ch).nstate = .running →
    let st := (s.unit ch).stream k
    let b : Block := ⟨r.src, r.grp, r.lid, r.space, ovl, k, seq, bytes⟩
    let there := (∃ q ∈ st.waiting, q.seq = seq) ∨ ∃ a, st.active = some a ∧ a.block.seq = seq ∧ a.sent = false ∧ a.reset = false
    let d := (seq - st.next).toNat
    (∀ s', s.sendWord ch b 3 0xFF = (true, s') → st.halted = true → exec (.nmuBlockArrive id) s = .next (answered s' r [])) ∧
    (∀ s', s.sendWord ch b 7 0xFF = (true, s') → st.halted = false → (2 ^ 31 < d ∨ (d ≤ 8 ∧ there)) →
      exec (.nmuBlockArrive id) s = .next (answered s' r [])) ∧
    (∀ s', s.sendWord ch b 10 0xFF = (true, s') → st.halted = false → 9 ≤ d → d ≤ 2 ^ 31 →
      exec (.nmuBlockArrive id) s = .next (answered s' r [])) ∧
    (st.halted = false → ¬ there → seq = st.next → st.active = none → b.caddrOk = true →
      exec (.nmuBlockArrive id) s = .next (answered (s.setStream ch k { st with active := some { block := b, idx := 0, held := [], start := none, began := 0, running := false, ended := none } }) r [])) ∧
    (st.halted = false → st.waiting = [] → seq = st.next → st.active = none → b.caddrOk = false →
      exec (.nmuBlockArrive id) s = .next (answered (s.setStream ch k { st with next := st.next + 1, halted := true }) r [])) ∧
    (∀ s' status, s.sendWord ch b status 0xFF = (false, s') → st.waiting = [] → (st.halted = true ∧ status = 3 ∨
        st.halted = false ∧ 2 ^ 31 < d ∧ status = 7 ∨ st.halted = false ∧ 9 ≤ d ∧ d ≤ 2 ^ 31 ∧ status = 10) →
      exec (.nmuBlockArrive id) s = .next (answered (s.setStream ch k { st with halted := true }) r [])) ∧
    (st.halted = false → ¬ there → d ≤ 8 → (st.active ≠ none ∨ (seq ≠ st.next ∧ ∀ q ∈ st.waiting, q.seq ≠ st.next)) →
      exec (.nmuBlockArrive id) s = .next (answered (s.setStream ch k { st with waiting := st.waiting ++ [b] }) r []))) ∧
  (∀ (s : State) id r key ch k seq, AtHome s id r key → r.body = .nmrst k seq → (∀ p, r.src ≠ .fabric p) → homeOf key = .channel ch →
    (s.unit ch).nstate = .running → ((s.unit ch).stream k).waiting = [] → ∃ u, exec (.nmuStreamReset id) s = .next (answered u r []) ∧
      (u.unit ch).stream k = { (s.unit ch).stream k with halted := false, next := seq, active := ((s.unit ch).stream k).active.map fun a => { a with reset := true } } ∧
      (∀ k', k' ≠ k → (u.unit ch).stream k' = (s.unit ch).stream k') ∧ (∀ c, c ≠ ch → u.unit c = s.unit c) ∧ u.mem = s.mem ∧ u.net = s.net)

/-- R321, R324, R403, R411: FILL writes its doubleword over its range, GATH copies its rows in index order, and IRED reduces its rows
column by column into one row of its format, a NaN as the canonical one (the model's reading, log 104); each then moves its block
on. Before, every 256-byte unit that it reads or writes is charged in turn, or waits (that its accesses follow one another is
log 123, what a walk costs log 79), and its least time passes (logs 124 and 149), from a first step on where it accesses nothing;
nothing happens while another stream of the unit is
inside a command. -/
def Sys2Proof.Claim.CommandsRun : Prop :=
  (∀ (s : State) ch k kind a c o, kind = 1 ∨ kind = 2 ∨ kind = 3 → CommandOpen s ch k kind a c o →
    let event : Instr := if kind = 1 then .nmuIred ch k else if kind = 2 then .nmuGath ch k else .nmuFill ch k
    (∀ x u, (commandAccesses ch c o)[a.paid]? = some x → State.payAll a.block.space [x] s = some u →
      exec event s = .next (u.mapStream ch k fun st => { st with
        active := some { a with paid := a.paid + 1, since := if a.paid = 0 then s.now else a.since } })) ∧
    (∀ x, (commandAccesses ch c o)[a.paid]? = some x → State.payAll a.block.space [x] s = none → exec event s = .next s) ∧
    (commandAccesses ch c o = [] → a.paid = 0 → exec event s = .next (s.mapStream ch k fun st => { st with
        active := some { a with paid := 1, since := s.now } })) ∧
    ((commandAccesses ch c o).length ≤ a.paid → 0 < a.paid → s.now < a.since + leastTime c → exec event s = .next s)) ∧
  (∀ (s : State) ch k a c, ((s.unit ch).stream k).current = some (a, c) → s.commandBusy ch k = true →
    exec (.nmuIred ch k) s = .next s ∧ exec (.nmuGath ch k) s = .next s ∧ exec (.nmuFill ch k) s = .next s ∧ exec (.nmuRun ch k) s = .next s) ∧
  (∀ (s : State) ch k a c o, CommandReady s ch k 3 a c o →
    exec (.nmuFill ch k) s = .next (nextCommand
      (s.pokeBytes o.dst ((List.range (c.w 1 / 8)).flatMap fun _ => leBytes 8 (c.w 2))) ch k a)) ∧
  (∀ (s : State) ch k a c o, CommandReady s ch k 2 a c o →
    exec (.nmuGath ch k) s = .next (nextCommand
      (o.rows.zipIdx.foldl (fun s' q => s'.pokeBytes (o.dst + q.2 * c.rowb) (s'.peek q.1 c.rowb)) s) ch k a)) ∧
  (∀ (s : State) ch k a c o, CommandReady s ch k 1 a c o →
    let size := if c.fp32 then 4 else 2
    exec (.nmuIred ch k) s = .next (nextCommand
      ((List.range (c.rowb / size)).foldl (fun s' j =>
        let xs := (if c.acc then [iredIn s' c (o.dst + size * j)] else []) ++ o.rows.map fun key => iredIn s' c (key + size * j)
        let v := iredFold c xs
        s'.pokeBytes (o.dst + size * j) (leBytes size (convert .f32 (if c.fp32 then .f32 else .bf16) .rne v).1)) s) ch k a))

/-- R319, R322, R323, R324, R327, R328: a command is rejected, with nothing written, by the first step that fails for any of its operands:
malformed fields give BADCMD; DST or the index list across a 2 MiB boundary CROSS, and not to be used by the unit FAULT; an
index at or above TROWS BOUNDS; a row across a boundary CROSS, and not to be used FAULT. The unit may use an address in a C page of
its own channel, with W where it writes. The block then ends with that status and the index of the command, once what its checks read of
the list, and their walks (log 79), are charged, as it does with BADCMD at a reserved KIND, and with BADCMD and FAIL 0 for a bad header. -/
def Sys2Proof.Claim.CommandsAreRejected : Prop :=
  (∀ (s : State) ch k kind a c e u, kind = 1 ∨ kind = 2 ∨ kind = 3 → ((s.unit ch).stream k).current = some (a, c) → c.kind = kind →
    (s.unit ch).nstate = .running → s.commandBusy ch k = false → a.block.hold = false → a.start = none →
    s.commandCheck ch a.block c = (.error e, u) →
    let event : Instr := if kind = 1 then .nmuIred ch k else if kind = 2 then .nmuGath ch k else .nmuFill ch k
    let walks := if a.paid = 0 then s.unitWalks ch a.block.space e.addrs else []
    (∀ x, (chargesOf e.runs)[a.paid]? = some x →
      (∀ v, State.payAll a.block.space (walks ++ [x]) s = some v → exec event s = .next (v.mapStream ch k fun st => { st with
        active := some { a with paid := a.paid + 1, since := if a.paid = 0 then s.now else a.since } })) ∧
      (State.payAll a.block.space (walks ++ [x]) s = none → exec event s = .next s)) ∧
    ((chargesOf e.runs).length ≤ a.paid →
      let paid := State.payAll a.block.space walks u
      (∀ v, paid = some v → exec event s = .next (blockEnds v ch k a e.status)) ∧ (paid = none → exec event s = .next s))) ∧
  (∀ (s : State) ch b (c : Command), c.kind = 1 ∨ c.kind = 2 ∨ c.kind = 3 → s.ecc = [] →
    let nDst := writesBytes c
    let nList := listBytes c
    let tries (a n : Nat) (w : Bool) : Prop := n = 0 ∨ NotFound s ch b.space a w ∨ ∃ key, Found s ch b.space a w key
    (¬ WellFormedCommand c → Rejects s ch b c 5 []) ∧
    (WellFormedCommand c → (Crosses (c.w 0) nDst ∨ Crosses (c.w 2) nList) → Rejects s ch b c 1 []) ∧
    (WellFormedCommand c → ¬ Crosses (c.w 0) nDst → ¬ Crosses (c.w 2) nList → tries (c.w 0) nDst true → tries (c.w 2) nList false →
      ((nDst ≠ 0 ∧ NotFound s ch b.space (c.w 0) true) ∨ (nList ≠ 0 ∧ NotFound s ch b.space (c.w 2) false)) → Rejects s ch b c 2 []) ∧
    (∀ dst list, WellFormedCommand c → ¬ Crosses (c.w 0) nDst → ¬ Crosses (c.w 2) nList →
      (if nDst = 0 then dst = 0 else Found s ch b.space (c.w 0) true dst) →
      (if nList = 0 then list = 0 else Found s ch b.space (c.w 2) false list) →
      let idx := (List.range (nList / 4)).map fun i => ofBytes (s.peek (list + 4 * i) 4)
      let rowb := c.w 3 % 2 ^ 32
      let row (i : Nat) : Nat := c.w 1 + i * rowb
      let bounds : Prop := ∃ i ∈ idx, c.w 3 / 2 ^ 32 % 2 ^ 32 ≤ i
      (bounds → Rejects s ch b c 6 [(list, nList)]) ∧
      (¬ bounds → (∃ i ∈ idx, Crosses (row i) rowb) → Rejects s ch b c 1 [(list, nList)]) ∧
      (¬ bounds → (∀ i ∈ idx, ¬ Crosses (row i) rowb ∧ (NotFound s ch b.space (row i) false ∨ ∃ key, Found s ch b.space (row i) false key)) →
        (∃ i ∈ idx, NotFound s ch b.space (row i) false) → Rejects s ch b c 2 [(list, nList)]) ∧
      (∀ keys, ¬ bounds → (∀ i ∈ idx, ¬ Crosses (row i) rowb) → keys.length = idx.length →
        (∀ q ∈ idx.zip keys, Found s ch b.space (row q.1) false q.2) →
        ∃ o, s.commandCheck ch b c = (.ok o, s) ∧ o.dst = dst ∧ o.list = list ∧ o.rows = keys))) ∧
  (∀ (s : State) ch slot a w,
    (∀ key, a / 2 ^ 48 = 0x0100 → s.xlatAt (.stack (ch / 32)) slot (a % 2 ^ 48) .unit = .hit key →
      homeOf key = .channel ch → (w = true → ∃ k, s.xlatAt (.stack (ch / 32)) slot (a % 2 ^ 48) .write = .hit k) → Found s ch slot a w key) ∧
    ((a / 2 ^ 48 ≠ 0x0100 ∨ (∃ code, s.xlatAt (.stack (ch / 32)) slot (a % 2 ^ 48) .unit = .fail code) ∨
      (∃ key, s.xlatAt (.stack (ch / 32)) slot (a % 2 ^ 48) .unit = .hit key ∧
        (homeOf key ≠ .channel ch ∨ (w = true ∧ ∃ code, s.xlatAt (.stack (ch / 32)) slot (a % 2 ^ 48) .write = .fail code)))) →
      NotFound s ch slot a w)) ∧
  (∀ a : Active, a.running = false → a.ended = none → a.block.ovl = false →
    let h := numAt a.block.bytes 0 8
    ((h % 2 ^ 4 = 0 ∨ 9 < h % 2 ^ 4 ∨ h / 2 ^ 4 % 2 ^ 4 ≠ 0 ∨ h / 2 ^ 9 ≠ 0) → a.result = some (5, 0)) ∧
    (∀ offs off, a.block.commands = some offs → offs[a.idx]? = some off →
      (numAt a.block.bytes off 1 = 0 ∨ 5 ≤ numAt a.block.bytes off 1) → a.result = some (5, a.idx)))

/-- R321, R325, R332, R403, R411: RUN starts the loaded overlay with its arguments and number in x10 to x14, at the first byte of its code
(the model's reading, log 19), and ends with NOOVL when another is loaded and BADCMD when its fields are malformed; a descriptor's
image, whose 256-byte units are charged in turn, becomes the unit's overlay memory, and one that the unit may not read ends it with
FAULT (log 20). -/
def Sys2Proof.Claim.OverlaysLoadAndRun : Prop :=
  (∀ (s : State) ch k a c, ((s.unit ch).stream k).current = some (a, c) → c.kind = 4 → (s.unit ch).nstate = .running → s.commandBusy ch k = false →
    (s.hart (.overlay ch)).state = .free → (∀ r ∈ s.net, r.src ≠ .hart (.overlay ch)) → a.block.hold = false → a.start = none → c.ok = true →
    ((s.unit ch).overlay = some (BitVec.ofNat 16 c.ovlid) → ∃ u, exec (.nmuRun ch k) s = .next u ∧
      (u.hart (.overlay ch)).pc = 0x10000 ∧ (u.hart (.overlay ch)).state = .running ∧ (u.hart (.overlay ch)).lid = a.block.lid ∧
      (u.hart (.overlay ch)).space = a.block.space ∧
      (∀ i < 4, (u.hart (.overlay ch)).x[10 + i]? = some (BitVec.ofNat 64 (c.w i))) ∧
      (u.hart (.overlay ch)).x[14]? = some (BitVec.ofNat 64 a.block.seq.toNat) ∧
      (u.unit ch).stream k = { (s.unit ch).stream k with active := some { a with running := true } } ∧ (u.unit ch).runner = some k ∧
      u.mem = s.mem ∧ u.net = s.net) ∧
    ((s.unit ch).overlay ≠ some (BitVec.ofNat 16 c.ovlid) →
      exec (.nmuRun ch k) s = .next (blockEnds s ch k a 8))) ∧
  (∀ (s : State) ch k a c, ((s.unit ch).stream k).current = some (a, c) → c.kind = 4 → (s.unit ch).nstate = .running → s.commandBusy ch k = false →
    (s.hart (.overlay ch)).state = .free → (∀ r ∈ s.net, r.src ≠ .hart (.overlay ch)) → a.block.hold = false → a.start = none →
    ¬ WellFormedCommand c → exec (.nmuRun ch k) s = .next (blockEnds s ch k a 5)) ∧
  (∀ (s : State) ch k a, ((s.unit ch).stream k).active = some a → a.block.ovl = true → a.ended = none → a.idx = 0 →
    (s.unit ch).nstate = .running → a.sent = false → s.commandBusy ch k = false →
    let image := numAt a.block.bytes 8 8
    let bad : Prop := numAt a.block.bytes 0 8 / 2 ^ 16 ≠ 0 ∨ image % 4096 ≠ 0
    (bad → exec (.nmuOverlayLoad ch k) s = .next (blockEnds s ch k a 5)) ∧
    (¬ bad → NotFound s ch a.block.space image false →
      let paid := State.payAll a.block.space (s.unitWalks ch a.block.space [image]) s
      (∀ v, paid = some v → exec (.nmuOverlayLoad ch k) s = .next (blockEnds v ch k a 2)) ∧
      (paid = none → exec (.nmuOverlayLoad ch k) s = .next s)) ∧
    (∀ key, ¬ bad → Found s ch a.block.space image false key →
      (∀ x u, (unitAccesses ch key 4096)[a.paid]? = some x → State.payAll a.block.space [x] s = some u →
        exec (.nmuOverlayLoad ch k) s = .next (u.mapStream ch k fun st => { st with
          active := some { a with paid := a.paid + 1, since := if a.paid = 0 then s.now else a.since } })) ∧
      (∀ x, (unitAccesses ch key 4096)[a.paid]? = some x → State.payAll a.block.space [x] s = none → exec (.nmuOverlayLoad ch k) s = .next s) ∧
      ((unitAccesses ch key 4096).length ≤ a.paid → s.ecc = [] →
        ∃ u, exec (.nmuOverlayLoad ch k) s = .next u ∧ u.mem = (s.pokeBytes (overlayKey ch 0) (s.peek key 4096)).mem ∧
          (u.unit ch).overlay = some (BitVec.ofNat 16 (numAt a.block.bytes 0 2)) ∧
          (u.unit ch).stream k = { (s.unit ch).stream k with active := some { a with idx := 1, paid := 0 } } ∧
          u.net = s.net ∧ u.parked = s.parked)))

/-- R325, R326, R411: an overlay that has run for 2^20 cycles (of its own steps, which is the model's reading, log 136) ends its command
with RUNFAULT, and a hold that has stood for 64,000 ns ends its block with HOLD_TIMEOUT; either way the overlay stops. A command
that has not begun then writes nothing, and no command of such a block goes on. -/
def Sys2Proof.Claim.UnitLimits : Prop :=
  (∀ (s : State) ch k a since c, ((s.unit ch).stream k).current = some (a, c) → a.start = some since → since + 64000 ≤ s.now →
    (exec (.nmuFill ch k) s = .next s ∧ exec (.nmuGath ch k) s = .next s ∧ exec (.nmuIred ch k) s = .next s ∧ exec (.nmuRun ch k) s = .next s) ∧
    ((s.unit ch).nstate = .running → (c.kind = 4 ∨ a.paid = 0) →
      exec (.holdTimeout ch k) s = .next (s.mapStream ch k fun st => { st with active := some { a with running := false, ended := some (4, a.idx) } }))) ∧
  (∀ (s : State) ch, (s.hart (.overlay ch)).state = .running → 2 ^ 20 ≤ (s.hart (.overlay ch)).cycles →
    (∀ e ∈ (s.unit ch).streams, ∀ a since, e.2.active = some a → a.running = true → a.start = some since → s.now < since + 64000) →
    ∃ u, exec (.runLimit ch) s = .next u ∧ (u.hart (.overlay ch)).state = .free ∧ u.mem = s.mem ∧ u.net = s.net ∧
      (∀ k a, lookup? k (s.unit ch).streams = some { (s.unit ch).stream k with active := some a } → a.running = true →
        (u.unit ch).stream k = { (s.unit ch).stream k with active := some { a with running := false, ended := some (9, a.idx), paid := 0 } })) ∧
  (∀ (s : State) ch k a since, ((s.unit ch).stream k).active = some a → a.start = some since → since + 64000 ≤ s.now → a.ended = none →
    a.sent = false → (s.unit ch).nstate = .running → a.running = true → ∃ u, exec (.holdTimeout ch k) s = .next u ∧ (u.hart (.overlay ch)).state = .free ∧
      (u.unit ch).stream k = { (s.unit ch).stream k with active := some { a with running := false, ended := some (4, a.idx) } } ∧
      u.mem = s.mem ∧ u.net = s.net)

/-- R320, R327, R328: a block at its end sends its completion word, with bit 63 set and the number, status and failing command in place,
to its CADDR, global or in the launch's window, as an ordered store of its unit; its stream then counts it and halts on a status
other than 0, 3, 7 and 10, unless it was reset meanwhile (the model's reading, log 54). A word that has no place in the
window, or whose write is refused since it translates nowhere, is not written, and halts the stream. Once the word is
written or lost, the next block begins. -/
def Sys2Proof.Claim.CompletionWordsAreSent : Prop :=
  (∀ (s : State) ch k a status fail, ((s.unit ch).stream k).active = some a → a.result = some (status, fail) → a.sent = false →
    ((s.unit ch).stream k).waiting = [] → (s.unit ch).nstate = .running → (∀ r ∈ s.net, r.src ≠ .hart (.overlay ch)) →
    let addr : Word := BitVec.ofNat 64 (numAt a.block.bytes 16 8)
    addr.toNat / 2 ^ 48 = 1 → (∀ c off, windowPlace (s.launch? a.block.lid) addr.toNat ≠ .window c off) →
    exec (.nmuCompletion ch k) s = .next (s.mapStream ch k fun st => { st with
      next := if a.reset then st.next else st.next + 1, halted := st.halted || !a.reset, active := none })) ∧
  (∀ (s : State) id r ch k a code fa, s.req? id = some r → r.src = .unit ch → r.task = k → ((s.unit ch).stream k).active = some a →
    a.sent = true → r.grp = a.block.grp → ((s.unit ch).stream k).waiting = [] → r.failed = false → r.phase = .refused code fa →
    exec (.negativeReply id) s = .next ((s.drop id).mapStream ch k fun st => { st with halted := st.halted || !a.reset, active := none })) ∧
  (∀ (s : State) id r ch k a data time, s.req? id = some r → r.src = .unit ch → r.task = k → ((s.unit ch).stream k).active = some a →
    a.sent = true → r.grp = a.block.grp → ((s.unit ch).stream k).waiting = [] → (∃ bs, r.body = .store bs) → r.cls ≠ .held →
    r.phase = .performed data time →
    exec (.storeAck id) s = .next (((s.receiveTime (injOf (.overlay ch)) time).drop id).mapStream ch k fun st => { st with active := none })) ∧
  ∀ (s : State) ch k a status fail, ((s.unit ch).stream k).active = some a → a.result = some (status, fail) → a.sent = false →
    (status ∈ [0, 3, 7, 10] ∨ ((s.unit ch).stream k).waiting = []) →
    (s.unit ch).nstate = .running → (∀ r ∈ s.net, r.src ≠ .hart (.overlay ch)) →
    let addr : Word := BitVec.ofNat 64 (numAt a.block.bytes 16 8)
    addr.toNat % 8 = 0 → (addr.toNat / 2 ^ 48 = 0x0100 ∨ (addr.toNat / 2 ^ 48 = 1 ∧
      ∃ c off, windowPlace (s.launch? a.block.lid) addr.toNat = .window c off)) →
    ∃ r u, exec (.nmuCompletion ch k) s = .next u ∧ u.net = s.net ++ [r] ∧ u.mem = s.mem ∧
      (u.unit ch).stream k = (let st := (s.unit ch).stream k
        { st with next := if a.reset then st.next else st.next + 1, active := some { a with sent := true }
                  halted := st.halted || (decide (status ∉ [0, 3, 7, 10]) && !a.reset) }) ∧
      (∀ k', k' ≠ k → (u.unit ch).stream k' = (s.unit ch).stream k') ∧
      r.src = .unit ch ∧ r.grp = a.block.grp ∧ r.lid = a.block.lid ∧ r.cls = .ordered ∧ r.addr = addr ∧ r.phase = .sent ∧
      r.stamp = (s.stamp (injOf (.overlay ch))).1 ∧
      r.body = .store ((leBytes 8 (2 ^ 63 + fail * 2 ^ 40 + status * 2 ^ 32 + a.block.seq.toNat)).map some)

namespace Sys2Proof.Claim

/-! ### The network and the homes -/

/-- A later time, modulo 2^56 (R112). -/
abbrev laterTime (a b : BitVec 56) : BitVec 56 := if 1 ≤ (b - a).toNat ∧ (b - a).toNat ≤ 2 ^ 55 then b else a

/-- A performed request whose reply finds its hart listening, that is the only one of its instruction, and whose ports have room. -/
abbrev ReplyComes (s : State) (id : Nat) (r : Req) (h : HartId) (data : List Byte) (time : BitVec 56) : Prop :=
  s.req? id = some r ∧ r.phase = .performed data time ∧ r.cls ≠ .held ∧ r.src = .hart h ∧ s.groupAlive r = false ∧
  s.groupCounts r = false ∧ (s.hart h).listens = true ∧ (s.hart h).room (r.body.words data) = true

/-- R102, R122, R123: the hart after its request has ended: its counter one lower and its event latch set where it named a counter,
an ARRIVED at zero recorded, its store counted off, its acquire lifted. -/
def settled (s : State) (t : Thread) (r : Req) : Thread :=
  let t := match r.dc with
    | some c =>
      let n := t.counter c
      { t.setCounter c (if n = 0 then 0 else n - 1) with
        latch := true
        arrived := t.arrived.map fun (a : Arrival) => match a with
          | .pending d => if (t.setCounter c (if n = 0 then 0 else n - 1)).counter d = 0 then Arrival.arrived s.nextId else a
          | a => a }
    | none => t
  { t with unack := if r.counted then t.unack - 1 else t.unack
           acquires := if r.acquire then t.acquires.filter fun n => n ≠ r.grp else t.acquires }

/-- A word written to an x register by a reply: x0 discards it, a port's output queue takes it. -/
def landed (t : Thread) (d : BitVec 5) (w : Word) : Thread :=
  if d = 0 then t
  else match portOf t.id d with
    | some p => { t with outputs := t.outputs.set p (t.outputs[p] ++ [w]) }
    | none => { t with x := t.x.setIfInBounds d.toNat w }

end Sys2Proof.Claim

/-- R111: a stamp is above every time that its injector has received and follows its previous stamp: time not earlier, and the same
time takes the next sequence number; its injector and device are its own. The new stamp is remembered. -/
def Sys2Proof.Claim.StampsFollowEachOther : Prop :=
  ∀ (s : State) (i : BitVec 18),
    let j := s.injector i
    let (st, u) := s.stamp i
    st.inj = i ∧ st.dev = Config.deviceId ∧
    (u.injector i).t = st.time ∧ (u.injector i).q = st.seq ∧ (u.injector i).g = j.g ∧ (∀ k, k ≠ i → u.injector k = s.injector k) ∧
    (let base := laterTime s.clk (laterTime (j.g + 1) j.t)
     (base ≠ j.t → st.time = base ∧ st.seq = 0) ∧
     (base = j.t → j.q ≠ 31 → st.time = j.t ∧ st.seq = j.q + 1) ∧
     (base = j.t → j.q = 31 → st.time = j.t + 1 ∧ st.seq = 0))

/-- R111, R119, R121, R211: the oldest buffered store of a core leaves for the network, an ordered one with a new stamp, once no earlier
copy or tile load touches its bytes; until then it stays. -/
def Sys2Proof.Claim.BufferedStoresLeaveInOrder : Prop :=
  (∀ (s : State) c h r rest, s.buffered (.thread c 0) = r :: rest → r.src = .hart h → s.asyncBusy h r.grp [(s.reqKey r, r.body.len)] = false →
    (r.cls ≠ .ordered → exec (.storeBufferDrain c) s = .next { s with
      buffers := insertKey (injOf (.thread c 0)) rest s.buffers, net := s.net ++ [r] }) ∧
    (r.cls = .ordered → exec (.storeBufferDrain c) s = .next { s with
      buffers := insertKey (injOf (.thread c 0)) rest s.buffers, net := s.net ++ [{ r with stamp := (s.stamp (injOf h)).1 }]
      injectors := (s.stamp (injOf h)).2.injectors })) ∧
  ∀ (s : State) c h r rest, s.buffered (.thread c 0) = r :: rest → r.src = .hart h → s.asyncBusy h r.grp [(s.reqKey r, r.body.len)] = true →
    exec (.storeBufferDrain c) s = .next s

/-- R111, R115, R392, R397: an ordered request on its input of the port of its home's router (the ports and inputs are the model's,
log 12) raises that input's latest stamp, unless a lesser one can still come there; it is forwarded when it is at or below the
watermark and has the least stamp at the port, raising the G of what receives it, and stays otherwise. A request to another module
leaves through a port that leads there, or waits for one (the model's reading, log 76). -/
def Sys2Proof.Claim.RoutersForwardInStampOrder : Prop :=
  (∀ (s : State) input (st : Stamp) port, (34 ≤ input ∨ st.le (s.inputBound input) = true) →
    (s.arriveAt input st port) = { s with ports := (s.arriveAt input st port).ports } ∧
    lookup? input ((s.arriveAt input st port).portRec port).latest = some (match lookup? input (s.portRec port).latest with
      | some old => if old.lt st = true then st else old | none => st) ∧
    ∀ i, i ≠ input → lookup? i ((s.arriveAt input st port).portRec port).latest = lookup? i (s.portRec port).latest) ∧
  (∀ (s : State) input (st : Stamp) port, input < 34 → st.le (s.inputBound input) = false → s.arriveAt input st port = s) ∧
  (∀ (s : State) id r key via, s.req? id = some r → r.phase = .sent → r.cls = .ordered → s.resolve r = .hit key → s.excludedIn r key = false →
    ((key < 2 ^ 50 ∧ via = none) ∨ ∃ dev p, 2 ^ 50 ≤ key ∧ homeOf key = .remote dev ∧ s.exitPort dev = some p ∧ via = some p) →
    let port := (homeOf key).port
    let s' := s.arriveAt r.src.input r.stamp port
    let earlier : Prop := ∃ q ∈ s.net, q.cls = .ordered ∧ q.phase = .sent ∧ q.id ≠ r.id ∧ q.stamp.lt r.stamp = true ∧
      ∃ k, s'.reqKey? q = some k ∧ (homeOf k).port = port
    (¬ earlier → (∃ w, s'.watermark port = some w ∧ r.stamp.le w = true) → ∃ u, exec (.routerForward id) s = .next u ∧
      u.net = s.net.map (fun q => if q.id = r.id then { s'.translated r key with phase := .atHome, via := via } else q) ∧
      (∀ i ∈ injectorsAt key, (u.injector i).g = laterTime (s.injector i).g r.stamp.time) ∧
      u.mem = s.mem ∧ u.parked = s.parked ∧ u.focus = s.focus) ∧
    ((earlier ∨ ∀ w, s'.watermark port = some w → r.stamp.le w = false) → exec (.routerForward id) s = .next s')) ∧
  (∀ (s : State) id r key dev p, s.req? id = some r → r.phase = .sent → r.cls = .bulk → s.resolve r = .hit key → 2 ^ 50 ≤ key →
    homeOf key = .remote dev → s.exitPort dev = some p → s.excludedIn r key = false →
    exec (.routerForward id) s = .next (s.putReq { s.reduced (s.translated r key) key with phase := .atHome, via := some p })) ∧
  (∀ (s : State) id r key dev, s.req? id = some r → r.phase = .sent → r.cls ≠ .held → s.resolve r = .hit key → 2 ^ 50 ≤ key →
    homeOf key = .remote dev → s.exitPort dev = none → s.excludedIn r key = false → exec (.routerForward id) s = .next s)

/-- R400, R401: a relaxed 8-byte atomic without a destination, of code 0 to 5 and not of ordered class, to an address of another module
that an enabled window's home and frame cover, becomes a reduction packet of the first such window with its operation, and with no
other change (a held one too when it is accepted, log 57); any other request stays as it is. -/
def Sys2Proof.Claim.AtomicsBecomeReductions : Prop :=
  (∀ (s : State) (r : Req) key dev pa w op y cmp, remoteParts key = (dev, pa) → r.body = .amo op 8 y cmp 0 → r.cls ≠ .ordered → r.acquire = false →
    r.forced = false → op.toNat ≤ 5 → w < 256 →
    let covers (v : Nat) : Prop := (s.win v).en = true ∧ (s.win v).home.toNat = dev ∧ (s.win v).op = op ∧ (s.win v).frame = pa / 65536 * 65536
    covers w → (∀ v, v < w → ¬ covers v) → s.reduced r key = { r with body := .reduction w op.toNat (s.win w).count.toNat 1 y }) ∧
  (∀ (s : State) (r : Req) key, (∀ op n y cmp d, r.body = .amo op n y cmp d → n ≠ 8 ∨ d ≠ 0 ∨ 5 < op.toNat ∨ r.cls = .ordered ∨ r.acquire = true ∨ r.forced = true ∨
    ∀ w, w < 256 → (s.win w).en = false ∨ (s.win w).home.toNat ≠ (remoteParts key).1 ∨ (s.win w).op ≠ op ∨
      (s.win w).frame ≠ (remoteParts key).2 / 65536 * 65536) → s.reduced r key = r)

/-- R115, R116, R397: an injector's side sends its bound as a Lantern, which lies below every stamp that it can still give, and a
router sends its watermark; when a Lantern arrives, the later of it and the input's latest stamp is the input's latest stamp, and one
to a receiving interface raises the G of the injectors behind it (which those are, is log 120); a port
has a watermark only when each present input has sent one, and it is the latest stamp of one. -/
def Sys2Proof.Claim.LanternsRaiseWatermarks : Prop :=
  (∀ (s : State) port input, port < 2 ^ 30 → input ∈ s.presentInputs port →
    let rec' : PortRec := { s.portRec port with lanterns := insertKey input (s.inputBound input) (s.portRec port).lanterns }
    exec (.lantern port input) s = .next { s with nextId := s.nextId + 1, ports := insertKey port rec' s.ports }) ∧
  (∀ (s : State) p w, s.watermark p = some w →
    let rec' : PortRec := { s.portRec (2 ^ 30 + p) with lanterns := insertKey 0 w (s.portRec (2 ^ 30 + p)).lanterns }
    exec (.lantern (2 ^ 30 + p) 0) s = .next { s with nextId := s.nextId + 1, ports := insertKey (2 ^ 30 + p) rec' s.ports }) ∧
  (∀ (s : State) (i : BitVec 18),
    let j := s.injector i
    let base := laterTime s.clk (laterTime (j.g + 1) j.t)
    s.stampBound i = ⟨if base = j.t ∧ j.q = 31 then base else base - 1, Config.deviceId, i, 31⟩) ∧
  (∀ (s : State) port input w, port < 2 ^ 30 → lookup? input (s.portRec port).lanterns = some w →
    ∃ u, exec (.lanternReceive port input) s = .next u ∧
      lookup? input (u.portRec port).latest = some (match lookup? input (s.portRec port).latest with
        | some old => if old.lt w = true then w else old | none => w) ∧
      lookup? input (u.portRec port).lanterns = none ∧ (∀ p, p ≠ port → u.portRec p = s.portRec p) ∧
      u = { s with ports := u.ports }) ∧
  (∀ (s : State) p w, lookup? 0 (s.portRec (2 ^ 30 + p)).lanterns = some w →
    ∃ u, exec (.lanternReceive (2 ^ 30 + p) 0) s = .next u ∧
      lookup? 0 (u.portRec (2 ^ 30 + p)).latest = some (match lookup? 0 (s.portRec (2 ^ 30 + p)).latest with
        | some old => if old.lt w = true then w else old | none => w) ∧
      lookup? 0 (u.portRec (2 ^ 30 + p)).lanterns = none ∧ u = { s with ports := u.ports, injectors := u.injectors } ∧
      ∀ i ∈ (homeOfPort p).listeners, u.injector i = { s.injector i with g := laterTime (s.injector i).g w.time }) ∧
  (∀ (s : State) port w, s.watermark port = some w →
    (∀ i ∈ s.presentInputs port, lookup? i (s.portRec port).latest ≠ none) ∧
    ∃ i ∈ s.presentInputs port, lookup? i (s.portRec port).latest = some w)

/-- R115, R117, R388: a port, or a receiving interface, whose watermark has not moved for 2^WMSTALL ns while packets wait there
reports it to its die's steward (which one that is, is the model's reading, log 18) and the module's, and the time starts again. -/
def Sys2Proof.Claim.StalledWatermarksAreReported : Prop :=
  ∀ (s : State) port q k, q ∈ s.net → q.cls = .ordered → q.phase = (if 2 ^ 30 ≤ port then .atHome else .sent) → s.reqKey? q = some k →
    (homeOf k).port = port % 2 ^ 30 →
    2 ^ s.mc.wmstall.toNat ≤ s.now - (s.portRec port).since → ∃ u, exec (.watermark port) s = .next u ∧
      (u.portRec port).since = s.now ∧ (u.portRec port).latest = (s.portRec port).latest ∧ u.net = s.net ∧
      (s.mc.mring.en = false → u.mc.mring.held = s.mc.mring.held ++ [⟨0, 0x11, 0, BitVec.ofNat 64 (port % 2 ^ 30 + s.leastInput port)⟩])

/-- R402, R403: a channel's controller serves a waiting access that is not held whose slot has bytes left for it, and its bytes are
taken from its slot, an access counting at least 64 and a node command its header (what else an engine and a held access are
charged, and when, is log 79); a round gives each slot its weight of 64 bytes from the table as it stands then, beside what waiting
slots kept (the model's reading, log 74); a slot of WEIGHT 0 with CAP set and nothing left is not served. -/
def Sys2Proof.Claim.ChannelsServeWithinShares : Prop :=
  (∀ (s : State) id r ch, s.req? id = some r → s.channelOf r = some ch → r.phase.underway = true → r.served = false → r.cls ≠ .held →
    let n := max 64 r.body.len
    let slot := s.slotOf r
    let left := (s.unit ch).credit.toArray.getD slot 0
    n ≤ left → exec (.hbmChannelService id) s = .next
      ((s.setUnit ch { s.unit ch with credit := (s.unit ch).credit.setIfInBounds slot (left - n) }).putReq { r with served := true })) ∧
  (∀ (u : ChUnit) busy (i : Fin 16), (u.newRound busy).inRound = u.shares ∧
    ((∀ q ∉ busy, u.left q = 0) → (u.newRound busy).credit[i] = (if i.val ∈ busy then u.credit[i] else 0) + 64 * (u.shares[i]).2.toNat)) ∧
  (∀ (s : State) id r ch, s.req? id = some r → s.channelOf r = some ch → r.phase.underway = true → r.served = false →
    (s.unit ch).left (s.slotOf r) = 0 → (s.unit ch).capped (s.slotOf r) = true →
    (s.unit ch).shares.toArray.getD (s.slotOf r) (false, 1) = (true, 0) →
    ∃ u, exec (.hbmChannelService id) s = .next u ∧ u.net = s.net)

/-- R109, R122, R341: a bulk or ordered store performed at its home puts its bytes in memory and lets its acknowledgement go; every
other byte stays. -/
def Sys2Proof.Claim.StoresArePerformed : Prop :=
  ∀ e ∈ ([(.bulk, true), (.ordered, false)] : List (Cls × Bool)), ∀ (s : State) id r key bytes, AtHome s id r key → r.cls = e.1 →
    r.body = .store bytes → (∀ p, r.src ≠ .fabric p) → onPage key = false → s.swappedAt r.lid key bytes.length = none → 2 ^ 48 ≤ r.addr.toNat →
    ∃ u, exec (if e.2 then .bulkPerform id else .orderedPerform id) s = .next u ∧
      u.mem = (s.poke key bytes).mem ∧ u.net = (answered s r []).net ∧
      (Memory.wf s.mem = true → (∀ k b, bytes[k]? = some (some b) → Memory.read u.mem (key + k) = b) ∧
        (∀ k, (k < key ∨ key + bytes.length ≤ k) → Memory.read u.mem k = Memory.read s.mem k))

/-- R109: a bulk or ordered load performed at its home reads its bytes then and changes no byte. -/
def Sys2Proof.Claim.LoadsArePerformed : Prop :=
  ∀ e ∈ ([(.bulk, true), (.ordered, false)] : List (Cls × Bool)), ∀ (s : State) id r key n dest, AtHome s id r key → r.cls = e.1 →
    r.body = .load n dest → (∀ p, r.src ≠ .fabric p) → onPage key = false → s.ecc = [] →
    (∀ l, s.launch? r.lid = some l → l.info.det = false) →
    exec (if e.2 then .bulkPerform id else .orderedPerform id) s = .next (answered s r (s.peek key n))

/-- R57, R102, R111, R122, R123, R210: a reply writes its destination, counts its counter down, sets the event latch and raises G; no
other register changes: loads to x, f and v registers, node commands, and stores and atomics without a result. -/
def Sys2Proof.Claim.RepliesComplete : Prop :=
  ∀ (s : State) id r h data time, ReplyComes s id r h data time →
    let write (t : Thread) : State := ((s.receiveTime r.src.inj time).setHart (settled s t r)).forget r
    (∀ n d signed, r.body = .load n (.x d signed) → data.length = n →
      exec (.loadReply id) s = .next (write (landed (s.hart h) d (loadedWord signed n data)))) ∧
    (∀ n d fmt, r.body = .load n (.f d fmt) → exec (.loadReply id) s = .next (write
      (({ s.hart h with f := (s.hart h).f.setIfInBounds d.toNat (floatIn fmt data).1 } : Thread).raiseFlags (floatIn fmt data).2))) ∧
    (∀ offs d places, r.body = .loadAt offs (.v d places) → exec (.loadReply id) s = .next (write
      { s.hart h with v := (s.hart h).v.setIfInBounds d.toNat (placeBytes ((s.hart h).v.toArray.getD d.toNat 0) places data) })) ∧
    (∀ bytes, r.body = .store bytes → exec (.storeAck id) s = .next (write (s.hart h))) ∧
    (∀ op n y cmp d, r.body = .amo op n y cmp d → data.length = n →
      exec (.storeAck id) s = .next (write (landed (s.hart h) d (loadedWord true n data)))) ∧
    (∀ op a b block d d2, r.body = .node op a b block d d2 → exec (.nodeReply id) s = .next (write
      (landed (landed (s.hart h) d (BitVec.ofNat 64 (ofBytes (data.take 8)))) d2 (BitVec.ofNat 64 (ofBytes ((data.drop 8).take 8))))))

/-- R214: a reply that waited for a full output queue is pushed to its port, and its request ends, once there is room. -/
def Sys2Proof.Claim.RepliesPushPorts : Prop :=
  ∀ (s : State) id r h data n d signed p, s.req? id = some r → r.phase = .pushing data → r.src = .hart h → s.groupAlive r = false →
    s.groupCounts r = false → (s.hart h).listens = true → r.body = .load n (.x d signed) → portOf h d = some p → data.length = n →
    ((s.hart h).outputs[p].length < 2 → exec (.replyPortPush id) s = .next ((s.setHart (settled s { s.hart h with
      outputs := (s.hart h).outputs.set p ((s.hart h).outputs[p] ++ [loadedWord signed n data]) } r)).forget r)) ∧
    (2 ≤ (s.hart h).outputs[p].length → exec (.replyPortPush id) s = .next (s.putReq r))

/-- R103, R104, R365: the first refused request of an instruction faults its hart, whichever it is, with the refusal's code and address,
the failing instruction's pc and word, and in a DET launch the place of the refused access; its counter does not fall, and no G
is raised (the model's reading, log 115). A stopped or saved hart takes it later, one that has trapped already takes no second
fault, and one that no longer listens drops it; a thread of a DET launch that an abort has stopped still counts it among the launch's
faults (the model's reading, log 129). A further refusal of the instruction only ends its request. -/
def Sys2Proof.Claim.NegativeRepliesFault : Prop :=
  ∀ (s : State) id r h code fa, s.req? id = some r → r.phase = .refused code fa → r.src = .hart h →
    let gone := (s.failGroup r).forget r
    (r.failed = true → exec (.negativeReply id) s = .next gone) ∧
    (r.failed = false → (s.hart h).listens = false →
      exec (.negativeReply id) s = .next (gone.onHart h fun u => u.lateFault u.focus (r.superstep, r.idx) code) ∧
      ((s.hart h).stage ≠ .aborted → exec (.negativeReply id) s = .next (gone.onHart h fun u => u)) ∧
      (∀ l, s.launchOf (s.hart h) = some l → l.info.det = true → l.stage = .aborting → (s.hart h).stage = .aborted → h = s.focus.id →
        (∃ c n, h = .thread c n) → exec (.negativeReply id) s = .next (gone.mapLaunch l.info.lid fun l => l.noteFault code (s.hart h).task
          (s.faultKey (s.hart h) r.superstep r.idx)))) ∧
    (r.failed = false → (s.hart h).listens = true → (s.hart h).faultable = false → exec (.negativeReply id) s = .next s) ∧
    (r.failed = false → (s.hart h).listens = true → (s.hart h).faultable = true →
      ((s.hart h).stage = .trapped → exec (.negativeReply id) s = .next (gone.onHart h fun u => u)) ∧
      ((s.hart h).stage ≠ .trapped → exec (.negativeReply id) s = .next (gone.onHart h fun u =>
        ({ u with focus := { u.focus with pc := r.pc, iword := r.iword } } : State).raiseOf (some (r.superstep, r.idx)) code fa false r.iword))) ∧
    (∀ f : State → State, (∀ u, (f u).focus.id = u.focus.id) → (s.parked.map (·.id)).Nodup → (∀ t ∈ s.parked, t.id ≠ s.focus.id) →
      (∀ u, (f u).parked = u.parked) → (s.onHart h f).hart h = (f (s.focusOn h)).focus ∧
        ∀ k, k ≠ h → (s.onHart h f).hart k = s.hart k)

/-- R366, R367, R372, R389, R403: a walk that a request waits for, one of its Waystation's 64, is charged to the slot and reads its
entries; it fills its Waystation's cache with the leaf (the oldest of 16,384 makes room, which is the model's choice, log 11), or, without one,
refuses with TRANSLATE every request there that waits for the same page, and a node command closes nothing then (R303). One that reads
through an excluded input never completes: what waits for it is lost, and a report made (R388). NINIT's page is translated after its pool
(R301). -/
def Sys2Proof.Claim.TableWalks : Prop :=
  ∀ (s : State) id r, s.req? id = some r → (s.net.map (·.id)).Nodup → r.phase.underway = true → s.resolve r = .miss →
    let a : Word := match r.body with
      | .node .ninit page _ _ _ _ => (match s.xlat r r.addr .node with | .hit _ => page | _ => r.addr)
      | _ => r.addr
    let va := a.toNat % 2 ^ 48
    let joined (q : Req) : Prop := q.src.station = r.src.station ∧ q.phase.underway = true ∧ s.resolve q = .miss ∧ q.space = r.space ∧
      (s.missing q).toNat % 2 ^ 48 / 65536 = va / 65536
    let shut := s.walkShut r.src.station r.space va
    (r.space, va / 65536) ∈ s.walksAt r.src.station →
    (∀ detail, shut = some detail → ∃ u : State, exec (.tableWalk id) s = .next (u.reportSystem 6 0 0 0 detail) ∧ u = { s with net := u.net } ∧
      ∀ q, q ∈ u.net ↔ q ∈ s.net ∧ ¬ joined q) ∧
    (shut = none → State.payAll r.space (s.walkCharges r.space va) s = none → exec (.tableWalk id) s = .next s) ∧
    (∀ s', shut = none → State.payAll r.space (s.walkCharges r.space va) s = some s' →
      let s'' := s'.walkFor r.src r.space va
      (∀ e level, s''.walk r.space va = some (e, level) → exec (.tableWalk id) s = .next { s'' with
        tlb := (r.src.station, ⟨r.space, if level = 3 then va / 2 ^ 21 * 32 else va / 65536, if level = 3 then 32 else 1, BitVec.ofNat 64 e⟩) ::
          keepNewest r.src.station 16383 s''.tlb }) ∧
      (s.ecc = [] → s''.walk r.space va = none → ∃ u, exec (.tableWalk id) s = .next u ∧ u.mem = s.mem ∧
        ((∀ q ∈ s.net, joined q → ∀ op a b block d d2, q.body ≠ .node op a b block d d2) → u = { s'' with net := u.net }) ∧
        u.net = s.net.map fun q =>
          if q.src.station = r.src.station ∧ q.phase.underway = true ∧ s.resolve q = .miss ∧ q.space = r.space ∧ (s.missing q).toNat % 2 ^ 48 / 65536 = va / 65536
          then { q with phase := .refused 0x06 (match q.body with | .node .ninit .. => s.missing q | _ => q.failAddr) } else q))

/-- R31, R118, R122, R363, R392, R393, R401: a held access that passes its checks is accepted by its home's hold queue: its instruction's
counter falls and its store counts as acknowledged, and memory is not changed; the home keeps the place that it found; the time of the
acceptance, another module's own (log 142), raises the issuer's G (R111). One to another module is accepted there, through a port that leads there (log 76), as a reduction where R401 makes it one (log 57). -/
def Sys2Proof.Claim.HeldAccessesAreAccepted : Prop :=
  (∀ (s : State) id r key dev p, s.req? id = some r → r.cls = .held → r.phase = .sent → s.resolve r = .hit key → 2 ^ 50 ≤ key →
    dev = (key - 2 ^ 50) / 2 ^ 47 → s.excludedIn r key = false →
    (s.exitPort dev = none → exec (.holdAccept id) s = .next s) ∧
    (s.exitPort dev = some p → Config.remoteStatus dev ((key - 2 ^ 50) % 2 ^ 47) s.nextId = 0 → ∃ u, exec (.holdAccept id) s = .next u ∧
      u.req? id = some { s.translated { s.reduced r key with via := some p } key with
        phase := .accepted false, dc := none, dcn := r.dc, counted := false, acquire := false } ∧ u.mem = s.mem ∧
      (∀ h, r.src = .hart h → (u.injector (injOf h)).g = laterTime (s.injector (injOf h)).g (Config.remoteTime s.nextId)))) ∧
  ∀ (s : State) id r key, s.req? id = some r → r.cls = .held → r.phase = .sent → s.resolve r = .hit key → key < 2 ^ 50 →
    s.excludedIn r key = false → s.holdQueue (homeOf key) r < 4096 → ∃ u, exec (.holdAccept id) s = .next u ∧
      u.req? id = some { s.translated r key with phase := .accepted false, dc := none, dcn := r.dc, counted := false, acquire := false } ∧ u.mem = s.mem ∧
      (∀ h c, r.src = .hart h → r.dc = some c → s.groupCounts r = false → (s.hart h).counter c ≠ 0 →
        (u.hart h).counter c = (s.hart h).counter c - 1 ∧ (u.hart h).latch = true) ∧
      (∀ h, r.src = .hart h → r.counted = true → (u.hart h).unack = (s.hart h).unack - 1) ∧
      (∀ h, r.src = .hart h → (u.injector (injOf h)).g = laterTime (s.injector (injOf h)).g s.clk)

/-- R114, R118, R218, R290, R334, R364, R403: after the close of a superstep, its own or a partner's, the held access of least logical
stamp is applied once its accesses are charged to its slot (the model's reading, log 79), no other block holds what it writes and no
restore will overwrite it:
a store's bytes are in memory; an atomic reads and writes its word, a node command is performed whole, and each keeps its result until
the SYNC or WAIT that writes it; a block or a stream reset meets its stream. What has no result is then gone. -/
def Sys2Proof.Claim.HeldAccessesAreApplied : Prop :=
  ∀ (s : State) lid l r h key, s.launch? lid = some l → (l.closing = true ∨ (l.info.fbid ≠ 0 ∧ (l.info.fbid, l.sstep) ∈ s.fbCloses)) →
    leastHeld (s.heldDue l) = some r → r.src = .hart h → r.phase = .accepted false → s.reqKey? r = some key → key < 2 ^ 50 →
    s.req? r.id = some r → s.groupAlive r = false → r.dc = none → r.acquire = false → r.counted = false → (s.hart h).listens = true →
    s.ecc = [] → 2 ^ 48 ≤ r.addr.toNat →
    let result : Prop := ∀ u data, exec (.holdApply lid) s = .next u → u.req? r.id = some { r with phase := .performed data s.clk } →
      u.hart h = { s.hart h with latch := (u.hart h).latch }
    let paid := State.payAll (s.slotOf r) (s.heldCharges r key) s
    result ∧
    ((paid = none ∨ (r.body.writes = true ∧ s.heldBack r key = true) ∨ s.restoringAt r.lid key r.body.len = true) → exec (.holdApply lid) s = .next s) ∧
    (∀ v, paid = some v → (r.body.writes = true → s.heldBack r key = false) → s.restoringAt r.lid key r.body.len = false →
      (∀ bytes, r.body = .store bytes → onPage key = false → s.swappedAt r.lid key bytes.length = none →
        ∃ u, exec (.holdApply lid) s = .next u ∧ u.mem = (s.poke key bytes).mem ∧ u.req? r.id = none ∧
          u.hart h = { s.hart h with latch := (u.hart h).latch }) ∧
      (∀ op n y cmp d, r.body = .amo op n y cmp d → ∃ u, exec (.holdApply lid) s = .next u ∧ u.mem = (s.amoAt key op n y cmp).2.mem ∧
        u.req? r.id = if d = 0 then none else some { r with phase := .performed (s.peek key n) s.clk }) ∧
      (∀ op a b block d d2, r.body = .node op a b block d d2 → (op = .ninit → r.page ≠ none) → WalkArrives v r key →
        let done := v.nodeApply op r.space r.addr.toNat key a.toNat b.toNat block r.lid r.task r.page
        ∃ u, exec (.holdApply lid) s = .next u ∧ u.mem = done.2.2.mem ∧
          u.req? r.id = some { r with phase := .performed (leBytes 8 done.1 ++ leBytes 8 done.2.1) s.clk }) ∧
      (∀ ch, homeOf key = .channel ch →
        ((s.unit ch).nstate ≠ .running → ((∃ ovl k seq bytes, r.body = .block ovl k seq bytes) ∨ ∃ k seq, r.body = .nmrst k seq) →
          exec (.holdApply lid) s = .next s) ∧
        (∀ ovl k seq bytes, r.body = .block ovl k seq bytes → (s.unit ch).nstate = .running → ∃ u, exec (.holdApply lid) s = .next u ∧
          u.req? r.id = none ∧ u.units = (v.blockArrive ch ⟨r.src, r.grp, r.lid, r.space, ovl, k, seq, bytes⟩).units ∧
          (∀ q ∈ u.net, q ∈ (v.blockArrive ch ⟨r.src, r.grp, r.lid, r.space, ovl, k, seq, bytes⟩).net)) ∧
        (∀ k seq, r.body = .nmrst k seq → (s.unit ch).nstate = .running → ∃ u, exec (.holdApply lid) s = .next u ∧
          u.req? r.id = none ∧ u.units = (v.streamReset ch k seq).units)))

/-- R364, R392: a level-4 barrier that is ready on a module sends its arrival packet, stamped, through a port that leads to FBHOME, and
waits for one (the model's reading, log 76). FBHOME counts an arrival packet, whose time raises its G (log 142), opening its occurrence with the first one and closing
it with the one that makes FBN; the acknowledgement raises the G of the engine that sent the arrival and completes the occurrence, in a DET launch after the close of its superstep, and a
refusal by another module aborts the launch. -/
def Sys2Proof.Claim.FabricGroups : Prop :=
  (∀ (s : State) lid l, s.launch? lid = some l → l.info.fbid ≠ 0 → l.closing = false → l.fbSent = false → s.barrierReady l 4 0 = true →
    l.info.fbhome ≠ Config.deviceId.toNat →
    (s.exitPort l.info.fbhome = none → exec (.barrierComplete lid 4 0) s = .next s) ∧
    (∀ p, s.exitPort l.info.fbhome = some p → exec (.barrierComplete lid 4 0) s = .next
      ((s.stamp (injDispatch (coreAt (4 * l.crow) (4 * l.ccol)).die)).2.mapLaunch lid fun l => { l with fbSent := true, fbVia := some p }))) ∧
  (∀ (s : State) dev fbid fbn occ count,
    let heard := ({ s with nextId := s.nextId + 1 } : State).receiveTime injQueue (Config.remoteTime s.nextId)
    s.mc.fports ≠ 0 → s.fbRounds.find? (fun q => decide (q.fbid = fbid) && decide (q.occ = occ)) = none →
    s.fbRounds.length < 4096 → count < fbn →
    exec (.fbArrival dev fbid fbn occ count) s = .next { heard with fbRounds := s.fbRounds ++ [⟨fbid, occ, fbn, count, [dev]⟩] }) ∧
  (∀ (s : State) dev fbid fbn occ count q,
    let heard := ({ s with nextId := s.nextId + 1 } : State).receiveTime injQueue (Config.remoteTime s.nextId)
    s.mc.fports ≠ 0 → s.fbRounds.find? (fun q => decide (q.fbid = fbid) && decide (q.occ = occ)) = some q → q.fbn = fbn →
    (q.got + count < fbn → exec (.fbArrival dev fbid fbn occ count) s = .next { heard with
      fbRounds := s.fbRounds.map fun p => if (decide (p.fbid = fbid) && decide (p.occ = occ)) = true then { q with got := q.got + count, devs := q.devs ++ [dev] } else p }) ∧
    (fbn ≤ q.got + count → Config.deviceId.toNat ∉ q.devs ++ [dev] → exec (.fbArrival dev fbid fbn occ count) s = .next { heard with
      fbRounds := s.fbRounds.filter fun p => !(decide (p.fbid = fbid) && decide (p.occ = occ)) })) ∧
  (∀ (s : State) lid l, s.launch? lid = some l → l.fbSent = true →
    let acked (s : State) (time : BitVec 56) : State :=
      let s := (s.receiveTime (injDispatch (coreAt (4 * l.crow) (4 * l.ccol)).die) time).mapLaunch lid fun l => { l with fbSent := false, fbVia := none, fbAcked := false, fbCount := l.fbCount + 1, closing := l.info.det }
      if l.info.det then s
      else s.mapHarts (fun t => decide (t.lid = l.info.lid) && decide (t.state ≠ .free) && l.inGroup 4 0 t)
        fun t => match t.arrival 4 with | .arrived _ => { t.setArrival 4 .passed with latch := true } | _ => t
    (l.fbAcked = true → exec (.fbAck lid) s = .next (acked s s.clk)) ∧
    (l.fbAcked = false → l.info.fbhome = Config.deviceId.toNat → exec (.fbAck lid) s = .next s) ∧
    (l.fbAcked = false → l.info.fbhome ≠ Config.deviceId.toNat →
      exec (.fbAck lid) s = .next (if Config.fbRefused s.nextId = true then { s with nextId := s.nextId + 1 }.abortWith lid 0x0B 0
        else acked { s with nextId := s.nextId + 1 } (Config.remoteTime s.nextId))))


namespace Sys2Proof.Claim

/-! ### Vector accesses -/

/-- R55: bytes of an element: 1 in mode 00, and 2^SIZE of the stride descriptor in e1 in mode 01. -/
def elementBytes (s : State) (m : BitVec 1) : Nat := if m = 0 then 1 else 2 ^ ((s.focus.e.toArray.getD 1 0).toNat / 2 ^ 62)
/-- R55: the signed distance of elements. -/
def elementStride (s : State) (m : BitVec 1) : Int :=
  if m = 0 then 1 else (BitVec.ofNat 48 (s.focus.e.toArray.getD 1 0).toNat).toInt
/-- R238: the address of element j. -/
def elementAt (s : State) (m : BitVec 1) (ea : Word) (j : Nat) : Word := BitVec.ofInt 64 (ea.toNat + j * elementStride s m)
/-- R52: the lanes of a vector access. -/
def elementLanes (s : State) (m : BitVec 1) : Nat := 32 / elementBytes s m

/-- R91, R105, R238: every enabled element lies in its range, and the access is aligned: to 32 bytes as a whole in mode 00, each
element to its size in mode 01. -/
abbrev ElementsOk (s : State) (g : Guard) (m : BitVec 1) (ea : Word) (write : Bool) : Prop :=
  s.focus.acquires = [] ∧
  (∀ j, LaneOn s g (elementLanes s m) j →
    rangeOk s.focus.id (s.launchOf s.focus) (elementAt s m ea j) (elementBytes s m) write = true) ∧
  (if m = 0 then ea.toNat % 32 = 0
   else ∀ j, LaneOn s g (elementLanes s m) j → (elementAt s m ea j).toNat % elementBytes s m = 0)

/-- R106, R239, R240: the enabled elements, with their lane numbers, that a test picks. -/
def picked (s : State) (g : Guard) (m : BitVec 1) (ea : Word) (p : Word → Bool) : List (Nat × Word) :=
  ((onLanes s g (elementLanes s m)).map fun j => (j, elementAt s m ea j)).filter fun e => p e.2

/-- The address is local. -/
def localElement (s : State) (a : Word) : Bool := match placeOf s.focus.id (s.launchOf s.focus) a with | .loc _ => true | _ => false

/-- R336: a vector access is no aligned access of a doubleword. -/
def asWide (m : Manner) : Manner := { m with wide := true }

/-- R101: two words of a scratchpad lie in one bank: TCM has none (log 117). -/
def Clash (k k' : Nat) : Prop :=
  2 ^ 48 ≤ k ∧ k < 2 ^ 49 ∧ 2 ^ 48 ≤ k' ∧ k' < 2 ^ 49 ∧ k / 8 ≠ k' / 8 ∧ k / 8 % 64 = k' / 8 % 64

/-- R101, log 117 (the model's choice): the first n of some elements' keys are what one cycle performs: no two of them lie in one bank, and they are all, or the
next one's bank is taken. A unit-stride access takes one cycle. -/
def OneCycle (m : BitVec 1) (keys : List Nat) (n : Nat) : Prop :=
  n ≤ keys.length ∧ (m = 0 → n = keys.length) ∧
  (m ≠ 0 → (keys.take n).Pairwise (fun k k' => ¬ Clash k k') ∧ ∀ k, keys[n]? = some k → ∃ k' ∈ keys.take n, Clash k k')

/-- Log 117 (the model's choice): how many elements of the instruction are done, its base address, and the bytes that it keeps. -/
def underWay (s : State) (x : Word) (bs : List Byte) : Nat × Word × List Byte := s.focus.part.getD (0, x, bs)

/-- R101, log 117 (the model's choice): the cycle ends with the instruction at `done` elements, and its thread goes on with it in the next one. -/
def cycleEnds (s : State) (done : Nat) (x : Word) (bs : List Byte) : Thread :=
  { start s 4 with part := some (done, x, bs), wait := none, cycles := s.focus.cycles + 1 }

/-- The requests' addresses and bodies. -/
def pairs (asks : List Ask) : List (Word × Body) := asks.map fun a => (a.addr, a.body)

end Sys2Proof.Claim

/-- R53, R55, R99, R101, R105, R106, R238, R239: VLD reads the enabled elements, all local ones at issue, into lanes that pend for v[d]
and keeps the others; a strided one takes as many cycles as its banks need, in ascending order, where which elements one cycle takes and how
the thread goes on with it are the model's choice (log 117). When one of them is elsewhere it
sends one request for the register, or one for each 64-byte block. -/
def Sys2Proof.Claim.VectorLoads : Prop :=
  (∀ (s : State) g d a i m c x₀ t₁ (key : Nat → Nat) n, LanesEnabled s g (elementLanes s m) → PortsOk s [a] →
    take s (start s 4) a = some (x₀, t₁) →
    let (done, x, read) := underWay s x₀ []
    let size := elementBytes s m
    let js := onLanes s g (elementLanes s m)
    ElementsOk s g m (effective x i 32) false → Clear s (.v d) → done ≤ js.length → read.length = size * done →
    (∀ j ∈ js, IsLocal s (elementAt s m (effective x i 32) j) (key j) ∧ Quiet s (key j) size) → OneCycle m ((js.drop done).map key) n →
    (done + n < js.length → exec (.vld g d a i m c) s = .next { s with
      focus := cycleEnds s (done + n) x (read ++ ((js.drop done).take n).flatMap fun j => s.peek (key j) size) }) ∧
    (js.length ≤ done + n → ∃ r, CompletesIn (.vld g d a i m c) s s (pending t₁ (.inr (.inr d)) r) 4 ∧
      Lanes s g (8 * size) (elementLanes s m) (vBits s d) r fun j =>
        let k := js.idxOf j
        BitVec.ofNat (8 * size) (ofBytes (if k < done then (read.drop (size * k)).take size else s.peek (key j) size)))) ∧
  (∀ (s : State) g d a i m c x t₁, s.focus.part = none → LanesEnabled s g (elementLanes s m) → PortsOk s [a] →
    take s (start s 4) a = some (x, t₁) → ElementsOk s g m (effective x i 32) false → Clear s (.v d) →
    (∃ j, LaneOn s g (elementLanes s m) j ∧ localElement s (elementAt s m (effective x i 32) j) = false) →
    (∀ j, LaneOn s g (elementLanes s m) j → NotForwarded s (elementAt s m (effective x i 32) j) (elementBytes s m)) →
    let asks := (requestGroups m (picked s g m (effective x i 32) fun _ => true)).map (loadAsk d (elementBytes s m))
    MaySend s (asWide (asLoad c)) (pairs asks) →
    Sends (.vld g d a i m c) s { t₁ with pend := t₁.pend.filter fun q => q.dest ≠ .inr (.inr d) } (asWide (asLoad c)) (pairs asks) 4)

/-- R53, R55, R101, R105, R106, R238, R240: VST writes its enabled local elements at issue in ascending order, the higher element's
bytes remaining, a strided one in as many cycles as its banks need (which elements one cycle takes is the model's choice, log 117), and then sends the others as one store, or one for each
64-byte block. -/
def Sys2Proof.Claim.VectorStores : Prop :=
  ∀ (s : State) g d a i m c x₀ t₁ (key : Nat → Nat) n, LanesEnabled s g (elementLanes s m) → PortsOk s [a] →
    take s (start s 4) a = some (x₀, t₁) →
    let bits := leBytes 32 (vBits s d).toNat
    let (done, x, bs) := underWay s x₀ bits
    ElementsOk s g m (effective x i 32) true → Clear s (.v d) → bs.length = 32 →
    let ea := effective x i 32
    let size := elementBytes s m
    (∀ j, LaneOn s g (elementLanes s m) j → localElement s (elementAt s m ea j) = true →
      IsLocal s (elementAt s m ea j) (key j) ∧ Quiet s (key j) (elementBytes s m)) →
    let here := (onLanes s g (elementLanes s m)).filter fun j => localElement s (elementAt s m ea j)
    OneCycle m ((here.drop done).map key) n →
    let s' := ((here.drop done).take n).foldl (fun s' j => stored s' (key j) (((bs.drop (size * j)).take size).map some)) s
    let asks := (requestGroups m (picked s g m ea fun a => !localElement s a)).map (storeAsk (BitVec.ofNat 256 (ofBytes bs)) size)
    (done + n < here.length → exec (.vst g d a i m c) s = .next { s' with focus := cycleEnds s (done + n) x bs }) ∧
    (here.length ≤ done + n → asks = [] → CompletesIn (.vst g d a i m c) s s' t₁ 4) ∧
    (here.length ≤ done + n → asks ≠ [] → MaySend s' (asWide (asStore c false)) (pairs asks) →
      exec (.vst g d a i m c) s = .next ((sent s' t₁ (asWide (asStore c false)) (pairs asks)).retire s.focus 4 .no true))

namespace Sys2Proof.Claim

/-! ### Exceptions and system instructions -/

/-- R23, R39, R41, R43, R45, R325, R338, R352: the state in which an exception of the issuing hart's instruction leaves the machine. A
steward has saved its pc, the code, FADDR and its privilege and is at its handler at supervisor privilege. A Porter stops with its
fault context. An overlay's program is over. A thread leaves its troupe; one of a CONTAIN launch is dying with its fault context, takes no
further tile of the ring (R10, R262), and counts in NCONT (an accepted PREEMPT stays due, which is the model's reading, log 128, and a task that has issued nothing held in a
superstep still to come dies in the launch's own, log 110); with no containment, or in a reaper, every thread of its launch stops,
saved ones and running Porters too. Memory is as it was, but for a notice of an abort. -/
def TrapEntry (s u : State) (code : BitVec 8) (faddr : Word) (straddle : Bool) (iword : W32) : Prop :=
  let t := s.focus
  let ctx := s.faultCtx t code t.pc faddr straddle iword
  let atHandler : State := { s with focus := { t with
    sup := { t.sup with sepc := t.pc, scause := BitVec.ofNat 64 code.toNat, stval := faddr, spp := t.sup.priv, priv := true }
    pc := t.sup.stvec, wait := none, rep := none } }
  match t.id with
  | .steward _ _ => u = atHandler
  | .moduleSteward => u = atHandler
  | .porter _ _ => u = { s with focus := { t with stage := .trapped, wait := none, fault := some ctx } }
  | .overlay _ => u.mem = s.mem ∧ u.focus = { t with state := .free, stage := .active, wait := none }
  | .thread _ _ => ∀ l, s.launchOf t = some l →
    let left := s.leaveTroupe t.id
    (l.info.contain = true → t.reaper = false →
      u.focus = { left.focus with stage := .dying, state := if t.ctx.asked then .pending else .running, wait := none, fault := some ctx, pend := [], deaf := true
                                  arrived := if l.info.det then Vector.replicate 4 .none else t.arrived
                                  superstep := if t.heldIdx = 0 then min t.superstep l.sstep else t.superstep } ∧
      u.mem = s.mem ∧ u.parked = left.parked ∧ u.troupes = left.troupes ∧ u.net = s.net ∧
      (u.launchOf t).map (·.ncont) = some (l.ncont + 1) ∧
      (l.fkey = none → (u.launchOf t).map (fun l => (l.fcode, l.ftask)) = some (code, t.task))) ∧
    ((l.info.contain = false ∨ t.reaper = true) → t.state ≠ .free → t.lid = l.info.lid → l.stage ≠ .aborting →
      u.focus.stage = .aborted ∧ (u.launchOf t).map (·.stage) = some .aborting ∧ u.troupes = left.troupes ∧
      (∀ c n, let k : HartId := .thread c n
        (s.hart k).lid = t.lid → (s.hart k).state ≠ .free → (u.hart k).stage = .aborted ∧ (u.hart k).wait = none ∧
          (u.hart k).state = (if (s.hart k).state = .saved then .saved else .running) ∧ (u.hart k).x = (s.hart k).x ∧ (u.hart k).pc = (s.hart k).pc) ∧
      (∀ c n, let k : HartId := .thread c n
        (s.hart k).lid ≠ t.lid → u.hart k = left.hart k) ∧
      (∀ d p, let k : HartId := .porter d p
        (s.hart k).lid = t.lid → (s.hart k).porter.run = true → (u.hart k).stage = .aborted) ∧
      (∀ e ∈ u.evicted, e.lid = t.lid → e.stage = .aborted) ∧
      (l.fkey = none → (u.launchOf t).map (fun l => (l.fcode, l.ftask)) = some (code, t.task)))

/-- R46, R351: a notice of 16 bytes has been appended to a steward's ring, and the steward's event latch is set. -/
abbrev Noticed (s u : State) (id : RingId) (n : Notice) : Prop :=
  let r := s.ring id
  (u.ring id).head = r.head + 1 ∧ (u.ring id).tail = r.tail ∧ (u.hart id.hart).latch = true ∧
  u.mem = (s.pokeBytes (r.base + 16 * (r.head.toNat % 256))
    (leBytes 8 (n.src.toNat + n.code.toNat * 2 ^ 24 + n.lid % 2 ^ 16 * 2 ^ 32) ++ leBytes 8 n.arg.toNat)).mem

/-- A ring that the module has (R351). -/
abbrev RingId.real : RingId → Prop
  | .die d t => d < 32 ∧ t < 4
  | .module => True

/-- R341: a WFE that waits ends: the latch is clear and the instruction retires. -/
def wfeEnded (s : State) (h : HartId) : State :=
  s.onHart h fun s => retired s { s.focus with latch := false, npc := s.focus.pc + 4 } 4 .no

/-- R60, R352: a CSR that the issuing hart may read, and write when it is written. -/
abbrev CsrOk (s : State) (n : Nat) (written : Bool) : Prop :=
  (n = 0x001 ∨ (written = false ∧ ((0x010 ≤ n ∧ n ≤ 0x019) ∨ (0x020 ≤ n ∧ n ≤ 0x022) ∨ n = 0x030))) ∨
  (0x400 ≤ n ∧ n ≤ 0x405 ∧ s.focus.isSteward = true ∧ s.focus.sup.priv = true)

/-- R61, R344, R352: a hart with a CSR written: fcsr keeps bits [6:0], SPP one bit, scause eight, and stvec no bit 0. -/
def csrWritten (t : Thread) (n : Nat) (w : Word) : Thread :=
  if n = 0x001 then { t with fcsr := BitVec.ofNat 64 (w.toNat % 128) }
  else if n = 0x400 then { t with sup := { t.sup with spp := w.getLsbD 0 } }
  else if n = 0x401 then { t with sup := { t.sup with sepc := w } }
  else if n = 0x402 then { t with sup := { t.sup with scause := BitVec.ofNat 64 (w.toNat % 256) } }
  else if n = 0x403 then { t with sup := { t.sup with stval := w } }
  else if n = 0x404 then { t with sup := { t.sup with stvec := BitVec.ofNat 64 (w.toNat / 2 * 2) } }
  else { t with sup := { t.sup with sscratch := w } }

/-- The CSR instructions: the new value, and whether it is written whatever a names. -/
def csrOps : List ((Guard → BitVec 5 → BitVec 5 → BitVec 11 → Instr) × (Word → Word → Word) × Bool) :=
  [(.csrrw, fun _ x => x, true), (.csrrs, fun old x => old ||| x, false), (.csrrc, fun old x => old &&& ~~~ x, false)]

/-- One round of R346's mixing. -/
def mix (z : Word) (k : Nat) (m : Word) : Word := (z ^^^ BitVec.ofNat 64 (z.toNat / 2 ^ k)) * m

/-- R346: word w of the generator keyed by a seed at a counter. -/
def randAt (seed counter : Word) (w : Nat) : Word :=
  let v := BitVec.ofNat 64 (counter.toNat * 4 + w)
  let z := mix (mix (mix (seed + (v + 1) * 0x6F1D8B35C2E9A74B) 31 0xA3B195C76D2E41F9) 29 0xE7F35A190B6CD2A5) 32 0x8D4C27E1F9653B0D
  mix z 30 1

end Sys2Proof.Claim

/-- R39, R41, R45, R325, R338, R342, R352: taking an exception, for every hart and every code but a stop's: an exception's entry, a
reserved encoding's ILLEGAL before any guard, a failed fetch's FETCH, and FAULT's request with x[a]. -/
def Obligations.ExceptionsAreTaken : Prop :=
  (∀ (s : State) code fa st iw, code ≠ 0x0C → code ≠ 0x0D → TrapEntry s (s.raiseAt code fa st iw) code fa st iw) ∧
  (∀ (s : State) w, ∃ u, exec (.reservedEncoding w) s = .next u ∧ TrapEntry s u 0x01 0 false s.focus.iword) ∧
  (∀ (s : State) fa st iw, ∃ u, exec (.fetchFault fa st iw) s = .next u ∧ TrapEntry s u 0x05 fa st iw) ∧
  (∀ (s : State) g a x t, Enabled s .core g → PortsOk s [a] → take s (start s 4) a = some (x, t) →
    ∃ u, exec (.fault g a) s = .next u ∧ TrapEntry s u 0x0E x false s.focus.iword)

/-- R23, R339, R351: ECALL and EBREAK stop a thread, which leaves its troupe, at their own address and tell its steward, or wait for
room in its ring, which a hold of its unit also shuts (R326); a steward takes them as exceptions. -/
def Sys2Proof.Claim.CallsStopTheThread : Prop :=
  ∀ e ∈ ([(.ecall, 0x0C), (.ebreak, 0x0D)] : List ((Guard → Instr) × BitVec 8)), ∀ (s : State) g, bit (s.focus.guard g) 0 = true →
    (∀ c k, s.focus.id = .thread c k → c.die < 32 → c.row < 80 →
      let left := s.leaveTroupe s.focus.id
      let ring := ringFor s.focus.id
      let ctx := s.faultCtx s.focus e.2 s.focus.pc 0 false s.focus.iword
      (s.ringShut ring = false → ∃ u, exec (e.1 g) s = .next u ∧
        u.focus = { left.focus with state := .stopped, stage := .active, wait := none, fault := some ctx, ctx := { s.focus.ctx with scode := e.2 } } ∧
        u.troupes = left.troupes ∧ Noticed s u ring ⟨injOf s.focus.id, e.2, s.focus.lid, s.focus.pc⟩) ∧
      (s.ringShut ring = true → exec (e.1 g) s = .next { left with
        focus := { left.focus with stage := .stopping, wait := some (.other, s.now), fault := some ctx } })) ∧
    ((∃ d k, s.focus.id = .steward d k) ∨ s.focus.id = .moduleSteward → exec (e.1 g) s = .next { s with focus := { s.focus with
      sup := { s.focus.sup with sepc := s.focus.pc, scause := BitVec.ofNat 64 e.2.toNat, stval := 0, spp := s.focus.sup.priv, priv := true }
      pc := s.focus.sup.stvec, wait := none, rep := none } })

/-- R340, R341: HALT and HALT.N make the hart wait to end; WFE continues at once when the event latch is set, which it clears, and waits
for it otherwise. -/
def Sys2Proof.Claim.HaltAndWfe : Prop :=
  (∀ (s : State) g, Enabled s .engine g → Completes (.halt g) s { start s 4 with stage := .halting } 4) ∧
  (∀ s : State, Completes .haltN s { start s 2 with stage := .halting } 2) ∧
  (∀ (s : State) g, Enabled s .core g → s.focus.latch = true → Completes (.wfe g) s { start s 4 with latch := false } 4) ∧
  (∀ (s : State) g, Enabled s .core g → s.focus.latch = false → exec (.wfe g) s = .next (s.stall .event)) ∧
  (∀ (s : State) h n, (s.hart h).wait = some (.event, n) → (s.hart h).stage = .active →
    ((s.hart h).latch = true → exec (.wfeWake h) s = .next (wfeEnded s h)) ∧
    (2 ^ s.mc.pwlim.toNat < s.now - n → exec (.wfeTimeout h) s = .next (wfeEnded s h)) ∧
    (s.now - n ≤ 2 ^ s.mc.pwlim.toNat → exec (.wfeTimeout h) s = .next s))

/-- R105, R343, R352: TRET restores the pc from sepc and the privilege from SPP, and clears SPP; an odd sepc traps with MISALIGN (the
model's reading, log 109), and at user privilege it traps with PRIV before its guard is read. -/
def Sys2Proof.Claim.TretReturns : Prop :=
  ∀ (s : State) g, Avail.core.allows s.focus.id = true →
    (s.focus.isSteward = true → s.focus.sup.priv = true → bit (s.focus.guard g) 0 = true → s.focus.sup.sepc.toNat % 2 = 0 → Completes (.tret g) s { start s 4 with
      npc := s.focus.sup.sepc, sup := { s.focus.sup with priv := s.focus.sup.spp, spp := false } } 4) ∧
    (s.focus.isSteward = true → s.focus.sup.priv = true → bit (s.focus.guard g) 0 = true → s.focus.sup.sepc.toNat % 2 = 1 →
      exec (.tret g) s = .next (s.raise 0x03 s.focus.sup.sepc)) ∧
    (s.focus.isSteward = true ∧ s.focus.sup.priv = false ∨ s.focus.isSteward = false → exec (.tret g) s = .next (s.raise 0x02 0))

/-- R60, R158, R344, R352: the CSR instructions write the old value to x[d] and the new one to the CSR, when it is CSRRW or a is not x0;
a CSR that does not exist or must not be written traps with ILLEGAL and a supervisor CSR at user privilege with PRIV, both before the
guard; and what every CSR reads as (R25, R62, R63). -/
def Sys2Proof.Claim.CsrAccesses : Prop :=
  (∀ e ∈ csrOps, ∀ (s : State) g d a (i : BitVec 11) x t₁ t₂, Enabled s .core g → PortsOk s [a, d] →
    CsrOk s i.toNat (e.2.2 || decide (a ≠ 0)) → (i = 1 → ∀ r ∈ s.net, r.src = .hart s.focus.id → ∀ n q f, r.body ≠ .load n (.f q f)) →
    take s (start s 4) a = some (x, t₁) →
    give s (if e.2.2 = true ∨ a ≠ 0 then csrWritten t₁ i.toNat (e.2.1 (s.csr i.toNat) x) else t₁) d (s.csr i.toNat) = some t₂ →
    Completes (e.1 g d a i) s t₂ 4) ∧
  (∀ e ∈ csrOps, ∀ (s : State) g d a (i : BitVec 11), Avail.core.allows s.focus.id = true →
    (i.toNat < 0x400 → ¬ CsrOk s i.toNat (e.2.2 || decide (a ≠ 0)) → exec (e.1 g d a i) s = .next (s.raise 0x01 0)) ∧
    (0x400 ≤ i.toNat → (s.focus.isSteward = false ∨ s.focus.sup.priv = false) → exec (e.1 g d a i) s = .next (s.raise 0x02 0)) ∧
    (0x405 < i.toNat → s.focus.isSteward = true → s.focus.sup.priv = true → exec (e.1 g d a i) s = .next (s.raise 0x01 0))) ∧
  (∀ s : State, s.csr 0x001 = s.focus.fcsr ∧ s.csr 0x010 = BitVec.ofNat 64 (s.focus.task % 2 ^ 32) ∧
    s.csr 0x014 = BitVec.ofNat 64 (Config.deviceId.toNat * 2 ^ 18 + (injOf s.focus.id).toNat) ∧ s.csr 0x020 = s.clk.setWidth 64 ∧
    s.csr 0x030 = s.focus.region.entry ∧ s.csr 0x400 = (if s.focus.sup.spp then 1 else 0) ∧ s.csr 0x401 = s.focus.sup.sepc ∧
    s.csr 0x402 = s.focus.sup.scause ∧ s.csr 0x403 = s.focus.sup.stval ∧ s.csr 0x404 = s.focus.sup.stvec ∧
    s.csr 0x405 = s.focus.sup.sscratch) ∧
  (∀ (s : State) c k l, s.focus.id = .thread c k → s.launchOf s.focus = some l →
    s.csr 0x011 = BitVec.ofNat 64 l.info.tasks ∧ s.csr 0x012 = BitVec.ofNat 64 l.info.lid ∧ s.csr 0x013 = BitVec.ofNat 64 l.info.slot ∧
    s.csr 0x015 = BitVec.ofNat 64 ((c.grow - 4 * l.crow) * (4 * l.info.dw) + (c.gcol - 4 * l.ccol)) ∧
    (let sdi := if l.info.sdh = 0 ∨ l.info.sdw = 0 then 0
        else (c.crow - l.crow) / l.info.sdh * ((l.info.dw + l.info.sdw - 1) / l.info.sdw) + (c.ccol - l.ccol) / l.info.sdw
     s.csr 0x016 = BitVec.ofNat 64 (5 + (if l.info.sdh = 0 then 0 else 2) + (if l.info.fbid = 0 then 0 else 8) + l.info.dw * 2 ^ 4 +
        l.info.dh * 2 ^ 12 + l.info.sdw * 2 ^ 19 + l.info.sdh * 2 ^ 27 + sdi * 2 ^ 34 + l.info.fbid * 2 ^ 48)) ∧
    s.csr 0x017 = l.info.geom ∧ s.csr 0x018 = BitVec.ofNat 64 (l.tcmOff + s.focus.h * (256 * l.info.tcml)) ∧
    s.csr 0x019 = BitVec.ofNat 64 (256 * l.info.tcml) ∧ s.csr 0x021 = BitVec.ofNat 64 (if l.info.det then l.sstep % 2 ^ 32 else 0)) ∧
  (∀ s : State, (s.troupeOf s.focus = none → s.csr 0x022 = 0) ∧ ∀ tr, s.troupeOf s.focus = some tr →
    s.csr 0x022 = BitVec.ofNat 64 (s.focus.tpos + tr.width * 2 ^ 8 + tr.skew * 2 ^ 16 + 2 ^ 24 + (if s.focus.tpos = 0 then 2 ^ 25 else 0) +
      (if ∃ n, tr.broken = some n ∧ n ≤ s.focus.slotNo then 2 ^ 26 else 0)))

/-- R345: SETE writes e[d] := x[a], and GETE writes x[d] := e[a]. -/
def Sys2Proof.Claim.OperandExtensionMoves : Prop :=
  (∀ (s : State) g (d : BitVec 3) a x t, Enabled s .core g → PortsOk s [a] → take s (start s 4) a = some (x, t) →
    Completes (.sete g d a) s { t with e := t.e.setIfInBounds d.toNat x } 4) ∧
  (∀ (s : State) g d (a : BitVec 3) t, Enabled s .core g → PortsOk s [d] → give s (start s 4) d (s.focus.e.toArray.getD a.toNat 0) = some t →
    Completes (.gete g d a) s t 4)

/-- R346: RAND writes word w of the generator keyed by seed x[a] at counter x[b]. -/
def Sys2Proof.Claim.RandWritesItsWord : Prop :=
  ∀ (s : State) g d a b (w : BitVec 2) x y t₁ t₂ t₃, Enabled s .core g → PortsOk s [a, b, d] → take s (start s 4) a = some (x, t₁) →
    take s t₁ b = some (y, t₂) → give s t₂ d (randAt x y w.toNat) = some t₃ → Completes (.rand g d a b w) s t₃ 4

/-- R41, R43, R45, R351: once every operation of a dead task has completed, its steward's ring has room and, in a DET launch, the superstep
that it died in is over, its fault record is in the last 256 bytes of its TCM reservation and the steward has the notice; before that
nothing is written. The record's fields. A task's superstep is the one of its next held access (the model's reading, log 110). -/
def Sys2Proof.Claim.FaultRecordsAreWritten : Prop :=
  (∀ (s : State) h c l ctx, h.core? = some c → (s.hart h).stage = .dying → s.launchOf (s.hart h) = some l →
    (s.hart h).fault = some ctx → s.quietAll h = true → (s.hart h).ctx.scode = 0 → RingId.real (ringFor h) →
    let a := (s.hart h).tcmb l + l.tcmlBytes - 256
    (l.info.det = true → l.sstep ≤ (s.hart h).superstep → exec (.faultRecordWrite h) s = .next s) ∧
    ((l.info.det = true → (s.hart h).superstep < l.sstep) → s.ringShut (ringFor h) = false → (s.ring (ringFor h)).held = [] → ∃ u, exec (.faultRecordWrite h) s = .next u ∧
      u.hart h = { s.hart h with stage := .reaperDue } ∧
      Noticed (s.pokeBytes (tcmKey c a) (ctx.record (s.hart h).task)) u (ringFor h) ⟨injOf h, ctx.code, l.info.lid, BitVec.ofNat 64 a⟩) ∧
    (s.ringShut (ringFor h) = true → exec (.faultRecordWrite h) s = .next s)) ∧
  (∀ (ctx : FaultCtx) task, (ctx.record task).length = 256 ∧ numAt (ctx.record task) 0 1 = ctx.code.toNat ∧
    numAt (ctx.record task) 4 4 = task % 2 ^ 32 ∧ numAt (ctx.record task) 8 8 = ctx.fpc.toNat ∧
    numAt (ctx.record task) 16 8 = ctx.faddr.toNat ∧ numAt (ctx.record task) 24 8 = ctx.ftime.toNat ∧
    numAt (ctx.record task) 32 4 = ctx.iword.toNat ∧
    numAt (ctx.record task) 1 1 = (if ctx.straddle then 1 else 0) + (if ctx.troupe then 2 else 0) + (if ctx.forced then 4 else 0) ∧
    numAt (ctx.record task) 2 1 = min ctx.nreply 255 ∧ numAt (ctx.record task) 40 8 = ctx.rentry.toNat ∧
    numAt (ctx.record task) 48 8 = ctx.dcs.toNat ∧
    ∀ i q, i < 8 → ctx.replies[i]? = some q → q.kind < 256 → q.reg < 256 → q.dcn < 4 →
      numAt (ctx.record task) (64 + 24 * i) 1 = q.kind ∧ numAt (ctx.record task) (65 + 24 * i) 1 = q.reg ∧
      numAt (ctx.record task) (66 + 24 * i) 1 = q.dcn ∧ numAt (ctx.record task) (72 + 24 * i) 8 = q.a.toNat ∧
      numAt (ctx.record task) (80 + 24 * i) 8 = q.b.toNat)

/-- R41, R46, with the model's reading that an AMO to x0 has no reply to capture (log 78): what a dead task captures of a reply: loads of x and f registers, atomics with a destination, and node commands, whose
second word counts for DESC and NSTAT alone; in a DET launch they stand in the order of issue, else in the order of arrival; eight are
kept, and all are counted. -/
def Sys2Proof.Claim.RepliesAreCaptured : Prop :=
  (∀ (r : Req) data, let dcn := (((r.dc.orElse fun _ => r.dcn).map (·.toNat)).getD 0)
    (∀ n d signed, r.body = .load n (.x d signed) → data.length = n →
      captured r data = some ⟨r.id, 1, d.toNat, dcn, loadedWord signed n data, r.addr⟩) ∧
    (∀ n d fmt, r.body = .load n (.f d fmt) → captured r data = some ⟨r.id, 1, d.toNat, dcn, BitVec.ofNat 64 (floatIn fmt data).1.toNat, r.addr⟩) ∧
    (∀ op n y cmp d, r.body = .amo op n y cmp d → d ≠ 0 → data.length = n →
      captured r data = some ⟨r.id, 2, d.toNat, 0, loadedWord true n data, r.addr⟩) ∧
    (∀ op a b block d d2, r.body = .node op a b block d d2 → captured r data = some ⟨r.id, 3, d.toNat, dcn,
      BitVec.ofNat 64 (ofBytes (data.take 8)), if op = .desc ∨ op = .nstat then BitVec.ofNat 64 (ofBytes ((data.drop 8).take 8)) else 0⟩) ∧
    ((∃ bs, r.body = .store bs) ∨ (∃ offs d ps, r.body = .loadAt offs (.v d ps)) ∨ (∃ op n y cmp, r.body = .amo op n y cmp 0) →
      captured r data = none)) ∧
  (∀ (e : Captured) l, insertCaptured false e l = l ++ [e] ∧ (insertCaptured true e l).Perm (e :: l) ∧
    (l.Pairwise (fun a b => a.issue ≤ b.issue) → (insertCaptured true e l).Pairwise fun a b => a.issue ≤ b.issue)) ∧
  (∀ (t : Thread) c r data e, t.stage = .dying → t.fault = some c → captured r data = some e →
    t.capture r data = { t with fault := some { c with nreply := c.nreply + 1, replies := (insertCaptured c.forced e c.replies).take 8 } }) ∧
  (∀ (t : Thread) r data, t.stage ≠ .dying → t.capture r data = t)

/-- R42: the reaper starts at its entry with the dead task's index in x10, its record's address in x11, the code in x12 and, as R14 sets
it (log 116), the launch in x13; every other x register, f, v and p register is zero, and memory is not changed. -/
def Sys2Proof.Claim.ReapersStart : Prop :=
  ∀ (s : State) h l ctx, (s.hart h).stage = .reaperDue → (s.hart h).fault = some ctx → s.launchOf (s.hart h) = some l →
    ∃ u, exec (.reaperStart h) s = .next u ∧ u.mem = s.mem ∧ u.net = s.net ∧ u.launches = s.launches ∧
      let t := u.hart h
      t.pc = l.info.reaper ∧ t.reaper = true ∧ t.stage = .active ∧ t.fault = none ∧ t.task = (s.hart h).task ∧
      t.x.toList = (List.range 32).map (fun i => if i = 10 then BitVec.ofNat 64 (s.hart h).task
        else if i = 11 then BitVec.ofNat 64 ((s.hart h).tcmb l + l.tcmlBytes - 256) else if i = 12 then BitVec.ofNat 64 ctx.code.toNat
        else if i = 13 then BitVec.ofNat 64 l.info.lid else 0) ∧
      t.f = Vector.replicate 16 0 ∧ t.v = Vector.replicate 32 0 ∧ t.p = Vector.replicate 8 0

/-- R351: a ring with room takes the notice that was held first; with none held, a thread that waits to stop on a call stops; a full ring,
or one whose next place a block holds (R326), takes nothing. -/
def Sys2Proof.Claim.NoticesAreAppended : Prop :=
  (∀ (s : State) ring n rest, RingId.real ring → s.ringShut ring = false → (s.ring ring).held = n :: rest →
    ∃ u, exec (.noticeAppend ring) s = .next u ∧ Noticed s u ring n ∧ (u.ring ring).held = rest) ∧
  (∀ (s : State) ring t ctx, RingId.real ring → s.ringShut ring = false → (s.ring ring).held = [] →
    s.harts.find? (fun t => decide (t.stage = .stopping) && decide (ringFor t.id = ring)) = some t → s.hart t.id = t →
    t.fault = some ctx → t.id ≠ ring.hart → ∃ u, exec (.noticeAppend ring) s = .next u ∧
      Noticed s u ring ⟨injOf t.id, ctx.code, t.lid, ctx.fpc⟩ ∧
      u.hart t.id = { t with state := .stopped, stage := .active, wait := none, ctx := { t.ctx with scode := ctx.code } }) ∧
  (∀ (s : State) ring, s.ringShut ring = true → exec (.noticeAppend ring) s = .next s)

/-- R27, R39, R40, R375: the supervisor's abort stops every thread of the launch at its next issue, saved contexts and running Porters
too, with its code and FTASK 0 (log 77), and changes no memory; a code that is never raised, and an abort of a launch that is being
aborted, do nothing. -/
def Sys2Proof.Claim.SupervisorAborts : Prop :=
  (∀ (s : State) lid code, code = 0 ∨ code = 0x0F ∨ 0x15 < code.toNat → exec (.supervisorAbort lid code) s = .next s) ∧
  ∀ (s : State) lid code l, s.launch? lid = some l → code ≠ 0 → code ≠ 0x0F → code.toNat ≤ 0x15 →
    (l.stage = .aborting → exec (.supervisorAbort lid code) s = .next s) ∧
    (l.stage ≠ .aborting → ∃ u, exec (.supervisorAbort lid code) s = .next u ∧
    (u.launch? lid).map (fun l => (l.stage, l.fcode, l.ftask)) = some (.aborting, code, 0) ∧ u.mem = s.mem ∧ u.net = s.net ∧
    (∀ h c k, h = .thread c k → (s.hart h).lid = lid → (s.hart h).state ≠ .free → (u.hart h).stage = .aborted ∧ (u.hart h).wait = none) ∧
    (∀ h d p, h = .porter d p → (s.hart h).lid = lid → (s.hart h).porter.run = true → (u.hart h).stage = .aborted) ∧
    (∀ e ∈ u.evicted, e.lid = lid → e.stage = .aborted) ∧ u.evicted.map (·.id) = s.evicted.map (·.id) ∧
    (∀ h, (s.hart h).lid ≠ lid → u.hart h = s.hart h))

/-- R49, R341: the oldest word of an output queue enters the neighbour's arrival queue of the opposite side, when that holds fewer than
four, and sets its event latch; otherwise it stays, as it does while the neighbour's context is being restored (R385). -/
def Sys2Proof.Claim.PortWordsArrive : Prop :=
  ∀ (s : State) h (port : BitVec 2) (p q : Fin 4) l id w rest, p.val = port.toNat → q.val = (port.toNat + 2) % 4 →
    (s.hart h).outputs[p] = w :: rest → s.launchOf (s.hart h) = some l → l.peer (s.hart h) p = some id → id ≠ h →
    s.savedOn id (s.hart h).lid = none →
    ((s.hart id).stage = .restoring → exec (.portWordArrival h port) s = .next s) ∧
    ((s.hart id).stage ≠ .restoring → (s.hart id).arrivals[q].length < 4 → ∃ u, exec (.portWordArrival h port) s = .next u ∧ (u.hart h).outputs[p] = rest ∧
      (u.hart id).arrivals[q] = (s.hart id).arrivals[q] ++ [w] ∧ (u.hart id).latch = true ∧ (u.hart id).x = (s.hart id).x ∧
      (∀ k, k ≠ h → k ≠ id → u.hart k = s.hart k) ∧ u.mem = s.mem ∧ u.net = s.net) ∧
    (4 ≤ (s.hart id).arrivals[q].length → exec (.portWordArrival h port) s = .next s)

/-- R19, R50: a hart that has waited longer than 2^PWLIM ns for a port, or in TRP.FORM, also one that its core holds
back (the model's reading, log 107), traps with PORT_TIMEOUT; before that nothing happens; a wait that goes on keeps its beginning. -/
def Sys2Proof.Claim.LongWaitsTrap : Prop :=
  ∀ (s : State) h n, (s.hart h).stage = .active →
    (∀ p push, (s.hart h).wait = some (.port p push, n) →
      (2 ^ s.mc.pwlim.toNat < s.now - n → exec (.portTimeout h) s = .next (s.onHart h fun s => s.raise 0x09 0)) ∧
      (s.now - n ≤ 2 ^ s.mc.pwlim.toNat → exec (.portTimeout h) s = .next s)) ∧
    ((s.hart h).wait = some (.formBlocked, n) ∨ (∃ width skew, (s.hart h).wait = some (.form width skew, n)) →
      (2 ^ s.mc.pwlim.toNat < s.now - n → exec (.trpFormTimeout h) s = .next (s.onHart h fun s => s.raise 0x09 0)) ∧
      (s.now - n ≤ 2 ^ s.mc.pwlim.toNat → exec (.trpFormTimeout h) s = .next s)) ∧
    (∀ w, (s.hart h).wait = some (w, n) → h = s.focus.id → (∀ c k, h ≠ .thread c k) → (s.stall w).focus.wait = some (w, n))

/-- R16: a turn goes to the core's running thread as long as nothing keeps it from issuing, else to the next thread set that can issue,
counting upward and wrapping around; after 256 issues of one thread in a row the core turns to that one all the same. A thread can issue when it runs a task
and no wait of it goes on; one at a barrier can once the barrier has completed. -/
def Sys2Proof.Claim.CoresTakeTurns : Prop :=
  (∀ (s : State) c h n id, lookup? c s.streaks = some (h, n) → 256 ≤ n → s.nextReady c h = some id → s.focus.id = .thread c h →
    ∃ u, exec (.threadSwitchQuantum c) s = .next u ∧ u.focus = s.hart id ∧ lookup? c u.streaks = some (id.set, 0) ∧ u.mem = s.mem ∧ u.net = s.net ∧
      (∀ k, u.hart k = s.hart k)) ∧
  (∀ (s : State) c h id, s.nextReady c h = some id → ∃ j ∈ [1, 2, 3], id = .thread c ((h + j) % 4) ∧ s.canIssue (s.hart id) = true ∧
    ∀ i ∈ [1, 2, 3], i < j → (∀ t ∈ s.harts, t.id ≠ .thread c ((h + i) % 4)) ∨ s.canIssue (s.hart (.thread c ((h + i) % 4))) = false) ∧
  (∀ (s : State) c k r n, lookup? c s.streaks = some (r, n) →
    (s.canIssue (s.hart (.thread c r)) = true → s.giveTurn (.thread c k) = s.focusOn (.thread c r)) ∧
    (∀ id, s.canIssue (s.hart (.thread c r)) = false → s.nextReady c r = some id → s.giveTurn (.thread c k) = s.focusOn id)) ∧
  (∀ (s : State) (t : Thread), s.canIssue t = true ↔ s.ready t = true ∧
    (t.wait = none ∨ ∃ n since, t.wait = some (.barrier n, since) ∧ t.arrived.toArray.getD (n - 1) .none = .passed))

/-- R13, R14, R23, R26, R340, R362: a halting thread with everything it waits for leaves its troupe and starts its next task from the start
state of a task, or exits when there is none: in a DET launch every N-th index, else the next of its die's range, or, where that is empty, the
first of the upper half, rounded up, of the largest other range, the lower die's on a tie, whose rest its die keeps. Local loads land
first, and until everything has come it waits. A Porter's program is over and RUN is clear. -/
def Obligations.TasksFollow : Prop :=
  (∀ (s : State) h c k l, h = .thread c k → (s.hart h).stage = .halting → (s.hart h).pend = [] → s.mayEnd (s.hart h) = true →
    s.launchOf (s.hart h) = some l → (∀ r ∈ s.net, r.src ≠ .hart h) →
    let left := s.leaveTroupe h
    let t : Thread := { left.hart h with outTile := none, deaf := true }
    (l.info.det = true → t.task + l.threads < l.info.tasks →
      exec (.haltComplete h) s = .next (left.setHart (t.begin l (t.task + l.threads))).startRings) ∧
    (∀ d a b, l.info.det = false → l.ranges.find? (fun (d', a, b) => decide (d' = h.die) && decide (a < b)) = some (d, a, b) →
      ∃ u, exec (.haltComplete h) s = .next u ∧ u.hart h = t.begin l a ∧
        (u.launch? l.info.lid).map (·.ranges) = some (l.ranges.map fun e => if e.1 = h.die then (h.die, a + 1, b) else e)) ∧
    (∀ d a b, l.info.det = false → (l.ranges.map (·.1)).Pairwise (· < ·) → (∀ e ∈ l.ranges, e.1 = h.die → e.2.2 ≤ e.2.1) →
      (d, a, b) ∈ l.ranges → d ≠ h.die → a < b →
      (∀ e ∈ l.ranges, e.1 ≠ h.die → e.2.2 - e.2.1 ≤ b - a ∧ (e.2.2 - e.2.1 = b - a → d ≤ e.1)) →
      let m := b - (b - a + 1) / 2
      ∃ u, exec (.haltComplete h) s = .next u ∧ u.hart h = t.begin l m ∧ (u.launch? l.info.lid).map (·.ranges) = some
        (l.ranges.map fun e => if e.1 = h.die then (h.die, m + 1, b) else if e.1 = d then (d, a, m) else e)) ∧
    ((∀ e ∈ s.evicted, e.id ≠ h) → (l.info.det = true ∧ l.info.tasks ≤ t.task + l.threads ∨ l.info.det = false ∧ ∀ e ∈ l.ranges, e.2.2 ≤ e.2.1) →
      ∃ u, exec (.haltComplete h) s = .next u ∧ (u.hart h).state = .free ∧ (u.hart h).arrivals = t.arrivals ∧
        (u.hart h).ctx = { t.ctx with asked := false } ∧ u.mem = s.mem)) ∧
  (∀ (s : State) h, (s.hart h).stage = .halting →
    ((s.hart h).pend ≠ [] → exec (.haltComplete h) s = .next (s.setHart (s.hart h).age)) ∧
    ((s.hart h).pend = [] → s.mayEnd (s.hart h) = false → exec (.haltComplete h) s = .next s)) ∧
  (∀ (s : State) d p, (s.hart (.porter d p)).stage = .halting → (s.hart (.porter d p)).pend = [] → s.mayEnd (s.hart (.porter d p)) = true →
    exec (.haltComplete (.porter d p)) s = .next (s.setHart { s.hart (.porter d p) with
      state := .free, stage := .active, porter := { (s.hart (.porter d p)).porter with run := false } })) ∧
  (∀ (t : Thread) l i, let u := t.begin l i
    u.pc = l.info.entry ∧ u.x.toList = (List.range 32).map (fun j => if j = 10 then BitVec.ofNat 64 i else if j = 11 then BitVec.ofNat 64 (t.tcmb l)
      else if j = 12 then BitVec.ofNat 64 l.info.tasks else if j = 13 then BitVec.ofNat 64 l.info.lid else 0) ∧
    u.f = Vector.replicate 16 0 ∧ u.v = Vector.replicate 32 0 ∧ u.p = Vector.replicate 8 0 ∧ u.e = Vector.replicate 8 0 ∧
    u.dc = Vector.replicate 4 0 ∧ u.fcsr = 0 ∧ u.c0.empty = true ∧ u.c1.empty = true ∧ u.fill = .empty ∧ u.latch = false ∧ u.rep = none ∧ u.troupe = none ∧
    u.stage = .active ∧ u.reaper = false ∧ u.state = (if t.state = .pending then .pending else .running) ∧ u.arrivals = t.arrivals ∧
    u.phases = t.phases ∧ u.arrived = t.arrived ∧ u.superstep = t.superstep ∧ u.heldIdx = t.heldIdx ∧ u.lid = t.lid ∧ u.task = i)

namespace Sys2Proof.Claim

/-! ### Control pages and launches -/

/-- A request performed, its sender told: a hart's reply is on its way, and the fabric's packet is gone (R393). -/
def acked (s : State) (r : Req) : State := match r.src with | .fabric _ => s.drop r.id | _ => answered s r []

/-- R336, R369: a store of a whole doubleword v has arrived at the control-page register `reg` and may be performed. -/
abbrev OnRegister (s : State) (id : Nat) (r : Req) (reg : PageReg) (v : Nat) : Prop :=
  ∃ key bytes, AtHome s id r key ∧ onPage key = true ∧ (onPorterPage key = true → r.wide = false) ∧ key % 8 = 0 ∧ pageReg key = reg ∧ r.body = .store (bytes.map some) ∧
    bytes.length = 8 ∧ ofBytes bytes = v

/-- The module's notice ring is off, so that what is reported is held (R351). -/
abbrev RingOff (s : State) : Prop := s.mc.mring.en = false
/-- What the module steward has been told beyond what it had been: a notice that its ring holds. -/
abbrev Told (s u : State) (n : Notice) : Prop := u.mc.mring.held = s.mc.mring.held ++ [n]

/-- R354, steps 1 to 4: the record is well formed and may be accepted now. -/
abbrev Acceptable (s : State) (bs : List Byte) (r : LaunchRec) : Prop :=
  (s.mc.lcs = 2 ∧ s.failed = false ∧ numAt bs 0 1 = 1 ∧ r.lid ≠ 0 ∧ r.entry ≠ 0 ∧ r.entry.toNat % 2 = 0 ∧ r.reaper.toNat % 2 = 0 ∧
    (r.contain = true ↔ r.reaper ≠ 0) ∧ r.arglen ≤ 256 ∧ r.crec.toNat % 32 = 0 ∧ r.accrec.toNat % 16 = 0 ∧
    numAt bs 4 4 = 0 ∧ numAt bs 29 3 = 0 ∧ numAt bs 40 4 / 2 ^ 21 = 0 ∧ numAt bs 52 4 = 0 ∧ numAt bs 76 4 = 0 ∧
    numAt bs 104 8 / 2 ^ 9 = 0 ∧ numAt bs 112 8 / 2 ^ 17 = 0 ∧ numAt bs 120 8 = 0) ∧
  (1 ≤ r.dh ∧ r.dh ≤ 80 ∧ 1 ≤ r.dw ∧ r.dw ≤ 128 ∧ (r.sdh = 0 ↔ r.sdw = 0) ∧ (r.sdh ≠ 0 → r.dh % r.sdh = 0) ∧ (r.sdw ≠ 0 → r.dw % r.sdw = 0) ∧
    (r.fbid = 0 ↔ r.fbn = 0) ∧ (r.fbhome ≠ 0 → r.fbid ≠ 0)) ∧
  (1 ≤ r.tcml ∧ r.tcml ≤ 1536 ∧ 1 ≤ r.tc ∧ r.tc ≤ 4 ∧ r.tc * r.tcml * 256 ≤ 393216 ∧ r.acc ≠ 3 ∧ (r.acc ≠ 0 → r.tc = 1) ∧
    r.spb % 4096 = 0 ∧ r.spb ≤ 1048576 ∧ r.nmbase + r.nmcount ≤ 65536) ∧
  ((∀ l ∈ s.launches, l.info.lid ≠ r.lid ∧ (r.fbid ≠ 0 → l.info.fbid ≠ r.fbid)) ∧
    (r.doneev ≠ 0 → (r.slot, r.doneev) ∉ s.clear ∧ (s.clear.filter fun e => e.1 = r.slot).length < 4096))

/-- R353: the record's fields: bit offset, width and value. -/
abbrev FieldsOf (bs : List Byte) (r : LaunchRec) : Prop :=
  let bit (lo n : Nat) : Nat := ofBytes bs / 2 ^ lo % 2 ^ n
  r.slot = bit 8 4 ∧ r.prio = bit 12 2 ∧ (r.det = true ↔ bit 14 1 = 1) ∧ (r.contain = true ↔ bit 15 1 = 1) ∧ r.lid = bit 16 16 ∧
  r.entry.toNat = bit 64 64 ∧ r.reaper.toNat = bit 128 64 ∧ r.tasks = bit 192 40 ∧ r.dh = bit 256 8 ∧ r.dw = bit 264 8 ∧ r.sdh = bit 272 8 ∧
  r.sdw = bit 280 8 ∧ r.fbid = bit 288 16 ∧ r.fbn = bit 304 16 ∧ r.tcml = bit 320 16 ∧ r.tc = bit 336 3 ∧ r.acc = bit 339 2 ∧
  r.spb = bit 352 32 ∧ r.nmbase = bit 384 16 ∧ r.nmcount = bit 400 16 ∧ r.geom.toNat = bit 448 64 ∧ r.pred0 = bit 512 32 ∧
  r.pred1 = bit 544 32 ∧ r.doneev = bit 576 32 ∧ r.crec.toNat = bit 640 64 ∧ r.accrec.toNat = bit 704 64 ∧ r.args.toNat = bit 768 64 ∧
  r.arglen = bit 832 9 ∧ r.fbhome = bit 896 17

/-- R353: a record's address of a slot translates to a byte of memory that may be written. -/
abbrev RecordAt (s : State) (slot : Nat) (a : Word) (k : Nat) : Prop :=
  s.queueKey slot a .write = (some k, s) ∧ k < 2 ^ 50 ∧ onPage k = false

/-- R365: the completion record: CSTAT, LID and NCONT, TSTART, TEND, FCODE and FTASK. -/
abbrev recordOf (l : Launch) (status : Nat) (tend : BitVec 56) : List Byte :=
  leBytes 8 (status + l.info.lid * 2 ^ 16 + min l.ncont (2 ^ 32 - 1) * 2 ^ 32) ++ leBytes 8 l.tstart.toNat ++ leBytes 8 tend.toNat ++
  leBytes 8 (l.fcode.toNat + l.ftask % 2 ^ 32 * 2 ^ 32)

/-- R359: what a launch at a position reserves at a block router: a slot for each of its clusters there, for each sub-domain among them, for
the domain and for its fabric group. -/
def reservedAt (r : LaunchRec) (cr cc : Nat) (block : Nat × Nat) : Nat :=
  let mine := (rectClusters cr cc r.dh r.dw).filter fun k => decide ((k / 128 / 2, k % 128 / 2) = block)
  if mine = [] then 0
  else mine.length + (if r.sdh = 0 then 0 else (mine.map fun k => ((k / 128 - cr) / r.sdh, (k % 128 - cc) / r.sdw)).toFinset.card) + 1 +
    (if r.fbid = 0 then 0 else 1)

/-- R359: an area of n bytes at an offset meets none of the held ones. -/
abbrev Beside (o n : Nat) (held : List (Nat × Nat)) : Prop := ∀ e ∈ held, o + n ≤ e.1 ∨ e.1 + e.2 ≤ o
/-- R359: a common TCM offset at which a launch fits. -/
abbrev TcmAt (s : State) (r : LaunchRec) (cr cc o : Nat) : Prop :=
  o % 256 = 0 ∧ o + r.tc * r.tcml * 256 ≤ 393216 ∧ ∀ c ∈ rectCores cr cc r.dh r.dw, Beside o (r.tc * r.tcml * 256) (s.tcmHeld c)
/-- R359: a scratchpad offset of a cluster at which a launch fits. -/
abbrev PadAt (s : State) (r : LaunchRec) (k o : Nat) : Prop := o % 4096 = 0 ∧ o + r.spb ≤ 1048576 ∧ Beside o r.spb (s.padHeld k)
/-- R359: the conditions of the table on thread sets, matrix units and barrier slots. -/
abbrev RoomAt (s : State) (r : LaunchRec) (cr cc : Nat) : Prop :=
  (∀ c ∈ rectCores cr cc r.dh r.dw, r.tc ≤ ((List.range 4).filter fun k => s.setFree c k).length) ∧
  (r.acc ≠ 0 → ∀ l ∈ s.placed, l.info.acc ≠ 0 → ∀ c ∈ rectCores cr cc r.dh r.dw, lookup? c l.sets = none) ∧
  ∀ k ∈ rectClusters cr cc r.dh r.dw, let b := (k / 128 / 2, k % 128 / 2)
    (s.placed.map fun l => reservedAt l.info l.crow l.ccol b).sum + reservedAt r cr cc b ≤ 64

/-- R357, R365: a launch is over: its record is written at a byte, it is no longer live, and its event is SET. -/
abbrev Completed (s u : State) (l : Launch) (status k : Nat) : Prop :=
  u.mem = (s.pokeBytes k (recordOf l status s.clk)).mem ∧ u.launch? l.info.lid = none ∧
  u.clear = s.clear.filter (fun e => e ≠ (l.info.slot, l.info.doneev)) ∧
  ∀ k, k ≠ l.info.lid → (u.launch? k).map (·.stage) = (s.launch? k).map (·.stage)

end Sys2Proof.Claim

/-- R337, R338: a KICK store starts its Porter at PROG with the stored value in x10 for its issuer's launch and address space, and sets
LOST in one that runs. -/
def Sys2Proof.Claim.KicksStartPorters : Prop :=
  ∀ (s : State) id r d p v, OnRegister s id r (.kick d p) v → (∀ q, r.src ≠ .fabric q) →
    ((s.hart (.porter d p)).porter.run = true → exec (.kick id) s = .next (acked (s.setHart { s.hart (.porter d p) with
      porter := { (s.hart (.porter d p)).porter with lost := true } }) r)) ∧
    ((s.hart (.porter d p)).porter.run = false → ∃ u, exec (.kick id) s = .next u ∧ u.mem = s.mem ∧ u.net = (acked s r).net ∧
      let q := u.hart (.porter d p)
      q.pc = (s.hart (.porter d p)).porter.prog ∧ q.x.toList = (List.range 32).map (fun i => if i = 10 then BitVec.ofNat 64 v else 0) ∧
      q.lid = r.lid ∧ q.space = r.space ∧ q.porter.run = true ∧ q.porter.prog = q.pc ∧ q.state = .running ∧
      (q.pc.toNat % 2 = 0 → q.stage = .active) ∧ (q.pc.toNat % 2 = 1 → q.stage = .trapped))

/-- R353, R354, R355, R356, R357: a launch record that passes every check is accepted: its launch is queued with ATIME and its argument
block, DONEEV is CLEAR and the ACCEPT record written where one is asked for, once its slot is charged for the queue's accesses (log 75).
One that fails a check leaves every launch and event as it
was, its completion record carries the code, and the module steward is told; a failed module, and one that is not DEPLOYED, refuse with REJECTED_FORMAT (log 70). One whose records a block
holds waits (R326), and so does one whose argument block no port leads to (the model's reading, log 76) or was read on an excluded input,
which is reported (R388); a packet of another size is discarded. -/
def Obligations.LaunchRecordsAreApplied : Prop :=
  (∀ (s : State) id r key bs rec args ka, AtHome s id r key → onPage key = true → pageReg key = .launch → key % 128 = 0 →
    r.body = .store (bs.map some) → bs.length = 128 → FieldsOf bs rec → Acceptable s bs rec → rec.tasks ≤ 2 ^ 32 →
    s.recordWaits bs = false → r.failed = false → s.recordShut bs = none →
    (State.payAll rec.slot (s.recordCharges bs) s = none → exec (.launchRecord id) s = .next s) ∧
    ∀ v, State.payAll rec.slot (s.recordCharges bs) s = some v → v.readArgs rec = (some args, v) →
    (rec.accrec = 0 ∨ RecordAt v rec.slot rec.accrec ka) → ∃ u l, exec (.launchRecord id) s = .next u ∧ u.launches.length = s.launches.length + 1 ∧ u.launches.getLast? = some l ∧
      u.launches.map (·.info) = s.launches.map (·.info) ++ [rec] ∧ l.stage = .queued ∧ l.atime = s.clk ∧ l.argBytes = args ∧
      u.clear = (if rec.doneev = 0 then s.clear else (rec.slot, rec.doneev) :: s.clear) ∧
      u.mem = (if rec.accrec = 0 then s.mem else (s.pokeBytes ka (leBytes 8 (rec.lid * 2 ^ 16) ++ leBytes 8 s.clk.toNat)).mem)) ∧
  (∀ (s v : State) id r key bs rec kc status, AtHome s id r key → onPage key = true → pageReg key = .launch → key % 128 = 0 →
    r.body = .store (bs.map some) → bs.length = 128 → FieldsOf bs rec →
    ((status = 3 ∧ ¬ Acceptable s bs rec) ∨ (status = 2 ∧ Acceptable s bs rec ∧ 2 ^ 32 < rec.tasks) ∨
      (status = 3 ∧ Acceptable s bs rec ∧ rec.tasks ≤ 2 ^ 32 ∧ v.readArgs rec = (none, v))) → RingOff s →
    rec.accrec = 0 → rec.crec.toNat % 256 ≤ 224 → s.recordWaits bs = false → r.failed = false → s.recordShut bs = none →
    State.payAll rec.slot (s.recordCharges bs) s = some v → RecordAt v rec.slot rec.crec kc → ∃ u, exec (.launchRecord id) s = .next u ∧ u.launches = s.launches ∧ u.clear = s.clear ∧
      u.mem = (s.pokeBytes kc (leBytes 8 (status + rec.lid * 2 ^ 16) ++ leBytes 8 0 ++ leBytes 8 s.clk.toNat ++ leBytes 8 0)).mem ∧
      Told s u ⟨injQueue, 0x15, rec.lid, BitVec.ofNat 64 (2 + status * 2 ^ 8)⟩) ∧
  (∀ (s : State) id r key bs, AtHome s id r key → onPage key = true → pageReg key = .launch → key % 128 = 0 →
    r.body = .store (bs.map some) → bs.length = 128 →
    ((s.recordWaits bs = true ∨ r.failed = true) → exec (.launchRecord id) s = .next s) ∧
    (∀ detail, s.recordWaits bs = false → r.failed = false → s.recordShut bs = some detail →
      exec (.launchRecord id) s = .next ((s.putReq { r with failed := true }).reportSystem 6 0 0 0 detail))) ∧
  (∀ (s : State) bs, (readRec bs).accrec = 0 → (readRec bs).arglen = 0 → s.checkRecord bs (readRec bs) = none → s.recordWaits bs = false) ∧
  (∀ (s : State) id r key bs, AtHome s id r key → onPage key = true → pageReg key = .launch → r.body = .store bs → bs.length ≠ 128 → RingOff s →
    ∃ u, exec (.launchRecord id) s = .next u ∧ u.launches = s.launches ∧ u.mem = s.mem ∧
      Told s u ⟨injQueue, 0x15, 0, BitVec.ofNat 64 (1 + bs.length % 2 ^ 48 * 2 ^ 16)⟩)

/-- R358, R359: the head of the ready launches has the highest effective priority, which ages from its first readiness on (log 152); it
takes, whenever the dispatcher tries (log 153), the first position, row by row, where it fits,
and while it fits nowhere, or another launch holds a stream of its range, nothing is placed. It fits where every core has thread sets
free, the lowest of which it takes, where a common TCM area and an area of every cluster's scratchpad are free, the lowest of which it
takes, where the matrix units that it needs are, and where every block router has the barrier slots. -/
def Sys2Proof.Claim.LaunchesArePlaced : Prop :=
  (∀ (s : State) l cr cc o pads sets, s.headLaunch = some l → s.streamsFree l.info = true → cr + l.info.dh ≤ 80 → cc + l.info.dw ≤ 128 →
    s.fitsAt l.info cr cc = some (o, pads, sets) →
    (∀ i j, i + l.info.dh ≤ 80 → j + l.info.dw ≤ 128 → (i < cr ∨ (i = cr ∧ j < cc)) → s.fitsAt l.info i j = none) →
    exec .launchPlacement s = .next (s.mapLaunch l.info.lid fun l =>
      { l with stage := .placed, crow := cr, ccol := cc, tcmOff := o, spOffs := pads, sets := sets })) ∧
  (∀ (s : State) l, s.headLaunch = some l → (∀ i j, i + l.info.dh ≤ 80 → j + l.info.dw ≤ 128 → s.fitsAt l.info i j = none) →
    exec .launchPlacement s = .next s) ∧
  (∀ (s : State) l, s.headLaunch = some l → l ∈ s.launches ∧ l.stage = .queued ∧ l.info.tasks ≠ 0 ∧ s.isReady l.info = true ∧
    ∀ q ∈ s.launches, q.stage = .queued → q.info.tasks ≠ 0 → s.isReady q.info = true → s.priority q ≤ s.priority l) ∧
  (∀ (s : State) l, s.headLaunch = some l → (∃ q ∈ s.placed, q.info.nmcount ≠ 0 ∧ l.info.nmcount ≠ 0 ∧
    q.info.nmbase < l.info.nmbase + l.info.nmcount ∧ l.info.nmbase < q.info.nmbase + q.info.nmcount) → exec .launchPlacement s = .next s) ∧
  ∀ (s : State) (r : LaunchRec) cr cc, r.tc * r.tcml * 256 ≤ 393216 → r.spb ≤ 1048576 →
    ((s.fitsAt r cr cc).isSome = true ↔ RoomAt s r cr cc ∧ (∃ o, TcmAt s r cr cc o) ∧ ∀ k ∈ rectClusters cr cc r.dh r.dw, ∃ o, PadAt s r k o) ∧
    ∀ o pads sets, s.fitsAt r cr cc = some (o, pads, sets) →
      (TcmAt s r cr cc o ∧ ∀ q < o, ¬ TcmAt s r cr cc q) ∧
      (pads.map (·.1) = rectClusters cr cc r.dh r.dw ∧ ∀ e ∈ pads, PadAt s r e.1 e.2 ∧ ∀ q < e.2, ¬ PadAt s r e.1 q) ∧
      sets = (rectCores cr cc r.dh r.dw).map fun c => (c, ((List.range 4).filter fun k => s.setFree c k).take r.tc)

/-- R13, R14, R15, R360: a placed launch runs: TSTART is recorded, and in a DET launch the thread of logical index j starts task j at the
entry; bytes that another slot held last are zero, and the reservation's others are as they were. Words that another launch left in an arrival
queue are gone (the model's choice, log 135). -/
def Sys2Proof.Claim.LaunchesAreReleased : Prop :=
  (∀ (s : State) lid l, s.launch? lid = some l → l.stage = .placed → ∃ u, exec (.launchRelease lid) s = .next u ∧
    (u.launch? lid).map (fun l => (l.stage, l.tstart)) = some (.running, s.clk) ∧ u.net = s.net ∧
    (∀ c ks h k, l.info.det = true → s.evicted = [] → (∀ t ∈ s.harts, t.state ≠ .saved) → (c, ks) ∈ l.sets → ks[h]? = some k →
      (l.sets.flatMap fun e => e.2.map fun k => (e.1, k)).Nodup →
      let j := l.info.tc * l.lcore c + h
      (j < l.info.tasks → (u.hart (.thread c k)).task = j ∧ (u.hart (.thread c k)).pc = l.info.entry ∧ (u.hart (.thread c k)).lid = lid ∧
        (u.hart (.thread c k)).space = l.info.slot ∧ (u.hart (.thread c k)).state = .running ∧ (u.hart (.thread c k)).arrivals = Vector.replicate 4 []) ∧
      (l.info.tasks ≤ j → (u.hart (.thread c k)).state = .free))) ∧
  (∀ (s : State) key n slot, Memory.wf s.mem = true → let u := s.takeRange key n slot
    (∀ k, key ≤ k → k < key + n → (∃ e ∈ s.holders, e.2.2 ≠ slot ∧ e.1 ≤ k ∧ k < e.1 + e.2.1) → Memory.read u.mem k = 0) ∧
    (∀ k, ¬ (key ≤ k ∧ k < key + n ∧ ∃ e ∈ s.holders, e.2.2 ≠ slot ∧ e.1 ≤ k ∧ k < e.1 + e.2.1) → Memory.read u.mem k = Memory.read s.mem k) ∧
    u.holders.head? = some (key, n, slot))

/-- R39, R357, R361, R365: a launch completes: an empty one when it is ready, a running one when its last thread has exited and its accesses
are acknowledged, an aborted one when what is left of it has been dropped, in a DET launch once no refusal can come that would have the
least key (which those are, is log 129); its record, whose walk and write are charged to its slot (log 75), says how, and its event is SET. -/
def Obligations.LaunchesComplete : Prop :=
  (∀ (s : State) lid l k, s.launch? lid = some l → l.stage = .queued → l.info.tasks = 0 → s.isReady l.info = true → s.recordHeld l = false →
    let paid := State.payAll l.info.slot (s.queueCharges l.info.slot l.info.crec 32) s
    (paid = none → exec (.doneEmpty lid) s = .next s) ∧
    ∀ v, paid = some v → RecordAt v l.info.slot l.info.crec k → ∃ u, exec (.doneEmpty lid) s = .next u ∧ Completed v u l 1 k) ∧
  (∀ (s : State) lid l k, s.launch? lid = some l → l.stage = .running → s.members lid = [] → s.launchBusy lid = false → s.recordHeld l = false →
    let paid := State.payAll l.info.slot (s.queueCharges l.info.slot l.info.crec 32) s
    (paid = none → exec (.launchCompletion lid) s = .next s) ∧
    ∀ v, paid = some v → RecordAt v l.info.slot l.info.crec k →
      ∃ u, exec (.launchCompletion lid) s = .next u ∧ Completed v u l (if l.ncont = 0 then 0 else 5) k) ∧
  (∀ (s : State) lid l k, s.launch? lid = some l → l.stage = .aborting → s.recordHeld l = false →
    (s.undecided l = true → exec (.launchCompletion lid) s = .next s) ∧
    ∀ v, s.undecided l = false → State.payAll l.info.slot (s.queueCharges l.info.slot l.info.crec 32) s = some v →
      RecordAt (v.dropLaunch l) l.info.slot l.info.crec k → ∃ u, exec (.launchCompletion lid) s = .next u ∧
      u.mem = (v.pokeBytes k (recordOf l 4 s.clk)).mem ∧
      u.launch? lid = none ∧ (∀ r ∈ u.net, r.lid ≠ lid) ∧ (∀ h c n, h = .thread c n → (u.hart h).lid = lid → lid ≠ 0 → (u.hart h).state = .free)) ∧
  (∀ (s : State) lid l, s.launch? lid = some l → l.stage = .running → s.members lid ≠ [] → exec (.launchCompletion lid) s = .next s)

/-- R99, R376, R377: RESUME lets a stopped thread go on at FPC + 4, its call counting as an instruction for local loads, and KILL turns its stop into a task fault with KCODE and no second notice
(its FTIME and DCS stay the stop's: the model's choice, log 113), and ring deliveries that have not started are discarded (R10); where the launch does not contain, or the thread is a reaper, the launch is
aborted. One that was asked to save stays so (log 128);
on a thread that is not stopped, or with a code that names no fault, nothing happens. -/
def Sys2Proof.Claim.StoppedThreadsAreCommanded : Prop :=
  (∀ (s : State) id r h v, OnRegister s id r (.tctl h) v → v % 8 = 1 →
    (∀ c, (s.hart h).state = .stopped → (s.hart h).fault = some c → exec (.tctlResume id) s = .next (acked (s.setHart (Thread.age { s.hart h with
      state := if (s.hart h).ctx.asked then .pending else .running, pc := c.fpc + 4, fault := none, wait := none,
      ctx := { (s.hart h).ctx with scode := 0 } })) r)) ∧
    ((s.hart h).state ≠ .stopped → exec (.tctlResume id) s = .next (acked s r))) ∧
  (∀ (s : State) id r h v, OnRegister s id r (.tctl h) v → v % 8 = 2 → let k := v / 256 % 256
    (∀ c l, (s.hart h).state = .stopped → (s.hart h).fault = some c → (1 ≤ k ∧ k ≤ 14 ∨ k = 20) → s.launchOf (s.hart h) = some l →
      l.info.lid = (s.hart h).lid → (s.hart h).troupe = none → ∃ u, exec (.tctlKill id) s = .next u ∧ u.mem = s.mem ∧
        u.net = (acked s r).net ∧ u.dies = s.dies ∧
        (l.info.contain = true → (s.hart h).reaper = false → (u.launch? l.info.lid).map (·.ncont) = some (l.ncont + 1) ∧
          u.hart h = { s.hart h with
            state := if (s.hart h).ctx.asked then .pending else .running, stage := .dying, wait := none, pend := [], deaf := true,
            fault := some { c with code := BitVec.ofNat 8 k, faddr := 0 },
            arrived := if l.info.det then Vector.replicate 4 .none else (s.hart h).arrived,
            superstep := if (s.hart h).heldIdx = 0 then min (s.hart h).superstep l.sstep else (s.hart h).superstep }) ∧
        ((l.info.contain = false ∨ (s.hart h).reaper = true) → h.core?.isSome = true →
          (u.hart h).stage = .aborted ∧ (u.launch? l.info.lid).map (·.stage) = some .aborting)) ∧
    (((s.hart h).state ≠ .stopped ∨ ¬ (1 ≤ k ∧ k ≤ 14 ∨ k = 20)) → exec (.tctlKill id) s = .next (acked s r)))

/-- R376, R380, R381: PREEMPT makes a running thread PENDING with its SWAPTCM choice, and it stays asked to save until it is saved (log 128); once it is at its region entry with its operations
complete its context is in its save area, its TCM piece behind it when it is swapped, and its thread set SAVED. -/
def Sys2Proof.Claim.ThreadsAreSaved : Prop :=
  (∀ (s : State) id r h v, OnRegister s id r (.tctl h) v → v % 8 = 3 →
    ((s.hart h).state = .running → exec (.tctlPreempt id) s = .next (acked (s.setHart { s.hart h with
      state := .pending, ctx := { (s.hart h).ctx with swap := decide (v / 8 % 2 = 1), asker := r.ring?, asked := true } }) r)) ∧
    ((s.hart h).state ≠ .running → exec (.tctlPreempt id) s = .next (acked s r))) ∧
  (∀ (s : State) h l c ring, h.core? = some c → (s.hart h).state = .pending → (s.hart h).troupe = none → (s.hart h).mayYield = true →
    (s.hart h).pend = [] → s.settled (s.hart h) = true → s.launchOf (s.hart h) = some l →
    ring = ((s.hart h).ctx.asker).getD (ringFor h) → RingId.real ring → (s.ring ring).en = false → s.ecc = [] →
    let a := (s.hart h).ctx.savea.toNat
    let saved := s.pokeBytes a (s.contextBytes (s.hart h))
    ∃ u, exec (.preemptSave h) s = .next u ∧ (u.hart h).state = .saved ∧ (u.hart h).ctx.asked = false ∧ (u.hart h).region = (s.hart h).region ∧
      (u.ring ring).held = (s.ring ring).held ++ [⟨injOf h, 0x12, (s.hart h).lid, 0⟩] ∧
      u.mem = (if (s.hart h).ctx.swap then saved.pokeBytes (a + 4864) (saved.peek (tcmKey c ((s.hart h).tcmb l)) l.tcmlBytes) else saved).mem)

/-- R35, R37, R381, R382: a thread's context is 4,864 bytes, and loading it back gives the registers at the region entry: its pc, fcsr, f, p
and e registers, and the x (but for x0 and the port registers) and v registers that its live-in mask names; the others are zero, and the counters are zero;
p0 is saved as it reads, and a repeat context comes back with its body fetched again. -/
def Obligations.ContextsLoadBack : Prop :=
  ∀ (s : State) (t u : Thread) body, (s.contextBytes t).length = 4864 ∧
    (let w := u.reload (s.contextBytes t) body
     w.pc = t.region.entry ∧ w.region.entry = t.region.entry ∧ w.region.mask = t.region.mask ∧ w.fcsr = t.fcsr &&& 0x7f ∧
     (∀ i : Fin 32, w.x[i] = if 1 ≤ i.val ∧ i.val < 28 ∧ t.region.mask.getLsbD i = true then t.x[i] else 0) ∧
     (∀ i : Fin 32, w.v[i] = if t.region.mask.getLsbD (32 + i) then t.v[i] else 0) ∧
     w.f = t.f ∧ (∀ i : Fin 8, i.val ≠ 0 → w.p[i] = t.p[i]) ∧ w.pred 0 = BitVec.allOnes 32 ∧ w.e = t.e ∧ w.dc = Vector.replicate 4 0 ∧
     w.b0 = t.region.b0 ∧ w.pend = [] ∧ numAt (s.contextBytes t) 1472 4 = 2 ^ 32 - 1 ∧
     (t.region.rep = none → w.rep = none) ∧
     (∀ c, t.region.rep = some c → c.body ≠ 0 → c.insns ≠ [] → c.insns.length ≤ 16 → c.pass < 2 ^ 32 → c.remaining < 2 ^ 64 →
       fieldN (numAt (s.contextBytes t) 48 8) 32 4 + 1 = c.insns.length ∧ ∃ k, w.rep = some { c with insns := body, pos := k }))

/-- R382, R385: RESTORE brings a saved thread back from its save area, registers outside the live-in mask as zero, and its swapped TCM piece to its place; one of an aborted launch stays aborted (R375); the
command waits while a block holds the guestbook's header (R326), and a thread that is not saved is left alone. -/
def Sys2Proof.Claim.ThreadsAreRestored : Prop :=
  (∀ (s : State) id r h v, OnRegister s id r (.tctl h) v → v % 8 = 4 → (s.hart h).state = .saved → s.restorable (s.hart h) = true →
    (s.hart h).troupe = none → s.ecc = [] → (s.hart h).ctx.swap = false →
    let m := s.peek (s.hart h).ctx.savea.toNat 4864
    ∃ u, exec (.tctlRestore id) s = .next u ∧ u.mem = s.mem ∧ u.net = (acked s r).net ∧
      (u.hart h).state = .running ∧ (u.hart h).stage = (if (s.hart h).stage = .aborted then .aborted else .active) ∧ (u.hart h).pc = BitVec.ofNat 64 (numAt m 16 8) ∧
      (∀ i : Fin 32, (u.hart h).x[i] = if 1 ≤ i.val ∧ i.val < 28 ∧ numAt m 24 8 / 2 ^ i.val % 2 = 1 then BitVec.ofNat 64 (numAt m (128 + 8 * i) 8) else 0) ∧
      (∀ i : Fin 32, (u.hart h).v[i] = if numAt m 24 8 / 2 ^ (32 + i.val) % 2 = 1 then BitVec.ofNat 256 (numAt m (384 + 32 * i) 32) else 0)) ∧
  (∀ (s : State) id r h v c l, OnRegister s id r (.tctl h) v → v % 8 = 4 → h.core? = some c → s.launchOf (s.hart h) = some l →
    (s.hart h).state = .saved → s.restorable (s.hart h) = true → (s.hart h).troupe = none → s.ecc = [] →
    (s.hart h).ctx.swap = true → s.unitsHeld (s.hart h).ctx.gba.toNat 16 = false → s.guestUsed (s.hart h) = 0 → let a := (s.hart h).ctx.savea.toNat
    ∃ u, exec (.tctlRestore id) s = .next u ∧ (u.hart h).state = .running ∧ (u.hart h).ctx.swap = false ∧
      (Memory.wf s.mem = true → (s.hart h).ctx.gba.toNat + 16 ≤ tcmKey c ((s.hart h).tcmb l) →
        u.peek (tcmKey c ((s.hart h).tcmb l)) l.tcmlBytes = s.peek (a + 4864) l.tcmlBytes)) ∧
  (∀ (s : State) id r h v, OnRegister s id r (.tctl h) v → v % 8 = 4 → (s.hart h).state = .saved → s.restorable (s.hart h) = true →
    (s.hart h).troupe = none → (s.hart h).ctx.swap = true → s.unitsHeld (s.hart h).ctx.gba.toNat 16 = true → exec (.tctlRestore id) s = .next s) ∧
  (∀ (s : State) id r h v, OnRegister s id r (.tctl h) v → v % 8 = 4 → (s.hart h).state ≠ .saved → exec (.tctlRestore id) s = .next (acked s r))

/-- R383, R384: a bulk store into a swapped-out TCM piece becomes an entry of its context's guestbook, behind the earlier ones, with its
offset and bytes; COUNT and USED move on, and a store that does not fit behind the 16 bytes of the header (the model's reading of GBLEN, log 58), or meets a unit that a block holds (R326), waits. -/
def Sys2Proof.Claim.GuestbooksTakeStores : Prop :=
  ∀ (s : State) id r key bytes t c l, AtHome s id r key → r.cls = .bulk → r.body = .store (bytes.map some) → bytes ≠ [] →
    s.swappedAt r.lid key bytes.length = some t → t.id.core? = some c → s.launchOf t = some l →
    let g := t.ctx.gba.toNat
    let used := s.peekN (g + 8) 8
    let pad := (8 - bytes.length % 8) % 8
    ((s.unitsHeld g 16 = true ∨ s.unitsHeld (g + 16 + used) (32 + bytes.length + pad) = true) → exec (.guestbookAppend id) s = .next s) ∧
    (s.unitsHeld g 16 = false → s.unitsHeld (g + 16 + used) (32 + bytes.length + pad) = false → 16 + used + 32 + bytes.length + pad ≤ t.ctx.gblen.toNat → ∃ u, exec (.guestbookAppend id) s = .next u ∧ u.net = (acked s r).net ∧
      (let s₁ := s.pokeBytes (g + 16 + used) (leBytes 8 0 ++ leBytes 8 (2 ^ 32 + bytes.length * 2 ^ 48) ++ leBytes 8 (key - tcmKey c (t.tcmb l)) ++
         leBytes 8 0 ++ bytes ++ List.replicate pad 0)
       let s₂ := s₁.pokeBytes g (leBytes 8 (s₁.peekN g 8 + 1))
       u.mem = (s₂.pokeBytes (g + 8) (leBytes 8 (used + 32 + bytes.length + pad))).mem)) ∧
    (t.ctx.gblen.toNat < 16 + used + 32 + bytes.length + pad → exec (.guestbookAppend id) s = .next s)

/-- R370, R386, R387: a channel unit's PREEMPT makes it save; once its overlay's operations, its command in progress and its completion words are complete its save area is written, which its own block's hold does not keep back (log 137), and the
module steward is told; RESTORE loads it back, and refuses an image of another version with MCHECK. -/
def Sys2Proof.Claim.UnitsAreSavedAndRestored : Prop :=
  (∀ (s : State) id r ch v, OnRegister s id r (.nmucmd ch) v → v % 4 = 1 → (s.unit ch).areaOk ch = true →
    ((s.unit ch).nstate = .running → exec (.nmuPreempt id) s = .next (acked (s.setUnit ch { s.unit ch with nstate := .saving }) r)) ∧
    ((s.unit ch).nstate ≠ .running → exec (.nmuPreempt id) s = .next (acked s r))) ∧
  (∀ (s : State) id r ch v, OnRegister s id r (.nmucmd ch) v → v % 4 = 2 →
    ((s.unit ch).nstate = .saved → exec (.nmuRestore id) s = .next (acked (s.setUnit ch { s.unit ch with nstate := .restoring }) r)) ∧
    ((s.unit ch).nstate ≠ .saved → exec (.nmuRestore id) s = .next (acked s r))) ∧
  (∀ (s : State) ch, (s.unit ch).nstate = .saving → (s.hart (.overlay ch)).pend = [] → (s.hart (.overlay ch)).stage = .active →
    s.quiet (.overlay ch) = true → (∀ q ∈ s.net, q.src ≠ .unit ch) → s.ecc = [] → (∀ e ∈ (s.unit ch).streams, ∀ a, e.2.active = some a → a.paid = 0 ∨ a.ended ≠ none) →
    s.unitsHeldBy ch (s.unit ch).nmusave.toNat (s.unitBytes ch).length = false → RingOff s → ∃ u, exec (.nmuSaveDone ch) s = .next u ∧
      u.mem = (s.pokeBytes (s.unit ch).nmusave.toNat (s.unitBytes ch)).mem ∧ u.unit ch = { s.unit ch with nstate := .saved } ∧
      Told s u ⟨injOf (.overlay ch), 0x12, 0, BitVec.ofNat 64 ch⟩) ∧
  (∀ (s : State) ch, (s.unit ch).nstate = .restoring → RingOff s → s.ecc = [] →
    (s.peekN (s.unit ch).nmusave.toNat 2 = 1 → ∃ u, exec (.nmuRestoreDone ch) s = .next u ∧ (u.unit ch).nstate = .running ∧
      (let a := (s.unit ch).nmusave.toNat
       (u.unit ch).streams.length = s.peekN (a + 60) 4 ∧
       (u.unit ch).overlay = (if s.peekN (a + 32) 8 / 2 ^ 16 % 2 = 1 then some (BitVec.ofNat 16 (s.peekN (a + 32) 8)) else none) ∧
       (s.peekN (a + 16) 8 % 2 = 1 → (u.hart (.overlay ch)).pc = BitVec.ofNat 64 (s.peekN (a + 24) 8) ∧
         ∀ i : Fin 32, i.val ≠ 0 → (u.hart (.overlay ch)).x[i] = BitVec.ofNat 64 (s.peekN (a + 64 + 8 * i.val) 8))) ∧
      u.mem = (s.loadUnit ch).mem ∧ Told s u ⟨injOf (.overlay ch), 0x12, 0, BitVec.ofNat 64 ch⟩) ∧
    (s.peekN (s.unit ch).nmusave.toNat 2 ≠ 1 → ∃ u, exec (.nmuRestoreDone ch) s = .next u ∧ u.unit ch = { s.unit ch with nstate := .saved } ∧
      u.mem = s.mem ∧ Told s u ⟨injOf (.overlay ch), 0x10, 0, (s.unit ch).nmusave⟩))

namespace Sys2Proof.Claim

/-- R390: the module has failed: no launch is accepted any more, and every live launch is aborted with FCODE 0x10. -/
abbrev FailsModule (s u : State) : Prop :=
  u.failed = true ∧ u.mem = s.mem ∧ u.net = s.net ∧ u.launches.map (·.info) = s.launches.map (·.info) ∧
  ∀ l ∈ u.launches, l.stage = .aborting ∧ l.fcode = 0x10 ∧ l.ftask = 0

/-- R118, R398: a request went out through a fabric port and its reply is due: a held atomic with a destination and a node command have their own
when they are applied, any other held access had it when it was accepted. -/
def wentThrough (p : Nat) (r : Req) : Bool :=
  decide (r.via = some p) && (match r.phase with
    | .atHome => true
    | .performed _ _ => true
    | .accepted _ => match r.body with | .amo _ _ _ _ d => decide (d ≠ 0) | .node .. => true | _ => false
    | _ => false)

end Sys2Proof.Claim

/-- R336, R369, R370, R376, R395: a store of a doubleword to a plain register updates its fields; reserved and read-only bits keep their
values, and SAVEA, GBA and GBLEN keep every bit that is written (log 68); shown for the registers of the control pages. -/
def Sys2Proof.Claim.RegistersAreWritten : Prop :=
  (∀ (s : State) id r reg v, OnRegister s id r reg v → reg.command = false → ∃ u, exec (.registerWrite id) s = .next (acked u r) ∧
    u.mem = s.mem ∧ u.net = s.net ∧
    (∀ slot, reg = .sroot slot → slot < 16 → u = { s with mc := { s.mc with
      sroot := s.mc.sroot.setIfInBounds slot (v / 2 ^ 12 % 2 ^ 36 * 2 ^ 12, decide (v % 2 = 1)) } }) ∧
    (∀ h, reg = .savea h → u = s.setHart { s.hart h with ctx := { (s.hart h).ctx with savea := BitVec.ofNat 64 v } }) ∧
    (∀ h, reg = .gba h → u = s.setHart { s.hart h with ctx := { (s.hart h).ctx with gba := BitVec.ofNat 64 v } }) ∧
    (∀ h, reg = .gblen h → u = s.setHart { s.hart h with ctx := { (s.hart h).ctx with gblen := BitVec.ofNat 64 v } }) ∧
    (∀ d p, reg = .prog d p → u = s.setHart { s.hart (.porter d p) with porter := { (s.hart (.porter d p)).porter with prog := BitVec.ofNat 64 v } }) ∧
    (∀ d p, reg = .status d p → u = s.setHart { s.hart (.porter d p) with porter := { (s.hart (.porter d p)).porter with
      fault := (s.hart (.porter d p)).porter.fault && decide (v / 4 % 2 = 0), lost := (s.hart (.porter d p)).porter.lost && decide (v / 2 % 2 = 0) } }) ∧
    (reg = .pwlim → u = if 10 ≤ v % 64 ∧ v % 64 ≤ 40 then { s with mc := { s.mc with pwlim := BitVec.ofNat 6 v } } else s) ∧
    (reg = .wmstall → u = if 10 ≤ v % 64 ∧ v % 64 ≤ 40 then { s with mc := { s.mc with wmstall := BitVec.ofNat 6 v } } else s) ∧
    (reg = .nrbase .module → u = { s with mc := { s.mc with mring := { s.mc.mring with base := v / 2 ^ 12 % 2 ^ 35 * 2 ^ 12, en := decide (v % 2 = 1) } } }) ∧
    (reg = .nrptr .module → u = { s with mc := { s.mc with mring := { s.mc.mring with tail := BitVec.ofNat 16 (v / 2 ^ 16) } } }) ∧
    ((reg = .bootstat ∨ reg = .lcs ∨ reg = .fports ∨ reg = .tsync ∨ reg = .none ∨ ∃ h, reg = .tstat h) → u = s)) ∧
  (∀ (s : State) h n, (s.hart h).state ≠ .stopped → s.regRead (.xreg h n) = 0) ∧
  (∀ (s : State) h n, (s.hart h).state = .stopped → n < 32 → s.regRead (.xreg h n) = ((s.hart h).x.toArray.getD n 0).toNat)

/-- R366, R373: a store to INVC begins an invalidation with INVA as it stands then (log 82), which ends by dropping the cached translations that it names, by page, by slot or
all, and, where it asks for it, the instruction-cache lines; the store is acknowledged then. -/
def Sys2Proof.Claim.InvalidationsDropEntries : Prop :=
  (∀ (s : State) id r v, OnRegister s id r .invc v → s.mc.invPending = none →
    exec (.invc id) s = .next { s with mc := { s.mc with invPending := some (r.id, s.mc.inva) } }) ∧
  (∀ (s : State) id inva r key bytes, s.mc.invPending = some (id, inva) → s.req? id = some r → r.body = .store (bytes.map some) →
    s.reqKey? r = some key → bytes.length = 8 → key % 8 = 0 → let v := ofBytes bytes
    ∃ u, exec .invalidationDone s = .next u ∧ u.mc.invPending = none ∧ u.net = (acked s r).net ∧ u.mem = s.mem ∧
      (∀ e, e ∈ u.tlb ↔ e ∈ s.tlb ∧ ¬ ((v / 16 % 4 = 0 ∧ e.2.space = v % 16 ∧ e.2.page ≤ inva.toNat / 65536 ∧ inva.toNat / 65536 < e.2.page + e.2.pages) ∨
        (v / 16 % 4 = 1 ∧ e.2.space = v % 16) ∨ 2 ≤ v / 16 % 4)) ∧
      (∀ e, e ∈ u.icache ↔ e ∈ s.icache ∧ ¬ (v / 64 % 2 = 1 ∧ (2 ≤ v / 16 % 4 ∨ e.1.2.1 = v % 16))))

/-- R369, R388, R399: a store to CECNT clears its die's count; one to EXCL, on any die's page (log 83), excludes an input from a port's watermark and the packets that enter the network after it; one to FEXCL takes a
fabric port down for good. -/
def Sys2Proof.Claim.ExclusionsAreMade : Prop :=
  (∀ (s : State) id r d v, OnRegister s id r (.cecnt d) v →
    exec (.cecntClear id) s = .next (acked { s with mc := { s.mc with cecnt := s.mc.cecnt.setIfInBounds d 0 } } r)) ∧
  (∀ (s : State) id r d v, OnRegister s id r (.excl d) v → let port := v / 2 ^ 8 % 2 ^ 21 * 2 ^ 8
    ∃ u, exec (.excl id) s = .next u ∧ u.net = (acked s r).net ∧ 
      lookup? (v % 2 ^ 8) (u.portRec port).excluded = some ((lookup? (v % 2 ^ 8) (s.portRec port).excluded).getD (s.net.map (·.id))) ∧
      (port < 2 ^ 30 → v % 2 ^ 8 ∉ u.presentInputs port) ∧
      (u.portRec port).latest = (s.portRec port).latest ∧ (∀ p, p ≠ port → u.portRec p = s.portRec p) ∧ u.mem = s.mem) ∧
  (∀ (s : State) id r v, OnRegister s id r .fexcl v → let p := v % 64
    ∃ u, exec (.fexcl id) s = .next u ∧ u.mc.fexcl.getLsbD p = true ∧ u.mc.fports.getLsbD p = false ∧ u.mem = s.mem ∧
      (∀ k < 64, k ≠ p → u.mc.fexcl.getLsbD k = s.mc.fexcl.getLsbD k ∧ u.mc.fports.getLsbD k = s.mc.fports.getLsbD k))

/-- R389: scrubbing corrects and counts a word's single-bit error and reports a double-bit error; every other word's error stays. -/
def Sys2Proof.Claim.ScrubbingCorrects : Prop :=
  ∀ (s : State) pa, let w := pa / 8 * 8
    ((∀ e ∈ s.ecc, shareWord w 8 e.1 8 = false) → exec (.scrub pa) s = .next s) ∧
    ((w, true) ∉ s.ecc → (∀ e ∈ s.ecc, e.1 % 8 = 0) → ∃ u, exec (.scrub pa) s = .next u ∧ u.ecc = s.ecc.filter (fun e => e.1 ≠ w) ∧ u.mem = s.mem ∧
      (∀ d, s.ecc = [(w, false)] → dieOfKey w = some d → d < 32 → s.mc.cecnt.toArray.getD d 0 ≠ BitVec.allOnes 32 →
        u.mc.cecnt.toArray.getD d 0 = s.mc.cecnt.toArray.getD d 0 + 1)) ∧
    ((w, true) ∈ s.ecc → RingOff s → w < 2 ^ 47 → ∃ u, exec (.scrub pa) s = .next u ∧ u.mem = s.mem ∧
      Told s u ⟨0, 0x10, 0, BitVec.ofNat 64 w⟩)

/-- R389, R390, R392, R409: an error in the state of stewards, Innkeeper or Waystations, a die above its limit, or a flit that fails more
than 8 retries fails the module: the module steward has MCHECK, no launch is accepted, and every live one ends with FCODE 0x10. -/
def Sys2Proof.Claim.MachineChecksFailTheModule : Prop :=
  ∀ (s : State), RingOff s →
    (∀ d, ∃ u, exec (.mcheckStateError d) s = .next u ∧ FailsModule s u ∧ Told s u ⟨0, 0x10, 0, 0⟩) ∧
    (∀ d, ∃ u, exec (.thermalMcheck d) s = .next u ∧ FailsModule s u ∧ Told s u ⟨0, 0x10, 0, 0⟩) ∧
    (∀ p n, 8 < n → ∃ u, exec (.flitRetry p n) s = .next u ∧ FailsModule s u ∧ Told s u ⟨0, 0x10, 0, 0⟩) ∧
    (∀ p n, n ≤ 8 → exec (.flitRetry p n) s = .next s)

/-- R398: a port that goes down refuses with ACCESS what went through it without a reply; one that comes up is up unless it is excluded. A group's
arrival that left through it is sent again (log 86). -/
def Sys2Proof.Claim.PortsGoDownAndUp : Prop :=
  (∀ (s : State) p, p < 64 → ∃ u, exec (.portDown p) s = .next u ∧ u.mc.fports = s.mc.fports &&& ~~~ (1#64 <<< p) ∧ u.mem = s.mem ∧
    u.launches = s.launches.map (fun l => if l.fbVia = some p then { l with fbSent := false, fbVia := none } else l) ∧
    ((s.net.map (·.id)).Nodup → u.net = s.net.map fun r =>
      if wentThrough p r then { r with phase := .refused 0x04 r.failAddr } else r)) ∧
  (∀ (s : State) p, p < 64 → (s.mc.fexcl.getLsbD p = false →
      exec (.portUp p) s = .next { s with mc := { s.mc with fports := s.mc.fports ||| (1#64 <<< p) } }) ∧
    (s.mc.fexcl.getLsbD p = true → exec (.portUp p) s = .next s))

namespace Sys2Proof.Claim

/-! ### The fabric and bring-up -/

/-- R105, R393: a packet that the fabric carries: its length, whether it is an atomic and whether it writes. -/
abbrev PacketOk (pa : Nat) (act : FabricAct) : Prop :=
  let (n, atomic, _) := fabricShape act
  1 ≤ n ∧ pa % 256 + n ≤ 256 ∧ pa < 2 ^ 47 ∧ (atomic = true → (n = 4 ∨ n = 8) ∧ pa % n = 0)

/-- The module control page (R368). -/
def onModulePage (pa : Nat) : Bool := match phys pa with | .modulePage _ => true | _ => false

/-- The launch window and the quote window, which stand next to each other (R395). -/
abbrev inWindows (pa : Nat) : Prop := pageReg pa = .launch ∨ pageReg pa = .qreq

/-- R393, R394, R395, R404: what a receiving port admits: memory whose frame has V, and A for an atomic; a write of the image region in
AWAIT; within one register of the module control page reads of BOOTSTAT and LCS, and writes of FWGO in AWAIT; and writes that lie in the windows. -/
abbrev Admits (s : State) (pa : Nat) (act : FabricAct) : Prop :=
  if isPlain pa = true ∧ isPlain (pa + (fabricShape act).1 - 1) = true then
    (s.mc.boot = .await ∧ (fabricShape act).2.2 = true ∧ (fabricShape act).2.1 = false ∧ 0x400000000000 ≤ pa ∧
      pa + (fabricShape act).1 ≤ 0x400000000000 + 2 ^ 26) ∨
    (s.frameEntry pa % 2 = 1 ∧ ((fabricShape act).2.1 = true → s.frameEntry pa / 2 % 2 = 1))
  else (fabricShape act).2.1 = false ∧ onModulePage pa = true ∧
    (((fabricShape act).2.2 = true ∧ inWindows pa ∧ inWindows (pa + (fabricShape act).1 - 1)) ∨
     (pageReg (pa + (fabricShape act).1 - 1) = pageReg pa ∧
      (((fabricShape act).2.2 = false ∧ (pageReg pa = .bootstat ∨ pageReg pa = .lcs)) ∨
       ((fabricShape act).2.2 = true ∧ pageReg pa = .fwgo ∧ s.mc.boot = .await))))

/-- R130, R364, R393: an admitted packet as a request on its way to its home: bulk where it is not marked, else with the stamp of its
mark, held for its fabric group where it names one and writes, and ordered otherwise. -/
abbrev Admitted (s : State) (port pa : Nat) (act : FabricAct) (r : Req) : Prop :=
  r.id = s.nextId ∧ r.src = .fabric port ∧ r.addr = BitVec.ofNat 64 (0x0100 * 2 ^ 48 + pa) ∧ r.phase = .sent ∧ r.body = fabricBody act ∧
  (match fabricMark act with
    | none => r.cls = .bulk
    | some m => r.stamp = ⟨BitVec.ofNat 56 m.time, BitVec.ofNat 17 m.dev, BitVec.ofNat 18 m.inj, BitVec.ofNat 5 m.seq⟩ ∧
      (if m.fbid ≠ 0 ∧ (fabricShape act).2.2 = true then r.cls = .held ∧ r.fbid = m.fbid ∧ r.superstep = m.time / 2 ^ 24 % 2 ^ 32 else r.cls = .ordered))

/-- R405: an image that may run, or change the life cycle: its magic, kind and zero fields, its length, its signature, its version, and for
a life-cycle command the device and the next state. -/
abbrev ImageOk (s : State) (hd : Header) : Prop :=
  hd.magic = 0x4D445242 ∧ hd.kind ≤ 1 ∧ hd.zeros = true ∧ s.mc.fwgo = 64 + hd.length + 3309 ∧ s.mc.fwgo ≤ 2 ^ 26 ∧
  shake256 Config.vendorKey = Config.vendorDigest ∧ dsaVerify Config.vendorKey (shake256 (s.peek 0x400000000000 (64 + hd.length))) (s.peek (0x400000000000 + 64 + hd.length) 3309) = true ∧
  s.mc.svn.toNat ≤ hd.svn ∧ (hd.kind = 1 → hd.serial = Config.serial.toNat ∧ hd.tolcs = s.mc.lcs.toNat + 1)

/-- R404: the machine as reset leaves it, but for memory, which WIPE clears: nothing in flight, no launch, before its boot steps. -/
abbrev FreshlyReset (u : State) : Prop :=
  u.net = [] ∧ u.buffers = [] ∧ u.copies = [] ∧ u.launches = [] ∧ u.clear = [] ∧ u.units = [] ∧ u.tlb = [] ∧
  u.icache = [] ∧ u.troupes = [] ∧ u.rounds = [] ∧ u.parked = [] ∧ u.focus.state = .free ∧ u.mc.boot = .wipe ∧ u.mc.reject = 0 ∧ u.mc.locked = false ∧
  u.mc.sroot = Vector.replicate 16 (0, false) ∧ u.mc.fftb = 0 ∧ u.mc.fexcl = 0 ∧ u.failed = false ∧ u.off = false

end Sys2Proof.Claim

/-- R130, R389, R393, R394, R395, R399: a packet from the fabric on a port that is up is admitted to its home when the frame table, read with its
ECC, and the control page allow it, and otherwise has no effect; on an excluded port it is discarded and reported. In AWAIT a write
of the image region needs no frame table (log 91). The close of a
partner's superstep is kept for the launch of its group (R364). -/
def Sys2Proof.Claim.FabricRequestsAreChecked : Prop :=
  (∀ (s : State) port pa f n, port < 64 → s.mc.fexcl.getLsbD port = false → s.mc.fports.getLsbD port = true →
    exec (.fabricRequest port pa (.close f n)) s = .next (s.groupClose f n)) ∧
  (∀ (s : State) f n, f ≠ 0 → (∃ l ∈ s.launches, l.info.fbid = f) → ∃ cs, s.groupClose f n = { s with fbCloses := cs } ∧
    ∀ e, e ∈ cs ↔ e ∈ s.fbCloses ∨ e = (f, n)) ∧
  (∀ (s : State) pa, s.ecc = [] → s.frameRead pa = s) ∧
  ∀ (s : State) port pa act, port < 64 → PacketOk pa act → (∀ f n, act ≠ .close f n) → let s₁ := if isPlain pa then s.frameRead pa else s
    (s.mc.fexcl.getLsbD port = false → s.mc.fports.getLsbD port = true → Admits s pa act → ∃ r, Admitted s port pa act r ∧
      exec (.fabricRequest port pa act) s = .next { s₁ with nextId := s.nextId + 1, net := s.net ++ [r] }) ∧
    (s.mc.fexcl.getLsbD port = false → s.mc.fports.getLsbD port = true → ¬ Admits s pa act → exec (.fabricRequest port pa act) s = .next s₁) ∧
    (s.mc.fexcl.getLsbD port = true → RingOff s → ∃ u, exec (.fabricRequest port pa act) s = .next u ∧ u.net = s.net ∧ u.mem = s.mem ∧
      Told s u ⟨0, 0x15, 0, BitVec.ofNat 64 (6 + (2 ^ 32 + port) * 2 ^ 16)⟩)

/-- R112, R396, with the model's choices that an offset is added to the clock (log 88), that LOCKED clears when LOST is set and LOST when LOCKED is (log 87): a time message's offset is slewed away in its direction, 1 ns in every 256 that pass and never backward, and LOCKED says whether it is within 4 ns;
after 2^20 ns out of lock LOST is set and reported. -/
def Sys2Proof.Claim.TimeIsKept : Prop :=
  (∀ (s : State) offset, s.mc.fports ≠ 0 → ∃ u, exec (.timeMessage offset) s = .next u ∧ u = { s with mc := u.mc } ∧ u.mc.offset = offset ∧
    u.mc.slew = offset ∧ (u.mc.locked = true ↔ -4 ≤ offset ∧ offset ≤ 4) ∧ u.mc.lost = (s.mc.lost && !u.mc.locked) ∧ u.mc.fports = s.mc.fports) ∧
  (∀ (s : State), s.mc.lost = false → RingOff s →
    (s.mc.unlockedSince + 2 ^ 20 ≤ s.now → ∃ u, exec .clockLockLost s = .next u ∧ u.mc.lost = true ∧ u.mc.locked = false ∧ u.mem = s.mem ∧
      Told s u ⟨BitVec.ofNat 18 (124 * 2 ^ 6 + 2), 0x15, 0, 8⟩) ∧
    (s.now < s.mc.unlockedSince + 2 ^ 20 → exec .clockLockLost s = .next s)) ∧
  (∀ (s : State), let n := 1 + s.delays.headD 0
    let passed := s.mc.slewRest + n
    let most : Int := (passed / 256 : Nat)
    let c : Int := if s.mc.slew < -most then -most else if most < s.mc.slew then most else s.mc.slew
    s.tick.now = s.now + n ∧ s.tick.mc.slew = s.mc.slew - c ∧ s.tick.clk = s.clk + BitVec.ofNat 56 ((n : Int) + c).toNat ∧
    s.tick.mc.slewRest = min 255 (passed - 256 * c.natAbs) ∧ (s.mc.slewRest ≤ 255 → 0 ≤ (n : Int) + c)) ∧
  (∀ s : State, s.delays = [] → s.mc.slewRest ≤ 255 → s.mc.slew ≠ 0 →
    ((List.range (256 - s.mc.slewRest)).foldl (fun s _ => s.tick) s).mc.slew.natAbs = s.mc.slew.natAbs - 1)

/-- R401: a contribution opens its word's round or is merged into it; when COUNT contributions are counted, or after 2^20 ns in part, the
merged value is applied as one atomic, shown as a sum, and every contribution is acknowledged then. A contribution to another module's word is that module's to merge. -/
def Sys2Proof.Claim.ReductionsAreApplied : Prop :=
  (∀ (s : State) id r key w op count merged v, AtHome s id r key → r.body = .reduction w op count merged v → key < 2 ^ 50 → op ≤ 5 → key % 8 = 0 →
    (∀ p ∈ s.rounds, ¬ (p.window = w ∧ p.pa = key) ∧ r.id ∉ p.ids) → merged < count →
    exec (.reductionPacket id) s = .next { s with rounds := ⟨w, key, op, count, merged, v, [r.id], s.now⟩ :: s.rounds }) ∧
  (∀ (s : State) id r key w op count merged v p, AtHome s id r key → r.body = .reduction w op count merged v → key < 2 ^ 50 → op ≤ 5 → key % 8 = 0 →
    s.rounds.find? (fun p => decide (p.window = w) && decide (p.pa = key)) = some p → p.op = 0 → p.count ≤ p.got + merged → s.ecc = [] →
    (∀ p ∈ s.rounds, r.id ∉ p.ids) → (s.net.map (·.id)).Nodup → Memory.wf s.mem = true → ∃ u, exec (.reductionPacket id) s = .next u ∧
      (∀ q ∈ s.net, u.req? q.id = if q.id ∈ p.ids ++ [r.id] then (match q.src with | .fabric _ => none | _ => some { q with phase := .performed [] s.clk }) else some q) ∧
      u.peekN key 8 = (s.peekN key 8 + p.value.toNat + v.toNat) % 2 ^ 64 ∧
      u.rounds = s.rounds.filter (fun p => !(decide (p.window = w) && decide (p.pa = key)))) ∧
  (∀ (s : State) id r key w op count merged v, AtHome s id r key → r.body = .reduction w op count merged v → 2 ^ 50 ≤ key →
    exec (.reductionPacket id) s = .next s) ∧
  (∀ (s : State) window pa q, s.rounds.find? (fun p => decide (p.window = window) && decide (p.pa = pa)) = some q → q.op = 0 → s.ecc = [] →
    Memory.wf s.mem = true → RingOff s → s.roundHeld pa = false →
    (q.opened + 2 ^ 20 ≤ s.now → ∃ u, exec (.reductionTimeout window pa) s = .next u ∧ u.peekN pa 8 = (s.peekN pa 8 + q.value.toNat) % 2 ^ 64 ∧
      u.rounds = s.rounds.filter (fun p => !(decide (p.window = window) && decide (p.pa = pa))) ∧
      Told s u ⟨0, 0x15, 0, BitVec.ofNat 64 (7 + pa % 2 ^ 47 * 2 ^ 16)⟩) ∧
    (s.now < q.opened + 2 ^ 20 → exec (.reductionTimeout window pa) s = .next s))

/-- R5, R404, R406: a reset leaves no launch and nothing in flight, and the fuses keep their values; then WIPE makes every byte zero with
valid ECC, and SELFTEST leads to AWAIT with the clock locked, or, where a test fails, to the failed module that no boot leaves. -/
def Sys2Proof.Claim.ResetStartsOver : Prop :=
  FreshlyReset State.reset ∧ State.reset.mem = [] ∧
  (∀ s : State, ∃ u, exec .reset s = .next u ∧ FreshlyReset u ∧ u.mc.lcs = s.mc.lcs ∧ u.mc.svn = s.mc.svn ∧ u.mc.secretGone = s.mc.secretGone) ∧
  (∀ s : State, s.off = false → s.mc.boot = .wipe → step s = .next { s.tick with mem := [], ecc := [], mc := { s.tick.mc with boot := .selftest } }) ∧
  (∀ s : State, s.off = false → s.mc.boot = .selftest → ∃ u, step s = .next u ∧ u.mem = s.mem ∧
    (Config.selfTestOk s.nextId = true → u.mc.boot = .await ∧ u.mc.locked = true ∧ u.failed = s.failed) ∧
    (Config.selfTestOk s.nextId = false → u.mc.boot = .failed ∧ u.failed = true))

/-- R395, R404, R405, R406, the vendor's key being the one whose digest is fused (log 10): FWGO in AWAIT begins the check of the delivered image. One that fails is wiped and its code is in BOOTSTAT;
firmware that passes runs with the stewards at its entry and raises the minimum version; a life-cycle command moves one state forward and
resets the module. -/
def Sys2Proof.Claim.ImagesAreChecked : Prop :=
  (∀ (s : State) id r v, OnRegister s id r .fwgo v →
    (s.mc.boot = .await → exec (.fwgo id) s = .next (acked { s with mc := { s.mc with boot := .checking, fwgo := v % 2 ^ 26 } } r)) ∧
    (s.mc.boot ≠ .await → exec (.fwgo id) s = .next (acked s r))) ∧
  (∀ (s : State), s.mc.boot = .checking → let hd := Header.ofBytes (s.peek 0x400000000000 64)
    (¬ ImageOk s hd → Memory.wf s.mem = true → ∃ u, exec .imageCheck s = .next u ∧ u.mc.boot = .await ∧ u.mc.reject ≠ 0 ∧
      (∀ k, 0x400000000000 ≤ k → k < 0x400000000000 + 2 ^ 26 → Memory.read u.mem k = 0) ∧
      (∀ k, (k < 0x400000000000 ∨ 0x400000000000 + 2 ^ 26 ≤ k) → Memory.read u.mem k = Memory.read s.mem k)) ∧
    (ImageOk s hd → hd.kind = 0 → ∃ u, exec .imageCheck s = .next u ∧ u.mc.boot = .running ∧ u.mc.svn = BitVec.ofNat 32 hd.svn ∧ u.mem = s.mem ∧
      u.mc.digest = shake256 (s.peek 0x400000000000 (64 + hd.length)) ∧
      (u.hart .moduleSteward).pc = BitVec.ofNat 64 (0x0100 * 2 ^ 48 + 0x400000000000 + 64 + hd.entry) ∧
      (u.hart .moduleSteward).state = .running ∧ (u.hart .moduleSteward).sup.priv = true) ∧
    (ImageOk s hd → hd.kind = 1 → ∃ u, exec .imageCheck s = .next u ∧ FreshlyReset u ∧ u.mc.lcs = s.mc.lcs + 1 ∧
      (s.mc.lcs = 2 → u.mc.secretGone = true))) ∧
  (∀ (s : State), s.mc.boot ≠ .checking → exec .imageCheck s = .next s)

/-- R407, R408, R412: a well-formed quote request in PROVISIONED or DEPLOYED is taken when none is pending, and the quote is written to its
destination, signed with the device's key over its first 192 bytes (ML-DSA as FIPS 204 has it, its random bytes free, log 10); a malformed one is discarded and reported. -/
def Sys2Proof.Claim.QuotesAreWritten : Prop :=
  (∀ (s : State) id r key bs, AtHome s id r key → onPage key = true → pageReg key = .qreq → r.body = .store (bs.map some) → bs.length = 64 → s.ecc = [] →
    let dst := numAt bs 32 8
    (key % 64 = 0 → dst % 8 = 0 → isPlain dst = true → s.frameEntry dst % 2 = 1 → (∀ b ∈ bs.drop 40, b = 0) → (s.mc.lcs = 1 ∨ s.mc.lcs = 2) →
      s.mc.quote = none → exec (.qreq id) s = .next (acked { s with mc := { s.mc with quote := some (bs.take 32, dst) } } r)) ∧
    ((key % 64 ≠ 0 ∨ dst % 8 ≠ 0 ∨ isPlain dst = false ∨ s.frameEntry dst % 2 = 0 ∨ ∃ b ∈ bs.drop 40, b ≠ 0) → RingOff s →
      ∃ u, exec (.qreq id) s = .next u ∧ u.mc.quote = s.mc.quote ∧ u.mem = s.mem ∧
        Told s u ⟨injOf .moduleSteward, 0x15, 0, BitVec.ofNat 64 (5 + 64 * 2 ^ 16)⟩)) ∧
  (∀ (s : State) nonce dst, s.mc.quote = some (nonce, dst) → (∀ e ∈ s.holds, ¬ (dst / 256 ≤ e.1 ∧ e.1 ≤ (dst + 3500) / 256)) →
    (∀ i < 3501, isPlain (dst + i) = true) → ∃ u, exec .quoteWrite s = .next u ∧ u.mc.quote = none ∧ u.nextId = s.nextId + 1 ∧
      (Memory.wf s.mem = true → u.peekN dst 8 = 1 + s.mc.lcs.toNat * 2 ^ 16 ∧
        u.peekN (dst + 8) 8 = Config.deviceId.toNat + s.mc.svn.toNat * 2 ^ 32 ∧
        u.peekN (dst + 16) 16 = Config.serial.toNat ∧
        u.peek (dst + 32) 32 = ((List.range 32).map fun i => nonce.getD i 0) ∧
        u.peek (dst + 64) 64 = ((List.range 64).map fun i => s.mc.digest.getD i 0) ∧
        u.peek (dst + 128) 64 = ((List.range 64).map fun i => (shake256 deviceKey.pub).getD i 0) ∧
        u.peek (dst + 192) 3309 = ((List.range 3309).map fun i => (dsaSign deviceKey (u.peek dst 192)
          ((List.range 32).map fun j => (Config.quoteRandom s.nextId).getD j 0)).getD i 0)))

/-- R409: a blade that fails is lost, the third one powers the module off, and so does a die's thermal limit; without power nothing happens
but a reset. -/
def Sys2Proof.Claim.PowerIsLost : Prop :=
  (∀ (s : State) b, b < 24 → b ∉ s.blades → exec (.bladeFailure b) s = .next { s with
    blades := b :: s.blades, off := s.off || decide (2 ≤ s.blades.length) }) ∧
  (∀ (s : State) d, exec (.thermalPowerOff d) s = .next { s with off := true }) ∧
  (∀ (s : State), s.off = true → (∃ u, step s = .next u) → ∃ r, s.agenda = .event .reset :: r)

namespace Sys2Proof.Claim

/-! ### Decoding and the step -/

/-- Words that the spec's own encoding examples give, with the instructions that they stand for: ADD, guarded SUB, REM, ANDI, RORI, LIS,
ADDPC, DJNZ, J, JAL, JALR, the compares, PANDN, the loads and stores, the atomics, fences and barriers, REP, TRP.FORM, CPY, the float,
vector and matrix families, the carousel, the node and near-memory families, SYS, CSR, EREG and RAND. -/
def exampleWords : List (W32 × Instr) :=
  [(0x004A6381, .add ⟨false, 0⟩ 5 6 7),
   (0xB04A6383, .sub ⟨true, 3⟩ 5 6 7),
   (0x008A638D, .rem ⟨false, 0⟩ 5 6 7),
   (0x010A51FF, .andi ⟨false, 0⟩ 5 5 255),
   (0x024A6611, .rori ⟨false, 0⟩ 5 6 8),
   (0x02CE2469, .lis ⟨false, 0⟩ 7 4660),
   (0x03280041, .addpc ⟨false, 0⟩ 20 32),
   (0x0593FFF9, .djnz ⟨false, 0⟩ 9 65532),
   (0x24C00015, .j ⟨false, 2⟩ 10),
   (0x05000101, .jal ⟨false, 0⟩ 128),
   (0x05434009, .jalr ⟨false, 0⟩ 1 20 4),
   (0x03425325, .cmp ⟨false, 0⟩ 0 1 5 6 2 2),
   (0x039272A9, .cmpi ⟨false, 0⟩ 1 1 7 5 2 4),
   (0x03C22187, .pandn ⟨false, 0⟩ 1 2 3),
   (0x04023227, .fcmp ⟨false, 0⟩ 0 1 3 4 2 3)] ++
  [(0x04523225, .vcmp ⟨false, 0⟩ 1 1 3 4 2 2),
   (0x064B4FD5, .ld ⟨false, 0⟩ 5 20 126 2 2),
   (0x070B5037, .sto ⟨false, 0⟩ 5 21 1 2 3),
   (0x0744B069, .fld ⟨false, 0⟩ 2 11 3 1 0),
   (0x07CAB009, .vld ⟨false, 0⟩ 5 11 0 1 0),
   (0x180B400F, .vst ⟨false, 1⟩ 5 20 0 1 3),
   (0x084B4375, .amoCas ⟨false, 0⟩ 5 20 6 1 0),
   (0x08800035, .fenceLd ⟨false, 0⟩ 3),
   (0x08C02085, .arrived ⟨false, 0⟩ 2 1),
   (0x05C09161, .rep ⟨false, 0⟩ 9 1 3),
   (0x06005301, .trpForm ⟨false, 0⟩ 5 6),
   (0x0928BB13, .cpy ⟨false, 0⟩ 20 11 22 1 0 1),
   (0x094221F1, .ffma ⟨false, 0⟩ 1 2 3 0),
   (0x0992400B, .fkey ⟨false, 0⟩ 9 4),
   (0x09CE84E3, .vsra ⟨false, 0⟩ 7 8 9 1)] ++
  [(0x0A08532B, .vffma ⟨false, 0⟩ 4 5 6 1),
   (0x0A48503B, .vcvt ⟨false, 0⟩ 4 5 0 1),
   (0x0A4A2315, .vext ⟨false, 0⟩ 5 2 6 2),
   (0x0A834183, .mma ⟨false, 0⟩ 1 20 3 1),
   (0x0AC14083, .mrdF32 ⟨false, 0⟩ 0 20 1),
   (0x0ACCA015, .geomg ⟨false, 0⟩ 3 10),
   (0x0B014081, .bld ⟨false, 0⟩ 20 1),
   (0x0B4D4021, .desc ⟨false, 0⟩ 3 20 1),
   (0x0B4B4B47, .expnd ⟨false, 0⟩ 5 20 22 2),
   (0x0B815003, .nmovl ⟨false, 0⟩ 21 0),
   (0x0BC05009, .fault ⟨false, 0⟩ 5),
   (0x0C4C0041, .csrrs ⟨false, 0⟩ 6 0 32),
   (0x0CCD5001, .sete ⟨false, 0⟩ 6 21),
   (0x0D0A6387, .rand ⟨false, 0⟩ 5 6 7 3)]

/-- Halfwords written from R182's table: op5, d, s and a zero bit. -/
def exampleHalves : List (BitVec 16 × Instr) :=
  [(0b00001_00101_00110_0, .mvN 5 6), (0b00010_00101_00110_0, .addN 5 6), (0b01010_00101_11111_0, .addiN 5 31),
   (0b01111_00101_00110_0, .ldDN 5 6), (0b10010_00101_00110_0, .stWN 5 6), (0b10100_00000_00001_0, .jrN 1),
   (0b10110_00000_00000_0, .nopN), (0b10111_00000_00000_0, .haltN)]

/-- The state in which the issuing hart's turn begins, after time has passed: with an empty agenda the last hart has it, and else the one
that the agenda names (the model's reading, log 1), or its core's running thread (R16), once the waits of its core that are over have ended. -/
def turned (s : State) : State :=
  match s.agenda with
  | .issue h :: rest => ({ s with agenda := rest } : State).tick.turnTo runDecoded h
  | _ => s.tick.turnTo runDecoded s.focus.id

/-- The issuing hart may issue in a state: it is ready, its core need not turn to another thread, no local load of it is due first, and its
troupe does not hold it back. -/
abbrev MayIssue (s : State) : Prop :=
  s.ready s.focus = true ∧ s.quantumDue = false ∧ (∀ q ∈ s.focus.pend, q.left ≠ 0) ∧ s.slotOpen s.focus = true ∧ s.cycleStalled runDecoded = false

/-- A turn of a hart is next: the module has power and has come through the first boot steps. -/
abbrev IssueIsNext (s : State) : Prop := s.off = false ∧ s.booting = false ∧ (s.agenda = [] ∨ ∃ h rest, s.agenda = .issue h :: rest)

end Sys2Proof.Claim

/-- R131, R158, R159, R379: when the fetched halfwords decode to an instruction, the step is that instruction's effect with its word in
IWORD, time having passed; a fetch that meets an uncorrectable error leaves its hart stopped (R389); one that has to wait leaves the hart in its
wait; a reserved word and a failed fetch step into their exceptions; and an event of the agenda happens. Which hart acts next is the agenda's
to say, or the last one's turn where it is empty (the model's choice, log 1). A troupe cycle in which another member stalls does not
execute (R20), and that member waits (R50). -/
def Sys2Proof.Claim.StepRunsDecodedWord : Prop :=
  (∀ (s : State) lo hi s' i w len, IssueIsNext s → MayIssue (turned s) → (turned s).fetch = .word lo hi s' → s'.focus.stage = .active →
    decodeHalves lo hi = .instr i w len → step s = exec i { s' with focus := { s'.focus with iword := w } }) ∧
  (∀ (s : State) lo hi s' w len, IssueIsNext s → MayIssue (turned s) → (turned s).fetch = .word lo hi s' → s'.focus.stage = .active →
    decodeHalves lo hi = .reserved w len → step s = exec (.reservedEncoding w) { s' with focus := { s'.focus with iword := w } }) ∧
  (∀ (s : State) fa st iw s', IssueIsNext s → MayIssue (turned s) → (turned s).fetch = .fail fa st iw s' →
    (s'.focus.stage = .active → step s = exec (.fetchFault fa st iw) s') ∧ (s'.focus.stage ≠ .active → step s = .next s')) ∧
  (∀ (s : State), IssueIsNext s → (turned s).ready (turned s).focus = true → (turned s).quantumDue = false →
    (∀ q ∈ (turned s).focus.pend, q.left ≠ 0) →
    ((turned s).slotOpen (turned s).focus = false → step s = .next (turned s)) ∧
    ((turned s).slotOpen (turned s).focus = true → (turned s).cycleStalled runDecoded = true → step s = .next ((turned s).cycleWaits runDecoded))) ∧
  (∀ (s : State) u t, s.cycleMembers = [u] → s.stallOf runDecoded u.id = some t → ((s.cycleWaits runDecoded).hart u.id).wait = t.wait ∧
    ∀ h, h ≠ u.id → (s.cycleWaits runDecoded).hart h = s.hart h) ∧
  (∀ (s : State) lo hi s', IssueIsNext s → MayIssue (turned s) → (turned s).fetch = .word lo hi s' → s'.focus.stage ≠ .active → step s = .next s') ∧
  (∀ (s : State), IssueIsNext s → MayIssue (turned s) → (turned s).fetch = .wait →
    ((turned s).focus.wait = none → step s = .next ((turned s).stall .other)) ∧
    (∀ w n, (turned s).focus.wait = some (w, n) → step s = .next ((turned s).stall w))) ∧
  (∀ (s : State) h, (∀ c k, h ≠ .thread c k) → s.turnTo runDecoded h = s.focusOn h) ∧
  (∀ (s : State) c k, (∀ n < 4, (s.hart (.thread c n)).wait = none) → s.turnTo runDecoded (.thread c k) = s.giveTurn (.thread c k)) ∧
  (∀ (s : State) c k m w since, k < 4 → (∀ n < 4, n ≠ k → (s.hart (.thread c n)).wait = none) →
    (s.hart (.thread c k)).wait = some (w, since) → (∀ n, w ≠ .barrier n) →
    s.turnTo runDecoded (.thread c m) = (if s.wouldStall runDecoded (.thread c k) = true then s
      else s.setHart { s.hart (.thread c k) with wait := none }).giveTurn (.thread c m)) ∧
  (∀ (s : State) e rest, s.off = false → s.booting = false → s.agenda = .event e :: rest → e.happens = true →
    step s = exec e ({ s with agenda := rest } : State).tick)

/-- R98, R131, R366, R378, R379, R403: what a fetch gives a core thread: a halfword of its cluster's instruction cache, or of memory where
its X pages lead, once the walk and the read are charged to its slot, filling the cache, or of another module, which answers where a port
leads there (that the fetch waits where none does is the model's reading, log 76); outside repeats and troupes the second halfword is fetched only when the first has bit 0 set; and a failure is FETCH with the failing address and STRADDLE. -/
def Sys2Proof.Claim.FetchReadsMemory : Prop :=
  (∀ (s : State) c k (a : Word), s.focus.id = .thread c k →
    let t := s.focus
    let va := a.toNat % 2 ^ 48
    let half (key : Nat) : BitVec 16 := BitVec.ofNat 16 (ofBytes (s.peek key 2))
    (a.toNat / 2 ^ 48 ≠ 0x0100 → s.fetchHalf t a = .fail s) ∧
    (∀ h, a.toNat / 2 ^ 48 = 0x0100 → lookup? (c.cluster, t.space, a) s.icache = some h → s.fetchHalf t a = .got h s) ∧
    (a.toNat / 2 ^ 48 = 0x0100 → lookup? (c.cluster, t.space, a) s.icache = none →
      (∀ key, s.xlatWalk t.space va .fetch ≠ .hit key) →
      (State.payAll t.space (s.walkCharges t.space va) s = none → s.fetchHalf t a = .wait) ∧
      (∀ s₁, State.payAll t.space (s.walkCharges t.space va) s = some s₁ → s.ecc = [] → ∃ s', s.fetchHalf t a = .fail s' ∧
        s' = { s with units := s₁.units, injectors := s'.injectors, ports := s'.ports })) ∧
    (∀ key, a.toNat / 2 ^ 48 = 0x0100 → lookup? (c.cluster, t.space, a) s.icache = none → s.xlatWalk t.space va .fetch = .hit key →
      (∀ dev, homeOf key ≠ .remote dev) →
      (State.payAll t.space (s.walkCharges t.space va ++ chargesOf [(key, 2)]) s = none → s.fetchHalf t a = .wait) ∧
      (∀ s₁, State.payAll t.space (s.walkCharges t.space va ++ chargesOf [(key, 2)]) s = some s₁ → s.ecc = [] → ∃ s',
        s.fetchHalf t a = .got (half key) s' ∧
        s' = { s with icache := ((c.cluster, t.space, a), half key) :: s.icache, units := s₁.units, injectors := s'.injectors, ports := s'.ports })) ∧
    (∀ key dev, a.toNat / 2 ^ 48 = 0x0100 → lookup? (c.cluster, t.space, a) s.icache = none → s.xlatWalk t.space va .fetch = .hit key →
      homeOf key = .remote dev → (s.exitPort dev = none → s.fetchHalf t a = .wait) ∧
      ((s.exitPort dev).isSome = true → State.payAll t.space (s.walkCharges t.space va) s = none → s.fetchHalf t a = .wait) ∧
      (∀ s₁, (s.exitPort dev).isSome = true → State.payAll t.space (s.walkCharges t.space va) s = some s₁ → s.ecc = [] →
        let pa := (remoteParts key).2
        ∃ s', s' = { s with nextId := s.nextId + 1, units := s₁.units, injectors := s'.injectors, ports := s'.ports } ∧
        (Config.remoteStatus dev pa s.nextId ≠ 0 → s.fetchHalf t a = .fail s') ∧
        (Config.remoteStatus dev pa s.nextId = 0 →
          let h := BitVec.ofNat 16 (ofBytes (remoteBytes dev pa s.nextId 2))
          s.fetchHalf t a = .got h { s' with icache := ((c.cluster, t.space, a), h) :: s.icache })))) ∧
  (∀ (s : State) c k, s.focus.id = .thread c k → s.focus.rep = none → s.focus.troupe = none →
    let pc := s.focus.pc
    (∀ s', s.fetchHalf s.focus pc = .fail s' → s.fetch = .fail pc false 0 s') ∧
    (s.fetchHalf s.focus pc = .wait → s.fetch = .wait) ∧
    (∀ lo s₁, s.fetchHalf s.focus pc = .got lo s₁ →
      (isLong lo = false → s.fetch = .word lo 0 s₁) ∧
      (∀ s', isLong lo = true → s₁.fetchHalf s.focus (pc + 2) = .fail s' → s.fetch = .fail (pc + 2) true (lo.setWidth 32) s') ∧
      (isLong lo = true → s₁.fetchHalf s.focus (pc + 2) = .wait → s.fetch = .wait) ∧
      (∀ hi s₂, isLong lo = true → s₁.fetchHalf s.focus (pc + 2) = .got hi s₂ → s.fetch = .word lo hi s₂)))

/-- R133 to R183: words of the spec's encodings decode to the instructions they stand for. -/
def Obligations.ExampleWordsDecode : Prop :=
  (∀ e ∈ exampleWords, decode32 e.1 = some e.2) ∧ (∀ e ∈ exampleHalves, decode16 e.1 = some e.2)

/-- R131 to R183: decoding an encoded well-formed instruction gives it back, with every operand. -/
def Obligations.DecodingInvertsEncoding : Prop := ∀ i hs, i.wellFormed = true → encode i = some hs → decode hs = some i

/-- R131, R158: the halfwords of an instruction have no other meaning: what decodes is well formed and encodes to the same halfwords. -/
def Obligations.WordsHaveOneMeaning : Prop := ∀ hs i, decode hs = some i → i.wellFormed = true ∧ encode i = some hs

/-- Every step keeps the memory's canonical form, on which the reads and writes of R91 rest. -/
def Obligations.StepsKeepMemoryCanonical : Prop := ∀ s t : State, s.MemOk → step s = .next t → t.MemOk

/-- The memory has its canonical form after reset, where every byte reads zero (R404). -/
def Sys2Proof.Claim.ResetMemoryIsCanonical : Prop := State.reset.MemOk ∧ ∀ k, Memory.read State.reset.mem k = 0

/-- With power, every step of every state has a next state: no instruction, fault of a task or event stops the machine. -/
def Sys2Proof.Claim.StepsAlwaysGoOn : Prop := ∀ s : State, s.off = false → ∃ t, step s = .next t

/-! ### The statements that several claims make up -/

/-- R189, R190, R191, R182, R209. The immediate forms and the 16-bit integer forms write their results. -/
def Obligations.IntegerFormsWriteTheirFunction : Prop :=
  Sys2Proof.Claim.ImmediatesWriteTheirFunction ∧ Sys2Proof.Claim.HalfwordIntegerForms

/-- R16, R32, R49, R50, R99, R102, R134. How an instruction retires, does nothing under a false guard, waits or traps on its
operands. -/
def Obligations.InstructionsRetireOrAreHeldBack : Prop :=
  Sys2Proof.Claim.OperandsHoldBack ∧ Sys2Proof.Claim.DisabledHasNoEffect ∧ Sys2Proof.Claim.RetiresAlone

/-- R53, R192, R193, R194, R195, R196, R197, R209. Compares and predicate operations write predicates, jumps go to their targets. -/
def Obligations.PredicatesAndJumps : Prop :=
  Sys2Proof.Claim.ComparesWritePredicates ∧ Sys2Proof.Claim.PredicateLogic ∧ Sys2Proof.Claim.JumpsGoToTheirTargets

/-- R200, R201, R205. REP opens its block, the block runs its passes, and marked fields move with the pass. Where the spec
leaves a point open it follows logs 108, 145. -/
def Obligations.RepeatBlocks : Prop :=
  Sys2Proof.Claim.RepOpensItsBlock ∧ Sys2Proof.Claim.RepeatBodiesAreChecked ∧ Sys2Proof.Claim.RepeatBlockAdvances ∧ Sys2Proof.Claim.RepeatStaggersMarkedFields

/-- R18, R19, R23, R24, R206, R207, R208. Troupes form, know their positions and are split. Where the spec leaves a point
open it follows logs 107, 140. -/
def Obligations.Troupes : Prop :=
  Sys2Proof.Claim.TroupesForm ∧ Sys2Proof.Claim.MembersLeave ∧ Sys2Proof.Claim.TroupeReadsAndSplit

/-- R64, R90, R91, R92, R93, R94, R95, R99, R100, R210, R211, R335. The ranges that an access may reach, local loads that
pend and land, and local stores that write exactly their bytes. Where the spec leaves a point open it follows log 15. -/
def Obligations.LocalAccesses : Prop :=
  Sys2Proof.Claim.AddressRangesAreRight ∧ Sys2Proof.Claim.LocalLoadsPendTheirValue ∧ Sys2Proof.Claim.PendingLoadsLand ∧ Sys2Proof.Claim.LocalStoresWriteTheirBytes

/-- R31, R91, R102, R105, R106, R108, R119, R123, R210, R211, R212. Remote loads and stores send requests of their class
within their permits, releases wait, and bad addresses trap. Where the spec leaves a point open it follows log 12. -/
def Obligations.RemoteAccesses : Prop :=
  Sys2Proof.Claim.RemoteAccessesSendRequests ∧ Sys2Proof.Claim.ReleasesAndPermitsAreRight ∧ Sys2Proof.Claim.AccessClasses ∧ Sys2Proof.Claim.BadAddressesTrap

/-- R51, R53, R55, R86, R99, R105, R106, R213, R238, R239, R240. Float and vector loads and stores, local and remote; which
elements a cycle of a strided one takes is the model's choice (log 117). Where the spec leaves a point open it follows logs
60, 117. -/
def Obligations.FloatAndVectorAccesses : Prop :=
  Sys2Proof.Claim.FloatLoadsAndStores ∧ Sys2Proof.Claim.VectorLoads ∧ Sys2Proof.Claim.VectorStores

/-- R123, R216, R217. Local and remote atomics. -/
def Obligations.AtomicsAreIssued : Prop :=
  Sys2Proof.Claim.LocalAtomics ∧ Sys2Proof.Claim.RemoteAtomics

/-- R16, R34, R57, R124, R127, R219, R226, R227, R228. Fences, WAITDC, RGN and YIELD. Where the spec leaves a point open it
follows log 133. -/
def Obligations.FencesWaitsAndTurns : Prop :=
  Sys2Proof.Claim.FencesWait ∧ Sys2Proof.Claim.FencesCoverStores ∧ Sys2Proof.Claim.WaitdcWaits ∧ Sys2Proof.Claim.RgnMovesTheRegion ∧ Sys2Proof.Claim.YieldTurnsTheCore

/-- R25, R27, R28, R29, R34, R118, R224, R229. Phases, arrivals and waits of the barrier levels. -/
def Obligations.BarrierInstructions : Prop :=
  Sys2Proof.Claim.PhasesAndLevels ∧ Sys2Proof.Claim.ArrivalsAreRecorded ∧ Sys2Proof.Claim.WaitsReturnAfterTheBarrier ∧ Sys2Proof.Claim.ArrivedIsRecordedAtZero

/-- R26, R27, R28, R30, R43, R118, R341. Barriers complete when their members have arrived, and supersteps end. -/
def Obligations.BarriersCloseAndSuperstepsEnd : Prop :=
  Sys2Proof.Claim.BarriersComplete ∧ Sys2Proof.Claim.ArrivalsCoverEarlierAccesses ∧ Sys2Proof.Claim.SuperstepsEnd

/-- R106, R107, R220, R221, R222, R223. Copies begin and leave in packets, oversized accesses leave request by request. Where
the spec leaves a point open it follows logs 30, 111, 114. -/
def Obligations.CopiesAndStridedAccesses : Prop :=
  Sys2Proof.Claim.CopiesBegin ∧ Sys2Proof.Claim.CopyPacketsLeave ∧ Sys2Proof.Claim.StridedRequestsLeaveInOrder

/-- R51, R61, R67, R81, R82, R83, R84, R86, R230. Each FOP writes its result, correctly rounded once, and its flags. -/
def Obligations.FloatOpsWriteTheirResult : Prop :=
  Sys2Proof.Claim.FopsWriteTheirResult ∧ Sys2Proof.Claim.RoundingIsExact ∧ Sys2Proof.Claim.ArithmeticIsExact ∧ Sys2Proof.Claim.SpecialOperandsAreRight ∧ Sys2Proof.Claim.SelectionsAndConversionsAreExact

/-- R86, R88, R193, R231, R232, R233. Float moves, conversions and compares. -/
def Obligations.FloatMovesAndCompares : Prop :=
  Sys2Proof.Claim.FloatMovesAndConversions ∧ Sys2Proof.Claim.FloatCompares

/-- R53, R134, R234, R235, R241. Vector integer operations and moves write their enabled lanes alone. -/
def Obligations.VectorIntegersAndMoves : Prop :=
  Sys2Proof.Claim.VectorIntegerLanes ∧ Sys2Proof.Claim.VectorMovesWriteLanes

/-- R85, R192, R233, R237, R242, R243. Vector compares, lane selects and reductions. -/
def Obligations.VectorComparesAndSelects : Prop :=
  Sys2Proof.Claim.VectorComparesWriteBits ∧ Sys2Proof.Claim.VectorSelectsAndReductions

/-- R77, R78. rne_shift is nearest even and align_add follows it. -/
def Obligations.SumsAreAligned : Prop :=
  Sys2Proof.Claim.RneShiftIsNearestEven ∧ Sys2Proof.Claim.AlignAddRule

/-- R58, R66, R71, R76, R87, R248, R249, R251, R256. MMA accumulates, latches keep their tiles, MZ, MSETE, MEXP and MCVT. -/
def Obligations.TilesAndLatches : Prop :=
  Sys2Proof.Claim.LatchesKeepTheirTiles ∧ Sys2Proof.Claim.MmaAccumulates ∧ Sys2Proof.Claim.TileControl ∧ Sys2Proof.Claim.TilesAreNarrowed

/-- R80, R252, R253, R254, R255. MRD writes rounded elements, MRED and MACC carry reduction messages. -/
def Obligations.TilesAreReadAndReduced : Prop :=
  Sys2Proof.Claim.TilesAreReadOut ∧ Sys2Proof.Claim.ReductionMessages

/-- R58, R70, R71, R87, R103, R108, R111, R121, R257, R259, R261, R403. GEOM and GEOMG answer, BLD and BST move tiles. Where
the spec leaves a point open it follows logs 30, 31, 79, 130. -/
def Obligations.GeometryAndTileTransfers : Prop :=
  Sys2Proof.Claim.GeomPlacesTiles ∧ Sys2Proof.Claim.GeomgSearchesGroups ∧ Sys2Proof.Claim.TileLoadsAndStoresBegin ∧ Sys2Proof.Claim.TilesAreRead ∧ Sys2Proof.Claim.TileLoadsFill

/-- R23, R71, R87, R260, R262, R263, R265, R340. BROT, BSWAP and the deliveries of the ring. Where the spec leaves a point
open it follows log 131. -/
def Obligations.CarouselMovesTiles : Prop :=
  Sys2Proof.Claim.BrotSendsAround ∧ Sys2Proof.Claim.BswapExchangesLatches ∧ Sys2Proof.Claim.RingDeliveries ∧ Sys2Proof.Claim.TilesLand

/-- R274, R279, R285, R291, R293, R294, R295, R297, R298, R299, R300, R301. Node commands are applied whole at their home,
and nodes are allocated. Where the spec leaves a point open it follows logs 79, 112, 147, 148. -/
def Obligations.NodeCommandsAreApplied : Prop :=
  Sys2Proof.Claim.NodeCommandsAreApplied ∧ Sys2Proof.Claim.BadHandlesAreRefused ∧ Sys2Proof.Claim.NodesAreAllocated

/-- R9, R273, R275, R276, R277, R280, R281, R282, R283, R294, R295, R297. Pools and nodes are laid out as the tables say,
selection takes the best edge by the rules of eligibility and score, isqrt is the root, and the node rules hold. -/
def Obligations.NodeSelectionIsRight : Prop :=
  Sys2Proof.Claim.NodeBytesAreRight ∧ Sys2Proof.Claim.SelectionIsBestEdge ∧ Sys2Proof.Claim.IsqrtIsTheRoot ∧ Sys2Proof.Claim.NodeRules

/-- R320, R328, R330, R331, R332, R333, R386. Near-memory blocks are sent and taken by their streams. Where the spec leaves a
point open it follows logs 50, 54. -/
def Obligations.BlocksReachTheirStreams : Prop :=
  Sys2Proof.Claim.BlocksAreSent ∧ Sys2Proof.Claim.StreamsTakeBlocks

/-- R319, R321, R322, R323, R324, R327, R328, R403, R411. FILL, GATH and IRED are checked, charged and have their effect.
Where the spec leaves a point open it follows logs 79, 104, 123, 124, 149. -/
def Obligations.UnitCommandsRun : Prop :=
  Sys2Proof.Claim.CommandsRun ∧ Sys2Proof.Claim.CommandsAreRejected

/-- R320, R321, R325, R326, R327, R328, R332, R403, R411. Overlays run, limits end them, and blocks send their completion
words. Where the spec leaves a point open it follows logs 19, 20, 54, 136. -/
def Obligations.OverlaysAndBlocksEnd : Prop :=
  Sys2Proof.Claim.OverlaysLoadAndRun ∧ Sys2Proof.Claim.UnitLimits ∧ Sys2Proof.Claim.CompletionWordsAreSent

/-- R111, R115, R116, R117, R119, R211, R388, R392, R397, R400, R401. Stamps follow each other, buffers drain, routers
forward in stamp order under watermarks, and atomics become reductions. Where the spec leaves a point open it follows logs
12, 18, 57, 76, 120. -/
def Obligations.StampsAndRouters : Prop :=
  Sys2Proof.Claim.StampsFollowEachOther ∧ Sys2Proof.Claim.BufferedStoresLeaveInOrder ∧ Sys2Proof.Claim.RoutersForwardInStampOrder ∧ Sys2Proof.Claim.AtomicsBecomeReductions ∧ Sys2Proof.Claim.LanternsRaiseWatermarks ∧ Sys2Proof.Claim.StalledWatermarksAreReported

/-- R109, R122, R128, R216, R341, R402, R403. Homes perform loads, stores and atomics, and channels serve within shares.
Where the spec leaves a point open it follows logs 74, 79. -/
def Obligations.HomesPerformAccesses : Prop :=
  Sys2Proof.Claim.StoresArePerformed ∧ Sys2Proof.Claim.LoadsArePerformed ∧ Sys2Proof.Claim.AtomicsAtTheirHome ∧ Sys2Proof.Claim.ChannelsServeWithinShares

/-- R57, R102, R103, R104, R111, R214, R365, R366, R372, R389, R301, R403. Replies write their destinations and count down;
refusals fault, that of an aborted DET thread by the model's reading (log 129); walks fill the caches. Where the spec leaves
a point open it follows logs 11, 115, 129. -/
def Obligations.RepliesComeBack : Prop :=
  Sys2Proof.Claim.RepliesComplete ∧ Sys2Proof.Claim.RepliesPushPorts ∧ Sys2Proof.Claim.NegativeRepliesFault ∧ Sys2Proof.Claim.TableWalks

/-- R31, R114, R118, R122, R218, R290, R334, R363, R364, R392, R401, R403. Held accesses are accepted and applied, and fabric
groups count arrivals. Where the spec leaves a point open it follows logs 57, 76, 79, 142. -/
def Obligations.HeldAccessesAndFabricGroups : Prop :=
  Sys2Proof.Claim.HeldAccessesAreAccepted ∧ Sys2Proof.Claim.HeldAccessesAreApplied ∧ Sys2Proof.Claim.FabricGroups

/-- R23, R105, R339, R340, R341, R343, R351, R352. ECALL, EBREAK, HALT, WFE and TRET. Where the spec leaves a point open it
follows log 109. -/
def Obligations.CallsHaltsAndReturns : Prop :=
  Sys2Proof.Claim.CallsStopTheThread ∧ Sys2Proof.Claim.HaltAndWfe ∧ Sys2Proof.Claim.TretReturns

/-- R25, R60, R61, R62, R63, R158, R344, R345, R346, R352. The CSR instructions, SETE, GETE and RAND. -/
def Obligations.SpecialRegistersAndRand : Prop :=
  Sys2Proof.Claim.CsrAccesses ∧ Sys2Proof.Claim.OperandExtensionMoves ∧ Sys2Proof.Claim.RandWritesItsWord

/-- R27, R39, R40, R41, R42, R43, R45, R46, R351, R375. Fault records, reapers, notices and aborts. Where the spec leaves a
point open it follows logs 77, 78, 110, 116. -/
def Obligations.FaultsAreRecordedAndReported : Prop :=
  Sys2Proof.Claim.FaultRecordsAreWritten ∧ Sys2Proof.Claim.RepliesAreCaptured ∧ Sys2Proof.Claim.ReapersStart ∧ Sys2Proof.Claim.NoticesAreAppended ∧ Sys2Proof.Claim.SupervisorAborts

/-- R16, R19, R49, R50, R341. Port words arrive, long waits trap, and cores take turns. Where the spec leaves a point open it
follows log 107. -/
def Obligations.PortsWaitsAndTurns : Prop :=
  Sys2Proof.Claim.PortWordsArrive ∧ Sys2Proof.Claim.LongWaitsTrap ∧ Sys2Proof.Claim.CoresTakeTurns

/-- R13, R14, R15, R358, R359, R360, R362. Launches are placed in order and released. Where the spec leaves a point open it
follows logs 135, 152, 153. -/
def Obligations.LaunchesArePlacedAndReleased : Prop :=
  Sys2Proof.Claim.LaunchesArePlaced ∧ Sys2Proof.Claim.LaunchesAreReleased

/-- R99, R336, R337, R338, R376, R377. KICK starts a Porter; RESUME and KILL command a stopped thread. Where the spec leaves
a point open it follows logs 113, 128. -/
def Obligations.PortersAndStoppedThreads : Prop :=
  Sys2Proof.Claim.KicksStartPorters ∧ Sys2Proof.Claim.StoppedThreadsAreCommanded

/-- R370, R376, R380, R381, R382, R383, R384, R385, R386, R387. Threads and channel units are saved and restored; guestbooks
take stores. Where the spec leaves a point open it follows logs 58, 128, 137. -/
def Obligations.ContextsAreSavedAndRestored : Prop :=
  Sys2Proof.Claim.ThreadsAreSaved ∧ Sys2Proof.Claim.ThreadsAreRestored ∧ Sys2Proof.Claim.GuestbooksTakeStores ∧ Sys2Proof.Claim.UnitsAreSavedAndRestored

/-- R336, R366, R369, R370, R373, R376, R388, R395, R399. Control-page registers, invalidations and exclusions. Where the
spec leaves a point open it follows logs 68, 82, 83. -/
def Obligations.ControlPagesAreWritten : Prop :=
  Sys2Proof.Claim.RegistersAreWritten ∧ Sys2Proof.Claim.InvalidationsDropEntries ∧ Sys2Proof.Claim.ExclusionsAreMade

/-- R118, R389, R390, R392, R398, R399, R409. Scrubbing, machine checks and fabric ports. Where the spec leaves a point open
it follows log 86. -/
def Obligations.ErrorsAndPorts : Prop :=
  Sys2Proof.Claim.ScrubbingCorrects ∧ Sys2Proof.Claim.MachineChecksFailTheModule ∧ Sys2Proof.Claim.PortsGoDownAndUp

/-- R112, R130, R364, R393, R394, R395, R396, R399, R401. Fabric requests are checked, time is kept, reductions are applied.
Where the spec leaves a point open it follows logs 87, 88, 91. -/
def Obligations.FabricTimeAndReductions : Prop :=
  Sys2Proof.Claim.FabricRequestsAreChecked ∧ Sys2Proof.Claim.TimeIsKept ∧ Sys2Proof.Claim.ReductionsAreApplied

/-- R395, R404, R405, R406, R407, R408, R412. Images are checked, and quotes are written. Where the spec leaves a point open
it follows log 10. -/
def Obligations.ImagesAndQuotes : Prop :=
  Sys2Proof.Claim.ImagesAreChecked ∧ Sys2Proof.Claim.QuotesAreWritten

/-- R5, R404, R406, R409. Reset starts over and boots; power is lost. -/
def Obligations.ResetAndPower : Prop :=
  Sys2Proof.Claim.ResetStartsOver ∧ Sys2Proof.Claim.PowerIsLost

/-- R98, R131, R158, R159, R366, R378, R379, R403. A step runs the decoded instruction of the hart the agenda or last turn
gives (our choice, log 1); a remote fetch with no port up waits (log 76). Where the spec leaves a point open it follows logs
1, 76. -/
def Obligations.StepRunsDecoded : Prop :=
  Sys2Proof.Claim.StepRunsDecodedWord ∧ Sys2Proof.Claim.FetchReadsMemory

/-- R39, R158, R159, R404. With power, every step has a next state; reset's memory is canonical and zero. -/
def Obligations.StepsNeverStop : Prop :=
  Sys2Proof.Claim.StepsAlwaysGoOn ∧ Sys2Proof.Claim.ResetMemoryIsCanonical
end

