-- ==== Sys2Proof/Laws/Memory.lean ====
section
/-! SUPPORT. Every memory operation keeps the canonical form, and what a byte reads as after each of them. -/

namespace Sys2Proof.Machine

/-- A lower bound may be lowered. -/
theorem Memory.wfFrom_le {lo lo' : Nat} (h : lo' ≤ lo) : ∀ m, Memory.wfFrom lo m = true → Memory.wfFrom lo' m = true
  | [], _ => rfl
  | (k, b) :: r, w => by
    simp only [Memory.wfFrom, Bool.and_eq_true, decide_eq_true_eq] at w ⊢
    exact ⟨⟨by omega, w.1.2⟩, w.2⟩

/-- Below the bound nothing is listed. -/
theorem Memory.read_below : ∀ {lo : Nat} (m : List Host.Cell) {a : Nat}, Memory.wfFrom lo m = true → a < lo → Memory.read m a = unlisted
  | _, [], _, _, _ => rfl
  | lo, (k, b) :: r, a, w, h => by
    simp only [Memory.wfFrom, Bool.and_eq_true, decide_eq_true_eq] at w
    simp [Memory.read, show ¬ k = a by omega, show a < k by omega]

theorem Memory.wfFrom_put {lo a : Nat} {b : Byte} {r : List Host.Cell} (h : lo ≤ a) (w : Memory.wfFrom (a + 1) r = true) :
    Memory.wfFrom lo (Memory.put a b r) = true := by
  unfold Memory.put
  split
  · exact Memory.wfFrom_le (by omega) r w
  · next hb => simp [Memory.wfFrom, h, hb, w]

theorem Memory.wfFrom_write {a : Nat} {b : Byte} :
    ∀ {lo : Nat} (m : List Host.Cell), Memory.wfFrom lo m = true → lo ≤ a → Memory.wfFrom lo (Memory.write a b m) = true
  | _, [], _, h => Memory.wfFrom_put h rfl
  | lo, (k, c) :: r, w, h => by
    have w' := w
    simp only [Memory.wfFrom, Bool.and_eq_true, decide_eq_true_eq] at w'
    unfold Memory.write
    split
    · refine Memory.wfFrom_put h ?_
      simp [Memory.wfFrom, w'.1.2, w'.2]; omega
    · split
      · next e => subst e; exact Memory.wfFrom_put h w'.2
      · simp only [Memory.wfFrom, Bool.and_eq_true, decide_eq_true_eq]
        exact ⟨w'.1, Memory.wfFrom_write r w'.2 (by omega)⟩

/-- Writing a byte keeps the canonical form. -/
theorem Memory.wf_write {m : List Host.Cell} (w : Memory.wf m = true) (a : Nat) (b : Byte) : Memory.wf (Memory.write a b m) = true :=
  Memory.wfFrom_write m w (Nat.zero_le a)

/-- Writing bytes keeps the canonical form. -/
theorem Memory.wf_writeN : ∀ (bs : List (Option Byte)) {m : List Host.Cell} (a : Nat), Memory.wf m = true → Memory.wf (Memory.writeN m a bs) = true
  | [], _, _, w => w
  | none :: r, _, a, w => Memory.wf_writeN r (a + 1) w
  | some b :: r, _, a, w => Memory.wf_writeN r (a + 1) (Memory.wf_write w a b)

theorem Memory.wfFrom_filter (p : Host.Cell → Bool) : ∀ {lo : Nat} (m : List Host.Cell), Memory.wfFrom lo m = true → Memory.wfFrom lo (m.filter p) = true
  | _, [], _ => rfl
  | lo, (k, b) :: r, w => by
    simp only [Memory.wfFrom, Bool.and_eq_true, decide_eq_true_eq] at w
    by_cases h : p (k, b) = true
    · simp [h, Memory.wfFrom, w.1, Memory.wfFrom_filter p r w.2]
    · simp [h]; exact Memory.wfFrom_le (by omega) _ (Memory.wfFrom_filter p r w.2)

/-- Clearing a range keeps the canonical form. -/
theorem Memory.wf_clear {m : List Host.Cell} (w : Memory.wf m = true) (a n : Nat) : Memory.wf (Memory.clear m a n) = true :=
  Memory.wfFrom_filter _ m w

/-- The memory at reset is in canonical form. -/
theorem State.reset_mem_wf : Memory.wf State.reset.mem = true := rfl

/-! ### What a byte reads as -/

theorem Memory.read_put {a x : Nat} {b : Byte} {r : List Host.Cell} (w : Memory.wfFrom (a + 1) r = true) :
    Memory.read (Memory.put a b r) x = if x = a then b else if x < a then unlisted else Memory.read r x := by
  unfold Memory.put
  split
  · next h =>
    split
    · next e => rw [h, Memory.read_below r w (by omega)]
    · split
      · exact Memory.read_below r w (by omega)
      · rfl
  · by_cases e : x = a
    · simp [Memory.read, e]
    · simp [Memory.read, e, show ¬ a = x by omega]

theorem Memory.read_write' {a x : Nat} {b : Byte} :
    ∀ {lo : Nat} (m : List Host.Cell), Memory.wfFrom lo m = true → Memory.read (Memory.write a b m) x = if x = a then b else Memory.read m x
  | _, [], _ => by
    rw [Memory.write, Memory.read_put rfl]; simp [Memory.read]
  | lo, (k, c) :: r, w => by
    have w' := w
    simp only [Memory.wfFrom, Bool.and_eq_true, decide_eq_true_eq] at w'
    unfold Memory.write
    split
    · next h =>
      rw [Memory.read_put (by simp [Memory.wfFrom, w'.1.2, w'.2]; omega)]
      by_cases e : x = a
      · simp [e]
      · by_cases l : x < a
        · simp [e, l, Memory.read, show ¬ k = x by omega, show x < k by omega]
        · simp [e, l]
    · split
      · next h =>
        subst h
        rw [Memory.read_put w'.2]
        by_cases e : x = a
        · simp [e]
        · simp [e, Memory.read, show ¬ a = x by omega]
      · next h h' =>
        simp only [Memory.read]
        by_cases e : k = x
        · simp [e, show ¬ x = a by omega]
        · by_cases l : x < k
          · simp [e, l, show ¬ x = a by omega]
          · simp only [e, l, if_false]
            exact Memory.read_write' r w'.2

/-- A byte after one byte was written. -/
theorem Memory.read_write {m : List Host.Cell} (w : Memory.wf m = true) (a x : Nat) (b : Byte) :
    Memory.read (Memory.write a b m) x = if x = a then b else Memory.read m x :=
  Memory.read_write' m w

/-- A byte after bytes were written upward from an address: outside the range, or where no byte is given, it stays. -/
theorem Memory.read_writeN : ∀ (bs : List (Option Byte)) {m : List Host.Cell} (a x : Nat), Memory.wf m = true →
    Memory.read (Memory.writeN m a bs) x = if a ≤ x then (bs.getD (x - a) none).getD (Memory.read m x) else Memory.read m x
  | [], m, a, x, _ => by simp [Memory.writeN]
  | o :: r, m, a, x, w => by
    have step : ∀ (m' : List Host.Cell), Memory.wf m' = true → (∀ y, y ≠ a → Memory.read m' y = Memory.read m y) →
        Memory.read m' a = o.getD (Memory.read m a) →
        Memory.read (Memory.writeN m' (a + 1) r) x = if a ≤ x then ((o :: r).getD (x - a) none).getD (Memory.read m x) else Memory.read m x := by
      intro m' w' h1 h2
      rw [Memory.read_writeN r (a + 1) x w']
      by_cases e : x = a
      · subst e; simp [h2]
      · by_cases l : a ≤ x
        · obtain ⟨d, hd⟩ : ∃ d, x - a = d + 1 := ⟨x - a - 1, by omega⟩
          simp [l, show a + 1 ≤ x by omega, h1 x e, hd, show x - (a + 1) = d by omega]
        · simp [l, show ¬ a + 1 ≤ x by omega, h1 x e]
    cases o with
    | none => exact step m w (fun _ _ => rfl) rfl
    | some b =>
      refine step _ (Memory.wf_write w a b) (fun y hy => ?_) ?_
      · rw [Memory.read_write w]; simp [hy]
      · rw [Memory.read_write w]; simp

/-- Outside the written range every byte stays. -/
theorem Memory.read_writeN_outside {m : List Host.Cell} (w : Memory.wf m = true) (bs : List (Option Byte)) {a x : Nat}
    (h : x < a ∨ a + bs.length ≤ x) : Memory.read (Memory.writeN m a bs) x = Memory.read m x := by
  rw [Memory.read_writeN bs a x w]
  split
  · rw [List.getD_eq_default _ _ (by omega)]; rfl
  · rfl

/-! ### The state's memory operations -/

theorem State.poke_wf {s : State} (w : Memory.wf s.mem = true) (key : Nat) (bs : List (Option Byte)) :
    Memory.wf (s.poke key bs).mem = true := Memory.wf_writeN bs key w

theorem State.pokeBytes_wf {s : State} (w : Memory.wf s.mem = true) (key : Nat) (bs : List Byte) :
    Memory.wf (s.pokeBytes key bs).mem = true := Memory.wf_writeN _ key w

theorem State.wipe_wf {s : State} (w : Memory.wf s.mem = true) (key n : Nat) : Memory.wf (s.wipe key n).mem = true :=
  Memory.wf_clear w key n

end Sys2Proof.Machine
end

