-- ==== Sys2Proof/Laws/State.lean ====
section
/-! SUPPORT. What each update of the state leaves as it was: one lemma per field per update, so that no later proof
unfolds a record update. -/

namespace Sys2Proof.Machine

/-! ### The issuing hart changes -/

@[simp] theorem State.mapFocus_parked (s : State) (f : Thread → Thread) : (s.mapFocus f).parked = s.parked := rfl
@[simp] theorem State.mapFocus_evicted (s : State) (f : Thread → Thread) : (s.mapFocus f).evicted = s.evicted := rfl
@[simp] theorem State.mapFocus_mem (s : State) (f : Thread → Thread) : (s.mapFocus f).mem = s.mem := rfl
@[simp] theorem State.mapFocus_ecc (s : State) (f : Thread → Thread) : (s.mapFocus f).ecc = s.ecc := rfl
@[simp] theorem State.mapFocus_injectors (s : State) (f : Thread → Thread) : (s.mapFocus f).injectors = s.injectors := rfl
@[simp] theorem State.mapFocus_buffers (s : State) (f : Thread → Thread) : (s.mapFocus f).buffers = s.buffers := rfl
@[simp] theorem State.mapFocus_streaks (s : State) (f : Thread → Thread) : (s.mapFocus f).streaks = s.streaks := rfl
@[simp] theorem State.mapFocus_net (s : State) (f : Thread → Thread) : (s.mapFocus f).net = s.net := rfl
@[simp] theorem State.mapFocus_copies (s : State) (f : Thread → Thread) : (s.mapFocus f).copies = s.copies := rfl
@[simp] theorem State.mapFocus_blds (s : State) (f : Thread → Thread) : (s.mapFocus f).blds = s.blds := rfl
@[simp] theorem State.mapFocus_strided (s : State) (f : Thread → Thread) : (s.mapFocus f).strided = s.strided := rfl
@[simp] theorem State.mapFocus_ports (s : State) (f : Thread → Thread) : (s.mapFocus f).ports = s.ports := rfl
@[simp] theorem State.mapFocus_tlb (s : State) (f : Thread → Thread) : (s.mapFocus f).tlb = s.tlb := rfl
@[simp] theorem State.mapFocus_icache (s : State) (f : Thread → Thread) : (s.mapFocus f).icache = s.icache := rfl
@[simp] theorem State.mapFocus_units (s : State) (f : Thread → Thread) : (s.mapFocus f).units = s.units := rfl
@[simp] theorem State.mapFocus_launches (s : State) (f : Thread → Thread) : (s.mapFocus f).launches = s.launches := rfl
@[simp] theorem State.mapFocus_seqNo (s : State) (f : Thread → Thread) : (s.mapFocus f).seqNo = s.seqNo := rfl
@[simp] theorem State.mapFocus_clear (s : State) (f : Thread → Thread) : (s.mapFocus f).clear = s.clear := rfl
@[simp] theorem State.mapFocus_holders (s : State) (f : Thread → Thread) : (s.mapFocus f).holders = s.holders := rfl
@[simp] theorem State.mapFocus_troupes (s : State) (f : Thread → Thread) : (s.mapFocus f).troupes = s.troupes := rfl
@[simp] theorem State.mapFocus_fbRounds (s : State) (f : Thread → Thread) : (s.mapFocus f).fbRounds = s.fbRounds := rfl
@[simp] theorem State.mapFocus_fbCloses (s : State) (f : Thread → Thread) : (s.mapFocus f).fbCloses = s.fbCloses := rfl
@[simp] theorem State.mapFocus_rounds (s : State) (f : Thread → Thread) : (s.mapFocus f).rounds = s.rounds := rfl
@[simp] theorem State.mapFocus_mc (s : State) (f : Thread → Thread) : (s.mapFocus f).mc = s.mc := rfl
@[simp] theorem State.mapFocus_dies (s : State) (f : Thread → Thread) : (s.mapFocus f).dies = s.dies := rfl
@[simp] theorem State.mapFocus_clk (s : State) (f : Thread → Thread) : (s.mapFocus f).clk = s.clk := rfl
@[simp] theorem State.mapFocus_now (s : State) (f : Thread → Thread) : (s.mapFocus f).now = s.now := rfl
@[simp] theorem State.mapFocus_blades (s : State) (f : Thread → Thread) : (s.mapFocus f).blades = s.blades := rfl
@[simp] theorem State.mapFocus_off (s : State) (f : Thread → Thread) : (s.mapFocus f).off = s.off := rfl
@[simp] theorem State.mapFocus_failed (s : State) (f : Thread → Thread) : (s.mapFocus f).failed = s.failed := rfl
@[simp] theorem State.mapFocus_agenda (s : State) (f : Thread → Thread) : (s.mapFocus f).agenda = s.agenda := rfl
@[simp] theorem State.mapFocus_delays (s : State) (f : Thread → Thread) : (s.mapFocus f).delays = s.delays := rfl
@[simp] theorem State.mapFocus_nextId (s : State) (f : Thread → Thread) : (s.mapFocus f).nextId = s.nextId := rfl

@[simp] theorem State.mapFocus_focus (s : State) (f : Thread → Thread) : (s.mapFocus f).focus = f s.focus := rfl

/-! ### One hart changes -/

@[simp] theorem State.setHart_evicted (s : State) (t : Thread) : (s.setHart t).evicted = s.evicted := by unfold State.setHart; split <;> rfl
@[simp] theorem State.setHart_mem (s : State) (t : Thread) : (s.setHart t).mem = s.mem := by unfold State.setHart; split <;> rfl
@[simp] theorem State.setHart_ecc (s : State) (t : Thread) : (s.setHart t).ecc = s.ecc := by unfold State.setHart; split <;> rfl
@[simp] theorem State.setHart_injectors (s : State) (t : Thread) : (s.setHart t).injectors = s.injectors := by unfold State.setHart; split <;> rfl
@[simp] theorem State.setHart_buffers (s : State) (t : Thread) : (s.setHart t).buffers = s.buffers := by unfold State.setHart; split <;> rfl
@[simp] theorem State.setHart_streaks (s : State) (t : Thread) : (s.setHart t).streaks = s.streaks := by unfold State.setHart; split <;> rfl
@[simp] theorem State.setHart_net (s : State) (t : Thread) : (s.setHart t).net = s.net := by unfold State.setHart; split <;> rfl
@[simp] theorem State.setHart_copies (s : State) (t : Thread) : (s.setHart t).copies = s.copies := by unfold State.setHart; split <;> rfl
@[simp] theorem State.setHart_blds (s : State) (t : Thread) : (s.setHart t).blds = s.blds := by unfold State.setHart; split <;> rfl
@[simp] theorem State.setHart_strided (s : State) (t : Thread) : (s.setHart t).strided = s.strided := by unfold State.setHart; split <;> rfl
@[simp] theorem State.setHart_ports (s : State) (t : Thread) : (s.setHart t).ports = s.ports := by unfold State.setHart; split <;> rfl
@[simp] theorem State.setHart_tlb (s : State) (t : Thread) : (s.setHart t).tlb = s.tlb := by unfold State.setHart; split <;> rfl
@[simp] theorem State.setHart_icache (s : State) (t : Thread) : (s.setHart t).icache = s.icache := by unfold State.setHart; split <;> rfl
@[simp] theorem State.setHart_units (s : State) (t : Thread) : (s.setHart t).units = s.units := by unfold State.setHart; split <;> rfl
@[simp] theorem State.setHart_launches (s : State) (t : Thread) : (s.setHart t).launches = s.launches := by unfold State.setHart; split <;> rfl
@[simp] theorem State.setHart_seqNo (s : State) (t : Thread) : (s.setHart t).seqNo = s.seqNo := by unfold State.setHart; split <;> rfl
@[simp] theorem State.setHart_clear (s : State) (t : Thread) : (s.setHart t).clear = s.clear := by unfold State.setHart; split <;> rfl
@[simp] theorem State.setHart_holders (s : State) (t : Thread) : (s.setHart t).holders = s.holders := by unfold State.setHart; split <;> rfl
@[simp] theorem State.setHart_troupes (s : State) (t : Thread) : (s.setHart t).troupes = s.troupes := by unfold State.setHart; split <;> rfl
@[simp] theorem State.setHart_fbRounds (s : State) (t : Thread) : (s.setHart t).fbRounds = s.fbRounds := by unfold State.setHart; split <;> rfl
@[simp] theorem State.setHart_fbCloses (s : State) (t : Thread) : (s.setHart t).fbCloses = s.fbCloses := by unfold State.setHart; split <;> rfl
@[simp] theorem State.setHart_rounds (s : State) (t : Thread) : (s.setHart t).rounds = s.rounds := by unfold State.setHart; split <;> rfl
@[simp] theorem State.setHart_mc (s : State) (t : Thread) : (s.setHart t).mc = s.mc := by unfold State.setHart; split <;> rfl
@[simp] theorem State.setHart_dies (s : State) (t : Thread) : (s.setHart t).dies = s.dies := by unfold State.setHart; split <;> rfl
@[simp] theorem State.setHart_clk (s : State) (t : Thread) : (s.setHart t).clk = s.clk := by unfold State.setHart; split <;> rfl
@[simp] theorem State.setHart_now (s : State) (t : Thread) : (s.setHart t).now = s.now := by unfold State.setHart; split <;> rfl
@[simp] theorem State.setHart_blades (s : State) (t : Thread) : (s.setHart t).blades = s.blades := by unfold State.setHart; split <;> rfl
@[simp] theorem State.setHart_off (s : State) (t : Thread) : (s.setHart t).off = s.off := by unfold State.setHart; split <;> rfl
@[simp] theorem State.setHart_failed (s : State) (t : Thread) : (s.setHart t).failed = s.failed := by unfold State.setHart; split <;> rfl
@[simp] theorem State.setHart_agenda (s : State) (t : Thread) : (s.setHart t).agenda = s.agenda := by unfold State.setHart; split <;> rfl
@[simp] theorem State.setHart_delays (s : State) (t : Thread) : (s.setHart t).delays = s.delays := by unfold State.setHart; split <;> rfl
@[simp] theorem State.setHart_nextId (s : State) (t : Thread) : (s.setHart t).nextId = s.nextId := by unfold State.setHart; split <;> rfl

@[simp] theorem State.mapHart_evicted (s : State) (h : HartId) (f : Thread → Thread) : (s.mapHart h f).evicted = s.evicted := State.setHart_evicted s _
@[simp] theorem State.mapHart_mem (s : State) (h : HartId) (f : Thread → Thread) : (s.mapHart h f).mem = s.mem := State.setHart_mem s _
@[simp] theorem State.mapHart_ecc (s : State) (h : HartId) (f : Thread → Thread) : (s.mapHart h f).ecc = s.ecc := State.setHart_ecc s _
@[simp] theorem State.mapHart_injectors (s : State) (h : HartId) (f : Thread → Thread) : (s.mapHart h f).injectors = s.injectors := State.setHart_injectors s _
@[simp] theorem State.mapHart_buffers (s : State) (h : HartId) (f : Thread → Thread) : (s.mapHart h f).buffers = s.buffers := State.setHart_buffers s _
@[simp] theorem State.mapHart_streaks (s : State) (h : HartId) (f : Thread → Thread) : (s.mapHart h f).streaks = s.streaks := State.setHart_streaks s _
@[simp] theorem State.mapHart_net (s : State) (h : HartId) (f : Thread → Thread) : (s.mapHart h f).net = s.net := State.setHart_net s _
@[simp] theorem State.mapHart_copies (s : State) (h : HartId) (f : Thread → Thread) : (s.mapHart h f).copies = s.copies := State.setHart_copies s _
@[simp] theorem State.mapHart_blds (s : State) (h : HartId) (f : Thread → Thread) : (s.mapHart h f).blds = s.blds := State.setHart_blds s _
@[simp] theorem State.mapHart_strided (s : State) (h : HartId) (f : Thread → Thread) : (s.mapHart h f).strided = s.strided := State.setHart_strided s _
@[simp] theorem State.mapHart_ports (s : State) (h : HartId) (f : Thread → Thread) : (s.mapHart h f).ports = s.ports := State.setHart_ports s _
@[simp] theorem State.mapHart_tlb (s : State) (h : HartId) (f : Thread → Thread) : (s.mapHart h f).tlb = s.tlb := State.setHart_tlb s _
@[simp] theorem State.mapHart_icache (s : State) (h : HartId) (f : Thread → Thread) : (s.mapHart h f).icache = s.icache := State.setHart_icache s _
@[simp] theorem State.mapHart_units (s : State) (h : HartId) (f : Thread → Thread) : (s.mapHart h f).units = s.units := State.setHart_units s _
@[simp] theorem State.mapHart_launches (s : State) (h : HartId) (f : Thread → Thread) : (s.mapHart h f).launches = s.launches := State.setHart_launches s _
@[simp] theorem State.mapHart_seqNo (s : State) (h : HartId) (f : Thread → Thread) : (s.mapHart h f).seqNo = s.seqNo := State.setHart_seqNo s _
@[simp] theorem State.mapHart_clear (s : State) (h : HartId) (f : Thread → Thread) : (s.mapHart h f).clear = s.clear := State.setHart_clear s _
@[simp] theorem State.mapHart_holders (s : State) (h : HartId) (f : Thread → Thread) : (s.mapHart h f).holders = s.holders := State.setHart_holders s _
@[simp] theorem State.mapHart_troupes (s : State) (h : HartId) (f : Thread → Thread) : (s.mapHart h f).troupes = s.troupes := State.setHart_troupes s _
@[simp] theorem State.mapHart_fbRounds (s : State) (h : HartId) (f : Thread → Thread) : (s.mapHart h f).fbRounds = s.fbRounds := State.setHart_fbRounds s _
@[simp] theorem State.mapHart_fbCloses (s : State) (h : HartId) (f : Thread → Thread) : (s.mapHart h f).fbCloses = s.fbCloses := State.setHart_fbCloses s _
@[simp] theorem State.mapHart_rounds (s : State) (h : HartId) (f : Thread → Thread) : (s.mapHart h f).rounds = s.rounds := State.setHart_rounds s _
@[simp] theorem State.mapHart_mc (s : State) (h : HartId) (f : Thread → Thread) : (s.mapHart h f).mc = s.mc := State.setHart_mc s _
@[simp] theorem State.mapHart_dies (s : State) (h : HartId) (f : Thread → Thread) : (s.mapHart h f).dies = s.dies := State.setHart_dies s _
@[simp] theorem State.mapHart_clk (s : State) (h : HartId) (f : Thread → Thread) : (s.mapHart h f).clk = s.clk := State.setHart_clk s _
@[simp] theorem State.mapHart_now (s : State) (h : HartId) (f : Thread → Thread) : (s.mapHart h f).now = s.now := State.setHart_now s _
@[simp] theorem State.mapHart_blades (s : State) (h : HartId) (f : Thread → Thread) : (s.mapHart h f).blades = s.blades := State.setHart_blades s _
@[simp] theorem State.mapHart_off (s : State) (h : HartId) (f : Thread → Thread) : (s.mapHart h f).off = s.off := State.setHart_off s _
@[simp] theorem State.mapHart_failed (s : State) (h : HartId) (f : Thread → Thread) : (s.mapHart h f).failed = s.failed := State.setHart_failed s _
@[simp] theorem State.mapHart_agenda (s : State) (h : HartId) (f : Thread → Thread) : (s.mapHart h f).agenda = s.agenda := State.setHart_agenda s _
@[simp] theorem State.mapHart_delays (s : State) (h : HartId) (f : Thread → Thread) : (s.mapHart h f).delays = s.delays := State.setHart_delays s _
@[simp] theorem State.mapHart_nextId (s : State) (h : HartId) (f : Thread → Thread) : (s.mapHart h f).nextId = s.nextId := State.setHart_nextId s _

/-! ### Several harts change -/

@[simp] theorem State.mapHarts_evicted (s : State) (p : Thread → Bool) (f : Thread → Thread) : (s.mapHarts p f).evicted = s.evicted := rfl
@[simp] theorem State.mapHarts_mem (s : State) (p : Thread → Bool) (f : Thread → Thread) : (s.mapHarts p f).mem = s.mem := rfl
@[simp] theorem State.mapHarts_ecc (s : State) (p : Thread → Bool) (f : Thread → Thread) : (s.mapHarts p f).ecc = s.ecc := rfl
@[simp] theorem State.mapHarts_injectors (s : State) (p : Thread → Bool) (f : Thread → Thread) : (s.mapHarts p f).injectors = s.injectors := rfl
@[simp] theorem State.mapHarts_buffers (s : State) (p : Thread → Bool) (f : Thread → Thread) : (s.mapHarts p f).buffers = s.buffers := rfl
@[simp] theorem State.mapHarts_streaks (s : State) (p : Thread → Bool) (f : Thread → Thread) : (s.mapHarts p f).streaks = s.streaks := rfl
@[simp] theorem State.mapHarts_net (s : State) (p : Thread → Bool) (f : Thread → Thread) : (s.mapHarts p f).net = s.net := rfl
@[simp] theorem State.mapHarts_copies (s : State) (p : Thread → Bool) (f : Thread → Thread) : (s.mapHarts p f).copies = s.copies := rfl
@[simp] theorem State.mapHarts_blds (s : State) (p : Thread → Bool) (f : Thread → Thread) : (s.mapHarts p f).blds = s.blds := rfl
@[simp] theorem State.mapHarts_strided (s : State) (p : Thread → Bool) (f : Thread → Thread) : (s.mapHarts p f).strided = s.strided := rfl
@[simp] theorem State.mapHarts_ports (s : State) (p : Thread → Bool) (f : Thread → Thread) : (s.mapHarts p f).ports = s.ports := rfl
@[simp] theorem State.mapHarts_tlb (s : State) (p : Thread → Bool) (f : Thread → Thread) : (s.mapHarts p f).tlb = s.tlb := rfl
@[simp] theorem State.mapHarts_icache (s : State) (p : Thread → Bool) (f : Thread → Thread) : (s.mapHarts p f).icache = s.icache := rfl
@[simp] theorem State.mapHarts_units (s : State) (p : Thread → Bool) (f : Thread → Thread) : (s.mapHarts p f).units = s.units := rfl
@[simp] theorem State.mapHarts_launches (s : State) (p : Thread → Bool) (f : Thread → Thread) : (s.mapHarts p f).launches = s.launches := rfl
@[simp] theorem State.mapHarts_seqNo (s : State) (p : Thread → Bool) (f : Thread → Thread) : (s.mapHarts p f).seqNo = s.seqNo := rfl
@[simp] theorem State.mapHarts_clear (s : State) (p : Thread → Bool) (f : Thread → Thread) : (s.mapHarts p f).clear = s.clear := rfl
@[simp] theorem State.mapHarts_holders (s : State) (p : Thread → Bool) (f : Thread → Thread) : (s.mapHarts p f).holders = s.holders := rfl
@[simp] theorem State.mapHarts_troupes (s : State) (p : Thread → Bool) (f : Thread → Thread) : (s.mapHarts p f).troupes = s.troupes := rfl
@[simp] theorem State.mapHarts_fbRounds (s : State) (p : Thread → Bool) (f : Thread → Thread) : (s.mapHarts p f).fbRounds = s.fbRounds := rfl
@[simp] theorem State.mapHarts_fbCloses (s : State) (p : Thread → Bool) (f : Thread → Thread) : (s.mapHarts p f).fbCloses = s.fbCloses := rfl
@[simp] theorem State.mapHarts_rounds (s : State) (p : Thread → Bool) (f : Thread → Thread) : (s.mapHarts p f).rounds = s.rounds := rfl
@[simp] theorem State.mapHarts_mc (s : State) (p : Thread → Bool) (f : Thread → Thread) : (s.mapHarts p f).mc = s.mc := rfl
@[simp] theorem State.mapHarts_dies (s : State) (p : Thread → Bool) (f : Thread → Thread) : (s.mapHarts p f).dies = s.dies := rfl
@[simp] theorem State.mapHarts_clk (s : State) (p : Thread → Bool) (f : Thread → Thread) : (s.mapHarts p f).clk = s.clk := rfl
@[simp] theorem State.mapHarts_now (s : State) (p : Thread → Bool) (f : Thread → Thread) : (s.mapHarts p f).now = s.now := rfl
@[simp] theorem State.mapHarts_blades (s : State) (p : Thread → Bool) (f : Thread → Thread) : (s.mapHarts p f).blades = s.blades := rfl
@[simp] theorem State.mapHarts_off (s : State) (p : Thread → Bool) (f : Thread → Thread) : (s.mapHarts p f).off = s.off := rfl
@[simp] theorem State.mapHarts_failed (s : State) (p : Thread → Bool) (f : Thread → Thread) : (s.mapHarts p f).failed = s.failed := rfl
@[simp] theorem State.mapHarts_agenda (s : State) (p : Thread → Bool) (f : Thread → Thread) : (s.mapHarts p f).agenda = s.agenda := rfl
@[simp] theorem State.mapHarts_delays (s : State) (p : Thread → Bool) (f : Thread → Thread) : (s.mapHarts p f).delays = s.delays := rfl
@[simp] theorem State.mapHarts_nextId (s : State) (p : Thread → Bool) (f : Thread → Thread) : (s.mapHarts p f).nextId = s.nextId := rfl

/-! ### Another hart issues -/

@[simp] theorem State.focusOn_evicted (s : State) (h : HartId) : (s.focusOn h).evicted = s.evicted := by unfold State.focusOn; split <;> rfl
@[simp] theorem State.focusOn_mem (s : State) (h : HartId) : (s.focusOn h).mem = s.mem := by unfold State.focusOn; split <;> rfl
@[simp] theorem State.focusOn_ecc (s : State) (h : HartId) : (s.focusOn h).ecc = s.ecc := by unfold State.focusOn; split <;> rfl
@[simp] theorem State.focusOn_injectors (s : State) (h : HartId) : (s.focusOn h).injectors = s.injectors := by unfold State.focusOn; split <;> rfl
@[simp] theorem State.focusOn_buffers (s : State) (h : HartId) : (s.focusOn h).buffers = s.buffers := by unfold State.focusOn; split <;> rfl
@[simp] theorem State.focusOn_streaks (s : State) (h : HartId) : (s.focusOn h).streaks = s.streaks := by unfold State.focusOn; split <;> rfl
@[simp] theorem State.focusOn_net (s : State) (h : HartId) : (s.focusOn h).net = s.net := by unfold State.focusOn; split <;> rfl
@[simp] theorem State.focusOn_copies (s : State) (h : HartId) : (s.focusOn h).copies = s.copies := by unfold State.focusOn; split <;> rfl
@[simp] theorem State.focusOn_blds (s : State) (h : HartId) : (s.focusOn h).blds = s.blds := by unfold State.focusOn; split <;> rfl
@[simp] theorem State.focusOn_strided (s : State) (h : HartId) : (s.focusOn h).strided = s.strided := by unfold State.focusOn; split <;> rfl
@[simp] theorem State.focusOn_ports (s : State) (h : HartId) : (s.focusOn h).ports = s.ports := by unfold State.focusOn; split <;> rfl
@[simp] theorem State.focusOn_tlb (s : State) (h : HartId) : (s.focusOn h).tlb = s.tlb := by unfold State.focusOn; split <;> rfl
@[simp] theorem State.focusOn_icache (s : State) (h : HartId) : (s.focusOn h).icache = s.icache := by unfold State.focusOn; split <;> rfl
@[simp] theorem State.focusOn_units (s : State) (h : HartId) : (s.focusOn h).units = s.units := by unfold State.focusOn; split <;> rfl
@[simp] theorem State.focusOn_launches (s : State) (h : HartId) : (s.focusOn h).launches = s.launches := by unfold State.focusOn; split <;> rfl
@[simp] theorem State.focusOn_seqNo (s : State) (h : HartId) : (s.focusOn h).seqNo = s.seqNo := by unfold State.focusOn; split <;> rfl
@[simp] theorem State.focusOn_clear (s : State) (h : HartId) : (s.focusOn h).clear = s.clear := by unfold State.focusOn; split <;> rfl
@[simp] theorem State.focusOn_holders (s : State) (h : HartId) : (s.focusOn h).holders = s.holders := by unfold State.focusOn; split <;> rfl
@[simp] theorem State.focusOn_troupes (s : State) (h : HartId) : (s.focusOn h).troupes = s.troupes := by unfold State.focusOn; split <;> rfl
@[simp] theorem State.focusOn_fbRounds (s : State) (h : HartId) : (s.focusOn h).fbRounds = s.fbRounds := by unfold State.focusOn; split <;> rfl
@[simp] theorem State.focusOn_fbCloses (s : State) (h : HartId) : (s.focusOn h).fbCloses = s.fbCloses := by unfold State.focusOn; split <;> rfl
@[simp] theorem State.focusOn_rounds (s : State) (h : HartId) : (s.focusOn h).rounds = s.rounds := by unfold State.focusOn; split <;> rfl
@[simp] theorem State.focusOn_mc (s : State) (h : HartId) : (s.focusOn h).mc = s.mc := by unfold State.focusOn; split <;> rfl
@[simp] theorem State.focusOn_dies (s : State) (h : HartId) : (s.focusOn h).dies = s.dies := by unfold State.focusOn; split <;> rfl
@[simp] theorem State.focusOn_clk (s : State) (h : HartId) : (s.focusOn h).clk = s.clk := by unfold State.focusOn; split <;> rfl
@[simp] theorem State.focusOn_now (s : State) (h : HartId) : (s.focusOn h).now = s.now := by unfold State.focusOn; split <;> rfl
@[simp] theorem State.focusOn_blades (s : State) (h : HartId) : (s.focusOn h).blades = s.blades := by unfold State.focusOn; split <;> rfl
@[simp] theorem State.focusOn_off (s : State) (h : HartId) : (s.focusOn h).off = s.off := by unfold State.focusOn; split <;> rfl
@[simp] theorem State.focusOn_failed (s : State) (h : HartId) : (s.focusOn h).failed = s.failed := by unfold State.focusOn; split <;> rfl
@[simp] theorem State.focusOn_agenda (s : State) (h : HartId) : (s.focusOn h).agenda = s.agenda := by unfold State.focusOn; split <;> rfl
@[simp] theorem State.focusOn_delays (s : State) (h : HartId) : (s.focusOn h).delays = s.delays := by unfold State.focusOn; split <;> rfl
@[simp] theorem State.focusOn_nextId (s : State) (h : HartId) : (s.focusOn h).nextId = s.nextId := by unfold State.focusOn; split <;> rfl

/-! ### Memory changes -/

@[simp] theorem State.poke_focus (s : State) (key : Nat) (bs : List (Option Byte)) : (s.poke key bs).focus = s.focus := rfl
@[simp] theorem State.poke_parked (s : State) (key : Nat) (bs : List (Option Byte)) : (s.poke key bs).parked = s.parked := rfl
@[simp] theorem State.poke_evicted (s : State) (key : Nat) (bs : List (Option Byte)) : (s.poke key bs).evicted = s.evicted := rfl
@[simp] theorem State.poke_injectors (s : State) (key : Nat) (bs : List (Option Byte)) : (s.poke key bs).injectors = s.injectors := rfl
@[simp] theorem State.poke_buffers (s : State) (key : Nat) (bs : List (Option Byte)) : (s.poke key bs).buffers = s.buffers := rfl
@[simp] theorem State.poke_streaks (s : State) (key : Nat) (bs : List (Option Byte)) : (s.poke key bs).streaks = s.streaks := rfl
@[simp] theorem State.poke_net (s : State) (key : Nat) (bs : List (Option Byte)) : (s.poke key bs).net = s.net := rfl
@[simp] theorem State.poke_copies (s : State) (key : Nat) (bs : List (Option Byte)) : (s.poke key bs).copies = s.copies := rfl
@[simp] theorem State.poke_blds (s : State) (key : Nat) (bs : List (Option Byte)) : (s.poke key bs).blds = s.blds := rfl
@[simp] theorem State.poke_strided (s : State) (key : Nat) (bs : List (Option Byte)) : (s.poke key bs).strided = s.strided := rfl
@[simp] theorem State.poke_ports (s : State) (key : Nat) (bs : List (Option Byte)) : (s.poke key bs).ports = s.ports := rfl
@[simp] theorem State.poke_tlb (s : State) (key : Nat) (bs : List (Option Byte)) : (s.poke key bs).tlb = s.tlb := rfl
@[simp] theorem State.poke_icache (s : State) (key : Nat) (bs : List (Option Byte)) : (s.poke key bs).icache = s.icache := rfl
@[simp] theorem State.poke_units (s : State) (key : Nat) (bs : List (Option Byte)) : (s.poke key bs).units = s.units := rfl
@[simp] theorem State.poke_launches (s : State) (key : Nat) (bs : List (Option Byte)) : (s.poke key bs).launches = s.launches := rfl
@[simp] theorem State.poke_seqNo (s : State) (key : Nat) (bs : List (Option Byte)) : (s.poke key bs).seqNo = s.seqNo := rfl
@[simp] theorem State.poke_clear (s : State) (key : Nat) (bs : List (Option Byte)) : (s.poke key bs).clear = s.clear := rfl
@[simp] theorem State.poke_holders (s : State) (key : Nat) (bs : List (Option Byte)) : (s.poke key bs).holders = s.holders := rfl
@[simp] theorem State.poke_troupes (s : State) (key : Nat) (bs : List (Option Byte)) : (s.poke key bs).troupes = s.troupes := rfl
@[simp] theorem State.poke_fbRounds (s : State) (key : Nat) (bs : List (Option Byte)) : (s.poke key bs).fbRounds = s.fbRounds := rfl
@[simp] theorem State.poke_fbCloses (s : State) (key : Nat) (bs : List (Option Byte)) : (s.poke key bs).fbCloses = s.fbCloses := rfl
@[simp] theorem State.poke_rounds (s : State) (key : Nat) (bs : List (Option Byte)) : (s.poke key bs).rounds = s.rounds := rfl
@[simp] theorem State.poke_mc (s : State) (key : Nat) (bs : List (Option Byte)) : (s.poke key bs).mc = s.mc := rfl
@[simp] theorem State.poke_dies (s : State) (key : Nat) (bs : List (Option Byte)) : (s.poke key bs).dies = s.dies := rfl
@[simp] theorem State.poke_clk (s : State) (key : Nat) (bs : List (Option Byte)) : (s.poke key bs).clk = s.clk := rfl
@[simp] theorem State.poke_now (s : State) (key : Nat) (bs : List (Option Byte)) : (s.poke key bs).now = s.now := rfl
@[simp] theorem State.poke_blades (s : State) (key : Nat) (bs : List (Option Byte)) : (s.poke key bs).blades = s.blades := rfl
@[simp] theorem State.poke_off (s : State) (key : Nat) (bs : List (Option Byte)) : (s.poke key bs).off = s.off := rfl
@[simp] theorem State.poke_failed (s : State) (key : Nat) (bs : List (Option Byte)) : (s.poke key bs).failed = s.failed := rfl
@[simp] theorem State.poke_agenda (s : State) (key : Nat) (bs : List (Option Byte)) : (s.poke key bs).agenda = s.agenda := rfl
@[simp] theorem State.poke_delays (s : State) (key : Nat) (bs : List (Option Byte)) : (s.poke key bs).delays = s.delays := rfl
@[simp] theorem State.poke_nextId (s : State) (key : Nat) (bs : List (Option Byte)) : (s.poke key bs).nextId = s.nextId := rfl

@[simp] theorem State.poke_mem (s : State) (key : Nat) (bs : List (Option Byte)) : (s.poke key bs).mem = Memory.writeN s.mem key bs := rfl
@[simp] theorem State.pokeBytes_focus (s : State) (key : Nat) (bs : List Byte) : (s.pokeBytes key bs).focus = s.focus := rfl
@[simp] theorem State.pokeBytes_parked (s : State) (key : Nat) (bs : List Byte) : (s.pokeBytes key bs).parked = s.parked := rfl
@[simp] theorem State.pokeBytes_evicted (s : State) (key : Nat) (bs : List Byte) : (s.pokeBytes key bs).evicted = s.evicted := rfl
@[simp] theorem State.pokeBytes_injectors (s : State) (key : Nat) (bs : List Byte) : (s.pokeBytes key bs).injectors = s.injectors := rfl
@[simp] theorem State.pokeBytes_buffers (s : State) (key : Nat) (bs : List Byte) : (s.pokeBytes key bs).buffers = s.buffers := rfl
@[simp] theorem State.pokeBytes_streaks (s : State) (key : Nat) (bs : List Byte) : (s.pokeBytes key bs).streaks = s.streaks := rfl
@[simp] theorem State.pokeBytes_net (s : State) (key : Nat) (bs : List Byte) : (s.pokeBytes key bs).net = s.net := rfl
@[simp] theorem State.pokeBytes_copies (s : State) (key : Nat) (bs : List Byte) : (s.pokeBytes key bs).copies = s.copies := rfl
@[simp] theorem State.pokeBytes_blds (s : State) (key : Nat) (bs : List Byte) : (s.pokeBytes key bs).blds = s.blds := rfl
@[simp] theorem State.pokeBytes_strided (s : State) (key : Nat) (bs : List Byte) : (s.pokeBytes key bs).strided = s.strided := rfl
@[simp] theorem State.pokeBytes_ports (s : State) (key : Nat) (bs : List Byte) : (s.pokeBytes key bs).ports = s.ports := rfl
@[simp] theorem State.pokeBytes_tlb (s : State) (key : Nat) (bs : List Byte) : (s.pokeBytes key bs).tlb = s.tlb := rfl
@[simp] theorem State.pokeBytes_icache (s : State) (key : Nat) (bs : List Byte) : (s.pokeBytes key bs).icache = s.icache := rfl
@[simp] theorem State.pokeBytes_units (s : State) (key : Nat) (bs : List Byte) : (s.pokeBytes key bs).units = s.units := rfl
@[simp] theorem State.pokeBytes_launches (s : State) (key : Nat) (bs : List Byte) : (s.pokeBytes key bs).launches = s.launches := rfl
@[simp] theorem State.pokeBytes_seqNo (s : State) (key : Nat) (bs : List Byte) : (s.pokeBytes key bs).seqNo = s.seqNo := rfl
@[simp] theorem State.pokeBytes_clear (s : State) (key : Nat) (bs : List Byte) : (s.pokeBytes key bs).clear = s.clear := rfl
@[simp] theorem State.pokeBytes_holders (s : State) (key : Nat) (bs : List Byte) : (s.pokeBytes key bs).holders = s.holders := rfl
@[simp] theorem State.pokeBytes_troupes (s : State) (key : Nat) (bs : List Byte) : (s.pokeBytes key bs).troupes = s.troupes := rfl
@[simp] theorem State.pokeBytes_fbRounds (s : State) (key : Nat) (bs : List Byte) : (s.pokeBytes key bs).fbRounds = s.fbRounds := rfl
@[simp] theorem State.pokeBytes_fbCloses (s : State) (key : Nat) (bs : List Byte) : (s.pokeBytes key bs).fbCloses = s.fbCloses := rfl
@[simp] theorem State.pokeBytes_rounds (s : State) (key : Nat) (bs : List Byte) : (s.pokeBytes key bs).rounds = s.rounds := rfl
@[simp] theorem State.pokeBytes_mc (s : State) (key : Nat) (bs : List Byte) : (s.pokeBytes key bs).mc = s.mc := rfl
@[simp] theorem State.pokeBytes_dies (s : State) (key : Nat) (bs : List Byte) : (s.pokeBytes key bs).dies = s.dies := rfl
@[simp] theorem State.pokeBytes_clk (s : State) (key : Nat) (bs : List Byte) : (s.pokeBytes key bs).clk = s.clk := rfl
@[simp] theorem State.pokeBytes_now (s : State) (key : Nat) (bs : List Byte) : (s.pokeBytes key bs).now = s.now := rfl
@[simp] theorem State.pokeBytes_blades (s : State) (key : Nat) (bs : List Byte) : (s.pokeBytes key bs).blades = s.blades := rfl
@[simp] theorem State.pokeBytes_off (s : State) (key : Nat) (bs : List Byte) : (s.pokeBytes key bs).off = s.off := rfl
@[simp] theorem State.pokeBytes_failed (s : State) (key : Nat) (bs : List Byte) : (s.pokeBytes key bs).failed = s.failed := rfl
@[simp] theorem State.pokeBytes_agenda (s : State) (key : Nat) (bs : List Byte) : (s.pokeBytes key bs).agenda = s.agenda := rfl
@[simp] theorem State.pokeBytes_delays (s : State) (key : Nat) (bs : List Byte) : (s.pokeBytes key bs).delays = s.delays := rfl
@[simp] theorem State.pokeBytes_nextId (s : State) (key : Nat) (bs : List Byte) : (s.pokeBytes key bs).nextId = s.nextId := rfl

@[simp] theorem State.pokeBytes_mem (s : State) (key : Nat) (bs : List Byte) : (s.pokeBytes key bs).mem = Memory.writeN s.mem key (bs.map some) := rfl
@[simp] theorem State.wipe_focus (s : State) (key n : Nat) : (s.wipe key n).focus = s.focus := rfl
@[simp] theorem State.wipe_parked (s : State) (key n : Nat) : (s.wipe key n).parked = s.parked := rfl
@[simp] theorem State.wipe_evicted (s : State) (key n : Nat) : (s.wipe key n).evicted = s.evicted := rfl
@[simp] theorem State.wipe_injectors (s : State) (key n : Nat) : (s.wipe key n).injectors = s.injectors := rfl
@[simp] theorem State.wipe_buffers (s : State) (key n : Nat) : (s.wipe key n).buffers = s.buffers := rfl
@[simp] theorem State.wipe_streaks (s : State) (key n : Nat) : (s.wipe key n).streaks = s.streaks := rfl
@[simp] theorem State.wipe_net (s : State) (key n : Nat) : (s.wipe key n).net = s.net := rfl
@[simp] theorem State.wipe_copies (s : State) (key n : Nat) : (s.wipe key n).copies = s.copies := rfl
@[simp] theorem State.wipe_blds (s : State) (key n : Nat) : (s.wipe key n).blds = s.blds := rfl
@[simp] theorem State.wipe_strided (s : State) (key n : Nat) : (s.wipe key n).strided = s.strided := rfl
@[simp] theorem State.wipe_ports (s : State) (key n : Nat) : (s.wipe key n).ports = s.ports := rfl
@[simp] theorem State.wipe_tlb (s : State) (key n : Nat) : (s.wipe key n).tlb = s.tlb := rfl
@[simp] theorem State.wipe_icache (s : State) (key n : Nat) : (s.wipe key n).icache = s.icache := rfl
@[simp] theorem State.wipe_units (s : State) (key n : Nat) : (s.wipe key n).units = s.units := rfl
@[simp] theorem State.wipe_launches (s : State) (key n : Nat) : (s.wipe key n).launches = s.launches := rfl
@[simp] theorem State.wipe_seqNo (s : State) (key n : Nat) : (s.wipe key n).seqNo = s.seqNo := rfl
@[simp] theorem State.wipe_clear (s : State) (key n : Nat) : (s.wipe key n).clear = s.clear := rfl
@[simp] theorem State.wipe_holders (s : State) (key n : Nat) : (s.wipe key n).holders = s.holders := rfl
@[simp] theorem State.wipe_troupes (s : State) (key n : Nat) : (s.wipe key n).troupes = s.troupes := rfl
@[simp] theorem State.wipe_fbRounds (s : State) (key n : Nat) : (s.wipe key n).fbRounds = s.fbRounds := rfl
@[simp] theorem State.wipe_fbCloses (s : State) (key n : Nat) : (s.wipe key n).fbCloses = s.fbCloses := rfl
@[simp] theorem State.wipe_rounds (s : State) (key n : Nat) : (s.wipe key n).rounds = s.rounds := rfl
@[simp] theorem State.wipe_mc (s : State) (key n : Nat) : (s.wipe key n).mc = s.mc := rfl
@[simp] theorem State.wipe_dies (s : State) (key n : Nat) : (s.wipe key n).dies = s.dies := rfl
@[simp] theorem State.wipe_clk (s : State) (key n : Nat) : (s.wipe key n).clk = s.clk := rfl
@[simp] theorem State.wipe_now (s : State) (key n : Nat) : (s.wipe key n).now = s.now := rfl
@[simp] theorem State.wipe_blades (s : State) (key n : Nat) : (s.wipe key n).blades = s.blades := rfl
@[simp] theorem State.wipe_off (s : State) (key n : Nat) : (s.wipe key n).off = s.off := rfl
@[simp] theorem State.wipe_failed (s : State) (key n : Nat) : (s.wipe key n).failed = s.failed := rfl
@[simp] theorem State.wipe_agenda (s : State) (key n : Nat) : (s.wipe key n).agenda = s.agenda := rfl
@[simp] theorem State.wipe_delays (s : State) (key n : Nat) : (s.wipe key n).delays = s.delays := rfl
@[simp] theorem State.wipe_nextId (s : State) (key n : Nat) : (s.wipe key n).nextId = s.nextId := rfl

@[simp] theorem State.wipe_mem (s : State) (key n : Nat) : (s.wipe key n).mem = Memory.clear s.mem key n := rfl

/-! ### The network changes -/

@[simp] theorem State.drop_focus (s : State) (id : Nat) : (s.drop id).focus = s.focus := rfl
@[simp] theorem State.drop_parked (s : State) (id : Nat) : (s.drop id).parked = s.parked := rfl
@[simp] theorem State.drop_evicted (s : State) (id : Nat) : (s.drop id).evicted = s.evicted := rfl
@[simp] theorem State.drop_mem (s : State) (id : Nat) : (s.drop id).mem = s.mem := rfl
@[simp] theorem State.drop_ecc (s : State) (id : Nat) : (s.drop id).ecc = s.ecc := rfl
@[simp] theorem State.drop_injectors (s : State) (id : Nat) : (s.drop id).injectors = s.injectors := rfl
@[simp] theorem State.drop_buffers (s : State) (id : Nat) : (s.drop id).buffers = s.buffers := rfl
@[simp] theorem State.drop_streaks (s : State) (id : Nat) : (s.drop id).streaks = s.streaks := rfl
@[simp] theorem State.drop_copies (s : State) (id : Nat) : (s.drop id).copies = s.copies := rfl
@[simp] theorem State.drop_blds (s : State) (id : Nat) : (s.drop id).blds = s.blds := rfl
@[simp] theorem State.drop_strided (s : State) (id : Nat) : (s.drop id).strided = s.strided := rfl
@[simp] theorem State.drop_ports (s : State) (id : Nat) : (s.drop id).ports = s.ports := rfl
@[simp] theorem State.drop_tlb (s : State) (id : Nat) : (s.drop id).tlb = s.tlb := rfl
@[simp] theorem State.drop_icache (s : State) (id : Nat) : (s.drop id).icache = s.icache := rfl
@[simp] theorem State.drop_units (s : State) (id : Nat) : (s.drop id).units = s.units := rfl
@[simp] theorem State.drop_launches (s : State) (id : Nat) : (s.drop id).launches = s.launches := rfl
@[simp] theorem State.drop_seqNo (s : State) (id : Nat) : (s.drop id).seqNo = s.seqNo := rfl
@[simp] theorem State.drop_clear (s : State) (id : Nat) : (s.drop id).clear = s.clear := rfl
@[simp] theorem State.drop_holders (s : State) (id : Nat) : (s.drop id).holders = s.holders := rfl
@[simp] theorem State.drop_troupes (s : State) (id : Nat) : (s.drop id).troupes = s.troupes := rfl
@[simp] theorem State.drop_fbRounds (s : State) (id : Nat) : (s.drop id).fbRounds = s.fbRounds := rfl
@[simp] theorem State.drop_fbCloses (s : State) (id : Nat) : (s.drop id).fbCloses = s.fbCloses := rfl
@[simp] theorem State.drop_rounds (s : State) (id : Nat) : (s.drop id).rounds = s.rounds := rfl
@[simp] theorem State.drop_mc (s : State) (id : Nat) : (s.drop id).mc = s.mc := rfl
@[simp] theorem State.drop_dies (s : State) (id : Nat) : (s.drop id).dies = s.dies := rfl
@[simp] theorem State.drop_clk (s : State) (id : Nat) : (s.drop id).clk = s.clk := rfl
@[simp] theorem State.drop_now (s : State) (id : Nat) : (s.drop id).now = s.now := rfl
@[simp] theorem State.drop_blades (s : State) (id : Nat) : (s.drop id).blades = s.blades := rfl
@[simp] theorem State.drop_off (s : State) (id : Nat) : (s.drop id).off = s.off := rfl
@[simp] theorem State.drop_failed (s : State) (id : Nat) : (s.drop id).failed = s.failed := rfl
@[simp] theorem State.drop_agenda (s : State) (id : Nat) : (s.drop id).agenda = s.agenda := rfl
@[simp] theorem State.drop_delays (s : State) (id : Nat) : (s.drop id).delays = s.delays := rfl
@[simp] theorem State.drop_nextId (s : State) (id : Nat) : (s.drop id).nextId = s.nextId := rfl

@[simp] theorem State.putReq_focus (s : State) (r : Req) : (s.putReq r).focus = s.focus := rfl
@[simp] theorem State.putReq_parked (s : State) (r : Req) : (s.putReq r).parked = s.parked := rfl
@[simp] theorem State.putReq_evicted (s : State) (r : Req) : (s.putReq r).evicted = s.evicted := rfl
@[simp] theorem State.putReq_mem (s : State) (r : Req) : (s.putReq r).mem = s.mem := rfl
@[simp] theorem State.putReq_ecc (s : State) (r : Req) : (s.putReq r).ecc = s.ecc := rfl
@[simp] theorem State.putReq_injectors (s : State) (r : Req) : (s.putReq r).injectors = s.injectors := rfl
@[simp] theorem State.putReq_buffers (s : State) (r : Req) : (s.putReq r).buffers = s.buffers := rfl
@[simp] theorem State.putReq_streaks (s : State) (r : Req) : (s.putReq r).streaks = s.streaks := rfl
@[simp] theorem State.putReq_copies (s : State) (r : Req) : (s.putReq r).copies = s.copies := rfl
@[simp] theorem State.putReq_blds (s : State) (r : Req) : (s.putReq r).blds = s.blds := rfl
@[simp] theorem State.putReq_strided (s : State) (r : Req) : (s.putReq r).strided = s.strided := rfl
@[simp] theorem State.putReq_ports (s : State) (r : Req) : (s.putReq r).ports = s.ports := rfl
@[simp] theorem State.putReq_tlb (s : State) (r : Req) : (s.putReq r).tlb = s.tlb := rfl
@[simp] theorem State.putReq_icache (s : State) (r : Req) : (s.putReq r).icache = s.icache := rfl
@[simp] theorem State.putReq_units (s : State) (r : Req) : (s.putReq r).units = s.units := rfl
@[simp] theorem State.putReq_launches (s : State) (r : Req) : (s.putReq r).launches = s.launches := rfl
@[simp] theorem State.putReq_seqNo (s : State) (r : Req) : (s.putReq r).seqNo = s.seqNo := rfl
@[simp] theorem State.putReq_clear (s : State) (r : Req) : (s.putReq r).clear = s.clear := rfl
@[simp] theorem State.putReq_holders (s : State) (r : Req) : (s.putReq r).holders = s.holders := rfl
@[simp] theorem State.putReq_troupes (s : State) (r : Req) : (s.putReq r).troupes = s.troupes := rfl
@[simp] theorem State.putReq_fbRounds (s : State) (r : Req) : (s.putReq r).fbRounds = s.fbRounds := rfl
@[simp] theorem State.putReq_fbCloses (s : State) (r : Req) : (s.putReq r).fbCloses = s.fbCloses := rfl
@[simp] theorem State.putReq_rounds (s : State) (r : Req) : (s.putReq r).rounds = s.rounds := rfl
@[simp] theorem State.putReq_mc (s : State) (r : Req) : (s.putReq r).mc = s.mc := rfl
@[simp] theorem State.putReq_dies (s : State) (r : Req) : (s.putReq r).dies = s.dies := rfl
@[simp] theorem State.putReq_clk (s : State) (r : Req) : (s.putReq r).clk = s.clk := rfl
@[simp] theorem State.putReq_now (s : State) (r : Req) : (s.putReq r).now = s.now := rfl
@[simp] theorem State.putReq_blades (s : State) (r : Req) : (s.putReq r).blades = s.blades := rfl
@[simp] theorem State.putReq_off (s : State) (r : Req) : (s.putReq r).off = s.off := rfl
@[simp] theorem State.putReq_failed (s : State) (r : Req) : (s.putReq r).failed = s.failed := rfl
@[simp] theorem State.putReq_agenda (s : State) (r : Req) : (s.putReq r).agenda = s.agenda := rfl
@[simp] theorem State.putReq_delays (s : State) (r : Req) : (s.putReq r).delays = s.delays := rfl
@[simp] theorem State.putReq_nextId (s : State) (r : Req) : (s.putReq r).nextId = s.nextId := rfl

/-! ### A launch changes -/

@[simp] theorem State.mapLaunch_focus (s : State) (lid : Nat) (f : Launch → Launch) : (s.mapLaunch lid f).focus = s.focus := rfl
@[simp] theorem State.mapLaunch_parked (s : State) (lid : Nat) (f : Launch → Launch) : (s.mapLaunch lid f).parked = s.parked := rfl
@[simp] theorem State.mapLaunch_evicted (s : State) (lid : Nat) (f : Launch → Launch) : (s.mapLaunch lid f).evicted = s.evicted := rfl
@[simp] theorem State.mapLaunch_mem (s : State) (lid : Nat) (f : Launch → Launch) : (s.mapLaunch lid f).mem = s.mem := rfl
@[simp] theorem State.mapLaunch_ecc (s : State) (lid : Nat) (f : Launch → Launch) : (s.mapLaunch lid f).ecc = s.ecc := rfl
@[simp] theorem State.mapLaunch_injectors (s : State) (lid : Nat) (f : Launch → Launch) : (s.mapLaunch lid f).injectors = s.injectors := rfl
@[simp] theorem State.mapLaunch_buffers (s : State) (lid : Nat) (f : Launch → Launch) : (s.mapLaunch lid f).buffers = s.buffers := rfl
@[simp] theorem State.mapLaunch_streaks (s : State) (lid : Nat) (f : Launch → Launch) : (s.mapLaunch lid f).streaks = s.streaks := rfl
@[simp] theorem State.mapLaunch_net (s : State) (lid : Nat) (f : Launch → Launch) : (s.mapLaunch lid f).net = s.net := rfl
@[simp] theorem State.mapLaunch_copies (s : State) (lid : Nat) (f : Launch → Launch) : (s.mapLaunch lid f).copies = s.copies := rfl
@[simp] theorem State.mapLaunch_blds (s : State) (lid : Nat) (f : Launch → Launch) : (s.mapLaunch lid f).blds = s.blds := rfl
@[simp] theorem State.mapLaunch_strided (s : State) (lid : Nat) (f : Launch → Launch) : (s.mapLaunch lid f).strided = s.strided := rfl
@[simp] theorem State.mapLaunch_ports (s : State) (lid : Nat) (f : Launch → Launch) : (s.mapLaunch lid f).ports = s.ports := rfl
@[simp] theorem State.mapLaunch_tlb (s : State) (lid : Nat) (f : Launch → Launch) : (s.mapLaunch lid f).tlb = s.tlb := rfl
@[simp] theorem State.mapLaunch_icache (s : State) (lid : Nat) (f : Launch → Launch) : (s.mapLaunch lid f).icache = s.icache := rfl
@[simp] theorem State.mapLaunch_units (s : State) (lid : Nat) (f : Launch → Launch) : (s.mapLaunch lid f).units = s.units := rfl
@[simp] theorem State.mapLaunch_seqNo (s : State) (lid : Nat) (f : Launch → Launch) : (s.mapLaunch lid f).seqNo = s.seqNo := rfl
@[simp] theorem State.mapLaunch_clear (s : State) (lid : Nat) (f : Launch → Launch) : (s.mapLaunch lid f).clear = s.clear := rfl
@[simp] theorem State.mapLaunch_holders (s : State) (lid : Nat) (f : Launch → Launch) : (s.mapLaunch lid f).holders = s.holders := rfl
@[simp] theorem State.mapLaunch_troupes (s : State) (lid : Nat) (f : Launch → Launch) : (s.mapLaunch lid f).troupes = s.troupes := rfl
@[simp] theorem State.mapLaunch_fbRounds (s : State) (lid : Nat) (f : Launch → Launch) : (s.mapLaunch lid f).fbRounds = s.fbRounds := rfl
@[simp] theorem State.mapLaunch_fbCloses (s : State) (lid : Nat) (f : Launch → Launch) : (s.mapLaunch lid f).fbCloses = s.fbCloses := rfl
@[simp] theorem State.mapLaunch_rounds (s : State) (lid : Nat) (f : Launch → Launch) : (s.mapLaunch lid f).rounds = s.rounds := rfl
@[simp] theorem State.mapLaunch_mc (s : State) (lid : Nat) (f : Launch → Launch) : (s.mapLaunch lid f).mc = s.mc := rfl
@[simp] theorem State.mapLaunch_dies (s : State) (lid : Nat) (f : Launch → Launch) : (s.mapLaunch lid f).dies = s.dies := rfl
@[simp] theorem State.mapLaunch_clk (s : State) (lid : Nat) (f : Launch → Launch) : (s.mapLaunch lid f).clk = s.clk := rfl
@[simp] theorem State.mapLaunch_now (s : State) (lid : Nat) (f : Launch → Launch) : (s.mapLaunch lid f).now = s.now := rfl
@[simp] theorem State.mapLaunch_blades (s : State) (lid : Nat) (f : Launch → Launch) : (s.mapLaunch lid f).blades = s.blades := rfl
@[simp] theorem State.mapLaunch_off (s : State) (lid : Nat) (f : Launch → Launch) : (s.mapLaunch lid f).off = s.off := rfl
@[simp] theorem State.mapLaunch_failed (s : State) (lid : Nat) (f : Launch → Launch) : (s.mapLaunch lid f).failed = s.failed := rfl
@[simp] theorem State.mapLaunch_agenda (s : State) (lid : Nat) (f : Launch → Launch) : (s.mapLaunch lid f).agenda = s.agenda := rfl
@[simp] theorem State.mapLaunch_delays (s : State) (lid : Nat) (f : Launch → Launch) : (s.mapLaunch lid f).delays = s.delays := rfl
@[simp] theorem State.mapLaunch_nextId (s : State) (lid : Nat) (f : Launch → Launch) : (s.mapLaunch lid f).nextId = s.nextId := rfl

end Sys2Proof.Machine
end

