-- ==== Sys2Proof/Laws/Ops.lean ====
section
/-! SUPPORT. What the shared operations of an instruction can do: the issue of one instruction, its operands, and the
small computations that build its effect. -/

namespace Sys2Proof.Machine

/-! ### Effects -/

@[simp] theorem M.pure_run {α : Type} (a : α) (s : State) : (pure a : M α) s = .ok a s := rfl
theorem M.bind_run {α β : Type} (m : M α) (f : α → M β) (s : State) :
    (m >>= f) s = match m s with | .ok a s' => f a s' | .error e s' => .error e s' := by
  simp only [bind, EStateM.bind]
  cases m s <;> rfl
theorem M.bind_ok {α β : Type} {m : M α} {f : α → M β} {s s' : State} {a : α} (h : m s = .ok a s') : (m >>= f) s = f a s' := by
  rw [M.bind_run, h]
@[simp] theorem M.get_run (s : State) : (get : M State) s = .ok s s := rfl
@[simp] theorem M.set_run (s s' : State) : (set s' : M PUnit) s = .ok () s' := rfl
@[simp] theorem M.modify_run (f : State → State) (s : State) : (modify f : M PUnit) s = .ok () (f s) := rfl
@[simp] theorem focus_run (s : State) : focus s = .ok s.focus s := rfl
@[simp] theorem setFocus_run (f : Thread → Thread) (s : State) : setFocus f s = .ok () (s.mapFocus f) := rfl
@[simp] theorem trap_run {α : Type} (code : BitVec 8) (a : Word) (s : State) : (trap code a : M α) s = .error (.trap code a) s := rfl
@[simp] theorem waitFor_run {α : Type} (w : Wait) (s : State) : (waitFor w : M α) s = .error (.wait w) s := rfl
theorem check_run (ok : Bool) (code : BitVec 8) (a : Word) (s : State) :
    check ok code a s = if ok then .ok () s else .error (.trap code a) s := by
  unfold check; cases ok <;> rfl
theorem await_run (ok : Bool) (w : Wait) (s : State) : await ok w s = if ok then .ok () s else .error (.wait w) s := by
  unfold await; cases ok <;> rfl

/-! ### Issue (R134, R135, R335) -/

/-- Everything that the issue of one instruction can do. -/
theorem State.issue_cases (s : State) (av : Avail) (len : Nat) (pre : State → Option (BitVec 8)) (enabled : Bool) (cl : Closing)
    (m : M Unit) :
    (av.allows s.focus.id = false ∧ s.issue av len pre enabled cl m = s.raise ILLEGAL 0) ∨
    (∃ code, av.allows s.focus.id = true ∧ pre s = some code ∧ s.issue av len pre enabled cl m = s.raise code 0) ∨
    (av.allows s.focus.id = true ∧ pre s = none ∧ enabled = false ∧ s.issue av len pre enabled cl m =
      (s.mapFocus fun t => { t with npc := t.pc + BitVec.ofNat 64 len, taken := false }).retire s.focus len cl false) ∨
    (∃ s', av.allows s.focus.id = true ∧ pre s = none ∧ enabled = true ∧
      m (s.mapFocus fun t => { t with npc := t.pc + BitVec.ofNat 64 len, taken := false }) = .ok () s' ∧
      s.issue av len pre enabled cl m = s'.retire s.focus len cl true) ∨
    (∃ code a s', av.allows s.focus.id = true ∧ pre s = none ∧ enabled = true ∧
      m (s.mapFocus fun t => { t with npc := t.pc + BitVec.ofNat 64 len, taken := false }) = .error (.trap code a) s' ∧
      s.issue av len pre enabled cl m = s.raise code a) ∨
    (∃ w s', av.allows s.focus.id = true ∧ pre s = none ∧ enabled = true ∧
      m (s.mapFocus fun t => { t with npc := t.pc + BitVec.ofNat 64 len, taken := false }) = .error (.wait w) s' ∧
      s.issue av len pre enabled cl m = s.stall w) ∨
    (∃ w s', av.allows s.focus.id = true ∧ pre s = none ∧ enabled = true ∧
      m (s.mapFocus fun t => { t with npc := t.pc + BitVec.ofNat 64 len, taken := false }) = .error (.keep w) s' ∧
      s.issue av len pre enabled cl m = s'.stall w) ∨
    (∃ a s', av.allows s.focus.id = true ∧ pre s = none ∧ enabled = true ∧
      m (s.mapFocus fun t => { t with npc := t.pc + BitVec.ofNat 64 len, taken := false }) = .error (.fetch a) s' ∧
      s.issue av len pre enabled cl m = s'.raise FETCH a) ∨
    (∃ s', av.allows s.focus.id = true ∧ pre s = none ∧ enabled = true ∧
      m (s.mapFocus fun t => { t with npc := t.pc + BitVec.ofNat 64 len, taken := false }) = .error .again s' ∧
      s.issue av len pre enabled cl m = s'.mapFocus fun t => { t with wait := none, cycles := t.cycles + 1 }) := by
  unfold State.issue
  cases ha : av.allows s.focus.id <;> cases hp : pre s <;> cases he : enabled <;>
    cases hm : m (s.mapFocus fun t => { t with npc := t.pc + BitVec.ofNat 64 len, taken := false }) <;> simp_all
  all_goals
    rename_i e _
    cases e <;> simp

/-- The effect runs to its end: the instruction retires. -/
theorem State.issue_ok {s s' : State} {av : Avail} {len : Nat} {pre : State → Option (BitVec 8)} {cl : Closing} {m : M Unit}
    (ha : av.allows s.focus.id = true) (hp : pre s = none)
    (hm : m (s.mapFocus fun t => { t with npc := t.pc + BitVec.ofNat 64 len, taken := false }) = .ok () s') :
    s.issue av len pre true cl m = s'.retire s.focus len cl true := by
  simp [State.issue, ha, hp, hm]

/-- The effect traps: nothing of it stays. -/
theorem State.issue_trap {s s' : State} {av : Avail} {len : Nat} {pre : State → Option (BitVec 8)} {cl : Closing} {m : M Unit}
    {code : BitVec 8} {a : Word} (ha : av.allows s.focus.id = true) (hp : pre s = none)
    (hm : m (s.mapFocus fun t => { t with npc := t.pc + BitVec.ofNat 64 len, taken := false }) = .error (.trap code a) s') :
    s.issue av len pre true cl m = s.raise code a := by
  simp [State.issue, ha, hp, hm]

/-- The effect waits: nothing of it stays. -/
theorem State.issue_wait {s s' : State} {av : Avail} {len : Nat} {pre : State → Option (BitVec 8)} {cl : Closing} {m : M Unit}
    {w : Wait} (ha : av.allows s.focus.id = true) (hp : pre s = none)
    (hm : m (s.mapFocus fun t => { t with npc := t.pc + BitVec.ofNat 64 len, taken := false }) = .error (.wait w) s') :
    s.issue av len pre true cl m = s.stall w := by
  simp [State.issue, ha, hp, hm]

/-- The effect waits as a release with what it copied at issue (R296, R330). -/
theorem State.issue_keep {s s' : State} {av : Avail} {len : Nat} {pre : State → Option (BitVec 8)} {cl : Closing} {m : M Unit}
    {w : Wait} (ha : av.allows s.focus.id = true) (hp : pre s = none)
    (hm : m (s.mapFocus fun t => { t with npc := t.pc + BitVec.ofNat 64 len, taken := false }) = .error (.keep w) s') :
    s.issue av len pre true cl m = s'.stall w := by
  simp [State.issue, ha, hp, hm]

/-- A cycle of a strided access that needs more of them: what it did stays (R101). -/
theorem State.issue_again {s s' : State} {av : Avail} {len : Nat} {pre : State → Option (BitVec 8)} {cl : Closing} {m : M Unit}
    (ha : av.allows s.focus.id = true) (hp : pre s = none)
    (hm : m (s.mapFocus fun t => { t with npc := t.pc + BitVec.ofNat 64 len, taken := false }) = .error .again s') :
    s.issue av len pre true cl m = s'.mapFocus fun t => { t with wait := none, cycles := t.cycles + 1 } := by
  simp [State.issue, ha, hp, hm]

/-! ### Operands (R48, R49, R102) -/

/-- No access in flight writes the register. -/
theorem scoreboard_clear {s : State} {r : Reg} (h : s.writers s.focus r = []) : scoreboard r s = .ok () s := by
  simp [scoreboard, M.bind_run, h, await_run]

/-- x0 reads as zero. -/
@[simp] theorem readX_zero (s : State) : readX 0 s = .ok 0 s := by simp [readX, M.bind_run]

/-- A register that is no port gives its value. -/
theorem readX_reg {s : State} {r : BitVec 5} (h0 : r ≠ 0) (hp : portOf s.focus.id r = none) (hw : s.writers s.focus (.x r) = []) :
    readX r s = .ok (s.focus.x.toArray.getD r.toNat 0) s := by
  simp only [readX, M.bind_run, focus_run, if_neg h0, hp, scoreboard_clear hw]; rfl

/-- A port register pops the oldest word of its arrival queue. -/
theorem readX_port {s : State} {r : BitVec 5} {p : Fin 4} {w : Word} {ws : List Word} (h0 : r ≠ 0) (hp : portOf s.focus.id r = some p)
    (hw : s.writers s.focus (.x r) = []) (hq : s.focus.arrivals[p] = w :: ws) :
    readX r s = .ok w (s.mapFocus fun t => { t with arrivals := t.arrivals.set p ws }) := by
  simp only [readX, popPort, M.bind_run, focus_run, if_neg h0, scoreboard_clear hw, hp, hq, setFocus_run]; rfl

/-- x0 discards what is written. -/
@[simp] theorem writeX_zero (s : State) (w : Word) : writeX 0 w s = .ok () s := by simp [writeX, M.bind_run]

/-- A register that is no port takes the value; an older pending load is discarded. -/
theorem writeX_reg {s : State} {r : BitVec 5} {w : Word} (h0 : r ≠ 0) (hp : portOf s.focus.id r = none)
    (hw : s.writers s.focus (.x r) = []) :
    writeX r w s = .ok () (s.mapFocus fun t => (t.cancel (.inl r)).setX r w) := by
  simp only [writeX, M.bind_run, focus_run, if_neg h0, hp, scoreboard_clear hw, setFocus_run]

/-- Ports that the named registers use are there. -/
theorem checkPorts_ok {s : State} {rs : List (BitVec 5)}
    (h : ∀ r ∈ rs, ∀ p, portOf s.focus.id r = some p → s.portOk s.focus p = true) : checkPorts rs s = .ok () s := by
  have : (rs.all fun r => match portOf s.focus.id r with | some p => s.portOk s.focus p | none => true) = true := by
    rw [List.all_eq_true]; intro r hr
    cases hp : portOf s.focus.id r with
    | none => rfl
    | some p => exact h r hr p hp
  simp only [checkPorts, M.bind_run, M.get_run, check_run]; exact if_pos this

/-! ### Requests -/

@[simp] theorem State.forget_mem (s : State) (r : Req) : (s.forget r).mem = s.mem := by
  unfold State.forget; simp only []; split <;> rfl
@[simp] theorem State.countDown_mem (s : State) (h : HartId) (c : BitVec 2) : (s.countDown h c).mem = s.mem := by
  simp [State.countDown]
@[simp] theorem State.acknowledge_mem (s : State) (r : Req) : (s.acknowledge r).mem = s.mem := by
  unfold State.acknowledge
  split
  · simp only [State.mapHart_mem]
    repeat' split
    all_goals simp
  · rfl
@[simp] theorem State.finish_mem (s : State) (r : Req) : (s.finish r).mem = s.mem := by simp [State.finish]

/-! ### Channels and region entries -/

/-- Paying a channel changes that channel's shares and nothing else. -/
theorem State.payChannel_units {s u : State} {slot : Nat} {c : Nat × Nat} (h : s.payChannel slot c = some u) :
    u = { s with units := u.units } := by
  unfold State.payChannel at h
  obtain ⟨v, -, rfl⟩ := Option.map_eq_some_iff.mp h
  rfl

/-- Paying channels changes their shares and nothing else. -/
theorem State.payAll_units {slot : Nat} : ∀ {cs : List (Nat × Nat)} {s u : State}, State.payAll slot cs s = some u →
    u = { s with units := u.units }
  | [], s, u, h => by cases h; rfl
  | c :: cs, s, u, h => by
    obtain ⟨v, hv, hu⟩ := Option.bind_eq_some_iff.mp h
    have h₁ := State.payChannel_units hv
    have h₂ := State.payAll_units hu
    rw [h₂, h₁]

/-- The region entry settles at its marks; of the rest of the thread only them change. -/
theorem Thread.settleMarks_frame (t : Thread) :
    t.settleMarks = { t with region := t.settleMarks.region, entrySlot := t.settleMarks.entrySlot, marks := t.settleMarks.marks } := by
  unfold Thread.settleMarks; dsimp only; split <;> rfl

/-- A refused node command moves the region entry back, also in a fault that is not recorded yet; the rest of the thread stays. -/
theorem Thread.unclose_frame (t : Thread) (tag : Nat) :
    t.unclose tag = { t with region := (t.unclose tag).region, entrySlot := (t.unclose tag).entrySlot, marks := (t.unclose tag).marks,
                             fault := (t.unclose tag).fault } := by
  unfold Thread.unclose; dsimp only; rw [Thread.settleMarks_frame]

/-- Hearing times raises the G of injectors and changes nothing else. -/
theorem State.receiveAll_frame (is : List (BitVec 18)) (time : BitVec 56) : ∀ s : State,
    s.receiveAll is time = { s with injectors := (s.receiveAll is time).injectors } := by
  induction is with
  | nil => intro s; rfl
  | cons i is ih => intro s; unfold State.receiveAll at ih ⊢; rw [List.foldl_cons, ih]; rfl

end Sys2Proof.Machine
end

