-- ==== Sys2Proof/Laws/PerInstr.lean ====
section
/-! SUPPORT. Statements made per instruction. Framing: the halfwords that the encoder gives an instruction are the ones
that R131's framing takes for it. -/

/-- R131: an encoded instruction is one halfword with bit 0 clear, or two halfwords of which the first has bit 0 set; an
event has no halfwords. -/
def Sys2Proof.Laws.Framing.Statement (i : Sys2Proof.Instr) : Prop :=
  match Sys2Proof.encode i with
  | none => Sys2Proof.encode32 i = none ∧ Sys2Proof.encode16 i = none
  | some [lo] => Sys2Proof.isLong lo = false
  | some [lo, _] => Sys2Proof.isLong lo = true
  | some _ => False

namespace Sys2Proof

/-- Bit 0 of a 32-bit word is set. -/
theorem isLong_word (g : Guard) (m : BitVec 6) (b : BitVec 21) : isLong ((word g m b).extractLsb' 0 16) = true := by
  have key : ∀ x : BitVec 31, isLong ((x ++ 1#1 : BitVec 32).extractLsb' 0 16) = true := by
    intro x
    refine decide_eq_true (BitVec.eq_of_toNat_eq ?_)
    simp only [BitVec.extractLsb'_toNat, BitVec.toNat_append, Nat.shiftRight_zero, Nat.shiftLeft_eq, BitVec.toNat_ofNat]
    rw [Nat.mul_comm, ← Nat.two_pow_add_eq_or_of_lt (by decide)]
    omega
  exact key _

/-- Bit 0 of a halfword instruction is clear. -/
theorem isLong_half (op d s : BitVec 5) : isLong (half op d s) = false := by
  have key : ∀ x : BitVec 15, isLong (x ++ 0#1 : BitVec 16) = false := by
    intro x
    refine decide_eq_false fun h => ?_
    have := congrArg BitVec.toNat h
    simp only [BitVec.extractLsb'_toNat, BitVec.toNat_append, Nat.shiftRight_zero, Nat.shiftLeft_eq, BitVec.toNat_ofNat] at this
    rw [Nat.mul_comm, ← Nat.two_pow_add_eq_or_of_lt (by decide)] at this
    omega
  exact key _

theorem Laws.framing_word {i : Instr} {g : Guard} {m : BitVec 6} {b : BitVec 21} (h : encode32 i = some (word g m b)) :
    Laws.Framing.Statement i := by
  simp only [Laws.Framing.Statement, encode, h]; exact isLong_word g m b

theorem Laws.framing_half {i : Instr} {op d s : BitVec 5} (n : encode32 i = none) (h : encode16 i = some (half op d s)) :
    Laws.Framing.Statement i := by
  simp only [Laws.Framing.Statement, encode, n, h, Option.map]; exact isLong_half op d s

theorem Laws.framing_event {i : Instr} (n : encode32 i = none) (h : encode16 i = none) : Laws.Framing.Statement i := by
  simp [Laws.Framing.Statement, encode, n, h]

end Sys2Proof

theorem Sys2Proof.Laws.Framing.add (g) (d) (a) (b) : Sys2Proof.Laws.Framing.Statement (.add g d a b) := Sys2Proof.Laws.framing_word rfl
theorem Sys2Proof.Laws.Framing.sub (g) (d) (a) (b) : Sys2Proof.Laws.Framing.Statement (.sub g d a b) := Sys2Proof.Laws.framing_word rfl
theorem Sys2Proof.Laws.Framing.and (g) (d) (a) (b) : Sys2Proof.Laws.Framing.Statement (.and g d a b) := Sys2Proof.Laws.framing_word rfl
theorem Sys2Proof.Laws.Framing.or (g) (d) (a) (b) : Sys2Proof.Laws.Framing.Statement (.or g d a b) := Sys2Proof.Laws.framing_word rfl
theorem Sys2Proof.Laws.Framing.xor (g) (d) (a) (b) : Sys2Proof.Laws.Framing.Statement (.xor g d a b) := Sys2Proof.Laws.framing_word rfl
theorem Sys2Proof.Laws.Framing.andn (g) (d) (a) (b) : Sys2Proof.Laws.Framing.Statement (.andn g d a b) := Sys2Proof.Laws.framing_word rfl
theorem Sys2Proof.Laws.Framing.sll (g) (d) (a) (b) : Sys2Proof.Laws.Framing.Statement (.sll g d a b) := Sys2Proof.Laws.framing_word rfl
theorem Sys2Proof.Laws.Framing.srl (g) (d) (a) (b) : Sys2Proof.Laws.Framing.Statement (.srl g d a b) := Sys2Proof.Laws.framing_word rfl
theorem Sys2Proof.Laws.Framing.sra (g) (d) (a) (b) : Sys2Proof.Laws.Framing.Statement (.sra g d a b) := Sys2Proof.Laws.framing_word rfl
theorem Sys2Proof.Laws.Framing.ror (g) (d) (a) (b) : Sys2Proof.Laws.Framing.Statement (.ror g d a b) := Sys2Proof.Laws.framing_word rfl
theorem Sys2Proof.Laws.Framing.slt (g) (d) (a) (b) : Sys2Proof.Laws.Framing.Statement (.slt g d a b) := Sys2Proof.Laws.framing_word rfl
theorem Sys2Proof.Laws.Framing.sltu (g) (d) (a) (b) : Sys2Proof.Laws.Framing.Statement (.sltu g d a b) := Sys2Proof.Laws.framing_word rfl
theorem Sys2Proof.Laws.Framing.min (g) (d) (a) (b) : Sys2Proof.Laws.Framing.Statement (.min g d a b) := Sys2Proof.Laws.framing_word rfl
theorem Sys2Proof.Laws.Framing.max (g) (d) (a) (b) : Sys2Proof.Laws.Framing.Statement (.max g d a b) := Sys2Proof.Laws.framing_word rfl
theorem Sys2Proof.Laws.Framing.minu (g) (d) (a) (b) : Sys2Proof.Laws.Framing.Statement (.minu g d a b) := Sys2Proof.Laws.framing_word rfl
theorem Sys2Proof.Laws.Framing.maxu (g) (d) (a) (b) : Sys2Proof.Laws.Framing.Statement (.maxu g d a b) := Sys2Proof.Laws.framing_word rfl
theorem Sys2Proof.Laws.Framing.addsh1 (g) (d) (a) (b) : Sys2Proof.Laws.Framing.Statement (.addsh1 g d a b) := Sys2Proof.Laws.framing_word rfl
theorem Sys2Proof.Laws.Framing.addsh2 (g) (d) (a) (b) : Sys2Proof.Laws.Framing.Statement (.addsh2 g d a b) := Sys2Proof.Laws.framing_word rfl
theorem Sys2Proof.Laws.Framing.addsh3 (g) (d) (a) (b) : Sys2Proof.Laws.Framing.Statement (.addsh3 g d a b) := Sys2Proof.Laws.framing_word rfl
theorem Sys2Proof.Laws.Framing.clz (g) (d) (a) : Sys2Proof.Laws.Framing.Statement (.clz g d a) := Sys2Proof.Laws.framing_word rfl
theorem Sys2Proof.Laws.Framing.ctz (g) (d) (a) : Sys2Proof.Laws.Framing.Statement (.ctz g d a) := Sys2Proof.Laws.framing_word rfl
theorem Sys2Proof.Laws.Framing.popc (g) (d) (a) : Sys2Proof.Laws.Framing.Statement (.popc g d a) := Sys2Proof.Laws.framing_word rfl
theorem Sys2Proof.Laws.Framing.byterev (g) (d) (a) : Sys2Proof.Laws.Framing.Statement (.byterev g d a) := Sys2Proof.Laws.framing_word rfl
theorem Sys2Proof.Laws.Framing.sextw (g) (d) (a) : Sys2Proof.Laws.Framing.Statement (.sextw g d a) := Sys2Proof.Laws.framing_word rfl
theorem Sys2Proof.Laws.Framing.zextw (g) (d) (a) : Sys2Proof.Laws.Framing.Statement (.zextw g d a) := Sys2Proof.Laws.framing_word rfl
theorem Sys2Proof.Laws.Framing.addw (g) (d) (a) (b) : Sys2Proof.Laws.Framing.Statement (.addw g d a b) := Sys2Proof.Laws.framing_word rfl
theorem Sys2Proof.Laws.Framing.subw (g) (d) (a) (b) : Sys2Proof.Laws.Framing.Statement (.subw g d a b) := Sys2Proof.Laws.framing_word rfl
theorem Sys2Proof.Laws.Framing.mul (g) (d) (a) (b) : Sys2Proof.Laws.Framing.Statement (.mul g d a b) := Sys2Proof.Laws.framing_word rfl
theorem Sys2Proof.Laws.Framing.mulh (g) (d) (a) (b) : Sys2Proof.Laws.Framing.Statement (.mulh g d a b) := Sys2Proof.Laws.framing_word rfl
theorem Sys2Proof.Laws.Framing.mulhu (g) (d) (a) (b) : Sys2Proof.Laws.Framing.Statement (.mulhu g d a b) := Sys2Proof.Laws.framing_word rfl
theorem Sys2Proof.Laws.Framing.mulhsu (g) (d) (a) (b) : Sys2Proof.Laws.Framing.Statement (.mulhsu g d a b) := Sys2Proof.Laws.framing_word rfl
theorem Sys2Proof.Laws.Framing.div (g) (d) (a) (b) : Sys2Proof.Laws.Framing.Statement (.div g d a b) := Sys2Proof.Laws.framing_word rfl
theorem Sys2Proof.Laws.Framing.divu (g) (d) (a) (b) : Sys2Proof.Laws.Framing.Statement (.divu g d a b) := Sys2Proof.Laws.framing_word rfl
theorem Sys2Proof.Laws.Framing.rem (g) (d) (a) (b) : Sys2Proof.Laws.Framing.Statement (.rem g d a b) := Sys2Proof.Laws.framing_word rfl
theorem Sys2Proof.Laws.Framing.remu (g) (d) (a) (b) : Sys2Proof.Laws.Framing.Statement (.remu g d a b) := Sys2Proof.Laws.framing_word rfl
theorem Sys2Proof.Laws.Framing.addi (g) (d) (a) (imm) : Sys2Proof.Laws.Framing.Statement (.addi g d a imm) := Sys2Proof.Laws.framing_word rfl
theorem Sys2Proof.Laws.Framing.andi (g) (d) (a) (imm) : Sys2Proof.Laws.Framing.Statement (.andi g d a imm) := Sys2Proof.Laws.framing_word rfl
theorem Sys2Proof.Laws.Framing.ori (g) (d) (a) (imm) : Sys2Proof.Laws.Framing.Statement (.ori g d a imm) := Sys2Proof.Laws.framing_word rfl
theorem Sys2Proof.Laws.Framing.xori (g) (d) (a) (imm) : Sys2Proof.Laws.Framing.Statement (.xori g d a imm) := Sys2Proof.Laws.framing_word rfl
theorem Sys2Proof.Laws.Framing.slti (g) (d) (a) (imm) : Sys2Proof.Laws.Framing.Statement (.slti g d a imm) := Sys2Proof.Laws.framing_word rfl
theorem Sys2Proof.Laws.Framing.sltiu (g) (d) (a) (imm) : Sys2Proof.Laws.Framing.Statement (.sltiu g d a imm) := Sys2Proof.Laws.framing_word rfl
theorem Sys2Proof.Laws.Framing.slli (g) (d) (a) (h) : Sys2Proof.Laws.Framing.Statement (.slli g d a h) := Sys2Proof.Laws.framing_word rfl
theorem Sys2Proof.Laws.Framing.srli (g) (d) (a) (h) : Sys2Proof.Laws.Framing.Statement (.srli g d a h) := Sys2Proof.Laws.framing_word rfl
theorem Sys2Proof.Laws.Framing.srai (g) (d) (a) (h) : Sys2Proof.Laws.Framing.Statement (.srai g d a h) := Sys2Proof.Laws.framing_word rfl
theorem Sys2Proof.Laws.Framing.rori (g) (d) (a) (h) : Sys2Proof.Laws.Framing.Statement (.rori g d a h) := Sys2Proof.Laws.framing_word rfl
theorem Sys2Proof.Laws.Framing.li (g) (d) (imm) : Sys2Proof.Laws.Framing.Statement (.li g d imm) := Sys2Proof.Laws.framing_word rfl
theorem Sys2Proof.Laws.Framing.lis (g) (d) (imm) : Sys2Proof.Laws.Framing.Statement (.lis g d imm) := Sys2Proof.Laws.framing_word rfl
theorem Sys2Proof.Laws.Framing.addpc (g) (d) (imm) : Sys2Proof.Laws.Framing.Statement (.addpc g d imm) := Sys2Proof.Laws.framing_word rfl
theorem Sys2Proof.Laws.Framing.cmp (g) (m) (d) (a) (b) (e) (c) : Sys2Proof.Laws.Framing.Statement (.cmp g m d a b e c) := Sys2Proof.Laws.framing_word rfl
theorem Sys2Proof.Laws.Framing.cmpi (g) (m) (d) (a) (imm) (e) (c) : Sys2Proof.Laws.Framing.Statement (.cmpi g m d a imm e c) := Sys2Proof.Laws.framing_word rfl
theorem Sys2Proof.Laws.Framing.pand (g) (d) (a) (b) : Sys2Proof.Laws.Framing.Statement (.pand g d a b) := Sys2Proof.Laws.framing_word rfl
theorem Sys2Proof.Laws.Framing.por (g) (d) (a) (b) : Sys2Proof.Laws.Framing.Statement (.por g d a b) := Sys2Proof.Laws.framing_word rfl
theorem Sys2Proof.Laws.Framing.pxor (g) (d) (a) (b) : Sys2Proof.Laws.Framing.Statement (.pxor g d a b) := Sys2Proof.Laws.framing_word rfl
theorem Sys2Proof.Laws.Framing.pandn (g) (d) (a) (b) : Sys2Proof.Laws.Framing.Statement (.pandn g d a b) := Sys2Proof.Laws.framing_word rfl
theorem Sys2Proof.Laws.Framing.porn (g) (d) (a) (b) : Sys2Proof.Laws.Framing.Statement (.porn g d a b) := Sys2Proof.Laws.framing_word rfl
theorem Sys2Proof.Laws.Framing.pnot (g) (d) (a) : Sys2Proof.Laws.Framing.Statement (.pnot g d a) := Sys2Proof.Laws.framing_word rfl
theorem Sys2Proof.Laws.Framing.pfromx (g) (d) (a) : Sys2Proof.Laws.Framing.Statement (.pfromx g d a) := Sys2Proof.Laws.framing_word rfl
theorem Sys2Proof.Laws.Framing.ptox (g) (d) (a) : Sys2Proof.Laws.Framing.Statement (.ptox g d a) := Sys2Proof.Laws.framing_word rfl
theorem Sys2Proof.Laws.Framing.pfirst (g) (d) (a) : Sys2Proof.Laws.Framing.Statement (.pfirst g d a) := Sys2Proof.Laws.framing_word rfl
theorem Sys2Proof.Laws.Framing.pcnt (g) (d) (a) : Sys2Proof.Laws.Framing.Statement (.pcnt g d a) := Sys2Proof.Laws.framing_word rfl
theorem Sys2Proof.Laws.Framing.fcmp (g) (m) (d) (a) (b) (e) (c) : Sys2Proof.Laws.Framing.Statement (.fcmp g m d a b e c) := Sys2Proof.Laws.framing_word rfl
theorem Sys2Proof.Laws.Framing.vcmp (g) (t) (d) (a) (b) (e) (c) : Sys2Proof.Laws.Framing.Statement (.vcmp g t d a b e c) := Sys2Proof.Laws.framing_word rfl
theorem Sys2Proof.Laws.Framing.vfcmp (g) (t) (d) (a) (b) (e) (c) : Sys2Proof.Laws.Framing.Statement (.vfcmp g t d a b e c) := Sys2Proof.Laws.framing_word rfl
theorem Sys2Proof.Laws.Framing.j (g) (imm) : Sys2Proof.Laws.Framing.Statement (.j g imm) := Sys2Proof.Laws.framing_word rfl
theorem Sys2Proof.Laws.Framing.jal (g) (imm) : Sys2Proof.Laws.Framing.Statement (.jal g imm) := Sys2Proof.Laws.framing_word rfl
theorem Sys2Proof.Laws.Framing.jalr (g) (d) (a) (imm) : Sys2Proof.Laws.Framing.Statement (.jalr g d a imm) := Sys2Proof.Laws.framing_word rfl
theorem Sys2Proof.Laws.Framing.djnz (g) (d) (imm) : Sys2Proof.Laws.Framing.Statement (.djnz g d imm) := Sys2Proof.Laws.framing_word rfl
theorem Sys2Proof.Laws.Framing.rep (g) (a) (l) (e) : Sys2Proof.Laws.Framing.Statement (.rep g a l e) := Sys2Proof.Laws.framing_word rfl
theorem Sys2Proof.Laws.Framing.trpForm (g) (a) (b) : Sys2Proof.Laws.Framing.Statement (.trpForm g a b) := Sys2Proof.Laws.framing_word rfl
theorem Sys2Proof.Laws.Framing.trpSplit (g) : Sys2Proof.Laws.Framing.Statement (.trpSplit g) := Sys2Proof.Laws.framing_word rfl
theorem Sys2Proof.Laws.Framing.trpPos (g) (d) : Sys2Proof.Laws.Framing.Statement (.trpPos g d) := Sys2Proof.Laws.framing_word rfl
theorem Sys2Proof.Laws.Framing.trpWidth (g) (d) : Sys2Proof.Laws.Framing.Statement (.trpWidth g d) := Sys2Proof.Laws.framing_word rfl
theorem Sys2Proof.Laws.Framing.ld (g) (d) (a) (imm) (sz) (c) : Sys2Proof.Laws.Framing.Statement (.ld g d a imm sz c) := Sys2Proof.Laws.framing_word rfl
theorem Sys2Proof.Laws.Framing.ldu (g) (d) (a) (imm) (sz) (c) : Sys2Proof.Laws.Framing.Statement (.ldu g d a imm sz c) := Sys2Proof.Laws.framing_word rfl
theorem Sys2Proof.Laws.Framing.st (g) (d) (a) (imm) (sz) (c) : Sys2Proof.Laws.Framing.Statement (.st g d a imm sz c) := Sys2Proof.Laws.framing_word rfl
theorem Sys2Proof.Laws.Framing.sto (g) (d) (a) (imm) (sz) (c) : Sys2Proof.Laws.Framing.Statement (.sto g d a imm sz c) := Sys2Proof.Laws.framing_word rfl
theorem Sys2Proof.Laws.Framing.fld (g) (d) (a) (imm) (sz) (c) : Sys2Proof.Laws.Framing.Statement (.fld g d a imm sz c) := Sys2Proof.Laws.framing_word rfl
theorem Sys2Proof.Laws.Framing.fst (g) (d) (a) (imm) (sz) (c) : Sys2Proof.Laws.Framing.Statement (.fst g d a imm sz c) := Sys2Proof.Laws.framing_word rfl
theorem Sys2Proof.Laws.Framing.vld (g) (d) (a) (imm) (m) (c) : Sys2Proof.Laws.Framing.Statement (.vld g d a imm m c) := Sys2Proof.Laws.framing_word rfl
theorem Sys2Proof.Laws.Framing.vst (g) (d) (a) (imm) (m) (c) : Sys2Proof.Laws.Framing.Statement (.vst g d a imm m c) := Sys2Proof.Laws.framing_word rfl
theorem Sys2Proof.Laws.Framing.amoAdd (g) (d) (a) (b) (o) (z) : Sys2Proof.Laws.Framing.Statement (.amoAdd g d a b o z) := Sys2Proof.Laws.framing_word rfl
theorem Sys2Proof.Laws.Framing.amoAnd (g) (d) (a) (b) (o) (z) : Sys2Proof.Laws.Framing.Statement (.amoAnd g d a b o z) := Sys2Proof.Laws.framing_word rfl
theorem Sys2Proof.Laws.Framing.amoOr (g) (d) (a) (b) (o) (z) : Sys2Proof.Laws.Framing.Statement (.amoOr g d a b o z) := Sys2Proof.Laws.framing_word rfl
theorem Sys2Proof.Laws.Framing.amoXor (g) (d) (a) (b) (o) (z) : Sys2Proof.Laws.Framing.Statement (.amoXor g d a b o z) := Sys2Proof.Laws.framing_word rfl
theorem Sys2Proof.Laws.Framing.amoMin (g) (d) (a) (b) (o) (z) : Sys2Proof.Laws.Framing.Statement (.amoMin g d a b o z) := Sys2Proof.Laws.framing_word rfl
theorem Sys2Proof.Laws.Framing.amoMax (g) (d) (a) (b) (o) (z) : Sys2Proof.Laws.Framing.Statement (.amoMax g d a b o z) := Sys2Proof.Laws.framing_word rfl
theorem Sys2Proof.Laws.Framing.amoSwap (g) (d) (a) (b) (o) (z) : Sys2Proof.Laws.Framing.Statement (.amoSwap g d a b o z) := Sys2Proof.Laws.framing_word rfl
theorem Sys2Proof.Laws.Framing.amoCas (g) (d) (a) (b) (o) (z) : Sys2Proof.Laws.Framing.Statement (.amoCas g d a b o z) := Sys2Proof.Laws.framing_word rfl
theorem Sys2Proof.Laws.Framing.fence (g) (sz) : Sys2Proof.Laws.Framing.Statement (.fence g sz) := Sys2Proof.Laws.framing_word rfl
theorem Sys2Proof.Laws.Framing.fenceSt (g) (sz) : Sys2Proof.Laws.Framing.Statement (.fenceSt g sz) := Sys2Proof.Laws.framing_word rfl
theorem Sys2Proof.Laws.Framing.fenceLd (g) (sz) : Sys2Proof.Laws.Framing.Statement (.fenceLd g sz) := Sys2Proof.Laws.framing_word rfl
theorem Sys2Proof.Laws.Framing.sync (g) (l) : Sys2Proof.Laws.Framing.Statement (.sync g l) := Sys2Proof.Laws.framing_word rfl
theorem Sys2Proof.Laws.Framing.arrive (g) (l) : Sys2Proof.Laws.Framing.Statement (.arrive g l) := Sys2Proof.Laws.framing_word rfl
theorem Sys2Proof.Laws.Framing.arrived (g) (l) (c) : Sys2Proof.Laws.Framing.Statement (.arrived g l c) := Sys2Proof.Laws.framing_word rfl
theorem Sys2Proof.Laws.Framing.wait (g) (l) : Sys2Proof.Laws.Framing.Statement (.wait g l) := Sys2Proof.Laws.framing_word rfl
theorem Sys2Proof.Laws.Framing.waitdc (g) (c) (h) : Sys2Proof.Laws.Framing.Statement (.waitdc g c h) := Sys2Proof.Laws.framing_word rfl
theorem Sys2Proof.Laws.Framing.rgn (g) (e) : Sys2Proof.Laws.Framing.Statement (.rgn g e) := Sys2Proof.Laws.framing_word rfl
theorem Sys2Proof.Laws.Framing.yield (g) : Sys2Proof.Laws.Framing.Statement (.yield g) := Sys2Proof.Laws.framing_word rfl
theorem Sys2Proof.Laws.Framing.phaseX (g) (l) : Sys2Proof.Laws.Framing.Statement (.phaseX g l) := Sys2Proof.Laws.framing_word rfl
theorem Sys2Proof.Laws.Framing.cpy (g) (d) (a) (b) (v) (o) (c) : Sys2Proof.Laws.Framing.Statement (.cpy g d a b v o c) := Sys2Proof.Laws.framing_word rfl
theorem Sys2Proof.Laws.Framing.fadd (g) (d) (a) (b) (t) : Sys2Proof.Laws.Framing.Statement (.fadd g d a b t) := Sys2Proof.Laws.framing_word rfl
theorem Sys2Proof.Laws.Framing.fsub (g) (d) (a) (b) (t) : Sys2Proof.Laws.Framing.Statement (.fsub g d a b t) := Sys2Proof.Laws.framing_word rfl
theorem Sys2Proof.Laws.Framing.fmul (g) (d) (a) (b) (t) : Sys2Proof.Laws.Framing.Statement (.fmul g d a b t) := Sys2Proof.Laws.framing_word rfl
theorem Sys2Proof.Laws.Framing.fmin (g) (d) (a) (b) (t) : Sys2Proof.Laws.Framing.Statement (.fmin g d a b t) := Sys2Proof.Laws.framing_word rfl
theorem Sys2Proof.Laws.Framing.fmax (g) (d) (a) (b) (t) : Sys2Proof.Laws.Framing.Statement (.fmax g d a b t) := Sys2Proof.Laws.framing_word rfl
theorem Sys2Proof.Laws.Framing.fdiv (g) (d) (a) (b) (t) : Sys2Proof.Laws.Framing.Statement (.fdiv g d a b t) := Sys2Proof.Laws.framing_word rfl
theorem Sys2Proof.Laws.Framing.fsqrt (g) (d) (a) (t) : Sys2Proof.Laws.Framing.Statement (.fsqrt g d a t) := Sys2Proof.Laws.framing_word rfl
theorem Sys2Proof.Laws.Framing.ffma (g) (d) (a) (b) (t) : Sys2Proof.Laws.Framing.Statement (.ffma g d a b t) := Sys2Proof.Laws.framing_word rfl
theorem Sys2Proof.Laws.Framing.fmvxf (g) (d) (a) : Sys2Proof.Laws.Framing.Statement (.fmvxf g d a) := Sys2Proof.Laws.framing_word rfl
theorem Sys2Proof.Laws.Framing.fmvfx (g) (d) (a) : Sys2Proof.Laws.Framing.Statement (.fmvfx g d a) := Sys2Proof.Laws.framing_word rfl
theorem Sys2Proof.Laws.Framing.fcvtFX (g) (d) (a) : Sys2Proof.Laws.Framing.Statement (.fcvtFX g d a) := Sys2Proof.Laws.framing_word rfl
theorem Sys2Proof.Laws.Framing.fcvtXF (g) (d) (a) : Sys2Proof.Laws.Framing.Statement (.fcvtXF g d a) := Sys2Proof.Laws.framing_word rfl
theorem Sys2Proof.Laws.Framing.fkey (g) (d) (a) : Sys2Proof.Laws.Framing.Statement (.fkey g d a) := Sys2Proof.Laws.framing_word rfl
theorem Sys2Proof.Laws.Framing.fclass (g) (d) (a) : Sys2Proof.Laws.Framing.Statement (.fclass g d a) := Sys2Proof.Laws.framing_word rfl
theorem Sys2Proof.Laws.Framing.vadd (g) (d) (a) (b) (t) : Sys2Proof.Laws.Framing.Statement (.vadd g d a b t) := Sys2Proof.Laws.framing_word rfl
theorem Sys2Proof.Laws.Framing.vsub (g) (d) (a) (b) (t) : Sys2Proof.Laws.Framing.Statement (.vsub g d a b t) := Sys2Proof.Laws.framing_word rfl
theorem Sys2Proof.Laws.Framing.vmul (g) (d) (a) (b) (t) : Sys2Proof.Laws.Framing.Statement (.vmul g d a b t) := Sys2Proof.Laws.framing_word rfl
theorem Sys2Proof.Laws.Framing.vmin (g) (d) (a) (b) (t) : Sys2Proof.Laws.Framing.Statement (.vmin g d a b t) := Sys2Proof.Laws.framing_word rfl
theorem Sys2Proof.Laws.Framing.vmax (g) (d) (a) (b) (t) : Sys2Proof.Laws.Framing.Statement (.vmax g d a b t) := Sys2Proof.Laws.framing_word rfl
theorem Sys2Proof.Laws.Framing.vminu (g) (d) (a) (b) (t) : Sys2Proof.Laws.Framing.Statement (.vminu g d a b t) := Sys2Proof.Laws.framing_word rfl
theorem Sys2Proof.Laws.Framing.vmaxu (g) (d) (a) (b) (t) : Sys2Proof.Laws.Framing.Statement (.vmaxu g d a b t) := Sys2Proof.Laws.framing_word rfl
theorem Sys2Proof.Laws.Framing.vand (g) (d) (a) (b) (t) : Sys2Proof.Laws.Framing.Statement (.vand g d a b t) := Sys2Proof.Laws.framing_word rfl
theorem Sys2Proof.Laws.Framing.vor (g) (d) (a) (b) (t) : Sys2Proof.Laws.Framing.Statement (.vor g d a b t) := Sys2Proof.Laws.framing_word rfl
theorem Sys2Proof.Laws.Framing.vxor (g) (d) (a) (b) (t) : Sys2Proof.Laws.Framing.Statement (.vxor g d a b t) := Sys2Proof.Laws.framing_word rfl
theorem Sys2Proof.Laws.Framing.vsll (g) (d) (a) (b) (t) : Sys2Proof.Laws.Framing.Statement (.vsll g d a b t) := Sys2Proof.Laws.framing_word rfl
theorem Sys2Proof.Laws.Framing.vsrl (g) (d) (a) (b) (t) : Sys2Proof.Laws.Framing.Statement (.vsrl g d a b t) := Sys2Proof.Laws.framing_word rfl
theorem Sys2Proof.Laws.Framing.vsra (g) (d) (a) (b) (t) : Sys2Proof.Laws.Framing.Statement (.vsra g d a b t) := Sys2Proof.Laws.framing_word rfl
theorem Sys2Proof.Laws.Framing.vabs (g) (d) (a) (t) : Sys2Proof.Laws.Framing.Statement (.vabs g d a t) := Sys2Proof.Laws.framing_word rfl
theorem Sys2Proof.Laws.Framing.vadds (g) (d) (a) (b) (t) : Sys2Proof.Laws.Framing.Statement (.vadds g d a b t) := Sys2Proof.Laws.framing_word rfl
theorem Sys2Proof.Laws.Framing.vsubs (g) (d) (a) (b) (t) : Sys2Proof.Laws.Framing.Statement (.vsubs g d a b t) := Sys2Proof.Laws.framing_word rfl
theorem Sys2Proof.Laws.Framing.vfadd (g) (d) (a) (b) (t) : Sys2Proof.Laws.Framing.Statement (.vfadd g d a b t) := Sys2Proof.Laws.framing_word rfl
theorem Sys2Proof.Laws.Framing.vfsub (g) (d) (a) (b) (t) : Sys2Proof.Laws.Framing.Statement (.vfsub g d a b t) := Sys2Proof.Laws.framing_word rfl
theorem Sys2Proof.Laws.Framing.vfmul (g) (d) (a) (b) (t) : Sys2Proof.Laws.Framing.Statement (.vfmul g d a b t) := Sys2Proof.Laws.framing_word rfl
theorem Sys2Proof.Laws.Framing.vfmin (g) (d) (a) (b) (t) : Sys2Proof.Laws.Framing.Statement (.vfmin g d a b t) := Sys2Proof.Laws.framing_word rfl
theorem Sys2Proof.Laws.Framing.vfmax (g) (d) (a) (b) (t) : Sys2Proof.Laws.Framing.Statement (.vfmax g d a b t) := Sys2Proof.Laws.framing_word rfl
theorem Sys2Proof.Laws.Framing.vffma (g) (d) (a) (b) (t) : Sys2Proof.Laws.Framing.Statement (.vffma g d a b t) := Sys2Proof.Laws.framing_word rfl
theorem Sys2Proof.Laws.Framing.vfdiv (g) (d) (a) (b) (t) : Sys2Proof.Laws.Framing.Statement (.vfdiv g d a b t) := Sys2Proof.Laws.framing_word rfl
theorem Sys2Proof.Laws.Framing.vfsqrt (g) (d) (a) (t) : Sys2Proof.Laws.Framing.Statement (.vfsqrt g d a t) := Sys2Proof.Laws.framing_word rfl
theorem Sys2Proof.Laws.Framing.vfabs (g) (d) (a) (t) : Sys2Proof.Laws.Framing.Statement (.vfabs g d a t) := Sys2Proof.Laws.framing_word rfl
theorem Sys2Proof.Laws.Framing.vfneg (g) (d) (a) (t) : Sys2Proof.Laws.Framing.Statement (.vfneg g d a t) := Sys2Proof.Laws.framing_word rfl
theorem Sys2Proof.Laws.Framing.vbcast (g) (d) (a) (t) : Sys2Proof.Laws.Framing.Statement (.vbcast g d a t) := Sys2Proof.Laws.framing_word rfl
theorem Sys2Proof.Laws.Framing.vbcastf (g) (d) (a) (t) : Sys2Proof.Laws.Framing.Statement (.vbcastf g d a t) := Sys2Proof.Laws.framing_word rfl
theorem Sys2Proof.Laws.Framing.vext (g) (d) (a) (b) (t) : Sys2Proof.Laws.Framing.Statement (.vext g d a b t) := Sys2Proof.Laws.framing_word rfl
theorem Sys2Proof.Laws.Framing.vins (g) (d) (a) (b) (t) : Sys2Proof.Laws.Framing.Statement (.vins g d a b t) := Sys2Proof.Laws.framing_word rfl
theorem Sys2Proof.Laws.Framing.vperm (g) (d) (a) (b) (t) : Sys2Proof.Laws.Framing.Statement (.vperm g d a b t) := Sys2Proof.Laws.framing_word rfl
theorem Sys2Proof.Laws.Framing.vredadd (g) (d) (a) (t) : Sys2Proof.Laws.Framing.Statement (.vredadd g d a t) := Sys2Proof.Laws.framing_word rfl
theorem Sys2Proof.Laws.Framing.vredmax (g) (d) (a) (t) : Sys2Proof.Laws.Framing.Statement (.vredmax g d a t) := Sys2Proof.Laws.framing_word rfl
theorem Sys2Proof.Laws.Framing.vcvt (g) (d) (a) (u) (t) : Sys2Proof.Laws.Framing.Statement (.vcvt g d a u t) := Sys2Proof.Laws.framing_word rfl
theorem Sys2Proof.Laws.Framing.vkey (g) (d) (a) (t) : Sys2Proof.Laws.Framing.Statement (.vkey g d a t) := Sys2Proof.Laws.framing_word rfl
theorem Sys2Proof.Laws.Framing.vmov (g) (d) (a) (t) : Sys2Proof.Laws.Framing.Statement (.vmov g d a t) := Sys2Proof.Laws.framing_word rfl
theorem Sys2Proof.Laws.Framing.vzero (g) (d) (t) : Sys2Proof.Laws.Framing.Statement (.vzero g d t) := Sys2Proof.Laws.framing_word rfl
theorem Sys2Proof.Laws.Framing.viota (g) (d) (t) : Sys2Proof.Laws.Framing.Statement (.viota g d t) := Sys2Proof.Laws.framing_word rfl
theorem Sys2Proof.Laws.Framing.mma (g) (c) (a) (f) (p) : Sys2Proof.Laws.Framing.Statement (.mma g c a f p) := Sys2Proof.Laws.framing_word rfl
theorem Sys2Proof.Laws.Framing.mz (g) (c) : Sys2Proof.Laws.Framing.Statement (.mz g c) := Sys2Proof.Laws.framing_word rfl
theorem Sys2Proof.Laws.Framing.mrdF32 (g) (c) (a) (k) : Sys2Proof.Laws.Framing.Statement (.mrdF32 g c a k) := Sys2Proof.Laws.framing_word rfl
theorem Sys2Proof.Laws.Framing.mrdBf16 (g) (c) (a) (k) : Sys2Proof.Laws.Framing.Statement (.mrdBf16 g c a k) := Sys2Proof.Laws.framing_word rfl
theorem Sys2Proof.Laws.Framing.mrdF16 (g) (c) (a) (k) : Sys2Proof.Laws.Framing.Statement (.mrdF16 g c a k) := Sys2Proof.Laws.framing_word rfl
theorem Sys2Proof.Laws.Framing.mexp (g) (d) (c) : Sys2Proof.Laws.Framing.Statement (.mexp g d c) := Sys2Proof.Laws.framing_word rfl
theorem Sys2Proof.Laws.Framing.msete (g) (c) (a) : Sys2Proof.Laws.Framing.Statement (.msete g c a) := Sys2Proof.Laws.framing_word rfl
theorem Sys2Proof.Laws.Framing.mred (g) (c) (a) (k) : Sys2Proof.Laws.Framing.Statement (.mred g c a k) := Sys2Proof.Laws.framing_word rfl
theorem Sys2Proof.Laws.Framing.macc (g) (c) (a) (b) : Sys2Proof.Laws.Framing.Statement (.macc g c a b) := Sys2Proof.Laws.framing_word rfl
theorem Sys2Proof.Laws.Framing.mcvtI8 (g) (c) (a) (b) : Sys2Proof.Laws.Framing.Statement (.mcvtI8 g c a b) := Sys2Proof.Laws.framing_word rfl
theorem Sys2Proof.Laws.Framing.geom (g) (d) (a) (b) : Sys2Proof.Laws.Framing.Statement (.geom g d a b) := Sys2Proof.Laws.framing_word rfl
theorem Sys2Proof.Laws.Framing.geomg (g) (d) (a) : Sys2Proof.Laws.Framing.Statement (.geomg g d a) := Sys2Proof.Laws.framing_word rfl
theorem Sys2Proof.Laws.Framing.mcvtI4 (g) (c) (a) (b) : Sys2Proof.Laws.Framing.Statement (.mcvtI4 g c a b) := Sys2Proof.Laws.framing_word rfl
theorem Sys2Proof.Laws.Framing.bld (g) (a) (k) : Sys2Proof.Laws.Framing.Statement (.bld g a k) := Sys2Proof.Laws.framing_word rfl
theorem Sys2Proof.Laws.Framing.brot (g) : Sys2Proof.Laws.Framing.Statement (.brot g) := Sys2Proof.Laws.framing_word rfl
theorem Sys2Proof.Laws.Framing.bswap (g) : Sys2Proof.Laws.Framing.Statement (.bswap g) := Sys2Proof.Laws.framing_word rfl
theorem Sys2Proof.Laws.Framing.bst (g) (a) (k) : Sys2Proof.Laws.Framing.Statement (.bst g a k) := Sys2Proof.Laws.framing_word rfl
theorem Sys2Proof.Laws.Framing.desc (g) (d) (a) (k) : Sys2Proof.Laws.Framing.Statement (.desc g d a k) := Sys2Proof.Laws.framing_word rfl
theorem Sys2Proof.Laws.Framing.bkup (g) (d) (a) (b) (k) : Sys2Proof.Laws.Framing.Statement (.bkup g d a b k) := Sys2Proof.Laws.framing_word rfl
theorem Sys2Proof.Laws.Framing.unmk (g) (d) (a) (b) (k) : Sys2Proof.Laws.Framing.Statement (.unmk g d a b k) := Sys2Proof.Laws.framing_word rfl
theorem Sys2Proof.Laws.Framing.expnd (g) (d) (a) (b) (k) : Sys2Proof.Laws.Framing.Statement (.expnd g d a b k) := Sys2Proof.Laws.framing_word rfl
theorem Sys2Proof.Laws.Framing.nalloc (g) (d) (a) (b) (k) : Sys2Proof.Laws.Framing.Statement (.nalloc g d a b k) := Sys2Proof.Laws.framing_word rfl
theorem Sys2Proof.Laws.Framing.rcyc (g) (d) (a) (k) : Sys2Proof.Laws.Framing.Statement (.rcyc g d a k) := Sys2Proof.Laws.framing_word rfl
theorem Sys2Proof.Laws.Framing.nstat (g) (d) (a) (k) : Sys2Proof.Laws.Framing.Statement (.nstat g d a k) := Sys2Proof.Laws.framing_word rfl
theorem Sys2Proof.Laws.Framing.ninit (g) (d) (a) (k) : Sys2Proof.Laws.Framing.Statement (.ninit g d a k) := Sys2Proof.Laws.framing_word rfl
theorem Sys2Proof.Laws.Framing.nmsend (g) (a) (k) : Sys2Proof.Laws.Framing.Statement (.nmsend g a k) := Sys2Proof.Laws.framing_word rfl
theorem Sys2Proof.Laws.Framing.nmovl (g) (a) (k) : Sys2Proof.Laws.Framing.Statement (.nmovl g a k) := Sys2Proof.Laws.framing_word rfl
theorem Sys2Proof.Laws.Framing.nmrst (g) (a) (k) : Sys2Proof.Laws.Framing.Statement (.nmrst g a k) := Sys2Proof.Laws.framing_word rfl
theorem Sys2Proof.Laws.Framing.ecall (g) : Sys2Proof.Laws.Framing.Statement (.ecall g) := Sys2Proof.Laws.framing_word rfl
theorem Sys2Proof.Laws.Framing.ebreak (g) : Sys2Proof.Laws.Framing.Statement (.ebreak g) := Sys2Proof.Laws.framing_word rfl
theorem Sys2Proof.Laws.Framing.halt (g) : Sys2Proof.Laws.Framing.Statement (.halt g) := Sys2Proof.Laws.framing_word rfl
theorem Sys2Proof.Laws.Framing.wfe (g) : Sys2Proof.Laws.Framing.Statement (.wfe g) := Sys2Proof.Laws.framing_word rfl
theorem Sys2Proof.Laws.Framing.fault (g) (a) : Sys2Proof.Laws.Framing.Statement (.fault g a) := Sys2Proof.Laws.framing_word rfl
theorem Sys2Proof.Laws.Framing.tret (g) : Sys2Proof.Laws.Framing.Statement (.tret g) := Sys2Proof.Laws.framing_word rfl
theorem Sys2Proof.Laws.Framing.csrrw (g) (d) (a) (imm) : Sys2Proof.Laws.Framing.Statement (.csrrw g d a imm) := Sys2Proof.Laws.framing_word rfl
theorem Sys2Proof.Laws.Framing.csrrs (g) (d) (a) (imm) : Sys2Proof.Laws.Framing.Statement (.csrrs g d a imm) := Sys2Proof.Laws.framing_word rfl
theorem Sys2Proof.Laws.Framing.csrrc (g) (d) (a) (imm) : Sys2Proof.Laws.Framing.Statement (.csrrc g d a imm) := Sys2Proof.Laws.framing_word rfl
theorem Sys2Proof.Laws.Framing.sete (g) (d) (a) : Sys2Proof.Laws.Framing.Statement (.sete g d a) := Sys2Proof.Laws.framing_word rfl
theorem Sys2Proof.Laws.Framing.gete (g) (d) (a) : Sys2Proof.Laws.Framing.Statement (.gete g d a) := Sys2Proof.Laws.framing_word rfl
theorem Sys2Proof.Laws.Framing.rand (g) (d) (a) (b) (w) : Sys2Proof.Laws.Framing.Statement (.rand g d a b w) := Sys2Proof.Laws.framing_word rfl
theorem Sys2Proof.Laws.Framing.mvN (d) (sz) : Sys2Proof.Laws.Framing.Statement (.mvN d sz) := Sys2Proof.Laws.framing_half rfl rfl
theorem Sys2Proof.Laws.Framing.addN (d) (sz) : Sys2Proof.Laws.Framing.Statement (.addN d sz) := Sys2Proof.Laws.framing_half rfl rfl
theorem Sys2Proof.Laws.Framing.subN (d) (sz) : Sys2Proof.Laws.Framing.Statement (.subN d sz) := Sys2Proof.Laws.framing_half rfl rfl
theorem Sys2Proof.Laws.Framing.andN (d) (sz) : Sys2Proof.Laws.Framing.Statement (.andN d sz) := Sys2Proof.Laws.framing_half rfl rfl
theorem Sys2Proof.Laws.Framing.orN (d) (sz) : Sys2Proof.Laws.Framing.Statement (.orN d sz) := Sys2Proof.Laws.framing_half rfl rfl
theorem Sys2Proof.Laws.Framing.xorN (d) (sz) : Sys2Proof.Laws.Framing.Statement (.xorN d sz) := Sys2Proof.Laws.framing_half rfl rfl
theorem Sys2Proof.Laws.Framing.sllN (d) (sz) : Sys2Proof.Laws.Framing.Statement (.sllN d sz) := Sys2Proof.Laws.framing_half rfl rfl
theorem Sys2Proof.Laws.Framing.srlN (d) (sz) : Sys2Proof.Laws.Framing.Statement (.srlN d sz) := Sys2Proof.Laws.framing_half rfl rfl
theorem Sys2Proof.Laws.Framing.sraN (d) (sz) : Sys2Proof.Laws.Framing.Statement (.sraN d sz) := Sys2Proof.Laws.framing_half rfl rfl
theorem Sys2Proof.Laws.Framing.addiN (d) (imm) : Sys2Proof.Laws.Framing.Statement (.addiN d imm) := Sys2Proof.Laws.framing_half rfl rfl
theorem Sys2Proof.Laws.Framing.liN (d) (imm) : Sys2Proof.Laws.Framing.Statement (.liN d imm) := Sys2Proof.Laws.framing_half rfl rfl
theorem Sys2Proof.Laws.Framing.slliN (d) (h) : Sys2Proof.Laws.Framing.Statement (.slliN d h) := Sys2Proof.Laws.framing_half rfl rfl
theorem Sys2Proof.Laws.Framing.srliN (d) (h) : Sys2Proof.Laws.Framing.Statement (.srliN d h) := Sys2Proof.Laws.framing_half rfl rfl
theorem Sys2Proof.Laws.Framing.sraiN (d) (h) : Sys2Proof.Laws.Framing.Statement (.sraiN d h) := Sys2Proof.Laws.framing_half rfl rfl
theorem Sys2Proof.Laws.Framing.ldDN (d) (sz) : Sys2Proof.Laws.Framing.Statement (.ldDN d sz) := Sys2Proof.Laws.framing_half rfl rfl
theorem Sys2Proof.Laws.Framing.stDN (d) (sz) : Sys2Proof.Laws.Framing.Statement (.stDN d sz) := Sys2Proof.Laws.framing_half rfl rfl
theorem Sys2Proof.Laws.Framing.ldWN (d) (sz) : Sys2Proof.Laws.Framing.Statement (.ldWN d sz) := Sys2Proof.Laws.framing_half rfl rfl
theorem Sys2Proof.Laws.Framing.stWN (d) (sz) : Sys2Proof.Laws.Framing.Statement (.stWN d sz) := Sys2Proof.Laws.framing_half rfl rfl
theorem Sys2Proof.Laws.Framing.vmovN (d) (sz) : Sys2Proof.Laws.Framing.Statement (.vmovN d sz) := Sys2Proof.Laws.framing_half rfl rfl
theorem Sys2Proof.Laws.Framing.jrN (sz) : Sys2Proof.Laws.Framing.Statement (.jrN sz) := Sys2Proof.Laws.framing_half rfl rfl
theorem Sys2Proof.Laws.Framing.jalrN (d) (sz) : Sys2Proof.Laws.Framing.Statement (.jalrN d sz) := Sys2Proof.Laws.framing_half rfl rfl
theorem Sys2Proof.Laws.Framing.nopN : Sys2Proof.Laws.Framing.Statement (.nopN) := Sys2Proof.Laws.framing_half rfl rfl
theorem Sys2Proof.Laws.Framing.haltN : Sys2Proof.Laws.Framing.Statement (.haltN) := Sys2Proof.Laws.framing_half rfl rfl
theorem Sys2Proof.Laws.Framing.reservedEncoding (word) : Sys2Proof.Laws.Framing.Statement (.reservedEncoding word) := Sys2Proof.Laws.framing_event rfl rfl
theorem Sys2Proof.Laws.Framing.fetchFault (faddr) (straddle) (iword) : Sys2Proof.Laws.Framing.Statement (.fetchFault faddr straddle iword) := Sys2Proof.Laws.framing_event rfl rfl
theorem Sys2Proof.Laws.Framing.threadSwitchQuantum (core) : Sys2Proof.Laws.Framing.Statement (.threadSwitchQuantum core) := Sys2Proof.Laws.framing_event rfl rfl
theorem Sys2Proof.Laws.Framing.portWordArrival (h) (port) : Sys2Proof.Laws.Framing.Statement (.portWordArrival h port) := Sys2Proof.Laws.framing_event rfl rfl
theorem Sys2Proof.Laws.Framing.portTimeout (h) : Sys2Proof.Laws.Framing.Statement (.portTimeout h) := Sys2Proof.Laws.framing_event rfl rfl
theorem Sys2Proof.Laws.Framing.troupeFormed (h) : Sys2Proof.Laws.Framing.Statement (.troupeFormed h) := Sys2Proof.Laws.framing_event rfl rfl
theorem Sys2Proof.Laws.Framing.trpFormTimeout (h) : Sys2Proof.Laws.Framing.Statement (.trpFormTimeout h) := Sys2Proof.Laws.framing_event rfl rfl
theorem Sys2Proof.Laws.Framing.ringDeliveryStart (h) : Sys2Proof.Laws.Framing.Statement (.ringDeliveryStart h) := Sys2Proof.Laws.framing_event rfl rfl
theorem Sys2Proof.Laws.Framing.ringDeliveryDone (h) : Sys2Proof.Laws.Framing.Statement (.ringDeliveryDone h) := Sys2Proof.Laws.framing_event rfl rfl
theorem Sys2Proof.Laws.Framing.bldFillDone (h) : Sys2Proof.Laws.Framing.Statement (.bldFillDone h) := Sys2Proof.Laws.framing_event rfl rfl
theorem Sys2Proof.Laws.Framing.bswapTimeout (h) : Sys2Proof.Laws.Framing.Statement (.bswapTimeout h) := Sys2Proof.Laws.framing_event rfl rfl
theorem Sys2Proof.Laws.Framing.arrivedArrival (h) (level) : Sys2Proof.Laws.Framing.Statement (.arrivedArrival h level) := Sys2Proof.Laws.framing_event rfl rfl
theorem Sys2Proof.Laws.Framing.barrierComplete (lid) (level) (group) : Sys2Proof.Laws.Framing.Statement (.barrierComplete lid level group) := Sys2Proof.Laws.framing_event rfl rfl
theorem Sys2Proof.Laws.Framing.holdAccept (id) : Sys2Proof.Laws.Framing.Statement (.holdAccept id) := Sys2Proof.Laws.framing_event rfl rfl
theorem Sys2Proof.Laws.Framing.holdApply (lid) : Sys2Proof.Laws.Framing.Statement (.holdApply lid) := Sys2Proof.Laws.framing_event rfl rfl
theorem Sys2Proof.Laws.Framing.fbArrival (dev) (fbid) (fbn) (occ) (count) : Sys2Proof.Laws.Framing.Statement (.fbArrival dev fbid fbn occ count) := Sys2Proof.Laws.framing_event rfl rfl
theorem Sys2Proof.Laws.Framing.fbAck (lid) : Sys2Proof.Laws.Framing.Statement (.fbAck lid) := Sys2Proof.Laws.framing_event rfl rfl
theorem Sys2Proof.Laws.Framing.storeBufferDrain (core) : Sys2Proof.Laws.Framing.Statement (.storeBufferDrain core) := Sys2Proof.Laws.framing_event rfl rfl
theorem Sys2Proof.Laws.Framing.cpyPacketInject (id) : Sys2Proof.Laws.Framing.Statement (.cpyPacketInject id) := Sys2Proof.Laws.framing_event rfl rfl
theorem Sys2Proof.Laws.Framing.stridedRequestInject (h) : Sys2Proof.Laws.Framing.Statement (.stridedRequestInject h) := Sys2Proof.Laws.framing_event rfl rfl
theorem Sys2Proof.Laws.Framing.routerForward (id) : Sys2Proof.Laws.Framing.Statement (.routerForward id) := Sys2Proof.Laws.framing_event rfl rfl
theorem Sys2Proof.Laws.Framing.bulkPerform (id) : Sys2Proof.Laws.Framing.Statement (.bulkPerform id) := Sys2Proof.Laws.framing_event rfl rfl
theorem Sys2Proof.Laws.Framing.orderedPerform (id) : Sys2Proof.Laws.Framing.Statement (.orderedPerform id) := Sys2Proof.Laws.framing_event rfl rfl
theorem Sys2Proof.Laws.Framing.hbmChannelService (id) : Sys2Proof.Laws.Framing.Statement (.hbmChannelService id) := Sys2Proof.Laws.framing_event rfl rfl
theorem Sys2Proof.Laws.Framing.lantern (port) (input) : Sys2Proof.Laws.Framing.Statement (.lantern port input) := Sys2Proof.Laws.framing_event rfl rfl
theorem Sys2Proof.Laws.Framing.lanternReceive (port) (input) : Sys2Proof.Laws.Framing.Statement (.lanternReceive port input) := Sys2Proof.Laws.framing_event rfl rfl
theorem Sys2Proof.Laws.Framing.watermark (port) : Sys2Proof.Laws.Framing.Statement (.watermark port) := Sys2Proof.Laws.framing_event rfl rfl
theorem Sys2Proof.Laws.Framing.loadReply (id) : Sys2Proof.Laws.Framing.Statement (.loadReply id) := Sys2Proof.Laws.framing_event rfl rfl
theorem Sys2Proof.Laws.Framing.replyPortPush (id) : Sys2Proof.Laws.Framing.Statement (.replyPortPush id) := Sys2Proof.Laws.framing_event rfl rfl
theorem Sys2Proof.Laws.Framing.storeAck (id) : Sys2Proof.Laws.Framing.Statement (.storeAck id) := Sys2Proof.Laws.framing_event rfl rfl
theorem Sys2Proof.Laws.Framing.negativeReply (id) : Sys2Proof.Laws.Framing.Statement (.negativeReply id) := Sys2Proof.Laws.framing_event rfl rfl
theorem Sys2Proof.Laws.Framing.faultRecordWrite (h) : Sys2Proof.Laws.Framing.Statement (.faultRecordWrite h) := Sys2Proof.Laws.framing_event rfl rfl
theorem Sys2Proof.Laws.Framing.reaperStart (h) : Sys2Proof.Laws.Framing.Statement (.reaperStart h) := Sys2Proof.Laws.framing_event rfl rfl
theorem Sys2Proof.Laws.Framing.haltComplete (h) : Sys2Proof.Laws.Framing.Statement (.haltComplete h) := Sys2Proof.Laws.framing_event rfl rfl
theorem Sys2Proof.Laws.Framing.wfeWake (h) : Sys2Proof.Laws.Framing.Statement (.wfeWake h) := Sys2Proof.Laws.framing_event rfl rfl
theorem Sys2Proof.Laws.Framing.wfeTimeout (h) : Sys2Proof.Laws.Framing.Statement (.wfeTimeout h) := Sys2Proof.Laws.framing_event rfl rfl
theorem Sys2Proof.Laws.Framing.tableWalk (id) : Sys2Proof.Laws.Framing.Statement (.tableWalk id) := Sys2Proof.Laws.framing_event rfl rfl
theorem Sys2Proof.Laws.Framing.descApply (id) : Sys2Proof.Laws.Framing.Statement (.descApply id) := Sys2Proof.Laws.framing_event rfl rfl
theorem Sys2Proof.Laws.Framing.bkupApply (id) : Sys2Proof.Laws.Framing.Statement (.bkupApply id) := Sys2Proof.Laws.framing_event rfl rfl
theorem Sys2Proof.Laws.Framing.unmkApply (id) : Sys2Proof.Laws.Framing.Statement (.unmkApply id) := Sys2Proof.Laws.framing_event rfl rfl
theorem Sys2Proof.Laws.Framing.expndApply (id) : Sys2Proof.Laws.Framing.Statement (.expndApply id) := Sys2Proof.Laws.framing_event rfl rfl
theorem Sys2Proof.Laws.Framing.nallocApply (id) : Sys2Proof.Laws.Framing.Statement (.nallocApply id) := Sys2Proof.Laws.framing_event rfl rfl
theorem Sys2Proof.Laws.Framing.rcycApply (id) : Sys2Proof.Laws.Framing.Statement (.rcycApply id) := Sys2Proof.Laws.framing_event rfl rfl
theorem Sys2Proof.Laws.Framing.nstatApply (id) : Sys2Proof.Laws.Framing.Statement (.nstatApply id) := Sys2Proof.Laws.framing_event rfl rfl
theorem Sys2Proof.Laws.Framing.ninitApply (id) : Sys2Proof.Laws.Framing.Statement (.ninitApply id) := Sys2Proof.Laws.framing_event rfl rfl
theorem Sys2Proof.Laws.Framing.nodeReply (id) : Sys2Proof.Laws.Framing.Statement (.nodeReply id) := Sys2Proof.Laws.framing_event rfl rfl
theorem Sys2Proof.Laws.Framing.nmuBlockArrive (id) : Sys2Proof.Laws.Framing.Statement (.nmuBlockArrive id) := Sys2Proof.Laws.framing_event rfl rfl
theorem Sys2Proof.Laws.Framing.nmuFill (ch) (stream) : Sys2Proof.Laws.Framing.Statement (.nmuFill ch stream) := Sys2Proof.Laws.framing_event rfl rfl
theorem Sys2Proof.Laws.Framing.nmuGath (ch) (stream) : Sys2Proof.Laws.Framing.Statement (.nmuGath ch stream) := Sys2Proof.Laws.framing_event rfl rfl
theorem Sys2Proof.Laws.Framing.nmuIred (ch) (stream) : Sys2Proof.Laws.Framing.Statement (.nmuIred ch stream) := Sys2Proof.Laws.framing_event rfl rfl
theorem Sys2Proof.Laws.Framing.nmuRun (ch) (stream) : Sys2Proof.Laws.Framing.Statement (.nmuRun ch stream) := Sys2Proof.Laws.framing_event rfl rfl
theorem Sys2Proof.Laws.Framing.nmuOverlayLoad (ch) (stream) : Sys2Proof.Laws.Framing.Statement (.nmuOverlayLoad ch stream) := Sys2Proof.Laws.framing_event rfl rfl
theorem Sys2Proof.Laws.Framing.holdTimeout (ch) (stream) : Sys2Proof.Laws.Framing.Statement (.holdTimeout ch stream) := Sys2Proof.Laws.framing_event rfl rfl
theorem Sys2Proof.Laws.Framing.runLimit (ch) : Sys2Proof.Laws.Framing.Statement (.runLimit ch) := Sys2Proof.Laws.framing_event rfl rfl
theorem Sys2Proof.Laws.Framing.nmuCompletion (ch) (stream) : Sys2Proof.Laws.Framing.Statement (.nmuCompletion ch stream) := Sys2Proof.Laws.framing_event rfl rfl
theorem Sys2Proof.Laws.Framing.nmuStreamReset (id) : Sys2Proof.Laws.Framing.Statement (.nmuStreamReset id) := Sys2Proof.Laws.framing_event rfl rfl
theorem Sys2Proof.Laws.Framing.kick (id) : Sys2Proof.Laws.Framing.Statement (.kick id) := Sys2Proof.Laws.framing_event rfl rfl
theorem Sys2Proof.Laws.Framing.noticeAppend (ring) : Sys2Proof.Laws.Framing.Statement (.noticeAppend ring) := Sys2Proof.Laws.framing_event rfl rfl
theorem Sys2Proof.Laws.Framing.launchRecord (id) : Sys2Proof.Laws.Framing.Statement (.launchRecord id) := Sys2Proof.Laws.framing_event rfl rfl
theorem Sys2Proof.Laws.Framing.launchPlacement : Sys2Proof.Laws.Framing.Statement (.launchPlacement) := Sys2Proof.Laws.framing_event rfl rfl
theorem Sys2Proof.Laws.Framing.launchRelease (lid) : Sys2Proof.Laws.Framing.Statement (.launchRelease lid) := Sys2Proof.Laws.framing_event rfl rfl
theorem Sys2Proof.Laws.Framing.doneEmpty (lid) : Sys2Proof.Laws.Framing.Statement (.doneEmpty lid) := Sys2Proof.Laws.framing_event rfl rfl
theorem Sys2Proof.Laws.Framing.launchCompletion (lid) : Sys2Proof.Laws.Framing.Statement (.launchCompletion lid) := Sys2Proof.Laws.framing_event rfl rfl
theorem Sys2Proof.Laws.Framing.tctlResume (id) : Sys2Proof.Laws.Framing.Statement (.tctlResume id) := Sys2Proof.Laws.framing_event rfl rfl
theorem Sys2Proof.Laws.Framing.tctlKill (id) : Sys2Proof.Laws.Framing.Statement (.tctlKill id) := Sys2Proof.Laws.framing_event rfl rfl
theorem Sys2Proof.Laws.Framing.tctlPreempt (id) : Sys2Proof.Laws.Framing.Statement (.tctlPreempt id) := Sys2Proof.Laws.framing_event rfl rfl
theorem Sys2Proof.Laws.Framing.tctlRestore (id) : Sys2Proof.Laws.Framing.Statement (.tctlRestore id) := Sys2Proof.Laws.framing_event rfl rfl
theorem Sys2Proof.Laws.Framing.preemptSave (h) : Sys2Proof.Laws.Framing.Statement (.preemptSave h) := Sys2Proof.Laws.framing_event rfl rfl
theorem Sys2Proof.Laws.Framing.guestbookAppend (id) : Sys2Proof.Laws.Framing.Statement (.guestbookAppend id) := Sys2Proof.Laws.framing_event rfl rfl
theorem Sys2Proof.Laws.Framing.nmuPreempt (id) : Sys2Proof.Laws.Framing.Statement (.nmuPreempt id) := Sys2Proof.Laws.framing_event rfl rfl
theorem Sys2Proof.Laws.Framing.nmuRestore (id) : Sys2Proof.Laws.Framing.Statement (.nmuRestore id) := Sys2Proof.Laws.framing_event rfl rfl
theorem Sys2Proof.Laws.Framing.nmuSaveDone (ch) : Sys2Proof.Laws.Framing.Statement (.nmuSaveDone ch) := Sys2Proof.Laws.framing_event rfl rfl
theorem Sys2Proof.Laws.Framing.nmuRestoreDone (ch) : Sys2Proof.Laws.Framing.Statement (.nmuRestoreDone ch) := Sys2Proof.Laws.framing_event rfl rfl
theorem Sys2Proof.Laws.Framing.invc (id) : Sys2Proof.Laws.Framing.Statement (.invc id) := Sys2Proof.Laws.framing_event rfl rfl
theorem Sys2Proof.Laws.Framing.invalidationDone : Sys2Proof.Laws.Framing.Statement (.invalidationDone) := Sys2Proof.Laws.framing_event rfl rfl
theorem Sys2Proof.Laws.Framing.excl (id) : Sys2Proof.Laws.Framing.Statement (.excl id) := Sys2Proof.Laws.framing_event rfl rfl
theorem Sys2Proof.Laws.Framing.fexcl (id) : Sys2Proof.Laws.Framing.Statement (.fexcl id) := Sys2Proof.Laws.framing_event rfl rfl
theorem Sys2Proof.Laws.Framing.cecntClear (id) : Sys2Proof.Laws.Framing.Statement (.cecntClear id) := Sys2Proof.Laws.framing_event rfl rfl
theorem Sys2Proof.Laws.Framing.registerWrite (id) : Sys2Proof.Laws.Framing.Statement (.registerWrite id) := Sys2Proof.Laws.framing_event rfl rfl
theorem Sys2Proof.Laws.Framing.scrub (pa) : Sys2Proof.Laws.Framing.Statement (.scrub pa) := Sys2Proof.Laws.framing_event rfl rfl
theorem Sys2Proof.Laws.Framing.mcheckStateError (die) : Sys2Proof.Laws.Framing.Statement (.mcheckStateError die) := Sys2Proof.Laws.framing_event rfl rfl
theorem Sys2Proof.Laws.Framing.flitRetry (port) (failures) : Sys2Proof.Laws.Framing.Statement (.flitRetry port failures) := Sys2Proof.Laws.framing_event rfl rfl
theorem Sys2Proof.Laws.Framing.fabricRequest (port) (pa) (act) : Sys2Proof.Laws.Framing.Statement (.fabricRequest port pa act) := Sys2Proof.Laws.framing_event rfl rfl
theorem Sys2Proof.Laws.Framing.portDown (port) : Sys2Proof.Laws.Framing.Statement (.portDown port) := Sys2Proof.Laws.framing_event rfl rfl
theorem Sys2Proof.Laws.Framing.timeMessage (offset) : Sys2Proof.Laws.Framing.Statement (.timeMessage offset) := Sys2Proof.Laws.framing_event rfl rfl
theorem Sys2Proof.Laws.Framing.clockLockLost : Sys2Proof.Laws.Framing.Statement (.clockLockLost) := Sys2Proof.Laws.framing_event rfl rfl
theorem Sys2Proof.Laws.Framing.reductionPacket (id) : Sys2Proof.Laws.Framing.Statement (.reductionPacket id) := Sys2Proof.Laws.framing_event rfl rfl
theorem Sys2Proof.Laws.Framing.reductionTimeout (window) (pa) : Sys2Proof.Laws.Framing.Statement (.reductionTimeout window pa) := Sys2Proof.Laws.framing_event rfl rfl
theorem Sys2Proof.Laws.Framing.reset : Sys2Proof.Laws.Framing.Statement (.reset) := Sys2Proof.Laws.framing_event rfl rfl
theorem Sys2Proof.Laws.Framing.fwgo (id) : Sys2Proof.Laws.Framing.Statement (.fwgo id) := Sys2Proof.Laws.framing_event rfl rfl
theorem Sys2Proof.Laws.Framing.imageCheck : Sys2Proof.Laws.Framing.Statement (.imageCheck) := Sys2Proof.Laws.framing_event rfl rfl
theorem Sys2Proof.Laws.Framing.qreq (id) : Sys2Proof.Laws.Framing.Statement (.qreq id) := Sys2Proof.Laws.framing_event rfl rfl
theorem Sys2Proof.Laws.Framing.quoteWrite : Sys2Proof.Laws.Framing.Statement (.quoteWrite) := Sys2Proof.Laws.framing_event rfl rfl
theorem Sys2Proof.Laws.Framing.bladeFailure (blade) : Sys2Proof.Laws.Framing.Statement (.bladeFailure blade) := Sys2Proof.Laws.framing_event rfl rfl
theorem Sys2Proof.Laws.Framing.thermalMcheck (die) : Sys2Proof.Laws.Framing.Statement (.thermalMcheck die) := Sys2Proof.Laws.framing_event rfl rfl
theorem Sys2Proof.Laws.Framing.thermalPowerOff (die) : Sys2Proof.Laws.Framing.Statement (.thermalPowerOff die) := Sys2Proof.Laws.framing_event rfl rfl
theorem Sys2Proof.Laws.Framing.portUp (port) : Sys2Proof.Laws.Framing.Statement (.portUp port) := Sys2Proof.Laws.framing_event rfl rfl
theorem Sys2Proof.Laws.Framing.supervisorAbort (lid) (code) : Sys2Proof.Laws.Framing.Statement (.supervisorAbort lid code) := Sys2Proof.Laws.framing_event rfl rfl
end

