-- ==== Sys2Proof/Tests/Slice0.lean ====
section
/-! SUPPORT. Tests of the model and witnesses of its obligations. A theorem `witness_<Name>` shows small states and operands that meet the
hypotheses of the part `<Name>` of an obligation, at the edges of its clauses where it has several, and what the instruction then does there,
worked out from the rule; a theorem `test_<what>` is a word of the spec's encodings with the instruction it stands for, or an instruction that
the word's checks refuse. -/

namespace Sys2Proof.Tests

set_option Elab.async false

open Sys2Proof Sys2Proof.Machine Sys2Proof.Claim

/-! ### Small states -/

/-- The next state of an outcome. -/
def after (o : Host.Outcome State Fault Refusal) : Option State := match o with | .next t => some t | _ => none

/-- Guard p0 do. -/
def g0 : Guard := ⟨false, 0⟩

/-- Guard p0 dont. -/
def g1 : Guard := ⟨true, 0⟩

/-- One placed thread on the first core of a domain of 4 by 4 cores. -/
def base : State := State.reset.withFetchWord 32 0

/-- A state with x[r] of the issuing hart changed. -/
def withX (s : State) (r : Nat) (w : Word) : State := s.mapFocus fun t => { t with x := t.x.setIfInBounds r w }

/-- x6 = -9, x7 = 3, and the word 17 in the east arrival queue. -/
def regs : State := (withX (withX base 6 (-9)) 7 3).mapFocus fun t => { t with arrivals := t.arrivals.set 1 [17] }

/-- What binary and unary forms leave the hart as. -/
def binary (s : State) (len : Nat) (d a b : BitVec 5) (f : Word → Word → Word) : Option Thread :=
  (take s (start s len) a).bind fun p => (take s p.2 b).bind fun q => give s q.2 d (f p.1 q.1)
def unary (s : State) (len : Nat) (d a : BitVec 5) (f : Word → Word) : Option Thread :=
  (take s (start s len) a).bind fun p => give s p.2 d (f p.1)

/-- Two harts agree in their registers, but for tiles and latches. -/
def same (t u : Thread) : Bool :=
  decide (t.pc = u.pc) && decide (t.x.toList = u.x.toList) && decide (t.p.toList = u.p.toList) && decide (t.f.toList = u.f.toList) &&
  decide (t.v.toList = u.v.toList) && decide (t.e.toList = u.e.toList) && decide (t.dc.toList = u.dc.toList) &&
  decide (t.fcsr = u.fcsr) && decide (t.pend = u.pend) && decide (t.arrivals.toList = u.arrivals.toList) &&
  decide (t.outputs.toList = u.outputs.toList) && decide (t.rep = u.rep) && decide (t.unack = u.unack) &&
  decide (t.acquires = u.acquires) && decide (t.phases.toList = u.phases.toList) && decide (t.arrived.toList = u.arrived.toList) &&
  decide (t.wait = u.wait)

/-- Two states agree in the issuing hart's registers, in memory and in what is under way. -/
def alike (s u : State) : Bool :=
  same s.focus u.focus && decide (s.mem = u.mem) && decide (s.net = u.net) && decide (s.buffers = u.buffers) &&
  decide (s.strided = u.strided) && decide (s.copies = u.copies) && decide (s.blds = u.blds) && decide (s.injectors = u.injectors) &&
  decide (s.nextId = u.nextId)

/-- The instruction's next state is like that one. -/
abbrev yields (i : Instr) (s : State) (u : Option State) : Prop := (u.any fun u => (after (exec i s)).any fun v => alike v u) = true

/-- There is such a hart, and the instruction completes with it. -/
abbrev runs (i : Instr) (s : State) (t : Option Thread) (len : Nat := 4) : Prop :=
  yields i s (t.map fun t => retired s t len .no)

/-- The placed launch with CONTAIN, whose faults stand in a fault context. -/
def contained (s : State) : State :=
  { s with launches := s.launches.map fun l => { l with info := { l.info with contain := true, reaper := 0x0100000000000040 } } }

/-- The issuing hart's task faults with this code and FADDR. -/
abbrev traps (o : Host.Outcome State Fault Refusal) (code : BitVec 8) (fa : Word) : Prop :=
  ((after o).bind fun u => u.focus.fault.map fun f => (f.code, f.faddr)) = some (code, fa)

/-! ### Witnesses: scalar integer instructions, predicates, jumps -/

theorem witness_AluWritesItsFunction : Enabled regs .engine g0 ∧ PortsOk regs [29, 7, 5, 6] ∧
    (∀ e ∈ aluOps, runs (e.1 g0 5 29 7) regs (binary regs 4 5 29 7 e.2)) ∧
    (∀ e ∈ aluUnaryOps, runs (e.1 g0 29 6) regs (unary regs 4 29 6 e.2)) := by and_intros <;> decide +kernel

theorem witness_MulDivWritesItsFunction : Enabled regs .engine g0 ∧ PortsOk regs [6, 7, 5, 0] ∧
    (∀ e ∈ mulDivOps, runs (e.1 g0 5 6 7) regs (binary regs 4 5 6 7 e.2)) ∧
    (∀ e ∈ mulDivOps, runs (e.1 g0 5 6 0) regs (binary regs 4 5 6 0 e.2)) := by and_intros <;> decide +kernel

theorem witness_ImmediatesWriteTheirFunction : Enabled regs .engine g0 ∧ PortsOk regs [6, 5, 0] ∧
    (∀ e ∈ immOps, runs (e.1 g0 5 6 1024) regs (unary regs 4 5 6 fun x => e.2 x (-1024))) ∧
    (∀ e ∈ shiftImmOps, runs (e.1 g0 0 6 63) regs (unary regs 4 0 6 fun x => e.2 x 63)) ∧
    runs (.li g0 5 0x8000) regs (give regs (start regs 4) 5 (-32768)) ∧
    runs (.lis g0 7 0xABCD) regs (unary regs 4 7 7 fun _ => 0x3ABCD) ∧
    runs (.addpc g0 5 0xFFFF) regs (give regs (start regs 4) 5 0x00FFFFFFFFFFFFFE) := by and_intros <;> decide +kernel

theorem witness_HalfwordIntegerForms : PortsOk regs [0, 29, 6, 7] ∧
    runs (.mvN 6 29) regs (unary regs 2 6 29 id) 2 ∧ (∀ e ∈ halfOps, runs (e.1 6 7) regs (binary regs 2 6 6 7 e.2) 2) ∧
    runs (.addiN 6 31) regs (unary regs 2 6 6 fun x => x - 1) 2 ∧ runs (.liN 6 16) regs (give regs (start regs 2) 6 (-16)) 2 ∧
    (∀ e ∈ halfShiftOps, runs (e.1 6 31) regs (unary regs 2 6 6 fun x => e.2 x 31) 2) ∧
    runs .nopN regs (some (start regs 2)) 2 := by and_intros <;> decide +kernel

/-- A load request in flight that will write x6 of the first core's first thread. -/
def aLoad (cls : Cls) : Req :=
  { id := 0, grp := 0, src := .hart (.thread ⟨0, 0, 0⟩ 0), lid := 1, task := 0, space := 0, phys := false, cls, stamp := ⟨0, 0, 0, 0⟩,
    dc := some 1, counted := false, acquire := false, addr := 0, body := .load 8 (.x 6 false), phase := .sent, served := false,
    superstep := 0, pc := 0, iword := 0 }

/-- The registers with a full east output queue. -/
def full : State := regs.mapFocus fun t => { t with outputs := t.outputs.set 1 [1, 2] }

theorem witness_OperandsHoldBack : Enabled base .engine g0 ∧
    (¬ PortsOk base [28, 7, 5] ∧ ∀ e ∈ aluOps ++ mulDivOps,
      traps (exec (e.1 g0 5 28 7) (contained base)) 0x08 0) ∧
    (PortsOk base [29, 7, 5] ∧ portOf base.focus.id 29 = some 1 ∧ base.focus.arrivals[1] = [] ∧ ∀ e ∈ aluOps ++ mulDivOps,
      (after (exec (e.1 g0 5 29 7) base)).map (fun t => t.focus.wait) = some (base.stall (.port 1 false)).focus.wait) ∧
    (((full.focus.outputs[1]).length = 2 ∧ Clear full (.x 29) ∧ PortsOk full [6, 7, 29]) ∧ ∀ e ∈ aluOps ++ mulDivOps,
      (after (exec (e.1 g0 29 6 7) full)).map (fun t => t.focus.wait) = some (full.stall (.port 1 true)).focus.wait) ∧
    (∀ cls ∈ [Cls.bulk, Cls.held], PortsOk { base with net := [aLoad cls] } [6, 7, 5] ∧ portOf base.focus.id 6 = none ∧
      ¬ Clear { base with net := [aLoad cls] } (.x 6)) := by and_intros <;> decide +kernel

theorem witness_DisabledHasNoEffect : bit (regs.focus.guard g1) 0 = false ∧
    (∀ e ∈ aluOps ++ mulDivOps, runs (e.1 g1 5 29 6) regs (some (start regs 4))) ∧
    (∀ e ∈ aluUnaryOps, runs (e.1 g1 5 29) regs (some (start regs 4))) := by and_intros <;> decide +kernel

theorem witness_RetiresAlone : regs.focus.troupe = none ∧ regs.focus.rep = none ∧
    regs.focus.id = .thread ⟨0, 0, 0⟩ 0 ∧ lookup? ⟨0, 0, 0⟩ (retired regs (start regs 4) 4 .no).streaks = some (0, 1) := by and_intros <;> decide +kernel

/-- p1 = 0x0F, p2 = 0x35. -/
def preds : State := regs.mapFocus fun t => { t with p := (t.p.set 1 0x0F).set 2 0x35 }

theorem witness_ComparesWritePredicates : Enabled preds .engine g0 ∧ PortsOk preds [6, 7] ∧
    (∀ m ∈ [0, 1, 2, 3], ∀ c ∈ [0, 1, 2, 3, 4, 5, 6, 7], runs (.cmp g0 m 1 6 7 2 c) preds
      (some (compared (start preds 4) m (condHolds c (-9 : Word) 3) 1 2))) ∧
    runs (.cmpi g0 0 1 6 16 1 2) preds (some (compared (start preds 4) 0 (condHolds 2 (-9 : Word) (-16)) 1 1)) := by and_intros <;> decide +kernel

theorem witness_PredicateLogic : Enabled preds .engine g0 ∧ Enabled preds .core g0 ∧ PortsOk preds [6, 5] ∧
    (∀ e ∈ plogOps, runs (e.1 g0 3 1 2) preds (some (withP (start preds 4) 3 (e.2 0x0F 0x35)))) ∧
    runs (.pnot g0 0 1) preds (some (start preds 4)) ∧ runs (.pfirst g0 3 2) preds (some (withP (start preds 4) 3 1)) ∧
    runs (.pfromx g0 3 6) preds (some (withP (start preds 4) 3 0xFFFFFFF7)) ∧
    runs (.ptox g0 5 1) preds (give preds (start preds 4) 5 0x0F) ∧ runs (.pcnt g0 5 2) preds (give preds (start preds 4) 5 4) := by
  and_intros <;> decide +kernel

theorem witness_JumpsGoToTheirTargets : Enabled regs .engine g0 ∧ PortsOk regs [6, 7, 0, 29, 5] ∧
    runs (.j g0 0x1FFFFF) regs (some { start regs 4 with npc := 0x00FFFFFFFFFFFFFE }) ∧
    (give regs (start regs 4) 1 (regs.focus.pc + 4)).isSome = true ∧
    (take regs (start regs 4) 7).map (·.1) = some 3 ∧ traps (exec (.jalr g0 5 7 0) (contained regs)) 0x03 3 ∧
    (take (withX regs 7 4) (start (withX regs 7 4) 4) 7).map (·.1) = some 4 ∧
      (after (exec (.jalr g0 7 7 1) (withX regs 7 4))).map (fun t => (t.focus.pc, t.focus.x[7])) = some (6, 0x0100000000000004) ∧
    traps (exec (.jrN 7) (contained regs)) 0x03 3 ∧
    (after (exec (.jrN 7) (withX regs 7 4))).map (·.focus.pc) = some 4 ∧
    (after (exec (.jalrN 5 7) (withX regs 7 4))).map (fun t => (t.focus.pc, t.focus.x[5])) = some (4, 0x0100000000000002) ∧
    (after (exec (.djnz g0 7 0xFFFC) (withX regs 7 1))).map (·.focus.pc) = some 0x0100000000000004 ∧
    (after (exec (.djnz g0 7 0xFFFC) regs)).map (·.focus.pc) = some 0x00FFFFFFFFFFFFF8 := by and_intros <;> decide +kernel

/-- A launch code page that holds two ADDs after a first word, with the descriptor in e1 that marks the first one's field d, stride 2. -/
def loop : State :=
  (withX (base.pokeBytes 4 (leBytes 8 0x004A6381004A6381)) 6 3).mapFocus fun t => { t with e := t.e.set 1 0x0A0001 }

theorem witness_RepOpensItsBlock : Enabled loop .core g0 ∧ PortsOk loop [6, 0] ∧ (take loop (start loop 4) 6).map (·.1) = some 3 ∧
    loop.troupeOf loop.focus = none ∧
    (match State.fetchBody loop (start loop 4) (loop.focus.pc + 4) 2 with | .words ws _ => ws | _ => []) = [(0x004A6381, 4), (0x004A6381, 4)] ∧
    bodyOk 0x0A0001 [(0x004A6381, 4), (0x004A6381, 4)] = true ∧
    (after (exec (.rep g0 6 1 1) loop)).bind (·.focus.rep) =
      some ⟨loop.focus.pc + 4, [(0x004A6381, 4), (0x004A6381, 4)], 0x0A0001, 0, 3, 0⟩ ∧
    (after (exec (.rep g0 0 1 1) loop)).map (fun u => (u.focus.rep, u.focus.pc)) = some (none, loop.focus.pc + 12) ∧
    traps (exec (.rep g0 6 1 1) (contained { loop with mem := base.mem })) 0x01 0 ∧
    traps (exec (.rep g0 6 1 1) (contained (loop.mapFocus fun t => { t with pc := 0x01000000001FFFFA }))) 0x05 0x0100000000200000 := by and_intros <;> decide +kernel

/-- Inside a body of two NOP.N. -/
def inBody (pos remaining : Nat) : State :=
  base.mapFocus fun t => { t with rep := some ⟨t.pc, [(0xB000, 2), (0xB000, 2)], 0, 1, remaining, pos⟩, pc := t.pc + BitVec.ofNat 64 (2 * pos) }

theorem witness_RepeatBlockAdvances :
    (∀ e ∈ [(0, 3), (1, 3), (1, 1)], (inBody e.1 e.2).focus.troupe = none ∧ (inBody e.1 e.2).focus.rep.isSome = true) ∧
    (after (exec .nopN (inBody 0 3))).map (fun u => (u.focus.pc, u.focus.rep.map (·.pos))) = some (base.focus.pc + 2, some 1) ∧
    (after (exec .nopN (inBody 1 3))).map (fun u => (u.focus.pc, u.focus.rep.map fun c => (c.pass, c.remaining))) =
      some (base.focus.pc, some (2, 2)) ∧
    (after (exec .nopN (inBody 1 1))).map (fun u => (u.focus.pc, u.focus.rep)) = some (base.focus.pc + 4, none) := by and_intros <;> decide +kernel

/-- A repeat context of one marked ADD in pass 15. -/
def pass15 : RepCtx := ⟨0, [(0x004A6381, 4)], 0x0A0001, 15, 1, 0⟩

theorem witness_RepeatStaggersMarkedFields :
    pass15.insns[pass15.pos]? = some (0x004A6381, 4) ∧ pass15.pos < 16 ∧ pass15.current.1 = 0x00466381 := by and_intros <;> decide +kernel

/-- A hart of the first cluster's first row that waits in TRP.FORM of width 2 and skew 2. -/
def former (col : Nat) : Thread :=
  { base.focus with id := .thread (coreAt 0 col) 0, wait := some (.form 2 2, 0), iword := 0x06006381 }

/-- Two neighbours wait in TRP.FORM. -/
def forming : State :=
  { base with focus := former 0, parked := [former 1]
              launches := [{ placedLaunch with sets := [(coreAt 0 0, [0]), (coreAt 0 1, [0])] }] }

/-- A thread whose x6 is w, alone or beside a forming thread of its core. -/
def asks (w : Nat) : State := contained (withX base 6 (BitVec.ofNat 64 w))
def asksBeside : State := { asks 2 with parked := [{ former 0 with id := .thread ⟨0, 0, 0⟩ 1 }] }

theorem witness_TroupesForm :
    (Enabled (asks 2) .core g0 ∧ PortsOk (asks 2) [6, 0] ∧
     ((take (asks 2) (start (asks 2) 4) 6).bind fun p => (take (asks 2) p.2 0).map fun q => (p.1, q.1)) = some (2, 0) ∧
     ((asks 2).launchOf (asks 2).focus).isSome = true ∧ (asks 2).focus.id.core? = some ⟨0, 0, 0⟩ ∧ (asks 2).coreTaken (asks 2).focus = false ∧
     (asks 2).conflicts (runOf placedLaunch ⟨0, 0, 0⟩ 2 2) (asks 2).focus.id = [] ∧
     (after (exec (.trpForm g0 6 0) (asks 2))).map (·.focus.wait) = some ((asks 2).stall (.form 2 2)).focus.wait) ∧
    (∀ w ∈ [0, 5, 65], (asks w).formRun g0 6 0 = none ∧ traps (exec (.trpForm g0 6 0) (asks w)) 0x01 0) ∧
    (asksBeside.coreTaken asksBeside.focus = true ∧
     (after (exec (.trpForm g0 6 0) asksBeside)).map (·.focus.wait) = some (asksBeside.stall .formBlocked).focus.wait) ∧
    (forming.waitingRun (forming.hart (former 1).id) = some (runOf placedLaunch ⟨0, 0, 0⟩ 2 2) ∧
     forming.runHarts (runOf placedLaunch ⟨0, 0, 0⟩ 2 2) 0 2 = some [(former 0).id, (former 1).id] ∧
     (after (exec (.troupeFormed (former 1).id) forming)).map (fun u =>
       (u.troupes.map fun e => (e.1, e.2.members), u.focus.tpos, (u.hart (former 1).id).tpos)) =
       some ([(0, [some (former 0).id, some (former 1).id])], 0, 1)) := by and_intros <;> decide +kernel

/-- The two neighbours as a troupe, the leader issuing. -/
def troupe : State :=
  { forming with
    focus := { former 0 with troupe := some 0, wait := none }
    parked := [{ former 1 with troupe := some 0, wait := none, tpos := 1 }]
    troupes := [(0, ⟨0, 0, 0, 2, 2, [some (former 0).id, some (former 1).id], [], none, none, []⟩)] }

theorem witness_TroupeReadsAndSplit : Enabled troupe .core g0 ∧ PortsOk troupe [5] ∧ (troupe.troupeOf troupe.focus).isSome = true ∧
    runs (.trpPos g0 5) base (give base (start base 4) 5 0) ∧ runs (.trpWidth g0 5) base (give base (start base 4) 5 0) ∧
    runs (.trpWidth g0 5) troupe (give troupe (start troupe 4) 5 2) ∧
    runs (.trpPos g0 5) (troupe.focusOn (former 1).id) (give (troupe.focusOn (former 1).id) (start (troupe.focusOn (former 1).id) 4) 5 1) ∧
    base.focus.troupe = none ∧ runs (.trpSplit g0) base (some (start base 4)) ∧
    troupe.focus.troupe = some 0 ∧ (∀ u ∈ troupe.parked, u.troupe = some 0 → u.slotNo ≤ troupe.focus.slotNo) ∧ troupe.focus.rep = none ∧
    (after (exec (.trpSplit g0) troupe)).map (fun u => (u.focus.troupe, u.focus.pc, u.troupes.map fun e => e.2.splitAt)) =
      some (none, troupe.focus.pc + 4, [some 0]) := by and_intros <;> decide +kernel


/-- The eastern member of the troupe at a slot whose REP the leader has opened, or skipped with count 0. -/
def following (rep : Option RepCtx) (npc count : Word) : State :=
  let t := (withX loop 6 count).focus
  { troupe with
    mem := loop.mem
    focus := { t with id := (former 1).id, troupe := some 0, tpos := 1 }, parked := [{ t with id := (former 0).id, troupe := some 0, slotNo := 1 }]
    troupes := [(0, ⟨0, 0, 0, 2, 2, [some (former 0).id, some (former 1).id], [⟨t.pc, 0x05C03061, 4, npc, false, rep⟩], none, none, []⟩)] }

/-- The leader's context of three passes. -/
def leaders : RepCtx := ⟨loop.focus.pc + 4, [(0x004A6381, 4), (0x004A6381, 4)], 0x0A0001, 0, 3, 0⟩

theorem witness_RepOpensItsBlock_member :
    (let s := following (some leaders) (loop.focus.pc + 4) 3
     s.focus.tpos ≠ 0 ∧ ((s.troupeOf s.focus).bind fun tr => tr.stream[s.focus.slotNo]?.map (·.rep)) = some (some leaders) ∧
     (after (exec (.rep g0 6 1 2) s)).bind (·.focus.rep) = some leaders) ∧
    (let s := following none (loop.focus.pc + 12) 0
     (after (exec (.rep g0 6 1 2) s)).map (fun u => (u.focus.rep, u.focus.pc, u.focus.troupe)) = some (none, loop.focus.pc + 12, some 0)) := by
  and_intros <;> decide +kernel

theorem witness_RepeatBodiesAreChecked :
    bodyOk 0x180003 [(0x004A6381, 4), (0x004A6381, 4)] = true ∧ bodyOk 0x400001 [(0x004A6381, 4)] = false ∧
    bodyOk 0x080002 [(0x004A6381, 4)] = false ∧ bodyOk 0 [(0x04C00015, 4)] = false ∧ bodyOk 0 [(0x0BC00003, 4)] = false ∧
    bodyOk 0 [(0xB800, 2)] = false ∧ bodyOk 0 [(0xB000, 2)] = true ∧ bodyOk 0x080001 [(0xB000, 2)] = false ∧
    markOk 0x200000 (wordA g0 0x01 5 6 3 0x13) = false ∧ markOk 0x080000 (wordA g0 0x01 5 6 3 0x13) = true := by and_intros <;> decide +kernel

/-- A lone waiting hart of the run of width 2 whose skew is another. -/
def conflicting : State :=
  contained { withX forming 6 2 with
    focus := { (withX base 6 2).focus with id := (former 1).id, wait := none }, parked := [{ former 0 with wait := some (.form 2 3, 0) }] }

theorem witness_TroupesForm_conflict : conflicting.coreTaken conflicting.focus = false ∧
    conflicting.conflicts (runOf placedLaunch (coreAt 0 1) 2 2) conflicting.focus.id = [(former 0).id] ∧
    traps (exec (.trpForm g0 6 0) conflicting) 0x01 0 ∧
    ((after (exec (.trpForm g0 6 0) conflicting)).map fun u => (u.hart (former 0).id).stage) = some .dying := by and_intros <;> decide +kernel

theorem witness_MembersLeave : (troupe.hart (former 1).id).troupe = some 0 ∧ (lookup? 0 troupe.troupes).isSome = true ∧
    (troupe.leaveTroupe (former 1).id).troupes.map (fun e => (e.2.members, e.2.broken)) = [([some (former 0).id, none], some 0)] ∧
    ((troupe.leaveTroupe (former 1).id).hart (former 1).id).troupe = none ∧ ((troupe.leaveTroupe (former 1).id).hart (former 0).id).troupe = some 0 ∧
    (troupe.leaveTroupe (former 0).id).troupes = [] ∧ ((troupe.leaveTroupe (former 0).id).hart (former 1).id).troupe = none := by
  and_intros <;> decide +kernel
/-! ### Witnesses: memory accesses -/

/-- x6 = 0x40, x7 a word of data that stands at TCM bytes 0x38 to 0x3F too, and f1 = 1.5. -/
def near : State :=
  ((withX (withX base 6 0x40) 7 0x81828384858687F8).pokeBytes (tcmKey ⟨0, 0, 0⟩ 0x38) (leBytes 8 0x8182838485868788)).mapFocus fun t =>
    { t with f := t.f.set 1 0x3FC00001, unack := 0 }

/-- The same with a store outstanding. -/
def owing : State := near.mapFocus fun t => { t with unack := 1 }

/-- x6 leads to global memory. -/
def far : State := withX near 6 0x0100000000000140

/-- A local load completes with its value pending. -/
def loads (s : State) (len : Nat) (d a : BitVec 5) (v : VReg) : Option Thread :=
  (take s (start s len) a).bind fun p => (claim s p.2 d).map fun t => if d = 0 then t else pending t (.inl d) v

theorem witness_LocalLoadsPendTheirValue : Enabled near .engine g0 ∧ PortsOk near [6, 5, 0, 29] ∧
    (∀ n ∈ [1, 2, 4, 8], InRange near (effective 0x40 127 n) n n false ∧
      IsLocal near (effective 0x40 127 n) (tcmKey ⟨0, 0, 0⟩ (0x40 - n)) ∧
      Quiet near (tcmKey ⟨0, 0, 0⟩ (0x40 - n)) n) ∧
    runs (.ld g0 5 6 127 0 1) near (loads near 4 5 6 0xFFFFFFFFFFFFFF81) ∧
    runs (.ldu g0 29 6 127 1 1) near (loads near 4 29 6 0x8182) ∧ runs (.ld g0 0 6 127 3 1) near (loads near 4 0 6 0) ∧
    (InRange near 0x40 8 8 false ∧ IsLocal near 0x40 (tcmKey ⟨0, 0, 0⟩ 0x40) ∧ Quiet near (tcmKey ⟨0, 0, 0⟩ 0x40) 8) ∧
    runs (.ldDN 5 6) near (loads near 2 5 6 0) 2 ∧
    runs (.ldWN 5 6) (withX near 6 0x3C) (loads (withX near 6 0x3C) 2 5 6 0xFFFFFFFF81828384) 2 := by and_intros <;> decide +kernel

/-- A hart with a value pending. -/
def awaits (d : Sum (BitVec 5) (Sum (BitVec 4) (BitVec 5))) (left n : Nat) : Thread :=
  { base.focus with pend := [⟨d, 7, left⟩], outputs := base.focus.outputs.set 1 (List.replicate n 9) }

theorem witness_PendingLoadsLand :
    (awaits (.inl 5) 2 0).age.pend.map (·.left) = [1] ∧ portOf base.focus.id 5 = none ∧ portOf base.focus.id 29 = some 1 ∧
    (awaits (.inl 5) 1 0).age.x[5] = 7 ∧ (awaits (.inl 29) 1 1).age.outputs[1] = [9, 7] ∧
    ((awaits (.inl 29) 1 2).age.outputs[1] = [9, 9] ∧ (awaits (.inl 29) 1 2).age.pend.map (·.left) = [0]) ∧
    (awaits (.inr (.inl 5)) 1 0).age.f[5] = 7 ∧ (awaits (.inr (.inr 5)) 0 0).age.v[5] = 7 := by and_intros <;> decide +kernel

theorem witness_LocalStoresWriteTheirBytes : Enabled near .engine g0 ∧ PortsOk near [6, 7] ∧ Memory.wf near.mem = true ∧
    (InRange near 0x44 4 4 true ∧ IsLocal near 0x44 (tcmKey ⟨0, 0, 0⟩ 0x44) ∧ Quiet near (tcmKey ⟨0, 0, 0⟩ 0x44) 4) ∧
    (owing.released owing.focus = false ∧ (after (exec (.sto g0 7 6 1 2 1) owing)).map (·.focus.wait) = some (owing.stall .other).focus.wait) ∧
    near.released near.focus = true ∧
    (∀ i ∈ [Instr.st g0 7 6 1 2 1, Instr.sto g0 7 6 1 2 1], (after (exec i near)).map (fun u => u.peek (tcmKey ⟨0, 0, 0⟩ 0x40) 12) =
      some [0, 0, 0, 0, 0xF8, 0x87, 0x86, 0x85, 0, 0, 0, 0]) ∧
    (after (exec (.stDN 7 6) near)).map (fun u => u.peek (tcmKey ⟨0, 0, 0⟩ 0x40) 9) =
      some [0xF8, 0x87, 0x86, 0x85, 0x84, 0x83, 0x82, 0x81, 0] ∧
    (after (exec (.stWN 7 6) near)).map (fun u => u.peek (tcmKey ⟨0, 0, 0⟩ 0x40) 5) = some [0xF8, 0x87, 0x86, 0x85, 0] := by
  and_intros <;> decide +kernel

/-- What an instruction that sends leaves. -/
def sends (s : State) (t : Option Thread) (m : Manner) (asks : List (Word × Body)) (len : Nat := 4) : Option State :=
  t.map fun t => (sent s t m asks).retire s.focus len .no true

theorem witness_RemoteAccessesSendRequests : Enabled far .engine g0 ∧ PortsOk far [6, 7, 5] ∧
    (InRange far 0x0100000000000148 8 8 false ∧ InRange far 0x0100000000000140 4 4 true ∧ NotForwarded far 0x0100000000000148 8 ∧
     placeOf far.focus.id (far.launchOf far.focus) 0x0100000000000148 = .glob 0x148 ∧ far.released far.focus = true) ∧
    (∀ m ∈ [asLoad 1, asStore 1 false, asStore 1 true], MaySend far m [(0x0100000000000148, .load 8 (.x 5 true))]) ∧
    yields (.ld g0 5 6 1 3 1) far (sends far (some (start far 4)) (asLoad 1) [(0x0100000000000148, .load 8 (.x 5 true))]) ∧
    yields (.st g0 7 6 0 0 1) far (sends far (some (start far 4)) (asStore 1 false) [(0x0100000000000140, .store [some 0xF8])]) ∧
    yields (.sto g0 7 6 0 0 1) far (sends far (some (start far 4)) (asStore 1 true) [(0x0100000000000140, .store [some 0xF8])]) ∧
    yields (.ldWN 5 6) far (sends far (some (start far 2)) (asLoad 0) [(0x0100000000000140, .load 4 (.x 5 true))] 2) ∧
    yields (.stWN 7 6) far
      (sends far (some (start far 2)) (asStore 0 false) [(0x0100000000000140, .store [some 0xF8, some 0x87, some 0x86, some 0x85])] 2) := by
  and_intros <;> decide +kernel

/-- The placed launch as a DET launch. -/
def det (s : State) : State := { s with launches := s.launches.map fun l => { l with info := { l.info with det := true } } }

theorem witness_AccessClasses : ((0x40 : Word).toNat < 2 ^ 48 ∧ 2 ^ 48 ≤ (0x0100000000000140 : Word).toNat) ∧
    ((det far).isDet far.focus = true ∧ (det far).clsOf far.focus 0x0100000000000140 true true = .held) ∧
    (far.isDet far.focus = false ∧ far.clsOf far.focus 0x0100000000000140 true true = .ordered) ∧
    ((far.keyFor? far.focus 0x0001000000000140).bind dieOfKey = some far.focus.id.die ∧
     far.clsOf far.focus 0x0001000000000140 false true = .ordered) ∧
    ((far.keyFor? far.focus 0x0100000000000140).bind dieOfKey ≠ some far.focus.id.die ∧
     far.clsOf far.focus 0x0100000000000140 false true = .bulk) ∧
    far.clsOf (Thread.fresh (.overlay 0)) 0x0100000000000140 false false = .bulk := by and_intros <;> decide +kernel

theorem witness_BadAddressesTrap : Enabled (contained near) .engine g0 ∧ PortsOk (contained near) [6, 7] ∧ near.focus.acquires = [] ∧
    rangeOk near.focus.id (near.launchOf near.focus) 0x0002000000000000 8 false = false ∧
    traps (exec (.ld g0 7 6 0 3 0) (contained (withX near 6 0x0002000000000000))) 0x04 0x0002000000000000 ∧
    (portOf near.focus.id 29 = some 1 ∧ near.focus.arrivals[1] = [] ∧ traps (exec (.ld g0 29 6 0 3 0)
      (contained ((withX near 6 0x0002000000000000).mapFocus fun t => { t with arrivals := Vector.replicate 4 [] }))) 0x04 0x0002000000000000) ∧
    rangeOk near.focus.id (near.launchOf near.focus) 0x41 2 true = true ∧
    traps (exec (.st g0 7 6 0 1 0) (contained (withX near 6 0x41))) 0x03 0x41 := by and_intros <;> decide +kernel

theorem witness_FloatLoadsAndStores : Enabled near .core g0 ∧ PortsOk near [6] ∧ Clear near (.f 1) ∧
    (InRange near 0x38 2 2 false ∧ IsLocal near 0x38 (tcmKey ⟨0, 0, 0⟩ 0x38) ∧ Quiet near (tcmKey ⟨0, 0, 0⟩ 0x38) 2) ∧
    (∀ sz ∈ [0, 1, 2], (after (exec (.fld g0 1 6 124 sz 1) near)).map (fun u => u.focus.pend.length) = some 1) ∧
    (InRange near 0x40 4 4 true ∧ IsLocal near 0x40 (tcmKey ⟨0, 0, 0⟩ 0x40) ∧ Quiet near (tcmKey ⟨0, 0, 0⟩ 0x40) 4) ∧
    (after (exec (.fst g0 1 6 0 2 1) near)).map (fun u => u.peek (tcmKey ⟨0, 0, 0⟩ 0x40) 4) = some [0x01, 0, 0xC0, 0x3F] ∧
    (after (exec (.fst g0 1 6 0 1 1) near)).map (fun u => (u.peek (tcmKey ⟨0, 0, 0⟩ 0x40) 4, decide (u.focus.fcsr = near.focus.fcsr))) =
      some ([0xC0, 0x3F, 0, 0], false) ∧
    (InRange far 0x0100000000000140 4 4 false ∧ NotForwarded far 0x0100000000000140 4) ∧
    (∀ m ∈ [asLoad 1, asStore 1 false], MaySend far m [(0x0100000000000140, .load 4 (.f 2 2))]) ∧
    yields (.fld g0 2 6 0 2 1) far (sends far (some (start far 4)) (asLoad 1) [(0x0100000000000140, .load 4 (.f 2 2))]) ∧
    yields (.fst g0 1 6 0 2 1) far
      (sends far (some (start far 4)) (asStore 1 false) [(0x0100000000000140, .store [some 1, some 0, some 0xC0, some 0x3F])]) := by
  and_intros <;> decide +kernel


/-- A launch of the second cluster column whose threads have 1 KiB each from offset 0x200, and 4 KiB of scratchpad. -/
def sized : Launch :=
  { placedLaunch with info := { placedRec with tcml := 4, tc := 2, spb := 4096 }, ccol := 1, tcmOff := 0x200, spOffs := [(1, 0x3000)] }

theorem witness_AddressRangesAreRight :
    (let at_ (a : Word) (n : Nat) : Bool := rangeOk (.thread (coreAt 0 4) 0) (some sized) a n true
     [at_ 0x200 8, at_ 0x9F8 8, at_ 0x1FF 8, at_ 0x9F9 8, at_ 0x100000 8, at_ 0x100FF8 8, at_ 0x100FF9 8,
      at_ 0x0001000000500200 8, at_ 0x00010000005009F9 8, at_ 0x0001000000300200 8, at_ 0x0100FFFFFFFFFFF8 8, at_ 0x0100FFFFFFFFFFF9 8,
      at_ 0x0002000000000000 8]) =
      [true, true, false, false, true, true, false, true, false, false, true, false, false] ∧
    placeOf (.thread (coreAt 0 4) 0) (some sized) 0x200 = .loc (tcmKey (coreAt 0 4) 0x200) ∧
    placeOf (.thread (coreAt 0 4) 0) (some sized) 0x100008 = .loc (padKey 1 0x3008) ∧
    placeOf (.thread (coreAt 0 4) 0) (some sized) 0x0001000000500200 = .window (coreAt 0 5) 0x200 ∧
    placeOf (.thread (coreAt 0 4) 0) (some sized) 0x0100000000000140 = .glob 0x140 ∧
    sized.hasCore (coreAt 0 7) = true ∧ sized.hasCore (coreAt 0 8) = false ∧
    rangeOk (.porter 0 0) (some sized) 0x200 8 true = false ∧ rangeOk (.steward 0 0) none 0x0001000000500200 8 true = false ∧
    rangeOk (.steward 0 0) none 0x0100000000000000 8 true = true ∧
    (let at_ (a : Word) (w : Bool) : Bool := rangeOk (.overlay 3) none a 8 w
     [at_ 0x7FF8 true, at_ 0x7FF9 false, at_ 0x8000 false, at_ 0x10000 false, at_ 0x10000 true, at_ 0x10FF8 false, at_ 0x10FF9 false]) =
      [true, false, false, true, false, true, false] ∧
    placeOf (.overlay 3) none 0x7FF8 = .loc (scratchKey 3 0x7FF8) ∧ placeOf (.overlay 3) none 0x10008 = .loc (overlayKey 3 8) := by and_intros <;> decide +kernel

/-- A core with as many loads in flight as are given, to one channel's router. -/
def loaded (n : Nat) : State :=
  { far with net := (List.range n).map fun i => { aLoad .bulk with id := i, addr := 0x0100000000000000 } }

theorem witness_ReleasesAndPermitsAreRight :
    limited far.focus.id = true ∧ (loaded 3).permitsFree far.focus.id [{ aLoad .bulk with addr := 0x0100000000000000 }] = true ∧
    (loaded 4).permitsFree far.focus.id [{ aLoad .bulk with addr := 0x0100000000000000 }] = false ∧
    (loaded 0).released far.focus = true ∧ (loaded 1).released far.focus = false ∧
    ({ far with net := [{ aLoad .held with phase := .accepted false }] } : State).released far.focus = true ∧
    ({ far with net := [{ aLoad .held with phase := .refused 4 0 }] } : State).released far.focus = false ∧
    ({ far with mc := { far.mc with fports := 1 } } : State).exitPort 5 = some 0 := by and_intros <;> decide +kernel
/-! ### Witnesses: atomics, fences, barriers, copies -/

/-- A word of TCM at 0x40 with the most negative and the greatest 32-bit halves. -/
def cell : State := near.pokeBytes (tcmKey ⟨0, 0, 0⟩ 0x40) (leBytes 8 0x800000007FFFFFFF)

/-- What a local atomic of x6's word with x7 and comparand cmp leaves. -/
def atomicLeaves (s : State) (d : BitVec 5) (n : Nat) (f : Nat → Word → Word → Word → Option Word) (cmp : Word) : Option State :=
  let key := tcmKey ⟨0, 0, 0⟩ 0x40
  (give s (start s 4) d (loadedWord true n (s.peek key n))).map fun t =>
    let s' := match f n (BitVec.ofNat 64 (ofBytes (s.peek key n))) 0x81828384858687F8 cmp with
      | some w => stored s key ((leBytes n w.toNat).map some)
      | none => s.keepOld s.focus.lid s.focus.superstep key n
    ({ s' with focus := t } : State).retire s.focus 4 .yes true

theorem witness_LocalAtomics : Enabled cell .porter g0 ∧ PortsOk cell [6, 7, 5, 0] ∧
    (∀ n ∈ [4, 8], InRange cell 0x40 n n true ∧ IsLocal cell 0x40 (tcmKey ⟨0, 0, 0⟩ 0x40) ∧ Quiet cell (tcmKey ⟨0, 0, 0⟩ 0x40) n) ∧
    cell.released cell.focus = true ∧
    (∀ e ∈ amoOps, yields (e.1 g0 5 6 7 0 0) cell (atomicLeaves cell 5 4 e.2.2 0) ∧ yields (e.1 g0 5 6 7 3 1) cell (atomicLeaves cell 5 8 e.2.2 0)) ∧
    yields (.amoCas g0 5 6 7 3 1) (withX cell 5 0x800000007FFFFFFF)
      (atomicLeaves (withX cell 5 0x800000007FFFFFFF) 5 8 (fun _ _ y _ => some y) 0) := by and_intros <;> decide +kernel

/-- The manner of an atomic with ordering o. -/
def amoManner (o : BitVec 2) : Manner := ⟨none, true, decide (o.toNat % 2 = 1), decide (2 ≤ o.toNat), true, false, false⟩

theorem witness_RemoteAtomics : Enabled far .porter g0 ∧ PortsOk far [6, 7, 5] ∧
    (InRange far 0x0100000000000140 8 8 true ∧ placeOf far.focus.id (far.launchOf far.focus) 0x0100000000000140 = .glob 0x140) ∧
    far.released far.focus = true ∧
    (∀ o ∈ List.range 4, MaySend far (amoManner (BitVec.ofNat 2 o)) [(0x0100000000000140, .amo 7 8 0x81828384858687F8 0 5)]) ∧
    (∀ e ∈ amoOps, ∀ o ∈ List.range 2, yields (e.1 g0 5 6 7 (BitVec.ofNat 2 o) 1) far
      (some ((sent far (start far 4) (amoManner (BitVec.ofNat 2 o))
        [(0x0100000000000140, .amo e.2.1 8 0x81828384858687F8 0 5)]).retire far.focus 4 .yes true))) ∧
    (∀ e ∈ amoOps, (after (exec (e.1 g0 5 6 7 3 1) far)).map (fun u => (u.focus.acquires, u.net.map fun r => (r.cls, r.body))) =
      some ([0], [(.ordered, .amo e.2.1 8 0x81828384858687F8 0 5)])) := by and_intros <;> decide +kernel

theorem witness_AtomicsAtTheirHome : ∀ e ∈ amoOps, ∀ n ∈ [4, 8], (n = 4 ∨ n = 8) ∧
    (cell.amoAt (tcmKey ⟨0, 0, 0⟩ 0x40) e.2.1 n 3 0).1 = cell.peek (tcmKey ⟨0, 0, 0⟩ 0x40) n := by decide +kernel

/-- A counted store of the placed thread to TCM byte 0x40 of a core, at its home and not yet performed. -/
def aStore (a : Word) : Req := { aLoad .bulk with addr := a, counted := true, dc := none, body := .store [some 1], phase := .atHome }

theorem witness_FencesWait : Enabled near .porter g0 ∧ near.focus.acquires = [] ∧
    (∀ sz ∈ [0, 1, 2, 3], near.fenceHeld near.focus sz true true = false) ∧ runs (.fence g0 3) near (some (start near 4)) ∧
    runs (.fenceSt g0 3) near (some (start near 4)) ∧ runs (.fenceLd g0 3) near (some (start near 4)) ∧
    (let s : State := { near with net := [aLoad .bulk] }
     s.fenceHeld s.focus 0 false true = true ∧ (after (exec (.fenceLd g0 0) s)).map (·.focus.wait) = some (s.stall .other).focus.wait) := by
  and_intros <;> decide +kernel

theorem witness_FencesCoverStores :
    let r := aStore 0x0001000000000040
    let s : State := { near with net := [r] }
    r ∈ s.buffered s.focus.id ++ s.net ∧ r.src = .hart s.focus.id ∧ r.counted = true ∧ r.cls ≠ .held ∧
    (homeOf (s.reqKey r) = .tcm ⟨0, 0, 0⟩ ∧ s.focus.id.core? = some ⟨0, 0, 0⟩ ∧ s.reqKey r < 2 ^ 48) ∧
    dieOfKey (s.reqKey r) = some s.focus.id.die ∧ (∀ k ∈ [0, 1, 2, 3, 4], s.fenceHeld s.focus (BitVec.ofNat 3 k) true false = true) := by
  and_intros <;> decide +kernel

/-- dc1 = 3. -/
def counted : State := near.mapFocus fun t => { t with dc := t.dc.set 1 3 }

theorem witness_WaitdcWaits : Enabled counted .core g0 ∧ ((2 : BitVec 6).toNat < (counted.focus.counter 1).toNat ∧
    (after (exec (.waitdc g0 1 2) counted)).map (·.focus.wait) = some (counted.stall .other).focus.wait) ∧
    ((counted.focus.counter 1).toNat ≤ (3 : BitVec 6).toNat ∧ runs (.waitdc g0 1 3) counted (some (start counted 4))) := by
  and_intros <;> decide +kernel

theorem witness_RgnMovesTheRegion : Enabled near .core g0 ∧ near.focus.troupe = none ∧ near.focus.rep = none ∧ near.focus.pend = [] ∧
    (after (exec (.rgn g0 1) (near.mapFocus fun t => { t with e := t.e.set 1 0x55 }))).map (fun u => (u.focus.region.entry, u.focus.region.mask)) =
      some (near.focus.pc + 4, 0x55) := by and_intros <;> decide +kernel

/-- The placed thread beside another thread set of its core. -/
def twoSets : State := { near with parked := [{ near.focus with id := .thread ⟨0, 0, 0⟩ 2 }] }

theorem witness_YieldTurnsTheCore : Enabled twoSets .core g0 ∧ twoSets.focus.id = .thread ⟨0, 0, 0⟩ 0 ∧
    (after (exec (.yield g0) twoSets)).map (·.focus.id) = some (.thread ⟨0, 0, 0⟩ 2) ∧
    (after (exec (.yield g0) near)).map (·.focus.id) = some (.thread ⟨0, 0, 0⟩ 0) := by and_intros <;> decide +kernel

theorem witness_PhasesAndLevels : Enabled near .core g0 ∧ HasLevel near 1 ∧ HasLevel near 3 ∧
    runs (.phaseX g0 3) near (some { start near 4 with phases := near.focus.phases.set 2 true }) ∧
    (∀ l ∈ [0, 2, 4, 7], ¬ HasLevel (contained near) l ∧ traps (exec (.sync g0 (BitVec.ofNat 5 l)) (contained near)) 0x0B 0) := by
  and_intros <;> decide +kernel

/-- The placed thread with an arrival at level 3. -/
def arrivedAs (a : Arrival) : State := near.mapFocus fun t => t.setArrival 3 a

theorem witness_ArrivalsAreRecorded : Enabled near .core g0 ∧ HasLevel near 3 ∧ near.endsStep 3 = false ∧ near.focus.arrival 3 = .none ∧
    (∀ k ∈ [0, 1, 3], near.focus.arrived.toArray.getD k .passed = .none) ∧
    runs (.arrive g0 3) near (some ((start near 4).setArrival 3 (.arrived 0))) ∧
    runs (.arrived g0 3 1) near (some ((start near 4).setArrival 3 (.arrived 0))) ∧
    runs (.arrived g0 3 1) counted (some ((start counted 4).setArrival 3 (.pending 1))) ∧
    ((det near).endsStep 3 = true ∧ (after (exec (.arrive g0 3) (det near))).map (fun u => (u.focus.arrival 3, u.focus.superstep, u.focus.heldIdx)) =
      some (.arrived 0, 1, 0)) ∧
    (after (exec (.arrived g0 3 1) (near.mapFocus fun t => t.setArrival 1 (.pending 2)))).map (fun u => (u.focus.arrival 1, u.focus.arrival 3)) =
      some (.arrived 0, .arrived 0) ∧
    ((contained (arrivedAs .passed)).focus.arrival 3 ≠ .none ∧ traps (exec (.arrive g0 3) (contained (arrivedAs .passed))) 0x0B 0) := by
  and_intros <;> decide +kernel

theorem witness_WaitsReturnAfterTheBarrier : Enabled near .core g0 ∧ HasLevel near 3 ∧ near.endsStep 3 = false ∧
    ((arrivedAs .passed).focus.arrival 3 = .passed ∧ runs (.wait g0 3) (arrivedAs .passed) (some (start near 4))) ∧
    (near.focus.arrival 3 = .none ∧ traps (exec (.wait g0 3) (contained near)) 0x0B 0) ∧
    ((after (exec (.wait g0 3) (arrivedAs (.arrived 0)))).map (·.focus.wait) = some ((arrivedAs (.arrived 0)).stall (.barrier 3)).focus.wait) ∧
    ((after (exec (.sync g0 3) near)).map (fun u => (u.focus.arrival 3, u.focus.wait)) =
      some (.arrived 0, (near.stall (.barrier 3)).focus.wait)) ∧
    (let s := (arrivedAs .passed).mapFocus fun t => { t with wait := some (.barrier 3, 0) }
     runs (.sync g0 3) s (some ((start s 4).setArrival 3 .none))) := by and_intros <;> decide +kernel

/-- A deterministic launch in superstep 1 whose thread is released from the barrier that ended superstep 0, an atomic of which gave 9. -/
def heldAmo : Req := { aLoad .held with body := .amo 0 8 1 0 5, phase := .performed (leBytes 8 9) 0 }
def nextSuperstep : State :=
  let s := det (arrivedAs .passed)
  { s with net := [heldAmo], launches := s.launches.map fun l => { l with sstep := 1 } }

theorem witness_WaitsReturnAfterTheBarrier_held : nextSuperstep.endsStep 3 = true ∧ (nextSuperstep.launchOf nextSuperstep.focus).map (·.sstep) = some 1 ∧
    (nextSuperstep.net.filter fun q => decide (q.src = .hart near.focus.id) && decide (q.lid = 1) && decide (q.cls = .held) &&
      decide (q.superstep < 1)) = [heldAmo] ∧ portOf near.focus.id 5 = none ∧ near.focus.stage = .active ∧
    (after (exec (.wait g0 3) nextSuperstep)).map (fun u => (u.focus.x[5], u.net.length, u.focus.arrival 3)) = some (9, 0, .none) := by
  and_intros <;> decide +kernel

theorem witness_ArrivedIsRecordedAtZero :
    ((arrivedAs (.pending 2)).hart near.focus.id).arrival 3 = .pending 2 ∧ ((arrivedAs (.pending 2)).hart near.focus.id).counter 2 = 0 ∧
    (after (exec (.arrivedArrival near.focus.id 3) (arrivedAs (.pending 2)))).map (·.focus.arrival 3) = some (.arrived 0) := by
  and_intros <;> decide +kernel

theorem witness_BarriersComplete :
    (let s := det (near.mapFocus fun t => t.setArrival 1 (.arrived 0))
     (s.launches.map fun l => (l.info.det, l.hasLevel 1)) = [(true, true)] ∧
     (after (exec (.barrierComplete 1 1 0) s)).map (fun u => u.focus.arrival 1) = some .passed) ∧
    (let s := near.mapFocus fun t => t.setArrival 1 (.arrived 0)
     s.launch? 1 = some placedLaunch ∧ placedLaunch.info.det = false ∧ placedLaunch.hasLevel 1 = true ∧ placedLaunch.closing = false ∧
     (s.groupOf placedLaunch 1 0).map (·.id) = [near.focus.id] ∧ s.coveredBelow placedLaunch false near.focus.id 0 = true ∧
     (after (exec (.barrierComplete 1 1 0) s)).map (fun u => (u.focus.arrival 1, u.focus.latch)) = some (.passed, true)) ∧
    (placedLaunch.hasLevel 3 = true ∧ ((arrivedAs (.arrived 0)).groupOf placedLaunch 3 0).map (·.id) = [near.focus.id] ∧
     (after (exec (.barrierComplete 1 3 0) (arrivedAs (.arrived 0)))).map (fun u => (u.focus.arrival 3, u.focus.latch)) = some (.passed, true)) := by
  and_intros <;> decide +kernel

/-- A superstep that closes. -/
def closing : State := { det (arrivedAs (.arrived 0)) with launches := (det near).launches.map fun l => { l with closing := true } }

theorem witness_SuperstepsEnd :
    ((det near).launch? 1).isSome = true ∧ placedLaunch.info.fbid = 0 ∧
    (((det (arrivedAs (.arrived 0))).launches.map fun l => (l.info.det, l.closing)) = [(true, false)] ∧
     (((det (arrivedAs (.arrived 0))).launches.flatMap fun l => (det (arrivedAs (.arrived 0))).groupOf l 3 0).map (·.id)) = [near.focus.id] ∧
     (after (exec (.barrierComplete 1 3 0) (det (arrivedAs (.arrived 0))))).map (fun u => u.launches.map fun l => (l.closing, l.sstep)) =
       some [(true, 0)]) ∧
    ((closing.launches.map fun l => (l.closing, closing.heldDue l)) = [(true, [])] ∧ closing.blocksBusy 1 = false ∧
     (after (exec (.barrierComplete 1 3 0) closing)).map (fun u => (u.focus.arrival 3, u.launches.map fun l => (l.closing, l.sstep))) =
       some (.passed, [(false, 1)])) := by and_intros <;> decide +kernel

/-- The closing superstep of a launch with a fabric group, whose thread has arrived at level 4. -/
def groupClosing : State :=
  { det (near.mapFocus fun t => t.setArrival 4 (.arrived 0)) with
    launches := (det near).launches.map fun l => { l with closing := true, info := { l.info with fbid := 5, fbn := 2 } }, fbCloses := [(5, 0), (5, 1)] }

theorem witness_SuperstepsEnd_group : (groupClosing.launches.map fun l => (l.info.fbid, l.closing, groupClosing.heldDue l)) = [(5, true, [])] ∧
    (after (exec (.barrierComplete 1 4 0) groupClosing)).map (fun u => (u.focus.arrival 4, u.launches.map (·.sstep), u.fbCloses)) =
      some (.passed, [1], [(5, 1)]) := by and_intros <;> decide +kernel

/-- x5 = 0x400 as destination, x6 = 0x40 as source, x7 a length. -/
def copier (len : Word) : State := withX (withX near 5 0x4F0) 7 len

theorem witness_CopiesBegin : Enabled (copier 300) .porter g0 ∧ PortsOk (copier 300) [6, 7, 5] ∧
    ((take (copier 300) (start (copier 300) 4) 6).map (·.1), (take (copier 300) (start (copier 300) 4) 7).map (·.1)) = (some 0x40, some 300) ∧
    runs (.cpy g0 5 6 7 0 0 1) (copier 0) (some (start (copier 0) 4)) ∧ traps (exec (.cpy g0 5 6 7 0 0 1) (contained (copier (2 ^ 32)))) 0x04 0x40 ∧
    (InRange (copier 300) 0x40 300 1 false ∧ InRange (copier 300) 0x4F0 300 1 true) ∧
    (InRange (copier 302) 0x40 302 4 false ∧ traps (exec (.cpy g0 5 6 7 3 0 1) (contained (copier 302))) 0x03 0x40) ∧
    traps (exec (.cpy g0 6 6 7 0 0 1) (contained (copier 300))) 0x04 0x40 ∧
    ((copier 300).isDet near.focus = false ∧ (copier 300).focus.counter 1 ≠ 63) ∧
    (after (exec (.cpy g0 5 6 7 0 0 1) (copier 300))).map (fun u => (u.focus.unack, u.focus.counter 1, u.copies.map fun c => (c.dst, c.len))) =
      some (3, 1, [(0x4F0, 300)]) := by and_intros <;> decide +kernel

/-- A tile transfer of 300 bytes to global memory, known bytes. -/
def aCopy : Copy := ⟨7, near.focus.id, 1, 0, some 1, false, 0, 0, 0x01000000000001F0, 300, 0, some (List.replicate 300 5), .idle, 0, 0, 0, 0⟩

theorem witness_CopyPacketsLeave :
    let s : State := { near with copies := [aCopy] }
    s.copies.find? (fun c => c.id = 7) = some aCopy ∧ aCopy.data = some (List.replicate 300 5) ∧ aCopy.done < aCopy.len ∧
    s.permitsFree aCopy.hart [s.packetReq aCopy 0x01000000000001F0 (List.replicate 16 0)] = true ∧
    (s.packetReq aCopy 0x01000000000001F0 (List.replicate 16 5)).cls ≠ .ordered ∧
    (after (exec (.cpyPacketInject 7) s)).map (fun u => (u.copies.map (·.done), u.net.map fun r => r.body)) =
      some ([16], [.store (List.replicate 16 (some 5))]) := by and_intros <;> decide +kernel

/-- A copy to global memory that reads its source, 8 bytes of TCM; with conversion of four I8 to RX words; and one from a core window of its
own die, whose read is ordered. -/
def sourced (conv : BitVec 3) (src : Word) (len : Nat) : State := { near with copies := [{ aCopy with conv, src, len, data := none }] }
/-- A copy whose read has been stamped 50, at a home whose inputs have all sent that time. -/
def stampedRead : State :=
  { near with
    copies := [{ aCopy with src := 0x0001000000000038, len := 8, data := none, read := .stamped ⟨50, 0, 0, 0⟩ }]
    ports := [(0, ⟨(List.range 34).map fun i => (i, ⟨50, 0, 0, 0⟩), [], [], 0⟩)] }

theorem witness_CopyPacketsLeave_reads :
    (let s := sourced 0 0x38 8
     let c := { aCopy with src := 0x38, len := 8, data := none }
     s.copies = [c] ∧ s.rangeShut (asReq c.hart c.lid c.space) (sourceAddress c 8) 8 = none ∧ (sourceAddress c 8).toNat < 2 ^ 48 ∧ s.sourceOpen c 8 = true ∧ (s.paySource c 8).isSome = true ∧
     s.xlat (asReq c.hart c.lid c.space) (sourceAddress c 8) .read = .hit (tcmKey ⟨0, 0, 0⟩ 0x38) ∧
     s.swappedAt c.lid (tcmKey ⟨0, 0, 0⟩ 0x38) 8 = none ∧ (sourcePiece c 8) = (0, 8, 0) ∧
     (after (exec (.cpyPacketInject 7) s)).map (fun u => u.net.map (·.body)) =
       some [.store ([0x88, 0x87, 0x86, 0x85, 0x84, 0x83, 0x82, 0x81].map some)]) ∧
    ((after (exec (.cpyPacketInject 7) (sourced 1 0x38 16))).map (fun u => u.net.map (·.body)) =
       some [.store (([-120, -121, -122, -123].flatMap fun v => leBytes 4 (rxOf v).toNat).map some)]) ∧
    (let s := sourced 0 0x0001000000000038 8
     s.copies.map (fun c => (s.sourceRuns c 8).map fun x => dieOfKey x.1) = [[some s.focus.id.die]] ∧ s.focus.id = .thread ⟨0, 0, 0⟩ 0 ∧
     (after (exec (.cpyPacketInject 7) s)).map (fun u => (u.net.length, u.copies.map fun c => match c.read with | .stamped st => some st.time | _ => none)) =
       some (0, [some (near.stamp (injOf near.focus.id)).1.time])) ∧
    (stampedRead.watermark 0 = some ⟨50, 0, 0, 0⟩ ∧
     stampedRead.copies.map (fun c => (stampedRead.packetRuns c, stampedRead.readInOrder ⟨50, 0, 0, 0⟩ (stampedRead.packetRuns c))) =
       [([(tcmKey ⟨0, 0, 0⟩ 0x38, 8)], true)] ∧
     (after (exec (.cpyPacketInject 7) stampedRead)).map (fun u => (u.net.length, u.copies.map (·.read))) =
       some (0, [.got [0x88, 0x87, 0x86, 0x85, 0x84, 0x83, 0x82, 0x81]])) := by and_intros <;> decide +kernel

-- A copy whose source does not translate, one whose hart is stopped, and one whose source has been excluded at its home's port.
theorem witness_CopyPacketsLeave_fails :
    (let s := sourced 0 0x0000F00000000000 8
     s.copies.map (fun c => (s.sourceOpen c 8, (s.paySource c 8).map fun u => (u.xlat (asReq c.hart c.lid c.space) (sourceAddress c 8) .read : Xlat))) =
       [(true, some (.fail 0x04))] ∧
     (after (exec (.cpyPacketInject 7) s)).map (fun u => (u.net.map fun r => (r.phase, r.failed), u.copies.map (·.done))) =
       some ([(.refused 0x04 0x0000F00000000000, false)], [8])) ∧
    (let s := { sourced 0 0x38 8 with focus := { near.focus with state := .stopped } }
     (after (exec (.cpyPacketInject 7) s)).map (fun u => u.net.map (·.body)) =
       some [.store ([0x88, 0x87, 0x86, 0x85, 0x84, 0x83, 0x82, 0x81].map some)]) ∧
    (let s := { sourced 0 0x0001000000000038 8 with ports := [((homeOf (tcmKey ⟨0, 0, 0⟩ 0x38)).port, ⟨[], [], [((asReq near.focus.id 1 0).src.input, [])], 0⟩)] }
     s.copies.map (fun c => (s.rangeShut (asReq c.hart c.lid c.space) (sourceAddress c 8) 8).isSome) = [true] ∧
     (after (exec (.cpyPacketInject 7) s)).map (fun u => (u.net, u.copies.map fun c => (c.done, c.dc), u.mc.mring.held.length)) =
       some ([], [], 1)) := by and_intros <;> decide +kernel

theorem witness_StridedRequestsLeaveInOrder :
    let s : State := { near with strided := [⟨near.focus.id, [aLoad .bulk, aLoad .bulk]⟩] }
    s.strided.find? (fun d => d.hart = near.focus.id) = some ⟨near.focus.id, [aLoad .bulk, aLoad .bulk]⟩ ∧
    s.permitsFree near.focus.id [aLoad .bulk] = true ∧ s.bufferRoom near.focus.id false 1 = true ∧
    (aLoad .bulk).body.writes = false ∧ (aLoad .bulk).cls ≠ .ordered ∧
    (after (exec (.stridedRequestInject near.focus.id) s)).map (fun u => (u.net, u.strided.map fun d => d.rest.length)) =
      some ([aLoad .bulk], [1]) := by and_intros <;> decide +kernel


/-- Copies whose destination is the thread's own scratchpad, and its own die's memory. -/
def padCopy (dst : Word) : Copy := { aCopy with dst := dst }

theorem witness_FencesCoverLoadsAndCopies :
    (let r : Req := { aLoad .bulk with addr := 0x0100000000000000 }
     let s : State := { near with net := [r] }
     r ∈ s.buffered s.focus.id ++ s.net ∧ r.src = .hart s.focus.id ∧ r.body.returns = true ∧ r.counted = false ∧ r.cls ≠ .held ∧
     s.fenceHeld s.focus 0 false true = true ∧ s.fenceHeld s.focus 0 true false = false ∧ s.focus.acquires = [] ∧
     runs (.fenceSt g0 0) s (some (start s 4))) ∧
    (let s : State := { near with net := [{ aStore 0x0001000000000040 with cls := .held, phase := .accepted false }] }
     s.fenceHeld s.focus 0 true true = false) ∧
    (let s : State := { near with net := [{ aStore 0x0001000000000040 with cls := .held, phase := .refused 4 0 }] }
     s.fenceHeld s.focus 0 true false = true) ∧
    (let s : State := { near with copies := [padCopy 0x80] }
     s.copyKeys (padCopy 0x80) ≠ [] ∧ (padCopy 0x80).hart = s.focus.id ∧ s.fenceHeld s.focus 1 true false = true ∧
     s.fenceHeld s.focus 1 false true = false ∧ runs (.fenceLd g0 0) s (some (start s 4))) := by and_intros <;> decide +kernel

theorem witness_ArrivalsCoverEarlierAccesses : placedLaunch.info.det = false ∧
    (let r : Req := { aLoad .bulk with phase := .performed [] 0, grp := 3 }
     let s : State := { near with net := [r], strided := [⟨near.focus.id, [{ r with grp := 9, phase := .sent }]⟩], copies := [{ aCopy with done := 300 }] }
     s.coveredBelow placedLaunch false near.focus.id 9 = true ∧ r ∈ s.buffered near.focus.id ++ s.net ∧ r.src = .hart near.focus.id ∧ r.grp < 9 ∧
     s.coveredBelow placedLaunch false near.focus.id 10 = false) ∧
    ({ near with net := [aLoad .bulk] } : State).coveredBelow placedLaunch false near.focus.id 10 = false ∧
    ({ near with copies := [aCopy] } : State).coveredBelow placedLaunch false near.focus.id 10 = false := by and_intros <;> decide +kernel
/-! ### Witnesses: floating point and vectors -/

/-- The guards p1 do, p1 dont. -/
def gp : Guard := ⟨false, 1⟩

/-- f1 = 1.5, f2 = -2.25, f3 about 0.1, f4 a signalling NaN, f5 infinite, f6 subnormal; p1 = 5; numbers in v1 and v2; x7 = 3, fcsr.RM = RTZ. -/
def floats : State := regs.mapFocus fun t => { t with
  f := (((((t.f.set 1 0x3FC00000).set 2 0xC0100000).set 3 0x3DCCCCCD).set 4 0x7F800001).set 5 0x7F800000).set 6 1
  p := (t.p.set 1 5).set 2 0xF0
  v := ((t.v.set 1 0x7F803FC0C010BDCC7FFF0001800080013C00BC0000017F80FFC01234FF800080).set 2
    0x3F80C00000013F803FC0C01041200001FFFF7FFF3C003C00BF803F80C0100080).set 3 0x0102030405060708090A0B0C0D0E0F101112131415161718191A1B1C1D1E1F20
  fcsr := 0x20 }

theorem witness_FopsWriteTheirResult : Enabled floats .core g0 ∧ (∀ r ∈ List.range 16, Clear floats (.f (BitVec.ofNat 4 r))) ∧
    (∀ e ∈ fopOps, ∀ t ∈ List.range 3, ∀ b ∈ [2, 4, 5], runs (e.1 g0 6 3 (BitVec.ofNat 4 b) (BitVec.ofNat 3 t)) floats
      (some (let r := e.2 (formatOf t) (rmOf 0x20) (fVal floats 3) (fVal floats (BitVec.ofNat 4 b))
             putF (start floats 4) 6 (asF32 (formatOf t) r.1) r.2))) ∧
    runs (.fsqrt g0 1 3 0) floats (some (let r := Fmt.f32.sqrt (rmOf 0x20) (fVal floats 3); putF (start floats 4) 1 (asF32 .f32 r.1) r.2)) ∧
    runs (.ffma g0 1 2 3 1) floats
      (some (let r := Fmt.f16.fma (rmOf 0x20) (fVal floats 2) (fVal floats 3) (fVal floats 1); putF (start floats 4) 1 (asF32 .f16 r.1) r.2)) := by
  and_intros <;> decide +kernel

theorem witness_FloatMovesAndConversions : Enabled floats .core g0 ∧ PortsOk floats [6, 5] ∧ Clear floats (.f 2) ∧ Clear floats (.f 1) ∧
    runs (.fmvxf g0 5 2) floats (give floats (start floats 4) 5 0xC0100000) ∧
    runs (.fmvfx g0 1 6) floats (some (putF (start floats 4) 1 0xFFFFFFF7 .none)) ∧
    runs (.fcvtFX g0 1 6) floats (some (putF (start floats 4) 1 0xC1100000 .none)) ∧
    runs (.fcvtFX g0 1 0) floats (some (putF (start floats 4) 1 0 .none)) ∧
    (after (exec (.fcvtXF g0 5 2) floats)).map (fun u => (u.focus.x[5], u.focus.fcsr)) = some (-2, 0x21) ∧
    runs (.fkey g0 5 2) floats (give floats (start floats 4) 5 0x3FEFFFFF) ∧
    (∀ e ∈ [(0, 4), (1, 6), (2, 1), (4, 8), (5, 7), (6, 5)], runs (.fclass g0 5 (BitVec.ofNat 4 e.1)) floats
      (give floats (start floats 4) 5 (BitVec.ofNat 64 (2 ^ e.2)))) := by and_intros <;> decide +kernel

theorem witness_KeysOrderNumbers : ∀ f ∈ [Fmt.f32, Fmt.f16, Fmt.bf16], 2 ^ (f.width - 1) < 2 ^ f.width ∧
    (f.val (2 ^ (f.width - 1))).isNan = false ∧ (f.val 0).isNan = false ∧ (f.val (2 ^ (f.width - 1))).lt true (f.val 0) = true ∧
    f.key (2 ^ (f.width - 1)) < f.key 0 := by decide +kernel

theorem witness_FloatCompares : Enabled floats .core g0 ∧ (∀ r ∈ [1, 2, 4], Clear floats (.f (BitVec.ofNat 4 r))) ∧
    (∀ c ∈ List.range 4, (BitVec.ofNat 3 c : BitVec 3).toNat < 4 ∧ ∀ a ∈ [1, 4], runs (.fcmp g0 0 1 (BitVec.ofNat 4 a) 2 2 (BitVec.ofNat 3 c)) floats
      (some ((compared (start floats 4) 0 (floatHolds (BitVec.ofNat 3 c) (fVal floats (BitVec.ofNat 4 a)) (fVal floats 2)) 1 2).raiseFlags
        (compareFlags (BitVec.ofNat 3 c) (fVal floats (BitVec.ofNat 4 a)) (fVal floats 2))))) := by and_intros <;> decide +kernel

/-- Lane i of w bits of a vector register. -/
def lane (s : State) (r : BitVec 5) (w i : Nat) : BitVec w := (vBits s r).extractLsb' (w * i) w

/-- The instruction leaves these lanes in v[d]: f where p1 enables, the old ones elsewhere. -/
abbrev lanesOf (i : Instr) (d : BitVec 5) (w n : Nat) (f : (k : Nat) → BitVec w) : Prop :=
  ((after (exec i floats)).any fun u => (List.range n).all fun k =>
    decide (lane u d w k = if (floats.focus.guard gp).getLsbD k then f k else lane floats d w k)) = true

theorem witness_VectorIntegerLanes : (∀ t ∈ List.range 3, LanesEnabled floats gp (iLanes (BitVec.ofNat 2 t))) ∧
    (∀ r ∈ [1, 2, 3], Clear floats (.v (BitVec.ofNat 5 r))) ∧
    (∀ e ∈ vintOps, ∀ k ∈ List.range 3, lanesOf (e.1 gp 3 1 2 (BitVec.ofNat 2 k)) 3 (iWidth (BitVec.ofNat 2 k)) (iLanes (BitVec.ofNat 2 k))
      fun i => e.2 _ (lane floats 1 _ i) (lane floats 2 _ i)) ∧
    (∀ k ∈ List.range 3, lanesOf (.vabs gp 3 1 (BitVec.ofNat 2 k)) 3 (iWidth (BitVec.ofNat 2 k)) (iLanes (BitVec.ofNat 2 k))
      fun i => BitVec.ofInt _ |(lane floats 1 (iWidth (BitVec.ofNat 2 k)) i).toInt|) := by and_intros <;> decide +kernel

theorem witness_VectorMovesWriteLanes : (∀ t ∈ List.range 3, LanesEnabled floats gp (iLanes (BitVec.ofNat 2 t))) ∧ PortsOk floats [6] ∧
    (∀ r ∈ [1, 2, 3], Clear floats (.v (BitVec.ofNat 5 r))) ∧ Avail.core.allows floats.focus.id = true ∧
    lanesOf (.vbcast gp 3 6 0) 3 8 32 (fun _ => 0xF7) ∧
    lanesOf (.vperm gp 3 1 2 1) 3 16 16 (fun i => lane floats 1 16 ((lane floats 2 16 i).toNat % 16)) ∧
    lanesOf (.vmov gp 3 1 2) 3 32 8 (fun i => lane floats 1 32 i) ∧ lanesOf (.vzero gp 3 0) 3 8 32 (fun _ => 0) ∧
    lanesOf (.viota gp 3 1) 3 16 16 (fun i => BitVec.ofNat 16 i) ∧
    runs (.vmovN 3 1) floats (some (putV (start floats 2) 3 (vBits floats 1) .none)) 2 := by and_intros <;> decide +kernel

/-- The number in a float lane. -/
def laneVal (f : Fmt) (r : BitVec 5) (i : Nat) : FVal := f.val (lane floats r f.width i).toNat

theorem witness_VectorFloatLanes : (∀ t ∈ List.range 3, LanesEnabled floats gp (fLanes (BitVec.ofNat 2 t))) ∧
    (∀ r ∈ [1, 2, 3], Clear floats (.v (BitVec.ofNat 5 r))) ∧ Clear floats (.f 3) ∧
    (∀ e ∈ vfltOps, ∀ k ∈ List.range 3, lanesOf (e.1 gp 3 1 2 (BitVec.ofNat 2 k)) 3 (formatOf k).width (fLanes (BitVec.ofNat 2 k)) fun i =>
      BitVec.ofNat _ (e.2 (formatOf k) (rmOf 0x20) (laneVal (formatOf k) 1 i) (laneVal (formatOf k) 2 i) (laneVal (formatOf k) 3 i)).1) ∧
    (∀ e ∈ vfltUnaryOps, ∀ k ∈ List.range 3, lanesOf (e.1 gp 3 2 (BitVec.ofNat 2 k)) 3 (formatOf k).width (fLanes (BitVec.ofNat 2 k)) fun i =>
      BitVec.ofNat _ (e.2 (formatOf k) (rmOf 0x20) (laneVal (formatOf k) 2 i)).1) ∧
    lanesOf (.vkey gp 3 1 1) 3 16 16 (fun i => BitVec.ofNat 16 (Fmt.f16.key (lane floats 1 16 i).toNat)) ∧
    LanesEnabled floats gp (min (fLanes 0) (fLanes 2)) ∧
    lanesOf (.vcvt gp 3 1 0 2) 3 32 8 (fun i => BitVec.ofNat 32 (convert .bf16 .f32 (rmOf 0x20) (lane floats 1 16 i).toNat).1) ∧
    lanesOf (.vcvt gp 3 1 1 0) 3 16 8 (fun i => BitVec.ofNat 16 (convert .f32 .f16 (rmOf 0x20) (lane floats 1 32 i).toNat).1) ∧
    lanesOf (.vbcastf gp 3 3 1) 3 16 16 (fun _ => BitVec.ofNat 16 (convert .f32 .f16 (rmOf 0x20) 0x3DCCCCCD).1) ∧
    lanesOf (.vbcastf gp 3 3 0) 3 32 8 (fun _ => 0x3DCCCCCD) := by and_intros <;> decide +kernel

theorem witness_VectorComparesWriteBits : LanesEnabled floats gp (iLanes 1) ∧ LanesEnabled floats gp (fLanes 1) ∧
    Clear floats (.v 1) ∧ Clear floats (.v 2) ∧
    (∀ c ∈ List.range 8, (after (exec (.vcmp gp 1 2 1 2 3 (BitVec.ofNat 3 c)) floats)).any (fun u => (List.range 32).all fun i =>
      u.focus.p[2].getLsbD i == (if i = 0 ∨ i = 2 then condHolds (BitVec.ofNat 3 c) (lane floats 1 16 i) (lane floats 2 16 i)
        else (0xF0 : W32).getLsbD i)) = true) ∧
    (∀ c ∈ List.range 4, (BitVec.ofNat 3 c : BitVec 3).toNat < 4 ∧
      (after (exec (.vfcmp gp 1 0 1 2 2 (BitVec.ofNat 3 c)) floats)).any (fun u => (List.range 32).all fun i =>
        u.focus.p[2].getLsbD i == (if i = 0 ∨ i = 2 then !floatHolds (BitVec.ofNat 3 c) (laneVal .f16 1 i) (laneVal .f16 2 i)
          else (0xF0 : W32).getLsbD i)) = true) := by and_intros <;> decide +kernel

theorem witness_VectorSelectsAndReductions : LanesEnabled floats gp (iLanes 1) ∧ PortsOk floats [7, 6, 5] ∧ Clear floats (.v 1) ∧ Clear floats (.v 3) ∧
    Clear floats (.f 1) ∧
    ((take floats (start floats 4) 7).map (·.1) = some 3 ∧ (floats.focus.guard gp).getLsbD 3 = false ∧
     runs (.vext gp 5 1 7 1) floats (some (start floats 4)) ∧ runs (.vins gp 3 6 7 1) floats (some (start floats 4))) ∧
    ((take floats (start floats 4) 0).map (·.1) = some 0 ∧ (floats.focus.guard gp).getLsbD 0 = true ∧
     runs (.vext gp 5 1 0 1) floats (give floats (start floats 4) 5 0x80) ∧
     (after (exec (.vins gp 3 6 0 1) floats)).map (fun u => (lane u 3 16 0, lane u 3 16 1)) = some (0xFFF7, 0x1D1E)) ∧
    (after (exec (.vredadd gp 1 2 2) floats)).map (·.focus.f[1]) =
      some (asF32 .bf16 (reduceBy .bf16 (rmOf 0x20) (fun x y => Fmt.bf16.add (rmOf 0x20) x y) [0x0080, 0x3F80]).1) ∧
    (after (exec (.vredmax ⟨true, 0⟩ 1 2 2) floats)).map (·.focus.pc) = some (floats.focus.pc + 4) := by and_intros <;> decide +kernel


/-- The canonical NaN, with NV or not, worked out by hand: FP32 7FC0_0000, FP16 7E00, BF16 7FC0. -/
def nanOf (f : Fmt) (nv : Bool) : Nat × FFlags :=
  (if f.width = 32 then 0x7FC00000 else if f.p = 11 then 0x7E00 else 0x7FC0, if nv then ⟨true, false, false, false, false⟩ else .none)

theorem witness_RoundingIsExact : formats.map (fun f => (f.canon, f.infBits true, f.width)) =
      [(0x7FC00000, 0xFF800000, 32), (0x7E00, 0xFC00, 16), (0x7FC0, 0xFF80, 16)] ∧
    (0 < 1 ∧ 1 < Fmt.f16.infBits false ∧ Fmt.f16.val 0x8001 = .fin true 1 (-24)) ∧
    (Fmt.f32.round .rne false 0x1000001 0, Fmt.f32.round .rup false 0x1000001 0) =
      ((0x4B800000, ⟨false, false, false, false, true⟩), (0x4B800001, ⟨false, false, false, false, true⟩)) ∧
    (Fmt.f16.round .rtz true 65519 0, Fmt.f16.round .rne true 65520 0) =
      ((0xFBFF, ⟨false, false, false, false, true⟩), (0xFC00, ⟨false, false, true, false, true⟩)) ∧
    Fmt.bf16.round .rne false 1 (-134) = (0, ⟨false, false, false, true, true⟩) := by and_intros <;> decide +kernel

theorem witness_ArithmeticIsExact : 0 < 3 ∧ 3 < 2 ^ 24 ∧
    Fmt.f32.add .rne (.fin false 3 0) (.fin true 1 1) = (0x3F800000, .none) ∧
    Fmt.f32.add .rdn (.fin false 3 0) (.fin true 3 0) = (0x80000000, .none) ∧
    Fmt.f16.mul .rne (.fin true 3 (-1)) (.fin false 3 (-1)) = (0xC080, .none) ∧
    Fmt.f16.fma .rne (.fin false 3 0) (.fin false 3 0) (.fin true 1 3) = (0x3C00, .none) ∧
    Fmt.bf16.div .rdn (.fin false 1 0) (.fin false 3 0) = (0x3EAA, ⟨false, false, false, false, true⟩) ∧
    Fmt.f32.sqrt .rne (.fin false 9 (-2)) = (0x3FC00000, .none) := by and_intros <;> decide +kernel

theorem witness_SpecialOperandsAreRight : ∀ f ∈ formats, (0 : Nat) < 1 ∧ (FVal.nan true).isNan = true ∧
    f.add .rne (.nan true) (.zero true) = nanOf f true ∧ f.mul .rdn (.inf true) (.zero false) = nanOf f true ∧
    f.fma .rne (.fin false 1 0) (.fin false 1 0) (.nan false) = nanOf f false ∧
    f.div .rne (.fin true 1 0) (.zero false) = (f.infBits true, ⟨false, true, false, false, false⟩) ∧
    f.sqrt .rup (.zero true) = (f.zeroBits true, .none) ∧ f.sqrt .rup (.fin true 1 0) = nanOf f true ∧
    f.add .rdn (.zero false) (.zero true) = (f.zeroBits true, .none) := by decide +kernel

theorem witness_SelectionsAndConversionsAreExact :
    (FVal.fin true 1 1).lt false (.fin true 3 0) = false ∧ (FVal.fin true 3 0).lt false (.fin true 1 1) = true ∧
    Fmt.f32.minMax .rne false (.zero false) (.zero true) = (0x80000000, .none) ∧
    Fmt.f32.minMax .rne true (.nan true) (.fin false 1 0) = (0x3F800000, ⟨true, false, false, false, false⟩) ∧
    convert .f32 .f16 .rne 0x3F801000 = (0x3C00, ⟨false, false, false, false, true⟩) ∧ convert .bf16 .f32 .rne 0x7F81 = nanOf .f32 true ∧
    toInt64 .rne (.fin false 5 (-1)) = (2, ⟨false, false, false, false, true⟩) ∧
    toInt64 .rdn (.fin true 5 (-1)) = (0xFFFFFFFFFFFFFFFD, ⟨false, false, false, false, true⟩) ∧
    toInt64 .rne (.fin false 1 63) = (0x7FFFFFFFFFFFFFFF, ⟨true, false, false, false, false⟩) ∧
    toInt64 .rne (.fin true 1 63) = (0x8000000000000000, .none) := by and_intros <;> decide +kernel
/-! ### Witnesses: matrix instructions -/

theorem witness_RneShiftIsNearestEven : rneShift 5 0 = 5 ∧ rneShift 12345 40 = 0 ∧ (1 ≤ 1 ∧ 1 ≤ 39 ∧ rneShift 5 1 = 2 ∧ rneShift (-5) 1 = -2 ∧
    rneShift 7 1 = 4 ∧ rneShift (-(2 ^ 40) - 1) 39 = -2) := by decide +kernel

theorem witness_DotProductsAreExact : dot ([(1024, 1024), (3, -5)].map fun p => (resOf p.1, resOf p.2)) = 1048561 - 2097024 ∧
    dot ([(1023, 1024), (3, -5)].map fun p => (resOf p.1, resOf p.2)) = 1047537 ∧ (1047537 : Int) ≤ 1048511 := by decide +kernel

theorem witness_LatchesKeepTheirTiles : (List.replicate 256 (0 : Byte)).length = bodyBytes 0x80 ∧ bodyBytes 0x0280 = 128 ∧ bodyBytes 0x0580 = 1024 := by decide +kernel

/-- A latch of ones in RX form with scale 128, and a tile whose sums are 3 at exponent 2. -/
def ones : Latch := ⟨0x80, Vector.replicate 256 0x010101⟩
def threes : Tile := ⟨Vector.replicate 64 3, 2, false, false, false⟩

/-- x6 = 0x100 leads to an I8 tile whose first bytes are 1 and 255; f3 has scale 127; both accumulators hold threes. -/
def matrix : State :=
  ((withX (withX base 6 0x100) 7 5).pokeBytes (tcmKey ⟨0, 0, 0⟩ 0x100) [1, 255, 2]).mapFocus fun t =>
    { t with c0 := threes, c1 := threes, b0 := ones, f := t.f.set 3 0x3F800000 }

theorem witness_MmaAccumulates : Enabled matrix .core g0 ∧ OwnsTile matrix 1 ∧ PortsOk matrix [6] ∧ matrix.focus.acquires = [] ∧
    (take matrix (start matrix 4) 6).map (·.1) = some 0x100 ∧ Clear matrix (.f 3) ∧
    (placedLaunch.inArea 0x100 = true ∧ placedLaunch.inArea 0x1FF = true ∧ (0x100 : Word).toNat % 256 = 0 ∧
     matrix.launchOf matrix.focus = some placedLaunch ∧ matrix.focus.id.core? = some ⟨0, 0, 0⟩) ∧
    Quiet matrix (tcmKey ⟨0, 0, 0⟩ 0x100) 256 ∧
    (after (exec (.mma g0 1 6 3 1) matrix)).map (fun u => (u.focus.c1.exp, u.focus.c1.sums[0], u.focus.c1.sums[8])) = some (2, 4, 3) := by
  and_intros <;> decide +kernel

theorem witness_AlignAddRule : threes.nan = false ∧ (List.replicate 64 (8 : Int)).length = 64 ∧
    (let r := threes.alignAdd (List.replicate 64 8) 1 false
     r.exp = 2 ∧ r.sums[63] = 7 ∧ r.sat = false) ∧
    ((Tile.zero.alignAdd (List.replicate 64 8) 1 false).sums[0] = 8 ∧ (threes.alignAdd (List.replicate 64 (2 ^ 36)) 2 false).sat = true) ∧
    (let t := threes.alignAdd (List.replicate 64 8) 1 true
     t.nan = true ∧ (t.alignAdd (List.replicate 64 8) 1 false).nan = true) := by and_intros <;> decide +kernel

/-- A launch without accumulators. -/
def noTiles (s : State) : State :=
  { s with launches := s.launches.map fun l => { l with info := { l.info with acc := 0, contain := true, reaper := 0x0100000000000040 } } }

theorem witness_TileControl : Enabled matrix .core g0 ∧ OwnsTile matrix 0 ∧ OwnsTile matrix 1 ∧ PortsOk matrix [7, 5] ∧
    (after (exec (.mz g0 1) matrix)).map (fun u => (u.focus.c1.empty, u.focus.c0.empty)) = some (true, false) ∧
    (after (exec (.msete g0 0 7) matrix)).map (fun u => (u.focus.c0.exp, u.focus.c0.sums[0])) = some (5, 0) ∧
    runs (.mexp g0 5 0) matrix (give matrix (start matrix 4) 5 2) ∧
    (Avail.core.allows (noTiles matrix).focus.id = true ∧ ¬ OwnsTile (noTiles matrix) 0 ∧ traps (exec (.mz g0 0) (noTiles matrix)) 0x01 0 ∧
     traps (exec (.macc g0 0 6 7) (noTiles matrix)) 0x01 0) := by and_intros <;> decide +kernel

theorem witness_TilesAreReadOut : Enabled matrix .core g0 ∧ OwnsTile matrix 0 ∧ PortsOk matrix [6] ∧
    (take matrix (start matrix 4) 6).map (·.1) = some 0x100 ∧
    (InRange matrix 0x100 256 32 true ∧ IsLocal matrix 0x100 (tcmKey ⟨0, 0, 0⟩ 0x100) ∧ Quiet matrix (tcmKey ⟨0, 0, 0⟩ 0x100) 256) ∧
    (after (exec (.mrdF32 g0 0 6 1) matrix)).map (fun u => u.peek (tcmKey ⟨0, 0, 0⟩ 0x1FC) 5) = some [0, 0, 0x40, 0x41, 0] ∧
    (after (exec (.mrdBf16 g0 0 6 1) matrix)).map (fun u => u.peek (tcmKey ⟨0, 0, 0⟩ 0x17E) 3) = some [0x40, 0x41, 0] ∧
    (InRange (withX matrix 6 0x0100000000000120) 0x0100000000000120 128 32 true ∧
     MaySend (withX matrix 6 0x0100000000000120) (asPackets 1) [(0x0100000000000120, .store (List.replicate 128 (some 0)))] ∧
     (after (exec (.mrdF16 g0 0 6 1) (withX matrix 6 0x0100000000000120))).map (fun u => u.buffers.flatMap fun b => b.2.map fun r =>
       (r.addr, r.body)) = some [(0x0100000000000120, .store ((List.replicate 64 [some 0, some 0x4A]).flatten))]) := by
  and_intros <;> decide +kernel

theorem witness_ReductionMessages : Enabled matrix .core g0 ∧ OwnsTile matrix 0 ∧ PortsOk matrix [6, 7] ∧
    (InRange matrix 0x100 528 8 true ∧ IsLocal matrix 0x100 (tcmKey ⟨0, 0, 0⟩ 0x100) ∧ Quiet matrix (tcmKey ⟨0, 0, 0⟩ 0x100) 528) ∧
    (after (exec (.mred g0 0 6 1) matrix)).map (fun u => ofBytes (u.peek (tcmKey ⟨0, 0, 0⟩ 0x110) 8)) = some 3 ∧
    (InRange (withX matrix 6 0x0100000000000100) 0x0100000000000100 528 8 true ∧
     MaySend (withX matrix 6 0x0100000000000100) (asPackets 1)
       ((pieces 528 0x0100000000000100 (List.replicate 528 0)).map fun q => (q.1, .store (q.2.map some)))) ∧
    runs (.macc g0 0 6 0) matrix (some (start matrix 4)) ∧ traps (exec (.macc g0 0 6 7) (contained (withX matrix 7 65))) 0x01 0 ∧
    (placedLaunch.inArea (0x100 + 528 - 1) = true ∧ (0x100 : Word).toNat % 8 = 0 ∧ matrix.focus.acquires = [] ∧
     (after (exec (.macc g0 0 6 7) (withX matrix 7 1))).map (·.focus.c0.exp) = some (threes.applyMessage
       (matrix.peek (tcmKey ⟨0, 0, 0⟩ 0x100) 528)).exp) ∧
    (threes.empty = false ∧ threes.nan = false ∧ (Tile.zero.applyMessage (threes.message 9)).sums[63] = 3) := by and_intros <;> decide +kernel

theorem witness_TilesAreNarrowed : Enabled matrix .core g0 ∧ OwnsTile matrix 0 ∧ PortsOk matrix [6, 7] ∧ matrix.focus.acquires = [] ∧
    Memory.wf matrix.mem = true ∧
    (∀ i < 8, rangeOk matrix.focus.id (matrix.launchOf matrix.focus) (0x100 + BitVec.ofNat 64 (32 * i)) 8 true = true ∧
      IsLocal matrix (0x100 + BitVec.ofNat 64 (32 * i)) (tcmKey ⟨0, 0, 0⟩ 0x100 + 32 * i) ∧
      Quiet matrix (tcmKey ⟨0, 0, 0⟩ 0x100 + 32 * i) 8) ∧
    (after (exec (.mcvtI8 g0 0 6 7) (withX matrix 7 0))).map (fun u => (u.peek (tcmKey ⟨0, 0, 0⟩ 0x1E0) 9, u.peek (tcmKey ⟨0, 0, 0⟩ 0x108) 1)) =
      some ([12, 12, 12, 12, 12, 12, 12, 12, 0], [0]) ∧
    (after (exec (.mcvtI4 g0 0 6 7) (withX matrix 7 3))).map (fun u => u.peek (tcmKey ⟨0, 0, 0⟩ 0x170) 5) = some [0x22, 0x22, 0x22, 0x22, 0] := by
  and_intros <;> decide +kernel


/-- A message of kind k with flags f in bits 8 to 10, exponent 2 and sums of 5, 528 bytes written out from R253. -/
def aMessage (k f : Byte) : List Byte :=
  [k, f, 0, 0, 9, 0, 0, 0, 2, 0, 0, 0, 0, 0, 0, 0] ++ (List.replicate 64 [5, 0, 0, 0, 0, 0, 0, 0]).flatten

theorem witness_MessageFields : (aMessage 1 0).length = 528 ∧ (aMessage 1 2).take 16 = ((({ threes with sat := true } : Tile)).message 9).take 16 ∧
    threes.applyMessage (aMessage 2 0) = threes ∧ threes.applyMessage (aMessage 1 1) = threes ∧
    (threes.applyMessage (aMessage 1 0)).sums[63] = 8 ∧ (threes.applyMessage (aMessage 1 2)).sat = true ∧
    (threes.applyMessage (aMessage 1 5)).nan = true := by and_intros <;> decide +kernel
/-! ### Witnesses: geometry and tile transfers -/

/-- The geom register: tiles of 8 by 8 in an output of 20 by 12. -/
def shaped (s : State) : State :=
  { s with launches := s.launches.map fun l => { l with info := { l.info with geom := 0x000C001400080008 } } }

theorem witness_GeomPlacesTiles : Enabled (shaped regs) .core g0 ∧ PortsOk (shaped regs) [7, 0, 5] ∧
    (take (shaped regs) (start (shaped regs) 4) 7).map (·.1) = some 3 ∧ geomOf (shaped regs) = 0x000C001400080008 ∧
    (after (exec (.geom g0 5 7 0) (shaped regs))).map (·.focus.x[5]) = some 0x0004000800080008 ∧
    (after (exec (.geom g0 5 7 0) (withX (shaped regs) 7 6))).map (·.focus.x[5]) = some 0 ∧
    (after (exec (.geom g0 5 7 6) (withX (shaped regs) 6 0x0010001000080008))).map (·.focus.x[5]) = some 0x0008000800080008 := by
  and_intros <;> decide +kernel

/-- A group table of two groups at 0x80, 5 rows from 0 and 9 rows from 5, named by e4. -/
def grouped : State :=
  ((shaped regs).pokeBytes (tcmKey ⟨0, 0, 0⟩ 0x80) (leBytes 8 2 ++ leBytes 8 5 ++ leBytes 8 0x500000009)).mapFocus fun t =>
    { t with e := t.e.set 4 0x80 }

theorem witness_GeomgSearchesGroups : Enabled grouped .core g0 ∧ grouped.focus.acquires = [] ∧ PortsOk grouped [7, 4, 5] ∧
    (take grouped (start grouped 4) 7).map (·.1) = some 3 ∧ ofBytes (grouped.peek (tcmKey ⟨0, 0, 0⟩ 0x80) 8) % 2 ^ 12 = 2 ∧
    (0x80 + 24 ≤ 0x60000 ∧ placedLaunch.inArea 0x80 = true ∧ placedLaunch.inArea (0x80 + 23) = true) ∧
    Quiet grouped (tcmKey ⟨0, 0, 0⟩ 0x80) 24 ∧
    (after (exec (.geomg g0 2 7) grouped)).map (fun u => (u.focus.x[4], u.focus.x[5])) = some (0x0000000800000005, 0x0000000100040008) ∧
    (after (exec (.geomg g0 2 7) (withX grouped 7 6))).map (fun u => (u.focus.x[4], u.focus.x[5])) = some (0, 0xFFFFFFFF00000000) := by
  and_intros <;> decide +kernel

/-- The placed thread with b1 in a fill state. -/
def filled (f : Fill) : State := matrix.mapFocus fun t => { t with fill := f }

theorem witness_TileLoadsAndStoresBegin : Enabled matrix .core g0 ∧ OwnsLatches matrix ∧ PortsOk matrix [6] ∧ InRange matrix 0x100 8 8 false ∧
    (filled (.filling true)).focus.fill = .filling true ∧
    (after (exec (.bld g0 6 1) (filled (.filling true)))).map (·.focus.wait) = some ((filled (.filling true)).stall .other).focus.wait ∧
    (after (exec (.bld g0 6 1) matrix)).map (fun u => (u.focus.fill, u.focus.counter 1, u.blds.map (·.addr))) = some (.filling true, 1, [0x100]) ∧
    (InRange matrix 0x100 264 8 true ∧ matrix.isDet matrix.focus = false ∧ matrix.focus.counter 1 ≠ 63 ∧
     (after (exec (.bst g0 6 1) matrix)).map (fun u => (u.focus.unack, u.copies.map (·.len))) = some (2, [264])) ∧
    (¬ OwnsLatches (noTiles matrix) ∧ traps (exec (.bst g0 6 1) (noTiles matrix)) 0x01 0) := by and_intros <;> decide +kernel

theorem witness_BrotSendsAround : Enabled troupe .core g0 ∧ OwnsLatches troupe ∧ troupe.troupeOf troupe.focus =
      some ⟨0, 0, 0, 2, 2, [some (former 0).id, some (former 1).id], [], none, none, []⟩ ∧
    (matrix.troupeOf matrix.focus = none ∧ traps (exec (.brot g0) (contained matrix)) 0x01 0) ∧
    (after (exec (.brot g0) troupe)).map (fun u => u.focus.outTile.map fun o => (o.2.1, o.2.2)) = some (some (true, some (coreAt 0 1))) ∧
    (after (exec (.brot g0) (troupe.mapFocus fun t => { t with outTile := some (ones, false, none) }))).map (fun u => u.focus.wait.map (·.1)) =
      some (some .other) ∧
    traps (exec (.brot g0) (contained { troupe with troupes := troupe.troupes.map fun e => (e.1, { e.2 with broken := some 0 }) })) 0x0A 0 ∧
    ¬ (∃ n, (some 1 : Option Nat) = some n ∧ n ≤ troupe.focus.slotNo) := by
  and_intros <;> decide +kernel

theorem witness_BswapExchangesLatches : Enabled (filled .full) .core g0 ∧ OwnsLatches (filled .full) ∧
    (after (exec (.bswap g0) (filled .full))).map (fun u => (u.focus.fill, u.focus.b1.header, u.focus.b0.header)) = some (.empty, 0x80, 0) ∧
    (after (exec (.bswap g0) (filled (.filling false)))).map (fun u => u.focus.wait.map (·.1)) = some (some .swap) ∧
    traps (exec (.bswap g0) (contained (filled .empty))) 0x0A 0 ∧
    ((troupe.focus.fill = .empty ∧ [some (former 0).id, some (former 1).id][(0 + 2 - 1) % 2]? = some (some (former 1).id)) ∧
     (after (exec (.bswap g0) troupe)).map (fun u => u.focus.wait.map (·.1)) = some (some .swap)) ∧
    ((former 0).stage = .active ∧ 2 ^ base.mc.pwlim.toNat < 2 ^ 20 + 1 - 0 ∧
     traps (exec (.bswapTimeout base.focus.id)
       (contained { base with focus := { base.focus with wait := some (.swap, 0) }, now := 2 ^ 20 + 1 })) 0x09 0) := by
  and_intros <;> decide +kernel

/-- The troupe with a tile of the leader for its neighbour. -/
def rings (started deaf : Bool) (f : Fill) : State :=
  { troupe with focus := { troupe.focus with outTile := some (ones, started, some (coreAt 0 1)) }
                parked := [{ former 1 with fill := f, deaf }] }

theorem witness_RingDeliveries :
    ((rings false false .empty).harts.find? fun t => decide (t.id.core? = some (coreAt 0 1)) && decide (t.lid = 1) && decide (t.state ≠ .free) &&
       !t.deaf).map (·.fill) = some .empty ∧
    (after (exec (.ringDeliveryStart (former 0).id) (rings false false .empty))).map (fun u => (u.hart (former 1).id).fill) =
      some (.filling false) ∧
    ((rings false true .empty).harts.find? fun t => decide (t.id.core? = some (coreAt 0 1)) && decide (t.lid = 1) && decide (t.state ≠ .free) &&
       !t.deaf).isNone = true ∧
    (after (exec (.ringDeliveryStart (former 0).id) (rings false true .empty))).map (fun u => u.focus.outTile.isNone) = some true ∧
    ((rings true false (.filling false)).harts.find? fun t => decide (t.id.core? = some (coreAt 0 1)) && decide (t.lid = 1) &&
       decide (t.fill = .filling false)).isSome = true ∧
    (after (exec (.ringDeliveryDone (former 0).id) (rings true false (.filling false)))).map (fun u =>
      ((u.hart (former 1).id).fill, (u.hart (former 1).id).b1.header, u.focus.outTile.isNone)) = some (.full, 0x80, true) := by
  and_intros <;> decide +kernel

/-- A BLD in flight. -/
def tileLoad (a : Word) (stamp : Option Stamp) : Bld := ⟨7, matrix.focus.id, 1, a, 0, 0, stamp, 0, 0⟩
def aBld (a : Word) (stamp : Option Stamp := none) : State := { filled (.filling true) with blds := [tileLoad a stamp] }
/-- A BLD of the own TCM through the core window, stamped 50, where every input has sent that time. -/
def orderedBld (time : BitVec 56) : State :=
  { aBld 0x0001000000000100 (some ⟨50, 0, 0, 0⟩) with ports := [(0, ⟨(List.range 34).map fun i => (i, ⟨time, 0, 0, 0⟩), [], [], 0⟩)] }

theorem witness_TileLoadsFill : (aBld 0x100).blds.find? (fun b => b.hart = matrix.focus.id) = some (tileLoad 0x100 none) ∧
    (let runs := (aBld 0x100).bldSpans (tileLoad 0x100 none)
     (aBld 0x100).storesUnderway matrix.focus.id 7 runs = false ∧ (aBld 0x100).routed runs = true ∧
     runs.all (fun x => !(aBld 0x100).restoringAt 1 x.1 x.2) = true) ∧
    (0x100 : Word).toNat < 2 ^ 48 ∧ (aBld 0x100).keyFor? (aBld 0x100).focus 0x100 = some (tcmKey ⟨0, 0, 0⟩ 0x100) ∧
    ((aBld 0x100).tileLen (tileLoad 0x100 none), (aBld 0x5FFF8).tileLen (tileLoad 0x5FFF8 none)) = (264, 8) ∧
    (aBld 0x100).rangeShut (asReq matrix.focus.id 1 0) 0x100 264 = none ∧
    (after (exec (.bldFillDone matrix.focus.id) (aBld 0x100))).map (fun u => (u.focus.fill, u.focus.b1.header)) = some (.full, 0x2FF01) ∧
    (after (exec (.bldFillDone matrix.focus.id) (aBld 0x5FFF8))).map (fun u => (u.focus.fill, u.net.map (·.phase))) =
      some (.empty, [.refused 0x04 0x60000]) ∧
    (after (exec (.bldFillDone matrix.focus.id) ((aBld 0x100).mapFocus fun t => { t with state := .stopped }))).map (·.focus.fill) = some .full ∧
    (let s := { aBld 0x0001000000000100 with ports := [((homeOf (tcmKey ⟨0, 0, 0⟩ 0x100)).port, ⟨[], [], [((asReq matrix.focus.id 1 0).src.input, [])], 0⟩)] }
     (s.rangeShut (asReq matrix.focus.id 1 0) 0x0001000000000100 264).isSome = true ∧
     (after (exec (.bldFillDone matrix.focus.id) s)).map (fun u => (u.blds.length, u.net.length, u.mc.mring.held.length)) = some (0, 0, 1)) ∧
    (((aBld 0x0001000000000100).tileRuns (tileLoad 0x0001000000000100 none)).map (fun x => dieOfKey x.1) = [some 0] ∧
     (after (exec (.bldFillDone matrix.focus.id) (aBld 0x0001000000000100))).map (fun u => (u.focus.fill, u.blds.map (·.stamp.isSome))) =
       some (.filling true, [true])) ∧
    (after (exec (.bldFillDone matrix.focus.id) (orderedBld 49))).map (fun u => u.blds.length) = some 1 ∧
    (after (exec (.bldFillDone matrix.focus.id) (orderedBld 50))).map (fun u => (u.focus.fill, u.focus.b1.header, u.blds.length)) =
      some (.full, 0x2FF01, 0) := by and_intros <;> decide +kernel

theorem witness_TilesAreRead :
    (let key := tcmKey ⟨0, 0, 0⟩ 0x100
     key + 1032 ≤ 2 ^ 50 ∧ tileBody 0xFF = 256 ∧ rangeOk matrix.focus.id (matrix.launch? 1) 0x100 264 false = true ∧ (aBld 0x100).ecc = [] ∧
     (∀ o ∈ [0, 7, 8, 263], (aBld 0x100).xlat { asReq matrix.focus.id 1 0 with superstep := 0 } (0x100 + BitVec.ofNat 64 o) .read = .hit (key + o) ∧
       isPage (key + o) = false)) ∧
    (rangeOk matrix.focus.id (matrix.launch? 1) 0x5FFF8 8 false = true ∧ rangeOk matrix.focus.id (matrix.launch? 1) 0x5FFF8 9 false = false ∧
     (match ((aBld 0x5FFF8).readTile (tileLoad 0x5FFF8 none)).1 with | .error e => some e | .ok _ => none) = some (0x04, 0x60000)) := by
  and_intros <;> decide +kernel

theorem witness_TilesLand : (filled (.filling false)).focus.fill = .filling false ∧
    (((filled (.filling true)).focus.landTile ones).fill, ((filled (.filling true)).focus.landTile ones).b1.header) = (.full, 0x80) ∧
    ((filled (.filling true)).focus.emptyTile.fill) = .empty ∧
    (let t : Thread := { (filled (.filling true)).focus with region := { (filled (.filling true)).focus.region with fill := .filling true } }
     ((t.landTile ones).region.fill, (t.landTile ones).region.b1.header) = (.full, 0x80)) ∧
    ({ (filled (.filling false)).focus with wait := some (.swap, 3) }.landTile ones).wait = none := by and_intros <;> decide +kernel

theorem witness_TilesWaitForTheirReceiver :
    (let s := rings false false .full
     (s.startRings.hart (former 0).id).outTile = some (ones, false, some (coreAt 0 1)) ∧
     (s.startRings.receiver (former 0).lid (coreAt 0 1)).map (·.fill) = some .full) := by and_intros <;> decide +kernel

theorem witness_DeliveredTilesAreLimited :
    (let s := rings true false (.filling false)
     let wide : Latch := ⟨0x200, Vector.replicate 256 (rxOf 100)⟩
     (after (exec (.ringDeliveryDone (former 0).id) { s with focus := { s.focus with outTile := some (wide, true, some (coreAt 0 1)) } })).map
       (fun u => (u.hart (former 1).id).b1.body.toArray.getD 0 0)) = some (rxWord 7) := by decide +kernel
/-! ### Witnesses: nodes -/

/-- Memory at a physical address of HBM, mapped at the same global address with these leaf bits; every Waystation that is asked knows it. -/
def mapped (s : State) (bits : Nat) : State :=
  let s := (s.pokeBytes 0x202010 (leBytes 8 (0x400000 + bits)))
  { s with tlb := [(.die 0 0, ⟨0, 0x40, 32, BitVec.ofNat 64 (0x400000 + bits)⟩), (.stack 0, ⟨0, 0x40, 32, BitVec.ofNat 64 (0x400000 + bits)⟩)] }

/-- A pool of 8 nodes: node 1 as given (what it has beyond its second edge is zero), node 2 free at the head of the list, generations 1. -/
def pool (n : Node) : State :=
  (((mapped near 0x4D).pokeBytes 0x400000 (leBytes 8 0x0100000000400000 ++ leBytes 8 8 ++ leBytes 4 2 ++ leBytes 4 1 ++ leBytes 8 0x100000001)).pokeBytes
    0x400200 (n.bytes.take 128)).pokeBytes 0x400404 [1]

/-- A leaf, and an expanded node with two edges, the second of prior 9, the first marked. -/
def leaf : Node := Node.blank .leaf 1 0
def inner : Node :=
  { Node.blank .expanded 1 0 with ecount := 2, ftot := 1, edges := ⟨5, 1, 1, 3, 0x77, 0⟩ :: ⟨6, 2, 0, 9, 0x78, 0⟩ :: List.replicate 12 Edge.zero }

/-- A node command at the pool's home. -/
def command (op : NodeOp) (a b : Word) (block : List Byte := []) : Req :=
  { aLoad .ordered with addr := 0x0100000000400000, body := .node op a b block 4 5, phase := .atHome, served := true }
def asked (n : Node) (op : NodeOp) (a b : Word) (block : List Byte := []) : State := { pool n with net := [command op a b block] }

/-- e6 names the pool, x6 a handle, x7 an expansion block in TCM. -/
def walker : State :=
  (withX (withX near 6 0x100000001) 7 0x100).mapFocus fun t => { t with e := t.e.set 6 0x0100000000400000 }

theorem witness_NodeCommandsAreSent : Enabled walker .core g0 ∧ PortsOk walker [6, 7, 4, 5, 0] ∧ walker.focus.acquires = [] ∧
    PoolBase walker 0x0100000000400000 ∧ (∀ op ∈ [NodeOp.desc, .expnd], MaySend walker (asNode 1) [(0x0100000000400000, .node op 0x100000001 0 [] 4 5)]) ∧
    (placedLaunch.inArea 0x100 = true ∧ placedLaunch.inArea 0x107 = true ∧ Quiet walker (tcmKey ⟨0, 0, 0⟩ 0x100) 8 ∧
     walker.released walker.focus = true ∧ ofBytes (walker.peek (tcmKey ⟨0, 0, 0⟩ 0x100) 8) = 0) ∧
    (∀ e ∈ [(Instr.desc g0 2 6 1, Body.node .desc 0x100000001 0 [] 4 5), (.nstat g0 2 6 1, .node .nstat 0x100000001 0 [] 4 5),
        (.nalloc g0 4 6 5 1, .node .nalloc 0x100000001 0 [] 4 5), (.rcyc g0 4 6 1, .node .rcyc 0x100000001 0 [] 4 0),
        (.ninit g0 4 6 1, .node .ninit 0x100000001 0 [] 4 0), (.bkup g0 4 6 7 1, .node .bkup 0x100000001 0x100 [] 4 0),
        (.unmk g0 4 6 7 1, .node .unmk 0x100000001 0x100 [] 4 0),
        (.expnd g0 4 6 7 1, .node .expnd 0x100000001 0x100 (List.replicate 8 0) 4 0)],
      (after (exec e.1 walker)).map (fun u => (u.focus.counter 1, u.net.map fun r => (r.addr, r.body, r.cls))) =
        some (1, [(0x0100000000400000, e.2, .ordered)])) ∧
    (let s := walker.mapFocus fun t => { t with unack := 1 }
     s.focus.part = none ∧ s.released s.focus = false ∧
     (after (exec (.expnd g0 4 6 7 1) s)).map (fun u => (u.focus.part.map fun e => (e.1, e.2.2), u.net.length)) = some (some (0, List.replicate 8 0), 0)) ∧
    (let s := walker.mapFocus fun t => { t with part := some (0, 0, [3, 0, 0, 0, 0, 0, 0, 0]) }
     s.released s.focus = true ∧ (after (exec (.expnd g0 4 6 7 1) s)).map (fun u => u.net.map (·.body)) =
       some [.node .expnd 0x100000001 0x100 [3, 0, 0, 0, 0, 0, 0, 0] 4 0]) := by and_intros <;> decide +kernel

-- A hart whose region entry moved to its pc when the command of tag 7 closed it, and whose Waystation refuses that command.
theorem witness_NodeCommandsAreSent_refused :
    let t : Thread := { walker.focus with marks := [⟨0, [7], false, walker.focus.region⟩, ⟨0, [], true, { walker.focus.region with entry := 0x0100000000000080 }⟩] }
    t.fault = none ∧ (t.unclose 7).region.entry = 0x0100000000000080 ∧
    (let r := { command .desc 0x100000001 0 with id := 7 }
     ((({ walker with focus := t } : State).refuseAt r 0x06).hart walker.focus.id).region.entry = 0x0100000000000080) := by and_intros <;> decide +kernel

theorem witness_NodeCommandsAreApplied :
    (∀ e ∈ [(leaf, NodeOp.desc), (inner, .bkup)],
      (asked e.1 e.2 0x100000001 0x500000000).req? 0 = some (command e.2 0x100000001 0x500000000) ∧
      (command e.2 0x100000001 0x500000000).arrived = true ∧
      (asked e.1 e.2 0x100000001 0x500000000).gate (command e.2 0x100000001 0x500000000) = .go 0x400000 ∧
      (asked e.1 e.2 0x100000001 0x500000000).ecc = [] ∧
      ((asked e.1 e.2 0x100000001 0x500000000).locate 0 0x0100000000400000 0x400000 1).1 = some 0x400200 ∧
      (let s := asked e.1 e.2 0x100000001 0x500000000
       let r := command e.2 0x100000001 0x500000000
       (State.payAll (s.slotOf r) (s.nodeCharges r 0x400000) s).map (fun u => u.nodeMiss r 0x400000) = some none) ∧
      Named (asked e.1 e.2 0x100000001 0x500000000) (command e.2 0x100000001 0x500000000) 0x400000 0x400200 0x100000001) ∧
    (after (exec (.descApply 0) (asked leaf .desc 0x100000001 0))).map (fun u => (u.net.map (·.phase), u.peek 0x400200 1)) =
      some ([.performed (leBytes 8 0x100000001 ++ leBytes 8 0x1FF01) 0], [2]) ∧
    (after (exec (.descApply 0) (asked inner .desc 0x100000001 0))).map (fun u => u.net.map (·.phase)) =
      some [.performed (leBytes 8 0x78 ++ leBytes 8 0x30100) 0] ∧
    (after (exec (.rcycApply 0) (asked inner .rcyc 0x100000001 0))).map (fun u => u.net.map (·.phase)) =
      some [.performed (leBytes 8 0x3FF06 ++ leBytes 8 0) 0] ∧
    (after (exec (.rcycApply 0) (asked leaf .rcyc 0x100000001 0))).map (fun u => (u.peek 0x400200 8, u.peek 0x400010 8)) =
      some ([0, 0, 0, 0, 2, 0, 0, 0], [1, 0, 0, 0, 2, 0, 0, 0]) := by and_intros <;> decide +kernel

-- A command whose node lies where no entry is cached, and its walk's input is excluded at the home of its first entry.
theorem witness_NodeCommandsAreApplied_shut :
    let s₀ := { asked leaf .desc 0x100001001 0 with tlb := [(.die 0 0, ⟨0, 0x40, 1, BitVec.ofNat 64 0x40004D⟩)] }
    let s := (s₀.pokeBytes 0x400008 (leBytes 4 0x2000))
    let r := command .desc 0x100001001 0
    let input := (homeOf 0x400000).station.onDie
    let shut := { s with ports := ((s.walkPath 0 ((s.nodeMiss r 0x400000).getD 0)).take 1).map fun a => ((homeOf a).port, ⟨[], [], [(input, [])], 0⟩) }
    (s.nodeMiss r 0x400000).isSome = true ∧ ((s.nodeMiss r 0x400000).bind fun va => shut.walkShut (homeOf 0x400000).station 0 va).isSome = true ∧
    (after (exec (.descApply 0) shut)).map (fun u => (u.net.length, u.mc.mring.held.length)) = some (0, 1) := by and_intros <;> decide +kernel

/-- NINIT at a pool of two nodes, node 1 unformatted; a NALLOC, and one with an empty free list. -/
def raw : State := (asked leaf .ninit 0x0100000000400000 0).pokeBytes 0x400008 (leBytes 4 2 ++ leBytes 4 0 ++ leBytes 4 0 ++ leBytes 4 1) |>.pokeBytes 0x400204 [0]
/-- The NINIT request with its page. -/
def paged : Req := { command .ninit 0x0100000000400000 0 with akey := some 0x400000, page := some (0x0100000000400000, 32 * 65536, 0x400000) }
def wants : State := asked leaf .nalloc 0x100000001 0
def starved : State := (asked leaf .nalloc 0 0).pokeBytes 0x400010 (leBytes 8 0)

theorem witness_NodesAreAllocated :
    (wants.gate (command .nalloc 0x100000001 0) = .go 0x400000 ∧ (wants.locate 0 0x0100000000400000 0x400000 2).1 = some 0x400400 ∧
     (readPool (wants.peek 0x400000 64)).freehead = 2 ∧ (readNode (wants.peek 0x400400 512)).state = .free) ∧
    (after (exec (.nallocApply 0) (asked leaf .nalloc 0x100000001 0))).map (fun u => (u.net.map (·.phase), u.peek 0x400010 8)) =
      some ([.performed (leBytes 8 0x100000002 ++ leBytes 8 0xFF00) 0], [0, 0, 0, 0, 0, 0, 0, 0]) ∧
    ((readPool (starved.peek 0x400000 64)).freehead = 0 ∧ (starved.locate 0 0x0100000000400000 0x400000 0).1 = some 0x400000 ∧
     (after (exec (.nallocApply 0) starved)).map (fun u => u.net.map (·.phase)) = some [.performed (leBytes 8 0 ++ leBytes 8 0xFF09) 0]) ∧
    (let r := command .ninit 0x0100000000400000 0
     r.page = none ∧ (0x0100000000400000 : Word).toNat / 2 ^ 48 = 0x0100 ∧ raw.xlat r 0x0100000000400000 .node = .hit 0x400000 ∧
     (raw.cached r.src.station r.space 0x400000).map (·.pages) = some 32 ∧
     (raw.translated r 0x400000).page = some (0x0100000000400000, 32 * 65536, 0x400000) ∧ (raw.translated r 0x400000).akey = some 0x400000) ∧
    (({ raw with net := [paged] } : State).gate paged = .go 0x400000 ∧ homeOf 0x400000 = homeOf 0x400000 ∧
     raw.peekN 0x400204 4 = 0 ∧
     (after (exec (.ninitApply 0) { raw with net := [paged] })).map (fun u => (u.net.map (·.phase), u.peek 0x400010 8, u.peek 0x400204 4)) =
       some ([.performed (leBytes 8 0xFF00 ++ leBytes 8 0) 0], [1, 0, 0, 0, 2, 0, 0, 0], [1, 0, 0, 0])) := by and_intros <;> decide +kernel

theorem witness_SelectionIsBestEdge : (readPool ((pool inner).peek 0x400000 64)).choose inner = some 1 ∧
    (readPool ((pool inner).peek 0x400000 64)).choose leaf = none := by decide +kernel

theorem witness_NodeRules : inner.edges.length = 14 ∧ leaf.edges.length = 14 ∧ inner.ecount ≤ 14 ∧ leaf.state = .leaf ∧ inner.state = .expanded ∧
    inner.ftot < 2 ^ 32 - 1 ∧ (0 % 2 ^ 8 < inner.ecount ∧ (inner.edges.getD 0 Edge.zero).f ≠ 0 ∧ inner.ftot ≠ 0) ∧ inner.ecount ≤ 2 % 2 ^ 8 ∧
    ({ leaf with state := .expanding, clid := 1, cltask := 3 : Node }.state = .expanding ∧ 1 % 2 ^ 16 = 1 ∧ numAt [] 0 8 = 0 ∧ 1 ≠ 2 % 2 ^ 16) := by and_intros <;> decide +kernel


theorem witness_NodeUpdates :
    (markNode true inner (0 + 5 * 2 ^ 32)).node.map (fun n => ((n.edges.getD 0 Edge.zero).n, (n.edges.getD 0 Edge.zero).f, n.ntot, n.ftot)) =
      some ((inner.edges.getD 0 Edge.zero).n + 1, (inner.edges.getD 0 Edge.zero).f - 1, inner.ntot + 1, 0) ∧
    (markNode true inner 1).st = 8 ∧ (markNode true inner 1).node.map (·.ufl) = some true ∧
    (expndNode { leaf with state := .expanding, clid := 1, cltask := 3 } (leBytes 8 (2 ^ 8 + 7 * 2 ^ 32)) 1 3).node.map
      (fun n => (n.state, n.tval, n.clid)) = some (.terminal, 7, 0) ∧
    (expndNode { leaf with state := .expanding, clid := 1, cltask := 3 } (leBytes 8 1 ++ leBytes 8 9 ++ leBytes 8 4 ++ leBytes 8 6) 1 3).node.map
      (fun n => (n.state, n.ecount, (n.edges.getD 0 Edge.zero).p)) = some (.expanded, 1, 9) ∧
    (expndNode { leaf with state := .expanding, clid := 1, cltask := 3 } (leBytes 8 15) 1 3).st = 10 := by and_intros <;> decide +kernel

/-- The reply of a node command that has been applied. -/
def nodeReplies (o : Host.Outcome State Fault Refusal) : Option (List Phase) := (after o).map fun u => u.net.map (·.phase)
/-- A pool whose header gives another base. -/
def moved (op : NodeOp) (a b : Word) : State := (asked leaf op a b).pokeBytes 0x400000 (leBytes 8 0x0100000000400200)

theorem witness_BadHandlesAreRefused :
    ((asked leaf .desc 0x100000000 0).gate (command .desc 0x100000000 0) = .go 0x400000 ∧ (asked leaf .desc 0x100000000 0).ecc = [] ∧
     (readPool ((asked leaf .desc 0x100000000 0).peek 0x400000 64)).nnodes = 8) ∧
    nodeReplies (exec (.descApply 0) (asked leaf .desc 0x100000000 0)) = some [.performed (leBytes 8 0 ++ leBytes 8 0xFF05) 0] ∧
    nodeReplies (exec (.descApply 0) (asked leaf .desc 0x100000008 0)) = some [.performed (leBytes 8 0 ++ leBytes 8 0xFF05) 0] ∧
    nodeReplies (exec (.bkupApply 0) (asked leaf .bkup 0x100000008 7)) = some [.performed (leBytes 8 0x0705 ++ leBytes 8 0) 0] ∧
    nodeReplies (exec (.descApply 0) (asked leaf .desc 0x200000001 0)) = some [.performed (leBytes 8 0 ++ leBytes 8 0x1FF05) 0] ∧
    nodeReplies (exec (.descApply 0) (asked leaf .desc 1 0)) = some [.performed (leBytes 8 0 ++ leBytes 8 0x1FF05) 0] ∧
    nodeReplies (exec (.rcycApply 0) (moved .rcyc 0x100000001 0)) = some [.performed (leBytes 8 0x1FF0A ++ leBytes 8 0) 0] ∧
    nodeReplies (exec (.nstatApply 0) (asked leaf .nstat 8 0)) = some [.performed (leBytes 8 0 ++ leBytes 8 0) 0] ∧
    nodeReplies (exec (.nstatApply 0) (moved .nstat 0x100000001 0)) = some [.performed (leBytes 8 0 ++ leBytes 8 0) 0] ∧
    nodeReplies (exec (.nstatApply 0) (asked leaf .nstat 0x700000001 0)) = some [.performed (leBytes 8 0x100000001 ++ leBytes 8 0) 0] := by
  and_intros <;> decide +kernel

theorem witness_NodesAreAllocated_refused :
    nodeReplies (exec (.nallocApply 0) (moved .nalloc 0x100000001 0)) = some [.performed (leBytes 8 0 ++ leBytes 8 0xFF0A) 0] ∧
    nodeReplies (exec (.nallocApply 0) (wants.pokeBytes 0x400010 (leBytes 4 8))) = some [.performed (leBytes 8 0 ++ leBytes 8 0xFF0A) 0] ∧
    nodeReplies (exec (.nallocApply 0) (wants.pokeBytes 0x400010 (leBytes 4 1))) = some [.performed (leBytes 8 0 ++ leBytes 8 0xFF0A) 0] ∧
    (raw.pokeBytes 0x400204 [1]).peekN 0x400204 4 ≠ 0 ∧
    nodeReplies (exec (.ninitApply 0) { raw.pokeBytes 0x400204 [1] with net := [paged] }) = some [.performed (leBytes 8 0xFF0A ++ leBytes 8 0) 0] := by
  and_intros <;> decide +kernel

theorem witness_NodeBytesAreRight : inner.edges.length = 14 ∧ inner.ecount ≤ 14 ∧ inner.payload.length = 24 ∧ inner.clid = 0 ∧
    readNode inner.bytes = inner ∧ inner.bytes.length = 512 ∧
    (readNode (leBytes 8 0x1_00020F05 ++ List.replicate 504 0)).state = .free ∧ (readNode (leBytes 8 0x1_00020F05 ++ List.replicate 504 0)).ecount = 14 ∧
    (readNode (leBytes 8 0x1_00020F05 ++ List.replicate 504 0)).ufl = true ∧ (readNode (leBytes 8 0x1_00020F05 ++ List.replicate 504 0)).gen = 1 ∧
    (readPool (leBytes 8 0x200 ++ leBytes 8 9 ++ leBytes 8 0x300000002 ++ leBytes 8 5 ++ leBytes 8 0xFFFFFFFF00000101 ++ leBytes 8 7 ++
      List.replicate 16 0)).c = -1 := by and_intros <;> decide +kernel
/-! ### Witnesses: near-memory units -/

/-- A block of one command that reports to TCM word 0x200 through the core window. -/
def blockOf (header : Nat) (words : List Nat) : List Byte :=
  leBytes 8 1 ++ leBytes 8 0x0100000000400000 ++ leBytes 8 0x0001000000000200 ++ leBytes 8 header ++ words.flatMap (leBytes 8)

def fillBytes : List Byte := blockOf 3 [0x0100000000400100, 16, 0x1122334455667788]
def gathBytes : List Byte := blockOf 0x20002 [0x0100000000400100, 0x0100000000400200, 0x0100000000400080, 0x400000020]
def iredBytes : List Byte := blockOf 0x20101 [0x0100000000400100, 0x0100000000400200, 0x0100000000400080, 0x400000020]
def runBytes : List Byte := blockOf 0x700000004 [11, 12, 13, 14]

/-- The active block of stream 5. -/
def active (ovl : Bool) (bytes : List Byte) : Active :=
  { block := ⟨.hart near.focus.id, 9, 1, 0, ovl, 5, 3, bytes⟩, idx := 0, held := [], start := none, began := 0, running := false, ended := none }

/-- Stream 5 of channel 0, in a mapped compute page: rows of 1.0 and 2.0 as binary32, indexes 1 and 0. -/
def unitAt (a : Option Active) (waiting : List Block) : State :=
  { (((mapped near 0x12D).pokeBytes 0x400080 (leBytes 4 1 ++ leBytes 4 0)).pokeBytes 0x400200 (leBytes 4 0x3F800000)).pokeBytes 0x400220
      (leBytes 4 0x40000000) with
    units := [(0, { ChUnit.fresh with overlay := some 7, streams := [(5, ⟨4, false, waiting, a⟩)] })] }

/-- x6 leads to a block in TCM, e5 holds ticket 5, 3. -/
def sender : State :=
  ((withX near 6 0x100).pokeBytes (tcmKey ⟨0, 0, 0⟩ 0x100) fillBytes).mapFocus fun t => { t with e := t.e.set 5 0x500000003 }

theorem witness_BlocksAreSent : Enabled sender .core g0 ∧ PortsOk sender [6] ∧ sender.focus.acquires = [] ∧
    ((sender.focus.e.toArray.getD 5 0).toNat = 5 * 2 ^ 32 + 3 ∧ placedLaunch.info.nmbase ≤ 5 ∧ 5 < placedLaunch.info.nmbase + placedLaunch.info.nmcount) ∧
    (placedLaunch.inArea 0x1FF = true ∧ Quiet sender (tcmKey ⟨0, 0, 0⟩ 0x100) 256 ∧ sender.released sender.focus = true) ∧
    (∀ m ∈ [asBlock 1, asReset 1], MaySend sender m [(0x0100000000400000, .nmrst 5 3)]) ∧
    (after (exec (.nmsend g0 6 1) sender)).map (fun u => (u.focus.e[5], u.focus.counter 1, u.net.map fun r => (r.addr, r.body))) =
      some (0x500000004, 1, [(0x0100000000400000, .block false 5 3 (fillBytes ++ List.replicate (256 - fillBytes.length) 0))]) ∧
    (after (exec (.nmovl g0 6 1) sender)).map (fun u => (u.focus.e[5], u.net.map (·.addr))) = some (0x500000004, [0x0100000000400000]) ∧
    (after (exec (.nmrst g0 6 1) (withX sender 6 0x0100000000400000))).map (fun u => (u.focus.acquires, u.net.map (·.body))) =
      some ([0], [.nmrst 5 3]) ∧
    (let s := sender.mapFocus fun t => { t with unack := 1 }
     s.focus.part = none ∧ s.released s.focus = false ∧ (BitVec.ofNat 64 (numAt (s.peek (tcmKey ⟨0, 0, 0⟩ 0x100) 256) 8 8) : Word).toNat / 2 ^ 48 = 0x0100 ∧
     (after (exec (.nmsend g0 6 1) s)).map (fun u => (u.focus.part.map fun e => decide (e.2.2.take 56 = fillBytes), u.net.length, u.focus.e[5])) =
       some (some true, 0, 0x500000003)) ∧
    (let s := sender.mapFocus fun t => { t with part := some (0, 0, gathBytes) }
     (after (exec (.nmsend g0 6 1) s)).map (fun u => u.net.map (·.body)) = some [.block false 5 3 gathBytes]) := by and_intros <;> decide +kernel

/-- A block, or a reset, at its unit. -/
def delivery (body : Body) : Req := { aLoad .ordered with addr := 0x0100000000400000, body, phase := .atHome, served := true }

theorem witness_StreamsTakeBlocks :
    (let b : Body := .block false 5 4 fillBytes
     let s : State := { unitAt none [] with net := [delivery b] }
     s.gate (delivery b) = .go 0x400000 ∧ homeOf 0x400000 = .channel 0 ∧ (s.unit 0).nstate = .running ∧
     ((s.unit 0).stream 5).next = 4 ∧ ((s.unit 0).stream 5).active.isNone = true ∧
     (⟨(delivery b).src, 0, 1, 0, false, 5, 4, fillBytes⟩ : Block).caddrOk = true ∧
     (after (exec (.nmuBlockArrive 0) s)).map (fun u => (((u.unit 0).stream 5).next, ((u.unit 0).stream 5).active.isSome)) = some (4, true)) ∧
    (let b : Body := .block false 5 12 fillBytes
     let s : State := { unitAt (some (active false fillBytes)) [] with net := [delivery b] }
     s.gate (delivery b) = .go 0x400000 ∧ ((12 : BitVec 32) - ((s.unit 0).stream 5).next).toNat ≤ 8 ∧ ((s.unit 0).stream 5).active.isSome = true ∧
     (after (exec (.nmuBlockArrive 0) s)).map (fun u => ((u.unit 0).stream 5).waiting.map (·.seq)) = some [12]) ∧
    (let b : Body := .nmrst 5 9
     let s : State := { unitAt none [] with net := [delivery b] }
     s.gate (delivery b) = .go 0x400000 ∧ ((s.unit 0).stream 5).waiting = [] ∧
     (after (exec (.nmuStreamReset 0) s)).map (fun u => ((u.unit 0).stream 5).next) = some 9) := by
  refine ⟨⟨?_, ?_, ?_, ?_, ?_, ?_, ?_⟩, ⟨?_, ?_, ?_, ?_⟩, ?_, ?_, ?_⟩ <;> decide +kernel

/-- What the stream's command checks give. -/
def checked (bytes : List Byte) : Option (Nat × List Nat) :=
  ((((unitAt (some (active false bytes)) []).unit 0).stream 5).current).bind fun p =>
    ((unitAt (some (active false bytes)) []).commandCheck 0 p.1.block p.2).1.toOption.map fun o => (o.dst, o.rows)

/-- Stream 5's block whose command has moved its bytes long ago. -/
def busy (bytes : List Byte) : State := { unitAt (some { active false bytes with paid := 1000 }) [] with now := 100000 }

theorem witness_CommandsRun :
    (∀ b ∈ [fillBytes, gathBytes, iredBytes], (busy b).commandBusy 0 5 = false ∧ (active false b).block.hold = false ∧ (busy b).holdOver (active false b) = false ∧
      (busy b).ecc = [] ∧ ((busy b).unit 0).nstate = .running) ∧
    ((((busy fillBytes).unit 0).stream 5).current.map fun p => (p.2.cost, p.2.least, (busy fillBytes).writeHeld 0 5 p.2 ⟨0x400100, 0, [], []⟩)) = some (16, 41, false) ∧
    (∀ e ∈ [(fillBytes, 3), (gathBytes, 2), (iredBytes, 1)], ((((busy e.1).unit 0).stream 5).current.map fun p => (p.2.kind, decide (p.2.cost ≤ 1000))) = some (e.2, true)) ∧
    (checked fillBytes = some (0x400100, []) ∧ checked gathBytes = some (0x400100, [0x400220, 0x400200]) ∧
     checked iredBytes = some (0x400100, [0x400220, 0x400200])) ∧
    (after (exec (.nmuFill 0 5) (busy fillBytes))).map (fun u => (u.peek 0x400108 9, ((u.unit 0).stream 5).active.map (·.idx))) =
      some ([0x88, 0x77, 0x66, 0x55, 0x44, 0x33, 0x22, 0x11, 0], some 1) ∧
    (after (exec (.nmuGath 0 5) (busy gathBytes))).map (fun u => (u.peek 0x400102 2, u.peek 0x400122 2)) =
      some ([0, 0x40], [0x80, 0x3F]) ∧
    (after (exec (.nmuIred 0 5) (busy iredBytes))).map (fun u => u.peek 0x400100 4) = some [0, 0, 0x40, 0x40] := by
  and_intros <;> decide +kernel

/-- An overlay descriptor of image 0x0100000000401000. -/
def ovlBytes : List Byte := leBytes 8 9 ++ leBytes 8 0x0100000000401000 ++ leBytes 8 0x0001000000000200

theorem witness_OverlaysLoadAndRun :
    (((((unitAt (some (active false runBytes)) []).unit 0).stream 5).current.map fun p => (p.2.kind, p.2.ok, p.2.ovlid)) = some (4, true, 7) ∧
     ((unitAt (some (active false runBytes)) []).hart (.overlay 0)).state = .free ∧ (active false runBytes).block.hold = false ∧
     (after (exec (.nmuRun 0 5) (unitAt (some (active false runBytes)) []))).map (fun u => ((u.hart (.overlay 0)).pc, (u.hart (.overlay 0)).x[13])) =
       some (0x10000, 14) ∧
     (after (exec (.nmuRun 0 5) (unitAt (some (active false runBytes)) []))).map (fun u => (u.unit 0).runner) = some (some 5)) ∧
    (after (exec (.nmuRun 0 5) { unitAt (some (active false runBytes)) [] with
      units := [(0, { ChUnit.fresh with streams := [(5, ⟨4, false, [], some (active false runBytes)⟩)] })] })).map
        (fun u => ((u.unit 0).stream 5).active.map (·.ended)) = some (some (some (8, 0))) ∧
    (dfield ovlBytes 0 16 48 = 0 ∧ numAt ovlBytes 8 8 % 4096 = 0 ∧
     ((unitAt (some (active true ovlBytes)) []).unitKey 0 0 0x0100000000401000 false).1 = some 0x401000) := by and_intros <;> decide +kernel

/-- Stream 5's block with a running overlay, and the overlay. -/
def runs5 (cycles : Nat) (start : Option Nat) : State :=
  { unitAt (some { active false runBytes with running := true, start }) [] with
    parked := [{ Thread.fresh (.overlay 0) with state := .running, cycles }], now := 64000 }

theorem witness_UnitLimits :
    (((runs5 (2 ^ 20) none).hart (.overlay 0)).state = .running ∧ 2 ^ 20 ≤ ((runs5 (2 ^ 20) none).hart (.overlay 0)).cycles ∧
     (after (exec (.runLimit 0) (runs5 (2 ^ 20) none))).map (fun u => ((u.hart (.overlay 0)).state, ((u.unit 0).stream 5).active.map (·.ended))) =
       some (.free, some (some (9, 0)))) ∧
    (0 + 64000 ≤ (runs5 0 (some 0)).now ∧
     (after (exec (.holdTimeout 0 5) (runs5 0 (some 0)))).map (fun u => ((u.hart (.overlay 0)).state, ((u.unit 0).stream 5).active.map (·.ended))) =
       some (.free, some (some (4, 0)))) := by and_intros <;> decide +kernel

theorem witness_CompletionWordsAreSent :
    ({ active false fillBytes with idx := 1 } : Active).result = some (0, 0xFF) ∧
    (BitVec.ofNat 64 (numAt fillBytes 16 8) : Word) = 0x0001000000000200 ∧
    windowPlace ((unitAt none []).launch? 1) 0x0001000000000200 = .window ⟨0, 0, 0⟩ 0x200 ∧
    (after (exec (.nmuCompletion 0 5) (unitAt (some { active false fillBytes with idx := 1 }) []))).map (fun u => u.net.map fun r =>
      (r.src, r.addr, r.body)) = some [(.unit 0, 0x0001000000000200, .store ((leBytes 8 0x8000FF0000000003).map some))] := by
  and_intros <;> decide +kernel


/-- Stream 5's FILL before any byte is charged, with a weight of slot 0, and the same beside an inside stream 6. -/
def unpaid (weight : BitVec 8) : State :=
  { unitAt (some (active false fillBytes)) [] with units := [(0, { ChUnit.fresh with
      shares := Vector.replicate 16 (true, weight), inRound := Vector.replicate 16 (true, weight), overlay := some 7
      streams := [(5, ⟨4, false, [], some (active false fillBytes)⟩)] })] }
def beside : State :=
  { busy fillBytes with units := (busy fillBytes).units.map fun e =>
      (e.1, { e.2 with streams := e.2.streams ++ [(6, ⟨4, false, [], some { active false runBytes with running := true }⟩)] }) }

theorem witness_CommandsPayAndWait :
    (((unpaid 1).unit 0).stream 5).active.map (·.paid) = some 0 ∧ (unpaid 1).holdOver (active false fillBytes) = false ∧
    ((((unpaid 1).unit 0).stream 5).current.map fun p => (commandAccesses 0 p.2 ⟨0x400100, 0, [], []⟩, p.1.start)) = some ([(0, 16)], none) ∧
    (State.payAll 0 [(0, 16)] (unpaid 1)).isSome = true ∧
    (after (exec (.nmuFill 0 5) (unpaid 1))).map (fun u => ((u.unit 0).stream 5).active.map fun a => (a.idx, a.paid)) = some (some (0, 1)) ∧
    (State.payAll 0 [(0, 16)] (unpaid 0)).isSome = false ∧
    (after (exec (.nmuFill 0 5) (unpaid 0))).map (fun u => ((u.unit 0).stream 5).active.map fun a => (a.idx, a.paid)) = some (some (0, 0)) ∧
    (after (exec (.nmuFill 0 5) { busy fillBytes with now := 40 })).map (fun u => ((u.unit 0).stream 5).active.map (·.idx)) = some (some 0) ∧
    beside.commandBusy 0 5 = true ∧
    (after (exec (.nmuFill 0 5) beside)).map (fun u => ((u.unit 0).stream 5).active.map (·.idx)) = some (some 0) := by
  and_intros <;> decide +kernel

-- A FILL of no bytes, and a GATH whose index is out of bounds, before anything is charged.
theorem witness_CommandsPayAndWait_empty :
    (let s := unitAt (some (active false (blockOf 3 [0x0100000000400100, 0, 1]))) []
     ((s.unit 0).stream 5).current.map (fun p => commandAccesses 0 p.2 ⟨0, 0, [], []⟩) = some [] ∧
     (after (exec (.nmuFill 0 5) s)).map (fun u => ((u.unit 0).stream 5).active.map fun a => (a.idx, a.paid)) = some (some (0, 1))) ∧
    (let s := unitAt (some (active false (blockOf 0x20002 [0x0100000000400100, 0x0100000000400200, 0x0100000000400080, 0x100000020]))) []
     (((s.unit 0).stream 5).current.map fun p => match (s.commandCheck 0 p.1.block p.2).1 with | .error e => some (e.status, chargesOf e.runs) | .ok _ => none) =
       some (some (6, [(0, 8)])) ∧
     (after (exec (.nmuGath 0 5) s)).map (fun u => ((u.unit 0).stream 5).active.map fun a => (a.paid, a.ended)) = some (some (1, none))) := by
  and_intros <;> decide +kernel

theorem witness_BlocksAreRefused :
    (let s : State := { unitAt none [] with nextId := 50, units := [(0, { ChUnit.fresh with streams := [(5, ⟨4, true, [], none⟩)] })]
                                            net := [delivery (.block false 5 4 fillBytes)] }
     ((s.unit 0).stream 5).halted = true ∧
     (after (exec (.nmuBlockArrive 0) s)).map (fun u => u.net.any fun r => decide (r.body = .store ((leBytes 8 0x8000FF0300000004).map some))) = some true) ∧
    (let s : State := { unitAt (some (active false fillBytes)) [] with nextId := 50, net := [delivery (.block false 5 3 fillBytes)] }
     2 ^ 31 < ((3 : BitVec 32) - ((s.unit 0).stream 5).next).toNat ∧
     (after (exec (.nmuBlockArrive 0) s)).map (fun u => u.net.any fun r => decide (r.body = .store ((leBytes 8 0x8000FF0700000003).map some))) = some true) ∧
    (let s : State := { unitAt none [] with nextId := 50, net := [delivery (.block false 5 13 fillBytes)] }
     9 ≤ ((13 : BitVec 32) - ((s.unit 0).stream 5).next).toNat ∧
     (after (exec (.nmuBlockArrive 0) s)).map (fun u => u.net.any fun r => decide (r.body = .store ((leBytes 8 0x8000FF0A0000000D).map some))) = some true) := by
  and_intros <;> decide +kernel

theorem witness_OverlaysLoad :
    (let a : Active := { active true ovlBytes with paid := 4096 }
     let s : State := unitAt (some a) []
     a.block.ovl = true ∧ a.sent = false ∧ s.commandBusy 0 5 = false ∧ s.ecc = [] ∧
     (after (exec (.nmuOverlayLoad 0 5) s)).map (fun u => ((u.unit 0).overlay, ((u.unit 0).stream 5).active.map (·.idx))) = some (some 9, some 1)) := by
  and_intros <;> decide +kernel

theorem witness_HaltsCountAndStop :
    (let a : Active := { active false fillBytes with ended := some (9, 0) }
     let s := unitAt (some a) []
     a.result = some (9, 0) ∧ ((s.unit 0).stream 5).waiting = [] ∧
     (after (exec (.nmuCompletion 0 5) s)).map (fun u => (((u.unit 0).stream 5).next, ((u.unit 0).stream 5).halted)) = some (5, true)) ∧
    (let s := unitAt (some { active false fillBytes with idx := 1, reset := true }) []
     (after (exec (.nmuCompletion 0 5) s)).map (fun u => (((u.unit 0).stream 5).next, ((u.unit 0).stream 5).halted)) = some (4, false)) := by
  and_intros <;> decide +kernel

/-- How stream 5's block stands after an event of its kind. -/
def ends5 (i : Instr) (bytes : List Byte) : Option (Option (Option (Nat × Nat))) :=
  (after (exec i (busy bytes))).map fun u => ((u.unit 0).stream 5).active.map (·.ended)

theorem witness_CommandsAreRejected : ((busy fillBytes).unit 0).nstate = .running ∧ (busy fillBytes).commandBusy 0 5 = false ∧
    ends5 (.nmuFill 0 5) (blockOf 3 [0x0100000000400104, 16, 1]) = some (some (some (5, 0))) ∧
    ends5 (.nmuFill 0 5) (blockOf 0x103 [0x0100000000400100, 16, 1]) = some (some (some (5, 0))) ∧
    ends5 (.nmuFill 0 5) (blockOf 3 [0x01000000005FFFF8, 16, 1]) = some (some (some (1, 0))) ∧
    ends5 (.nmuFill 0 5) (blockOf 3 [0x0001000000400100, 16, 1]) = some (some (some (2, 0))) ∧
    ends5 (.nmuFill 0 5) (blockOf 3 [0x0100000000800100, 16, 1]) = some (some (some (2, 0))) ∧
    ends5 (.nmuGath 0 5) (blockOf 0x20002 [0x0100000000400100, 0x0100000000400200, 0x0100000000400080, 0x100000020]) = some (some (some (6, 0))) ∧
    ends5 (.nmuGath 0 5) (blockOf 0x20002 [0x0100000000400100, 0x01000000005FFFE0, 0x0100000000400080, 0x400000020]) = some (some (some (2, 0))) ∧
    ends5 (.nmuIred 0 5) (blockOf 0x20101 [0x0100000000400100, 0x01000000005FFFE0, 0x0100000000400080, 0x400000040]) = some (some (some (1, 0))) ∧
    (active false (leBytes 8 0 ++ fillBytes.drop 8)).result = some (5, 0) ∧ (active false (leBytes 8 10 ++ fillBytes.drop 8)).result = some (5, 0) ∧
    (active false (blockOf 5 [0, 0, 0])).result = some (5, 0) := by and_intros <;> decide +kernel

theorem witness_CompletionWordsHaveNoPlace :
    (let a : Active := { active false (blockOf 3 [0x0100000000400100, 16, 1]) with idx := 1 }
     let lost : Active := { a with block := { a.block with bytes := (a.block.bytes.take 16) ++ leBytes 8 0x0001000000800200 ++ a.block.bytes.drop 24 } }
     let global : Active := { a with block := { a.block with bytes := (a.block.bytes.take 16) ++ leBytes 8 0x0100000000400200 ++ a.block.bytes.drop 24 } }
     windowPlace ((unitAt none []).launch? 1) 0x0001000000800200 ≠ .window ⟨0, 0, 0⟩ 0x200 ∧
     (after (exec (.nmuCompletion 0 5) (unitAt (some lost) []))).map (fun u =>
       (((u.unit 0).stream 5).next, ((u.unit 0).stream 5).halted, ((u.unit 0).stream 5).active.isNone, u.net.length)) = some (5, true, true, 0) ∧
     (after (exec (.nmuCompletion 0 5) (unitAt (some global) []))).map (fun u =>
       (((u.unit 0).stream 5).next, ((u.unit 0).stream 5).active.map (·.sent), u.net.map (·.addr))) = some (5, some true, [0x0100000000400200]) ∧
     (let r : Req := { aLoad .ordered with id := 3, grp := global.block.grp, src := .unit 0, task := 5, counted := true,
                                           body := .store [some 1], phase := .refused 6 0 }
      (after (exec (.negativeReply 3) { unitAt (some { global with sent := true }) [] with net := [r] })).map (fun u =>
        (((u.unit 0).stream 5).halted, ((u.unit 0).stream 5).active.isNone, u.net.length)) = some (true, true, 0) ∧
      (after (exec (.storeAck 3) { unitAt (some { global with sent := true }) [] with net := [{ r with phase := .performed [] 7 }] })).map (fun u =>
        (((u.unit 0).stream 5).halted, ((u.unit 0).stream 5).active.isNone, u.net.length)) = some (false, true, 0))) := by
  and_intros <;> decide +kernel

theorem witness_UnitLimits_held :
    (let a : Active := { active false fillBytes with start := some 0 }
     let s : State := { unitAt (some a) [] with now := 64000 }
     0 + 64000 ≤ s.now ∧ a.paid = 0 ∧
     (after (exec (.nmuFill 0 5) s)).map (fun u => (u.peek 0x400108 1, ((u.unit 0).stream 5).active.map (·.idx))) = some ([0], some 0) ∧
     (after (exec (.holdTimeout 0 5) s)).map (fun u => (u.peek 0x400108 1, ((u.unit 0).stream 5).active.map (·.ended))) = some ([0], some (some (4, 0)))) := by
  and_intros <;> decide +kernel

theorem witness_OverlayImagesAreChecked :
    ends5 (.nmuOverlayLoad 0 5) ovlBytes = some (some none) ∧
    (let load (bytes : List Byte) : Option (Option (Option (Nat × Nat))) :=
       (after (exec (.nmuOverlayLoad 0 5) (unitAt (some (active true bytes)) []))).map fun u => ((u.unit 0).stream 5).active.map (·.ended)
     load (leBytes 8 9 ++ leBytes 8 0x0100000000401008 ++ leBytes 8 0) = some (some (some (5, 0))) ∧
     load (leBytes 8 9 ++ leBytes 8 0x0100000000800000 ++ leBytes 8 0) = some (some (some (2, 0)))) := by and_intros <;> decide +kernel
/-! ### Witnesses: the network and the homes -/

/-- A state whose clock reads 5 and whose injector 3 has stamped (t, q) and received g. -/
def stamper (t : BitVec 56) (q : BitVec 5) (g : BitVec 56) : State := { base with clk := 5, injectors := [(3, ⟨t, q, g⟩)] }

theorem witness_StampsFollowEachOther :
    (((stamper 2 7 1).stamp 3).1.time = 5 ∧ ((stamper 2 7 1).stamp 3).1.seq = 0) ∧
    (((stamper 9 7 8).stamp 3).1.time = 9 ∧ ((stamper 9 7 8).stamp 3).1.seq = 8) ∧
    (((stamper 9 31 8).stamp 3).1.time = 10 ∧ ((stamper 9 31 8).stamp 3).1.seq = 0) ∧
    (((stamper 9 31 9).stamp 3).1.time = 10 ∧ ((stamper 9 31 9).stamp 3).1.seq = 0) := by and_intros <;> decide +kernel

/-- A store in the first core's buffer. -/
def bufferedStore (cls : Cls) : Req := { aStore 0x0100000000400040 with cls, phase := .sent }
def buffering (cls : Cls) : State := { near with buffers := [(injOf (.thread ⟨0, 0, 0⟩ 0), [bufferedStore cls])] }

theorem witness_BufferedStoresLeaveInOrder : (∀ cls ∈ [Cls.bulk, .ordered], (buffering cls).buffered (.thread ⟨0, 0, 0⟩ 0) = [bufferedStore cls] ∧
    (bufferedStore cls).src = .hart near.focus.id ∧ (buffering cls).asyncBusy near.focus.id 0 [((buffering cls).reqKey (bufferedStore cls), 1)] = false ∧
    (after (exec (.storeBufferDrain ⟨0, 0, 0⟩) (buffering cls))).map (fun u => (u.net.map (·.addr), u.buffers.map (·.2))) =
      some ([0x0100000000400040], [[]])) := by decide +kernel

/-- A port 0 all of whose inputs have sent this time. -/
def port0 (time : BitVec 56) : PortRec := ⟨(List.range 34).map fun i => (i, ⟨time, 0, 0, 0⟩), [], [], 0⟩

/-- An ordered store to the first core's TCM on its way, and a bulk store. -/
def onItsWay : Req := { aStore 0x0001000000000040 with cls := .ordered, phase := .sent, stamp := ⟨50, 0, 0, 0⟩ }
def routing (time : BitVec 56) : State := { near with net := [onItsWay], ports := [(0, port0 time)] }

/-- A leaf of another module's memory, and a bulk store to it. -/
def abroad : State :=
  { near with tlb := [(.die 0 0, ⟨0, 0x40, 32, 0x000180000000020D⟩)], net := [{ aStore 0x0100000000400040 with phase := .sent }]
              mc := { near.mc with fports := 0xFF } }

theorem witness_RoutersForwardInStampOrder :
    ((routing 50).req? 0 = some onItsWay ∧ (routing 50).resolve onItsWay = .hit (tcmKey ⟨0, 0, 0⟩ 0x40) ∧ tcmKey ⟨0, 0, 0⟩ 0x40 < 2 ^ 50 ∧
     (routing 50).excludedIn onItsWay (tcmKey ⟨0, 0, 0⟩ 0x40) = false ∧ (homeOf (tcmKey ⟨0, 0, 0⟩ 0x40)).port = 0 ∧
     (routing 50).watermark 0 = some ⟨50, 0, 0, 0⟩ ∧ onItsWay.stamp.le ⟨50, 0, 0, 0⟩ = true ∧
     (after (exec (.routerForward 0) (routing 50))).map (fun u => u.net.map (·.phase)) = some [.atHome]) ∧
    ((routing 49).watermark 0 = some ⟨49, 0, 0, 0⟩ ∧ onItsWay.stamp.le ⟨49, 0, 0, 0⟩ = false ∧
     (after (exec (.routerForward 0) (routing 49))).map (fun u => u.net.map (·.phase)) = some [.sent]) ∧
    (abroad.resolve (aStore 0x0100000000400040) = .hit (2 ^ 50 + 3 * 2 ^ 47 + 0x40) ∧ homeOf (2 ^ 50 + 3 * 2 ^ 47 + 0x40) = .remote 3 ∧
     abroad.exitPort 3 = some 3 ∧ (after (exec (.routerForward 0) abroad)).map (fun u => u.net.map (·.via)) = some [some 3]) := by
  and_intros <;> decide +kernel

theorem witness_LanternsRaiseWatermarks : 7 ∈ near.presentInputs 0 ∧ 0 < 2 ^ 30 ∧
    (after (exec (.lantern 0 7) near)).map (fun u => (u.portRec 0).lanterns.map (·.1)) = some [7] ∧
    (let s : State := { near with ports := [(0, { port0 3 with lanterns := [(7, ⟨5, 0, 0, 0⟩)] })] }
     (lookup? 7 (s.portRec 0).lanterns = some ⟨5, 0, 0, 0⟩ ∧ s.watermark 0 = some ⟨3, 0, 0, 0⟩) ∧
     (after (exec (.lanternReceive 0 7) s)).map (fun u => (lookup? 7 (u.portRec 0).latest, (u.portRec 0).lanterns.length)) =
       some (some ⟨5, 0, 0, 0⟩, 0)) := by
  refine ⟨?_, ?_, ?_, ?_, ?_⟩ <;> decide +kernel

theorem witness_StalledWatermarksAreReported :
    (let s : State := { routing 0 with now := 2 ^ 20 }
     onItsWay ∈ s.net ∧ s.reqKey? onItsWay = some (tcmKey ⟨0, 0, 0⟩ 0x40) ∧ 2 ^ s.mc.wmstall.toNat ≤ s.now - (s.portRec 0).since ∧
     s.mc.mring.en = false ∧ (after (exec (.watermark 0) s)).map (fun u => (u.portRec 0).since) = some (2 ^ 20)) := by
  refine ⟨?_, ?_, ?_, ?_, ?_⟩ <;> decide +kernel

/-- A channel whose slot 0 has 100 bytes left, and an access of 8 that waits for it. -/
def served8 : State :=
  { mapped near 0xD with net := [{ aLoad .bulk with addr := 0x0100000000400040, phase := .atHome }]
                         units := [(0, { ChUnit.fresh with credit := (Vector.replicate 16 0).set 0 100 })] }

theorem witness_ChannelsServeWithinShares : (served8.req? 0).isSome = true ∧
    served8.channelOf { aLoad .bulk with addr := 0x0100000000400040, phase := .atHome } = some 0 ∧
    max 64 8 ≤ (served8.unit 0).credit.toArray.getD 0 0 ∧
    (after (exec (.hbmChannelService 0) served8)).map (fun u => ((u.unit 0).credit.toArray.getD 0 0, u.net.map (·.served))) = some (36, [true]) := by
  and_intros <;> decide +kernel

/-- A request at its home in mapped memory. -/
def atHome (cls : Cls) (body : Body) : Req := { aLoad cls with addr := 0x0100000000400040, body, phase := .atHome, served := true }
def homed (cls : Cls) (body : Body) : State := { (mapped near 0xD).pokeBytes 0x400040 [1, 2, 3] with net := [atHome cls body] }

theorem witness_StoresArePerformed : (∀ cls ∈ [Cls.bulk, .ordered], (homed cls (.store [none, some 9])).req? 0 = some (atHome cls (.store [none, some 9])) ∧
      (atHome cls (.store [none, some 9])).arrived = true ∧
      (homed cls (.store [none, some 9])).gate (atHome cls (.store [none, some 9])) = .go 0x400040) ∧
    onPage 0x400040 = false ∧ (homed .bulk (.store [none, some 9])).swappedAt 1 0x400040 2 = none ∧ Memory.wf (homed .bulk (.store [])).mem = true ∧
    (after (exec (.bulkPerform 0) (homed .bulk (.store [none, some 9])))).map (fun u => (u.peek 0x400040 3, u.net.map (·.phase))) =
      some ([1, 9, 3], [.performed [] 0]) ∧
    (after (exec (.orderedPerform 0) (homed .ordered (.store [none, some 9])))).map (fun u => u.peek 0x400040 3) = some [1, 9, 3] := by
  and_intros <;> decide +kernel

theorem witness_LoadsArePerformed : (∀ cls ∈ [Cls.bulk, .ordered], (homed cls (.load 4 (.x 6 true))).gate (atHome cls (.load 4 (.x 6 true))) = .go 0x400040) ∧
    (homed .bulk (.load 4 (.x 6 true))).ecc = [] ∧ placedLaunch.info.det = false ∧
    (after (exec (.bulkPerform 0) (homed .bulk (.load 4 (.x 6 true))))).map (fun u => u.net.map (·.phase)) = some [.performed [1, 2, 3, 0] 0] ∧
    (after (exec (.orderedPerform 0) (homed .ordered (.load 4 (.x 6 true))))).map (fun u => u.net.map (·.phase)) = some [.performed [1, 2, 3, 0] 0] := by
  and_intros <;> decide +kernel

/-- A reply with data, of the placed thread, on counter 1, which stands at 3. -/
def reply (body : Body) (data : List Byte) : Req := { atHome .bulk body with phase := .performed data 77, counted := body.writes }
def replied (body : Body) (data : List Byte) : State := { counted with net := [reply body data] }

theorem witness_RepliesComplete :
    (∀ b ∈ [Body.load 4 (.x 6 true), .store [some 1], .amo 0 8 0 0 6, .node .desc 0 0 [] 4 5],
      let r := reply b [1, 0, 0, 0x80]
      let s := replied b [1, 0, 0, 0x80]
      s.req? 0 = some r ∧ r.phase = .performed [1, 0, 0, 0x80] 77 ∧ r.cls ≠ .held ∧ r.src = .hart near.focus.id ∧ s.groupAlive r = false ∧
      s.groupCounts r = false ∧ s.focus.listens = true ∧ s.focus.room (r.body.words [1, 0, 0, 0x80]) = true) ∧
    (after (exec (.loadReply 0) (replied (.load 4 (.x 6 true)) [1, 0, 0, 0x80]))).map (fun u => (u.focus.x[6], u.focus.counter 1, u.focus.latch, u.net.length)) =
      some (0xFFFFFFFF80000001, 2, true, 0) ∧
    (after (exec (.loadReply 0) (replied (.load 2 (.f 3 1)) [0x80, 0x3F]))).map (fun u => u.focus.f[3]) = some 0x3F800000 ∧
    (after (exec (.loadReply 0) (replied (.loadAt [0, 1] (.v 3 [0, 8])) [7, 9]))).map (fun u => u.focus.v[3]) = some 0x90000000000000007 ∧
    (after (exec (.storeAck 0) ((replied (.store [some 1]) []).mapFocus fun t => { t with unack := 1 }))).map (fun u => u.focus.unack) = some 0 ∧
    (after (exec (.storeAck 0) (replied (.amo 0 8 0 0 6) (leBytes 8 5)))).map (fun u => u.focus.x[6]) = some 5 ∧
    (after (exec (.nodeReply 0) (replied (.node .desc 0 0 [] 4 5) (leBytes 8 5 ++ leBytes 8 6)))).map (fun u => (u.focus.x[4], u.focus.x[5])) =
      some (5, 6) := by and_intros <;> decide +kernel

/-- A reply of 3 that waits for the east output queue, which holds n words. -/
def pushes (n : Nat) : State :=
  { counted.mapFocus fun t => { t with outputs := t.outputs.set 1 (List.replicate n 9) } with
    net := [{ atHome .bulk (.load 1 (.x 29 false)) with phase := .pushing [3] }] }

theorem witness_RepliesPushPorts : portOf near.focus.id 29 = some 1 ∧ (pushes 1).focus.listens = true ∧
    (after (exec (.replyPortPush 0) (pushes 1))).map (fun u => (u.focus.outputs[1], u.net.length)) = some ([9, 3], 0) ∧
    (after (exec (.replyPortPush 0) (pushes 2))).map (fun u => (u.focus.outputs[1], u.net.length)) = some ([9, 9], 1) := by
  and_intros <;> decide +kernel

/-- A refused load of the placed thread. -/
def refusal : Req := { atHome .bulk (.load 8 (.x 6 false)) with phase := .refused 0x07 0x0100000000400040, pc := 0x0100000000000008, iword := 3 }

theorem witness_NegativeRepliesFault :
    (let s : State := { contained near with net := [refusal] }
     s.req? 0 = some refusal ∧ s.focus.listens = true ∧ s.focus.faultable = true ∧ s.focus.stage = .active ∧
     ((after (exec (.negativeReply 0) s)).bind fun u => u.focus.fault.map fun f => (f.code, f.faddr, f.fpc)) =
       some (0x07, 0x0100000000400040, 0x0100000000000008)) ∧
    (let s : State := { near with net := [refusal], focus := { near.focus with state := .free } }
     s.focus.listens = false ∧ (after (exec (.negativeReply 0) s)).map (fun u => u.net.length) = some 0) := by
  refine ⟨⟨?_, ?_, ?_, ?_, ?_⟩, ?_, ?_⟩ <;> decide +kernel

/-- A load that misses its Waystation's cache. -/
def misses (a : Word) : State := { { mapped near 0xD with tlb := [] } with net := [{ aLoad .bulk with addr := a }] }

theorem witness_TableWalks : (misses 0x0100000000400040).resolve { aLoad .bulk with addr := 0x0100000000400040 } = .miss ∧
    (misses 0x0100000000400040).walk 0 0x400040 = some (0x40000D, 3) ∧
    (after (exec (.tableWalk 0) (misses 0x0100000000400040))).map (·.tlb) = some [(.die 0 0, ⟨0, 0x40, 32, 0x40000D⟩)] ∧
    (misses 0x0100000000600040).walk 0 0x600040 = none ∧
    (after (exec (.tableWalk 0) (misses 0x0100000000600040))).map (fun u => u.net.map (·.phase)) =
      some [.refused 0x06 0x0100000000600040] ∧
    (asked leaf .ninit 0x0100000000600000 0).resolve (command .ninit 0x0100000000600000 0) = .miss ∧
    (after (exec (.tableWalk 0) (asked leaf .ninit 0x0100000000600000 0))).map (fun u => u.net.map (·.phase)) =
      some [.refused 0x06 0x0100000000600000] := by and_intros <;> decide +kernel

/-- A held store of a DET launch. -/
def heldStore (phase : Phase) : Req := { aStore 0x0001000000000040 with cls := .held, dc := some 1, phase }
def holding (phase : Phase) : State := { (det counted).mapFocus fun t => { t with unack := 1 } with net := [heldStore phase] }

theorem witness_HeldAccessesAreAccepted : (holding .sent).req? 0 = some (heldStore .sent) ∧
    (holding .sent).resolve (heldStore .sent) = .hit (tcmKey ⟨0, 0, 0⟩ 0x40) ∧ (holding .sent).excludedIn (heldStore .sent) (tcmKey ⟨0, 0, 0⟩ 0x40) = false ∧
    (holding .sent).holdQueue (homeOf (tcmKey ⟨0, 0, 0⟩ 0x40)) (heldStore .sent) < 4096 ∧ (holding .sent).groupCounts (heldStore .sent) = false ∧
    (holding .sent).focus.counter 1 ≠ 0 ∧
    (after (exec (.holdAccept 0) (holding .sent))).map (fun u => (u.net.map (·.phase), u.focus.counter 1, u.focus.unack, u.focus.latch)) =
      some ([.accepted false], 2, 0, true) ∧
    (after (exec (.holdAccept 0) { holding .sent with clk := 9 })).map (fun u => (u.injector (injOf near.focus.id)).g) = some 9 := by and_intros <;> decide +kernel

/-- The same accepted, in a superstep that closes. -/
def applying : State :=
  { closing with net := [{ heldStore (.accepted false) with dc := none, dcn := some 1, counted := false }] }

theorem witness_HeldAccessesAreApplied : (applying.launches.map fun l => (l.closing, (leastHeld (applying.heldDue l)).map (·.id))) = [(true, some 0)] ∧
    (applying.net.map fun r => (applying.reqKey? r, applying.heldBack r (tcmKey ⟨0, 0, 0⟩ 0x40), applying.groupAlive r,
      applying.restoringAt r.lid (tcmKey ⟨0, 0, 0⟩ 0x40) 1)) = [(some (tcmKey ⟨0, 0, 0⟩ 0x40), false, false, false)] ∧ onPage (tcmKey ⟨0, 0, 0⟩ 0x40) = false ∧
    applying.swappedAt 1 (tcmKey ⟨0, 0, 0⟩ 0x40) 1 = none ∧ applying.focus.listens = true ∧
    (after (exec (.holdApply 1) applying)).map (fun u => (u.peek (tcmKey ⟨0, 0, 0⟩ 0x40) 1, u.net.length)) = some ([1], 0) := by
  and_intros <;> decide +kernel

/-- A member of a fabric group whose packet is acknowledged. -/
def grouping : State :=
  { near.mapFocus fun t => t.setArrival 4 (.arrived 0) with
    launches := [{ placedLaunch with info := { placedRec with fbid := 7, fbn := 2 }, fbSent := true, fbAcked := true }] }

def ported : State := { near with mc := { near.mc with fports := 1 } }

theorem witness_FabricGroups : ported.fbRounds = [] ∧ ported.mc.fports ≠ 0 ∧
    (after (exec (.fbArrival 9 7 2 0 1) ported)).map (·.fbRounds) = some [⟨7, 0, 2, 1, [9]⟩] ∧
    (grouping.launches.map fun l => (l.info.det, l.fbSent, l.fbAcked)) = [(false, true, true)] ∧
    (after (exec (.fbAck 1) grouping)).map (fun u => (u.focus.arrival 4, u.launches.map (·.fbCount))) = some (.passed, [1]) ∧
    (after (exec (.fbAck 1) { grouping with clk := 9 })).map (fun u => u.launches.map fun l => (u.injector (injDispatch l.arrivalDie)).g) = some [9] ∧
    ([{ placedRec with fbid := 7, fbn := 2, fbhome := 2 ^ 17 }].map fun r => (r.det, decide (r.fbhome ≠ Config.deviceId.toNat))) = [(false, true)] := by
  and_intros <;> first | decide +kernel | simp [placedRec, Nat.ne_of_gt Config.deviceId.isLt]

theorem witness_CopiesHoldBufferedStoresBack :
    (let s : State := { mapped near 0xD with copies := [{ aCopy with dst := 0x0100000000400000 }] }
     let r : Req := { bufferedStore .bulk with grp := 8 }
     let s : State := { s with buffers := [(injOf (.thread ⟨0, 0, 0⟩ 0), [r])] }
     s.asyncBusy near.focus.id r.grp [(s.reqKey r, r.body.len)] = true ∧
     (after (exec (.storeBufferDrain ⟨0, 0, 0⟩) s)).map (fun u => (u.net.length, u.buffers.map (·.2.length))) = some (0, [1])) := by
  and_intros <;> decide +kernel

/-- The ordered store on its way while the die's clock reads 100, with a far atomic of window 2 and its frame. -/
def windows : State :=
  let q : Req := { aLoad .bulk with addr := 0x0100000000400040, body := .amo 0 8 5 0 0 }
  { abroad with tlb := [(.die 0 0, ⟨0, 0x40, 32, 0x000180000000028D⟩)], net := [q], mc := { abroad.mc with wins := abroad.mc.wins.set 2 ⟨4, 0, true, 3, 0⟩ } }

theorem witness_PacketsRaiseTheirInput :
    (let s : State := { routing 3 with clk := 100 }
     onItsWay.stamp.le (s.inputBound onItsWay.src.input) = true ∧ onItsWay.src.input = 0 ∧
     lookup? 0 ((s.arriveAt 0 onItsWay.stamp 0).portRec 0).latest = some ⟨50, 0, 0, 0⟩ ∧
     lookup? 1 ((s.arriveAt 0 onItsWay.stamp 0).portRec 0).latest = some ⟨3, 0, 0, 0⟩) ∧
    (onItsWay.src.input < 34 ∧ onItsWay.stamp.le ((routing 3).inputBound onItsWay.src.input) = false) ∧
    (let s : State := { abroad with mc := { abroad.mc with fports := 0 } }
     s.exitPort 3 = none ∧ (after (exec (.routerForward 0) s)).map (fun u => u.net.map (·.phase)) = some [.sent]) ∧
    (remoteParts (2 ^ 50 + 3 * 2 ^ 47 + 0x40) = (3, 0x40) ∧ (windows.win 2).en = true ∧ (windows.win 2).frame = 0x40 / 65536 * 65536 ∧
     (after (exec (.routerForward 0) windows)).map (fun u => u.net.map fun r => (r.body, r.via)) = some [(.reduction 2 0 4 1 5, some 3)]) := by
  and_intros <;> decide +kernel

theorem witness_LanternsOfRouters :
    ((routing 50).watermark 0 = some ⟨50, 0, 0, 0⟩ ∧
     (after (exec (.lantern (2 ^ 30) 0) (routing 50))).map (fun u => (u.portRec (2 ^ 30)).lanterns) = some [(0, ⟨50, 0, 0, 0⟩)]) ∧
    ((stamper 9 31 8).stampBound 3).time = 9 ∧ ((stamper 9 30 8).stampBound 3).time = 8 ∧
    (let s : State := { near with ports := [(2 ^ 30, { port0 3 with latest := [], lanterns := [(0, ⟨5, 0, 0, 0⟩)] })] }
     lookup? 0 (s.portRec (2 ^ 30 + 0)).lanterns = some ⟨5, 0, 0, 0⟩ ∧
     (after (exec (.lanternReceive (2 ^ 30) 0) s)).map (fun u => (lookup? 0 (u.portRec (2 ^ 30)).latest,
       (homeOfPort 0).listeners.map fun i => (u.injector i).g)) = some (some ⟨5, 0, 0, 0⟩, (homeOfPort 0).listeners.map fun _ => 5)) ∧
    (let p := (Home.page 3).port
     let s : State := { near with ports := [(2 ^ 30 + p, { port0 3 with latest := [], lanterns := [(0, ⟨5, 0, 0, 0⟩)] })] }
     homeOfPort p = .page 3 ∧ injOf (.porter 3 2) ∈ (homeOfPort p).listeners ∧ injOf (.steward 3 1) ∈ (homeOfPort p).listeners ∧
     (after (exec (.lanternReceive (2 ^ 30 + p) 0) s)).map (fun u => (u.injector (injOf (.porter 3 2))).g) = some 5) ∧
    (let s : State := { routing 0 with now := 2 ^ 20, net := [{ onItsWay with phase := .atHome }] }
     (after (exec (.watermark (2 ^ 30)) s)).map (fun u => (u.portRec (2 ^ 30)).since) = some (2 ^ 20)) := by and_intros <;> decide +kernel

theorem witness_RoundsAndStarvedSlots :
    (({ ChUnit.fresh with credit := (Vector.replicate 16 0).set 3 40, shares := ChUnit.fresh.shares.set 3 (true, 2) } : ChUnit).newRound [3]).credit[3] = 40 + 128 ∧
    (∀ i : Fin 16, i.val ≠ 3 → ({ ChUnit.fresh with credit := (Vector.replicate 16 0).set 3 40 } : ChUnit).left i.val = 0) ∧
    (let s : State := { served8 with units := [(0, { ChUnit.fresh with
        shares := Vector.replicate 16 (true, 0), inRound := Vector.replicate 16 (true, 0) })] }
     (s.unit 0).left 0 = 0 ∧ (s.unit 0).capped 0 = true ∧
     (after (exec (.hbmChannelService 0) s)).map (fun u => u.net.map (·.served)) = some [false]) := by and_intros <;> decide +kernel

theorem witness_WalksAreCharged :
    ((misses 0x0100000000400040).net.map (·.id)).Nodup ∧
    (0, 0x40) ∈ (misses 0x0100000000400040).walksAt (aLoad .bulk).src.station ∧
    (State.payAll 0 ((misses 0x0100000000400040).walkCharges 0 0x400040) (misses 0x0100000000400040)).isSome = true ∧
    (misses 0x0100000000400040).walkShut (aLoad .bulk).src.station 0 0x400040 = none ∧
    (let s := { misses 0x0100000000400040 with ports :=
        [((homeOf (((misses 0x0100000000400040).walkPath 0 0x400040).headD 0)).port, ⟨[], [], [((aLoad .bulk).src.input, [])], 0⟩)] }
     (s.walkShut (aLoad .bulk).src.station 0 0x400040).isSome = true ∧
     (after (exec (.tableWalk 0) s)).map (fun u => (u.net.length, u.tlb.length, u.mc.mring.held.length)) = some (0, 0, 1)) ∧
    (let s : State := { misses 0x0100000000600040 with net := [{ aLoad .bulk with addr := 0x0100000000600040 },
        { aLoad .bulk with id := 1, addr := 0x0100000000600080 }] }
     (after (exec (.tableWalk 0) s)).map (fun u => u.net.map (·.phase)) =
       some [.refused 0x06 0x0100000000600040, .refused 0x06 0x0100000000600080]) := by and_intros <;> decide +kernel

theorem witness_PartnersClose :
    (let s : State := { applying with fbCloses := [(7, 0)], launches := applying.launches.map fun l =>
        { l with closing := false, info := { l.info with fbid := 7 } } }
     s.launches.map (fun l => (l.closing, l.info.fbid, decide ((l.info.fbid, l.sstep) ∈ s.fbCloses))) = [(false, 7, true)] ∧
     (after (exec (.holdApply 1) s)).map (fun u => (u.peek (tcmKey ⟨0, 0, 0⟩ 0x40) 1, u.net.length)) = some ([1], 0)) ∧
    (let s : State := { ported with fbRounds := [⟨7, 0, 3, 1, [9]⟩] }
     (after (exec (.fbArrival 8 7 3 0 1) s)).map (·.fbRounds) = some [⟨7, 0, 3, 2, [9, 8]⟩]) := by and_intros <;> decide +kernel

/-- A state whose launch's superstep closes, with one access held at its home. -/
def heldOf (a : Word) (body : Body) : Req := { heldStore (.accepted false) with dc := none, dcn := some 1, counted := false, addr := a, body }
def appl (s : State) (a : Word) (body : Body) : State :=
  { det s with launches := (det s).launches.map fun l => { l with closing := true }, net := [heldOf a body] }

/-- The one held access's key, its charges paid, and the next state of its application. -/
abbrev applies (s : State) (key : Nat) : Prop :=
  s.net.map (fun r => (s.reqKey? r, s.heldBack r key, (State.payAll (s.slotOf r) (s.heldCharges r key) s).isSome)) = [(some key, false, true)]

theorem witness_HeldAccessesAreApplied_results :
    (let s (d : BitVec 5) := appl cell 0x0001000000000040 (.amo 0 8 1 0 d)
     applies (s 5) (tcmKey ⟨0, 0, 0⟩ 0x40) ∧
     (after (exec (.holdApply 1) (s 5))).map (fun u => (u.peek (tcmKey ⟨0, 0, 0⟩ 0x40) 8, u.net.map (·.phase))) =
       some (leBytes 8 0x8000000080000000, [.performed (leBytes 8 0x800000007FFFFFFF) 0]) ∧
     (after (exec (.holdApply 1) (s 0))).map (·.net) = some []) ∧
    (let s := appl (pool leaf) 0x0100000000400000 (.node .desc 0x100000001 0 [] 4 5)
     applies s 0x400000 ∧
     (after (exec (.holdApply 1) s)).map (fun u => u.net.map (·.phase)) = some [.performed (leBytes 8 0x100000001 ++ leBytes 8 0x1FF01) 0]) ∧
    (let s := appl (unitAt none []) 0x0100000000400000 (.block false 5 4 fillBytes)
     applies s 0x400000 ∧ homeOf 0x400000 = .channel 0 ∧ (s.unit 0).nstate = .running ∧
     (after (exec (.holdApply 1) s)).map (fun u => (u.net.length, ((u.unit 0).stream 5).active.map (·.block.seq))) = some (0, some 4)) ∧
    (let s := appl (unitAt none []) 0x0100000000400000 (.nmrst 5 9)
     applies s 0x400000 ∧ (after (exec (.holdApply 1) s)).map (fun u => (u.net.length, ((u.unit 0).stream 5).next)) = some (0, 9)) := by
  and_intros <;> decide +kernel

theorem witness_HeldAccessesAreApplied_held :
    (let s := appl (unpaid 0) 0x0100000000400040 (.store [some 1])
     s.net.map (fun r => (State.payAll (s.slotOf r) (s.heldCharges r 0x400040) s).isSome) = [false] ∧
     (after (exec (.holdApply 1) s)).map (fun u => (u.peek 0x400040 1, u.net.length)) = some ([0], 1)) ∧
    (let s := appl (unitAt (some { active false fillBytes with held := [0x4000], start := some 0 }) []) 0x0100000000400040 (.store [some 1])
     s.net.map (fun r => (r.body.writes, s.heldBack r 0x400040)) = [(true, true)] ∧
     (after (exec (.holdApply 1) s)).map (fun u => (u.peek 0x400040 1, u.net.length)) = some ([0], 1)) := by and_intros <;> decide +kernel

-- Whether a remote home accepts a held access is a free value: what the clause asks beside it.
theorem witness_HeldAccessesAreAccepted_remote :
    (let s : State := { abroad with net := [{ heldStore .sent with addr := 0x0100000000400040 }] }
     (s.net.map fun r => s.resolve r) = [.hit (2 ^ 50 + 3 * 2 ^ 47 + 0x40)] ∧ s.exitPort 3 = some 3 ∧
     (s.net.map fun r => s.excludedIn r (2 ^ 50 + 3 * 2 ^ 47 + 0x40)) = [false]) ∧
    (let s : State := { abroad with net := [{ heldStore .sent with addr := 0x0100000000400040 }], mc := { abroad.mc with fports := 0 } }
     s.exitPort 3 = none ∧ (after (exec (.holdAccept 0) s)).map (fun u => u.net.map (·.phase)) = some [.sent]) := by
  and_intros <;> decide +kernel

theorem witness_NegativeRepliesFault_cases :
    ((after (exec (.negativeReply 0) { contained near with net := [{ refusal with failed := true }] })).map fun u => (u.net.length, u.focus.fault.isNone)) =
      some (0, true) ∧
    (let s : State := { contained twoSets with net := [{ refusal with src := .hart (.thread ⟨0, 0, 0⟩ 2) }] }
     (s.hart (.thread ⟨0, 0, 0⟩ 2)).listens = true ∧ (s.parked.map (·.id)).Nodup ∧
     (after (exec (.negativeReply 0) s)).map (fun u => (u.focus.fault.isNone, (u.hart (.thread ⟨0, 0, 0⟩ 2)).fault.map (·.code))) = some (true, some 0x07)) ∧
    (let s : State := { det near with net := [refusal], focus := { near.focus with stage := .aborted } }
     let s : State := { s with launches := s.launches.map fun l => { l with stage := .aborting } }
     s.focus.listens = false ∧
     (after (exec (.negativeReply 0) s)).map (fun u => (u.net.length, u.launches.map fun l => l.fcode)) = some (0, [0x07])) := by
  and_intros <;> decide +kernel
/-! ### Witnesses: vector accesses -/

/-- p1 enables elements 0 and 2; e1 describes 8-byte elements 16 bytes apart; v2 holds numbers. -/
def strider (a : Word) : State :=
  (withX near 6 a).mapFocus fun t => { t with
    p := t.p.set 1 5, e := t.e.set 1 0xC000000000000010, v := t.v.set 2 0x1111111111111111222222222222222233333333333333334444444444444444 }

theorem witness_VectorLoads :
    (elementBytes (strider 0x40) 1 = 8 ∧ elementLanes (strider 0x40) 1 = 4 ∧ elementBytes (strider 0x40) 0 = 1) ∧
    LanesEnabled (strider 0x40) gp 4 ∧ LanesEnabled (strider 0x40) gp 32 ∧ PortsOk (strider 0x40) [6] ∧ Clear (strider 0x40) (.v 3) ∧
    (strider 0x40).focus.acquires = [] ∧
    (∀ j ∈ [0, 2], IsLocal (strider 0x40) (elementAt (strider 0x40) 1 0x20 j) (tcmKey ⟨0, 0, 0⟩ (0x20 + 16 * j)) ∧
      Quiet (strider 0x40) (tcmKey ⟨0, 0, 0⟩ (0x20 + 16 * j)) 8 ∧
      rangeOk near.focus.id (near.launchOf near.focus) (elementAt (strider 0x40) 1 0x20 j) 8 false = true) ∧
    (after (exec (.vld gp 3 6 127 1 1) (strider 0x38))).map (fun u => u.focus.pend.map fun q => (q.dest, q.value)) =
      some [(.inr (.inr 3), 0x818283848586878800000000000000000000000000000000)] ∧
    (after (exec (.vld gp 3 6 0 1 1) (strider 0x38))).map (fun u => u.focus.pend.map (·.value)) = some [0x8182838485868788] ∧
    (after (exec (.vld g0 3 6 127 0 1) (strider 0x40))).map (fun u => u.focus.pend.map (·.value)) = some [0x8182838485868788000000000000000000000000000000000000000000000000] ∧
    (∀ j ∈ [0, 2], localElement (strider 0x0100000000000120) (elementAt (strider 0) 1 0x0100000000000120 j) = false ∧
      NotForwarded (strider 0x0100000000000120) (elementAt (strider 0) 1 0x0100000000000120 j) 8) ∧
    MaySend (strider 0) (asWide (asLoad 1)) [(0x0100000000000120, .loadAt [0] (.v 3 [0])), (0x0100000000000140, .loadAt [0] (.v 3 [16]))] ∧
    (after (exec (.vld gp 3 6 0 1 1) (strider 0x0100000000000120))).map (fun u => u.net.map fun r => (r.addr, r.body)) =
      some [(0x0100000000000120, .loadAt (List.range 8) (.v 3 (List.range 8))),
        (0x0100000000000140, .loadAt (List.range 8) (.v 3 ((List.range 8).map (16 + ·))))] := by and_intros <;> decide +kernel

theorem witness_VectorStores :
    (∀ j ∈ [0, 2], localElement (strider 0x40) (elementAt (strider 0x40) 1 0x40 j) = true ∧
      rangeOk near.focus.id (near.launchOf near.focus) (elementAt (strider 0x40) 1 0x40 j) 8 true = true) ∧
    (after (exec (.vst gp 2 6 0 1 1) (strider 0x40))).map (fun u => (u.peekN (tcmKey ⟨0, 0, 0⟩ 0x40) 8, u.peekN (tcmKey ⟨0, 0, 0⟩ 0x50) 8,
      u.peekN (tcmKey ⟨0, 0, 0⟩ 0x60) 8, u.buffers.length)) = some (0x4444444444444444, 0, 0x2222222222222222, 0) ∧
    MaySend (strider 0) (asWide (asStore 1 false)) [(0x0100000000000100, .store [some 0]), (0x0100000000000140, .store [some 1])] ∧
    (after (exec (.vst gp 2 6 0 1 1) (strider 0x0100000000000120))).map (fun u => u.buffers.flatMap fun b => b.2.map fun r => (r.addr, r.body)) =
      some [(0x0100000000000120, .store (List.replicate 8 (some 0x44))), (0x0100000000000140, .store (List.replicate 8 (some 0x22)))] ∧
    (after (exec (.vst gp 2 6 0 0 1) (strider 0x0100000000000120))).map (fun u => u.buffers.flatMap fun b => b.2.map (·.body)) =
      some [.store [some 0x44, none, some 0x44]] := by and_intros <;> decide +kernel


/-- The same with 8-byte elements 512 bytes apart, which one bank holds, in the scratchpad, at n elements done. -/
def banked (part : Option (Nat × Word × List Byte)) : State :=
  (strider 0x100000).mapFocus fun t => { t with e := t.e.set 1 0xC000000000000200, part }

theorem witness_VectorsTakeTurns :
    (∀ j ∈ [0, 2], IsLocal (banked none) (elementAt (banked none) 1 0x100000 j) (padKey 0 (512 * j)) ∧ Quiet (banked none) (padKey 0 (512 * j)) 8 ∧
      rangeOk near.focus.id (near.launchOf near.focus) (elementAt (banked none) 1 0x100000 j) 8 true = true) ∧
    (1 ≤ 2 ∧ [padKey 0 0, padKey 0 1024][1]? = some (padKey 0 1024) ∧ 2 ^ 48 ≤ padKey 0 0 ∧ padKey 0 1024 < 2 ^ 49 ∧
     padKey 0 0 / 8 ≠ padKey 0 1024 / 8 ∧ padKey 0 0 / 8 % 64 = padKey 0 1024 / 8 % 64) ∧
    (after (exec (.vst gp 2 6 0 1 1) (banked none))).map (fun u => (u.peekN (padKey 0 0) 8, u.peekN (padKey 0 1024) 8, u.focus.part.map (·.1), u.focus.pc)) =
      some (0x4444444444444444, 0, some 1, near.focus.pc) ∧
    (after (exec (.vst gp 2 6 0 1 1) (banked (some (1, 0x100000, List.replicate 32 7))))).map (fun u =>
      (u.peekN (padKey 0 0) 8, u.peekN (padKey 0 1024) 8, u.focus.part.isNone, u.focus.pc)) = some (0, 0x0707070707070707, true, near.focus.pc + 4) ∧
    (after (exec (.vld gp 3 6 0 1 1) (banked none))).map (fun u => (u.focus.part, u.focus.pend.length)) = some (some (1, 0x100000, List.replicate 8 0), 0) ∧
    (after (exec (.vld gp 3 6 0 1 1) (banked (some (1, 0x100000, List.replicate 8 9))))).map (fun u => (u.focus.part, u.focus.pend.map (·.value))) =
      some (none, [0x0909090909090909]) := by and_intros <;> decide +kernel
/-! ### Witnesses: exceptions and system instructions -/

/-- A die steward at privilege p with its handler at 0x40, and a Porter and an overlay that run. -/
def steward (p : Bool) : State :=
  { base with focus := { Thread.fresh (.steward 0 1) with
      state := .running, pc := 0x0100000000000010, sup := ⟨false, 0x0100000000000100, 3, 5, 0x0100000000000040, 7, p⟩ } }
def porter : State := { base with focus := { Thread.fresh (.porter 0 3) with state := .running } }
def overlay : State := { base with focus := { Thread.fresh (.overlay 2) with state := .running, pc := 0x10000, lid := 1 } }

theorem witness_ExceptionsAreTaken : ((0x04 : BitVec 8) ≠ 0x0C ∧ (0x04 : BitVec 8) ≠ 0x0D) ∧
    (let u := (steward false).raiseAt 0x04 9 false 0
     (u.focus.sup, u.focus.pc) = (⟨false, 0x0100000000000010, 4, 9, 0x0100000000000040, 7, true⟩, 0x0100000000000040)) ∧
    (porter.raise 0x04 9).focus.stage = .trapped ∧ (overlay.raise 0x04 9).focus.state = .free ∧
    ((contained base).launchOf base.focus).isSome = true ∧ base.focus.troupe = none ∧ ((contained base).raise 0x04 9).focus.deaf = true ∧
    (((contained base).raise 0x04 9).focus.stage = .dying ∧ ((contained base).raise 0x04 9).launches.map (fun l => (l.ncont, l.fcode)) = [(1, 4)]) ∧
    ((base.raise 0x04 9).focus.stage = .aborted ∧ (base.raise 0x04 9).launches.map (fun l => (l.stage, l.fcode)) = [(.aborting, 4)]) ∧
    traps (exec (.reservedEncoding 7) (contained base)) 0x01 0 ∧ traps (exec (.fetchFault 6 true 1) (contained base)) 0x05 6 ∧
    (Enabled (contained regs) .core g0 ∧ PortsOk regs [7] ∧ traps (exec (.fault g0 7) (contained regs)) 0x0E 3) := by
  refine ⟨⟨?_, ?_⟩, ?_, ?_, ?_, ?_, ?_, ?_, ⟨?_, ?_⟩, ⟨?_, ?_⟩, ?_, ?_, ?_, ?_, ?_⟩ <;> decide +kernel

/-- The first die's rings with n notices in ring 0. -/
def ringing (n : BitVec 16) (held : List Notice) : State :=
  { near with dies := near.dies.set 0 ⟨0, 0, (Vector.replicate 4 Ring.fresh).set 0 ⟨0x300000, true, n, 0, held⟩⟩ }

theorem witness_CallsStopTheThread : bit (near.focus.guard g0) 0 = true ∧ near.focus.id = .thread ⟨0, 0, 0⟩ 0 ∧ near.focus.troupe = none ∧
    (((ringing 3 []).ring (ringFor near.focus.id)).full = false ∧
     (after (exec (.ecall g0) (ringing 3 []))).map (fun u => (u.focus.state, u.focus.ctx.scode, (u.ring (.die 0 0)).head, u.peek 0x300033 1)) =
       some (.stopped, 0x0C, 4, [0x0C])) ∧
    (((ringing 256 []).ring (ringFor near.focus.id)).full = true ∧
     (after (exec (.ebreak g0) (ringing 256 []))).map (fun u => (u.focus.state, u.focus.stage)) = some (.running, .stopping)) ∧
    (bit ((steward false).focus.guard g0) 0 = true ∧
     (after (exec (.ecall g0) (steward false))).map (fun u => (u.focus.sup.scause, u.focus.pc)) = some (0x0C, 0x0100000000000040)) := by
  and_intros <;> decide +kernel

/-- The placed thread in a WFE since time 0, with or without its latch, at a time. -/
def sleeper (latch : Bool) (now : Nat) : State := { near with focus := { near.focus with latch, wait := some (.event, 0) }, now }

theorem witness_HaltAndWfe : Enabled near .engine g0 ∧ Enabled near .core g0 ∧
    (after (exec (.halt g0) near)).map (·.focus.stage) = some .halting ∧ (after (exec .haltN near)).map (·.focus.stage) = some .halting ∧
    ((sleeper true 0).focus.latch = true ∧ (after (exec (.wfe g0) (sleeper true 0))).map (fun u => (u.focus.latch, u.focus.pc)) =
      some (false, near.focus.pc + 4)) ∧
    (near.focus.latch = false ∧ (after (exec (.wfe g0) near)).map (·.focus.wait) = some (near.stall .event).focus.wait) ∧
    (after (exec (.wfeWake near.focus.id) (sleeper true 0))).map (fun u => (u.focus.latch, u.focus.pc)) = some (false, near.focus.pc + 4) ∧
    (2 ^ near.mc.pwlim.toNat < 2 ^ 20 + 1 - 0 ∧ (after (exec (.wfeTimeout near.focus.id) (sleeper false (2 ^ 20 + 1)))).map (·.focus.pc) =
      some (near.focus.pc + 4)) ∧
    (2 ^ 20 - 0 ≤ 2 ^ near.mc.pwlim.toNat ∧ (after (exec (.wfeTimeout near.focus.id) (sleeper false (2 ^ 20)))).map (·.focus.pc) =
      some near.focus.pc) := by and_intros <;> decide +kernel

theorem witness_TretReturns : Avail.core.allows (steward true).focus.id = true ∧ (steward true).focus.isSteward = true ∧
    (after (exec (.tret g0) (steward true))).map (fun u => (u.focus.pc, u.focus.sup.priv, u.focus.sup.spp)) =
      some (0x0100000000000100, false, false) ∧
    (let s := (steward true).mapFocus fun t => { t with sup := { t.sup with sepc := 0x0100000000000101 } }
     s.focus.sup.sepc.toNat % 2 = 1 ∧ (after (exec (.tret g0) s)).map (fun u => (u.focus.sup.scause, u.focus.sup.stval)) =
       some (3, 0x0100000000000101)) ∧
    ((steward false).focus.sup.priv = false ∧ (after (exec (.tret g1) (steward false))).map (fun u => u.focus.sup.scause) = some 2) ∧
    (near.focus.isSteward = false ∧ traps (exec (.tret g0) (contained near)) 0x02 0) := by and_intros <;> decide +kernel

theorem witness_CsrAccesses : Enabled regs .core g0 ∧ PortsOk regs [6, 0, 5] ∧ CsrOk regs 0x001 true ∧ CsrOk regs 0x022 false ∧ regs.net = [] ∧
    (after (exec (.csrrw g0 5 6 1) regs)).map (fun u => (u.focus.x[5], u.focus.fcsr)) = some (0, 0x77) ∧
    runs (.csrrs g0 5 0 0x030) regs (give regs (start regs 4) 5 0x0100000000000000) ∧
    (CsrOk (steward true) 0x404 true ∧ (after (exec (.csrrc g0 5 5 0x404) ((steward true).mapFocus fun t => { t with x := t.x.set 5 0x41 }))).map
      (fun u => (u.focus.x[5], u.focus.sup.stvec)) = some (0x0100000000000040, 0x0100000000000000)) ∧
    (¬ CsrOk regs 0x3FF false ∧ traps (exec (.csrrs g1 5 0 0x3FF) (contained regs)) 0x01 0) ∧
    (¬ CsrOk regs 0x010 true ∧ traps (exec (.csrrw g0 5 0 0x010) (contained regs)) 0x01 0) ∧
    (regs.focus.isSteward = false ∧ traps (exec (.csrrs g1 5 0 0x400) (contained regs)) 0x02 0) ∧
    ((steward true).focus.sup.priv = true ∧ (after (exec (.csrrs g0 5 0 0x406) (steward true))).map (fun u => u.focus.sup.scause) = some 1) := by
  and_intros <;> decide +kernel

theorem witness_OperandExtensionMoves : Enabled regs .core g0 ∧ PortsOk regs [6, 5] ∧
    (after (exec (.sete g0 7 6) regs)).map (·.focus.e[7]) = some (-9) ∧
    runs (.gete g0 5 1) loop (give loop (start loop 4) 5 0x0A0001) := by and_intros <;> decide +kernel

theorem witness_RandWritesItsWord : Enabled regs .core g0 ∧ PortsOk regs [6, 7, 5] ∧
    (∀ w ∈ [0, 3], runs (.rand g0 5 6 7 (BitVec.ofNat 2 w)) regs (binary regs 4 5 6 7 fun x y => randAt x y w)) := by
  and_intros <;> decide +kernel

/-- A dying task, whose ring has n notices. -/
def dying (n : BitVec 16) : State := ((contained (ringing n [])).raise 0x04 9)

theorem witness_FaultRecordsAreWritten : near.focus.id.core? = some ⟨0, 0, 0⟩ ∧ (dying 0).focus.stage = .dying ∧
    ((dying 0).launchOf (dying 0).focus).isSome = true ∧ placedLaunch.info.det = false ∧ (dying 0).focus.fault.isSome = true ∧
    (dying 0).quietAll near.focus.id = true ∧ (dying 0).focus.ctx.scode = 0 ∧
    (((dying 0).ring (ringFor near.focus.id)).full = false ∧ ((dying 0).ring (ringFor near.focus.id)).held = []) ∧
    (after (exec (.faultRecordWrite near.focus.id) (dying 0))).map (fun u => (u.focus.stage, u.peek (tcmKey ⟨0, 0, 0⟩ 0x5FF00) 1, u.peek 0x300003 1)) =
      some (.reaperDue, [4], [4]) ∧
    (((dying 256).ring (ringFor near.focus.id)).full = true ∧
     (after (exec (.faultRecordWrite near.focus.id) (dying 256))).map (·.focus.stage) = some .dying) := by and_intros <;> decide +kernel

/-- The same with its record written. -/
def reaping : State := (dying 0).mapFocus fun t => { t with stage := .reaperDue }

theorem witness_ReapersStart : reaping.focus.stage = .reaperDue ∧ reaping.focus.fault.isSome = true ∧ (reaping.launchOf reaping.focus).isSome = true ∧
    (after (exec (.reaperStart near.focus.id) reaping)).map (fun u => (u.focus.pc, u.focus.x[11], u.focus.x[12])) =
      some (0x0100000000000040, 0x5FF00, 4) := by and_intros <;> decide +kernel

/-- A notice that is held, and a thread that waits to stop. -/
def aNotice : Notice := ⟨1, 2, 3, 4⟩
def stopping : State := { ringing 3 [] with focus := { (dying 0).focus with stage := .stopping } }

theorem witness_NoticesAreAppended : RingId.real (.die 0 0) ∧ ((ringing 3 [aNotice]).ring (.die 0 0)).full = false ∧
    ((ringing 3 [aNotice]).ring (.die 0 0)).held = [aNotice] ∧
    (after (exec (.noticeAppend (.die 0 0)) (ringing 3 [aNotice]))).map (fun u => ((u.ring (.die 0 0)).head, u.peek 0x300030 4)) = some (4, [1, 0, 0, 2]) ∧
    ((stopping.harts.find? fun t => decide (t.stage = .stopping) && decide (ringFor t.id = .die 0 0)).map (·.id) = some near.focus.id ∧
     stopping.focus.fault.isSome = true ∧ near.focus.id ≠ (RingId.die 0 0).hart ∧
     (after (exec (.noticeAppend (.die 0 0)) stopping)).map (fun u => (u.focus.state, u.focus.ctx.scode)) = some (.stopped, 4)) ∧
    (((ringing 256 [aNotice]).ring (.die 0 0)).full = true ∧
     (after (exec (.noticeAppend (.die 0 0)) (ringing 256 [aNotice]))).map (fun u => (u.ring (.die 0 0)).head) = some 256) := by
  refine ⟨⟨?_, ?_⟩, ?_, ?_, ?_, ⟨?_, ?_, ?_, ?_⟩, ?_, ?_⟩ <;> decide +kernel

theorem witness_SupervisorAborts : (near.launch? 1).isSome = true ∧ placedLaunch.stage ≠ .aborting ∧ placedLaunch.fkey = none ∧
    (near.hart near.focus.id).lid = 1 ∧
    (after (exec (.supervisorAbort 1 0x0B) near)).map (fun u => (u.focus.stage, u.launches.map fun l => (l.stage, l.fcode))) =
      some (.aborted, [(.aborting, 0x0B)]) := by and_intros <;> decide +kernel


/-- A dying thread of a DET launch, whose next held access is one of superstep n. -/
def dyingIn (n : Nat) : State := (det (dying 0)).mapFocus fun t => { t with superstep := n }

theorem witness_FaultRecordsWaitForTheSuperstep : (dyingIn 0).launches.map (fun l => (l.info.det, l.sstep)) = [(true, 0)] ∧
    (dyingIn 0).quietAll near.focus.id = true ∧ (after (exec (.faultRecordWrite near.focus.id) (dyingIn 0))).map (·.focus.stage) = some .dying ∧
    (let s := { dyingIn 0 with launches := (dyingIn 0).launches.map fun l => { l with sstep := 1 } }
     s.quietAll near.focus.id = true ∧ (after (exec (.faultRecordWrite near.focus.id) s)).map (·.focus.stage) = some .reaperDue) := by
  and_intros <;> decide +kernel

/-- A thread that was asked to save, and the launch of another thread that is saved, when an exception comes. -/
def askedToSave : State := (contained near).mapFocus fun t => { t with state := .pending, ctx := { t.ctx with asked := true } }

theorem witness_ExceptionsOfAskedAndSavedThreads : (askedToSave.launchOf askedToSave.focus).isSome = true ∧
    ((askedToSave.raise 0x04 9).focus.state, (askedToSave.raise 0x04 9).focus.stage) = (.pending, .dying) ∧
    (let s : State := { twoSets with parked := twoSets.parked.map fun t => { t with state := .saved, lid := 1 } }
     ((s.raise 0x04 9).hart (.thread ⟨0, 0, 0⟩ 2)).stage = .aborted ∧ ((s.raise 0x04 9).hart (.thread ⟨0, 0, 0⟩ 2)).state = .saved) := by
  and_intros <;> decide +kernel

theorem witness_SupervisorAborts_again :
    (let s : State := { near with launches := near.launches.map fun l => { l with stage := .aborting } }
     (after (exec (.supervisorAbort 1 0x0B) s)).map (fun u => u.launches.map (·.fcode)) = some [0]) ∧
    (after (exec (.supervisorAbort 1 0x0F) near)).map (fun u => u.launches.map (·.stage)) = some [.running] ∧
    (after (exec (.supervisorAbort 1 0x0B) { near with evicted := [{ near.focus with id := .thread ⟨0, 0, 0⟩ 3, state := .saved }] })).map
      (fun u => u.evicted.map (·.stage)) = some [.aborted] := by and_intros <;> decide +kernel
/-! ### Witnesses: ports, turns and tasks -/

/-- Two neighbours of one launch; the first core's east output queue holds 8, the second's west arrival queue n words. -/
def peers (n : Nat) : State :=
  { near.mapFocus fun t => { t with outputs := t.outputs.set 1 [8] } with
    parked := [{ base.focus with id := .thread (coreAt 0 1) 0, arrivals := base.focus.arrivals.set 3 (List.replicate n 1) }]
    launches := [{ placedLaunch with sets := [(coreAt 0 0, [0]), (coreAt 0 1, [0])] }] }

theorem witness_PortWordsArrive : (1 : Fin 4).val = (1 : BitVec 2).toNat ∧ (3 : Fin 4).val = ((1 : BitVec 2).toNat + 2) % 4 ∧
    ((peers 3).launches.map fun l => l.peer (peers 3).focus 1) = [some (.thread (coreAt 0 1) 0)] ∧
    (peers 3).savedOn (.thread (coreAt 0 1) 0) 1 = none ∧
    (after (exec (.portWordArrival near.focus.id 1) (peers 3))).map (fun u => (u.focus.outputs[1], (u.hart (.thread (coreAt 0 1) 0)).arrivals[3],
      (u.hart (.thread (coreAt 0 1) 0)).latch)) = some ([], [1, 1, 1, 8], true) ∧
    (after (exec (.portWordArrival near.focus.id 1) (peers 4))).map (fun u => u.focus.outputs[1]) = some [8] ∧
    (let s : State := { peers 3 with parked := (peers 3).parked.map fun t => { t with state := .pending, stage := .restoring } }
     (s.hart (.thread (coreAt 0 1) 0)).stage = .restoring ∧
     (after (exec (.portWordArrival near.focus.id 1) s)).map (fun u => u.focus.outputs[1]) = some [8]) := by and_intros <;> decide +kernel

-- A store to the TCM piece of a thread that is being restored, held or not, waits.
theorem witness_RestoredPiecesWait :
    (let s := (holding .sent).mapFocus fun t => { t with state := .pending, stage := .restoring, ctx := { t.ctx with swap := true } }
     let r := heldStore (.accepted false)
     let s : State := { s with net := [{ r with dc := none, dcn := some 1, counted := false }], launches := s.launches.map fun l => { l with closing := true } }
     s.restoringAt 1 (tcmKey ⟨0, 0, 0⟩ 0x40) 1 = true ∧ (after (exec (.holdApply 1) s)).map (fun u => (u.net.length, u.peek (tcmKey ⟨0, 0, 0⟩ 0x40) 1)) =
       some (1, near.peek (tcmKey ⟨0, 0, 0⟩ 0x40) 1)) := by and_intros <;> decide +kernel

/-- The placed thread in a wait since time 0. -/
def waiting (w : Wait) (now : Nat) : State := contained { near with focus := { near.focus with wait := some (w, 0) }, now }

theorem witness_LongWaitsTrap : near.focus.stage = .active ∧ 2 ^ near.mc.pwlim.toNat < 2 ^ 20 + 1 - 0 ∧ 2 ^ 20 - 0 ≤ 2 ^ near.mc.pwlim.toNat ∧
    traps (exec (.portTimeout near.focus.id) (waiting (.port 1 false) (2 ^ 20 + 1))) 0x09 0 ∧
    (after (exec (.portTimeout near.focus.id) (waiting (.port 1 false) (2 ^ 20)))).map (·.focus.stage) = some .active ∧
    traps (exec (.trpFormTimeout near.focus.id) (waiting (.form 2 2) (2 ^ 20 + 1))) 0x09 0 ∧
    traps (exec (.trpFormTimeout near.focus.id) (waiting .formBlocked (2 ^ 20 + 1))) 0x09 0 ∧
    ((waiting (.port 1 false) 5).stall (.port 1 false)).focus.wait = some (.port 1 false, 0) ∧
    (after (exec (.trpFormTimeout near.focus.id) (waiting (.form 2 2) (2 ^ 20)))).map (·.focus.stage) = some .active := by
  and_intros <;> decide +kernel

theorem witness_CoresTakeTurns :
    (let s : State := { twoSets with streaks := [(⟨0, 0, 0⟩, (0, 256))] }
     lookup? ⟨0, 0, 0⟩ s.streaks = some (0, 256) ∧ s.nextReady ⟨0, 0, 0⟩ 0 = some (.thread ⟨0, 0, 0⟩ 2) ∧
     (after (exec (.threadSwitchQuantum ⟨0, 0, 0⟩) s)).map (fun u => (u.focus.id, lookup? ⟨0, 0, 0⟩ u.streaks)) =
       some (.thread ⟨0, 0, 0⟩ 2, some (2, 0))) ∧
    (twoSets.focusOn (.thread ⟨0, 0, 0⟩ 2)).nextReady ⟨0, 0, 0⟩ 2 = some (.thread ⟨0, 0, 0⟩ 0) := by
  refine ⟨⟨?_, ?_, ?_⟩, ?_⟩ <;> decide +kernel

/-- The placed thread halting in a launch of some tasks, the next of which is given. -/
def halts' (det : Bool) (tasks next : Nat) : State :=
  { near with focus := { near.focus with stage := .halting }
              launches := [{ placedLaunch with info := { placedRec with tasks, det }, ranges := [(0, next, tasks)] }] }

theorem witness_TasksFollow : (halts' true 17 1).focus.stage = .halting ∧ near.focus.pend = [] ∧ (halts' true 17 1).mayEnd (halts' true 17 1).focus = true ∧
    near.focus.troupe = none ∧ near.net = [] ∧ near.evicted = [] ∧ placedLaunch.threads = 16 ∧
    (after (exec (.haltComplete near.focus.id) (halts' true 17 1))).map (fun u => (u.focus.task, u.focus.x[10], u.focus.stage)) = some (16, 16, .active) ∧
    (after (exec (.haltComplete near.focus.id) (halts' false 3 2))).map (fun u => (u.focus.task, u.launches.map (·.ranges))) = some (2, [[(0, 3, 3)]]) ∧
    ((3 : Nat) ≤ 3 ∧ (after (exec (.haltComplete near.focus.id) (halts' false 3 3))).map (·.focus.state) = some .free) ∧
    (let s : State := { porter with focus := { porter.focus with stage := .halting, porter := ⟨0, 0, false, false, true⟩ } }
     s.mayEnd s.focus = true ∧ (after (exec (.haltComplete (.porter 0 3)) s)).map (fun u => (u.focus.state, u.focus.porter.run)) = some (.free, false)) := by
  refine ⟨?_, ?_, ?_, ?_, ?_, ?_, ?_, ?_, ?_, ⟨?_, ?_⟩, ?_, ?_⟩ <;> decide +kernel


theorem witness_RepliesAreCaptured :
    (captured (reply (.load 4 (.x 6 true)) []) [1, 0, 0, 0x80] = some ⟨0, 1, 6, 1, 0xFFFFFFFF80000001, 0x0100000000400040⟩ ∧
     captured (reply (.node .nalloc 0 0 [] 4 5) []) (leBytes 8 5 ++ leBytes 8 6) = some ⟨0, 3, 4, 1, 5, 0⟩ ∧
     captured (reply (.node .desc 0 0 [] 4 5) []) (leBytes 8 5 ++ leBytes 8 6) = some ⟨0, 3, 4, 1, 5, 6⟩ ∧
     captured (reply (.amo 0 8 0 0 6) []) (leBytes 8 5) = some ⟨0, 2, 6, 0, 5, 0x0100000000400040⟩ ∧
     captured (reply (.amo 0 8 0 0 0) []) (leBytes 8 5) = none) ∧
    ([⟨1, 0, 0, 0, 0, 0⟩, ⟨9, 0, 0, 0, 0, 0⟩] : List Captured).Pairwise (fun a b => a.issue ≤ b.issue) ∧
    (insertCaptured true ⟨5, 0, 0, 0, 0, 0⟩ [⟨1, 0, 0, 0, 0, 0⟩, ⟨9, 0, 0, 0, 0, 0⟩]).map (·.issue) = [1, 5, 9] ∧
    ((dying 0).focus.stage = .dying ∧ near.focus.stage ≠ .dying ∧
     ((dying 0).focus.capture (reply (.load 4 (.x 6 true)) []) [1, 0, 0, 0]).fault.map (fun c => (c.nreply, c.replies.map (·.reg))) = some (1, [6])) := by
  and_intros <;> decide +kernel

theorem witness_OtherCsrs :
    (regs.csr 0x011 = 1 ∧ regs.csr 0x012 = 1 ∧ regs.csr 0x013 = 0 ∧ regs.csr 0x015 = 0 ∧ regs.csr 0x018 = 0 ∧ regs.csr 0x019 = 0x60000) ∧
    (regs.troupeOf regs.focus = none ∧ regs.csr 0x022 = 0) ∧
    ((troupe.troupeOf troupe.focus).isSome = true ∧ troupe.csr 0x022 = 0x3020200) := by and_intros <;> decide +kernel

theorem witness_CoresTakeTurns_given :
    (let s : State := { twoSets with streaks := [(⟨0, 0, 0⟩, (0, 3))] }
     s.canIssue (s.hart (.thread ⟨0, 0, 0⟩ 0)) = true ∧ (s.giveTurn (.thread ⟨0, 0, 0⟩ 2)).focus.id = .thread ⟨0, 0, 0⟩ 0) ∧
    (let s : State := { twoSets with streaks := [(⟨0, 0, 0⟩, (0, 3))], focus := { twoSets.focus with wait := some (.barrier 3, 0) } }
     s.canIssue (s.hart (.thread ⟨0, 0, 0⟩ 0)) = false ∧ s.nextReady ⟨0, 0, 0⟩ 0 = some (.thread ⟨0, 0, 0⟩ 2) ∧
     (s.giveTurn (.thread ⟨0, 0, 0⟩ 0)).focus.id = .thread ⟨0, 0, 0⟩ 2) ∧
    (let s : State := { twoSets with streaks := [(⟨0, 0, 0⟩, (0, 3))], focus := { (arrivedAs .passed).focus with wait := some (.barrier 3, 0) } }
     s.canIssue (s.hart (.thread ⟨0, 0, 0⟩ 0)) = true) := by and_intros <;> decide +kernel

/-- The placed thread halting with its die's range empty, and two others with 5 and 4 indices left. -/
def steals : State := { halts' false 30 5 with launches := (halts' false 30 5).launches.map fun l => { l with ranges := [(0, 5, 5), (1, 10, 15), (2, 20, 24)] } }

theorem witness_TasksFollow_stolen : steals.launches.map (fun l => (l.info.det, l.ranges.map (·.1))) = [(false, [0, 1, 2])] ∧
    steals.mayEnd steals.focus = true ∧ (after (exec (.haltComplete near.focus.id) steals)).map (fun u => (u.focus.task, u.launches.map (·.ranges))) =
      some (12, [[(0, 13, 15), (1, 10, 12), (2, 20, 24)]]) ∧
    (let s : State := { halts' false 3 2 with net := [{ aStore 0x0001000000000040 with counted := true }] }
     s.mayEnd s.focus = false ∧ (after (exec (.haltComplete near.focus.id) s)).map (fun u => (u.focus.stage, u.net.length)) = some (.halting, 1)) ∧
    (let s := (halts' false 3 2).mapFocus fun t => { t with pend := [⟨.inl 6, 5, 3⟩] }
     s.focus.pend ≠ [] ∧ (after (exec (.haltComplete near.focus.id) s)).map (fun u => (u.focus.stage, u.focus.pend.map (·.left))) = some (.halting, [2])) := by
  and_intros <;> decide +kernel
/-! ### Witnesses: control pages and launches -/

/-- A steward's store to a physical address, performed next. -/
def pageStore (pa : Nat) (bytes : List Byte) : Req :=
  { aLoad .bulk with src := .hart (.steward 0 0), lid := 0, phys := true, addr := BitVec.ofNat 64 (0x0100000000000000 + pa),
                     body := .store (bytes.map some), phase := .atHome, dc := none }
def storing (s : State) (pa : Nat) (bytes : List Byte) : State := { s with net := [pageStore pa bytes] }

/-- The hypotheses of OnRegister for such a store. -/
abbrev OnPage (s : State) (pa : Nat) (reg : PageReg) (v : Nat) : Prop :=
  (storing s pa (leBytes 8 v)).req? 0 = some (pageStore pa (leBytes 8 v)) ∧ (pageStore pa (leBytes 8 v)).arrived = true ∧
  (storing s pa (leBytes 8 v)).gate (pageStore pa (leBytes 8 v)) = .go pa ∧ pa < 2 ^ 50 ∧ onPage pa = true ∧ pa % 8 = 0 ∧ pageReg pa = reg ∧
  ofBytes (leBytes 8 v) = v

/-- The first die's Porter page, and the control block of the first core's first thread set. -/
def porterPage : Nat := 0x600000000000
def tctl : Nat := 0x600100000100

/-- Porter 3 running or idle. -/
def porters (run : Bool) : State :=
  { near with parked := [{ Thread.fresh (.porter 0 3) with porter := ⟨0x0100000000000000, 0, false, false, run⟩ }] }

theorem witness_KicksStartPorters : OnPage (porters false) (porterPage + 0x308) (.kick 0 3) 77 ∧ OnPage (porters true) (porterPage + 0x308) (.kick 0 3) 77 ∧
    ((porters false).hart (.porter 0 3)).porter.run = false ∧
    (after (exec (.kick 0) (storing (porters false) (porterPage + 0x308) (leBytes 8 77)))).map (fun u =>
      ((u.hart (.porter 0 3)).x[10], (u.hart (.porter 0 3)).state, (u.hart (.porter 0 3)).stage)) = some (77, .running, .active) ∧
    (after (exec (.kick 0) (storing (porters true) (porterPage + 0x308) (leBytes 8 77)))).map (fun u => (u.hart (.porter 0 3)).porter.lost) =
      some true := by and_intros <;> decide +kernel

/-- A launch record of identifier 2 for one core, its records at 0x400020 and 0x400010. -/
def recordWords (tasks : Nat) (accrec : Nat) : List Nat :=
  [0x20001, 0x0100000000000000, 0, tasks, 0x0101, 0x600 + 1 * 2 ^ 16, 5, 0, 0, 0, 0x0100000000400020, accrec, 0, 0, 0, 0]
def recordBytes (tasks accrec : Nat) : List Byte := (recordWords tasks accrec).flatMap (leBytes 8)
def rec2 (tasks : Nat) (accrec : Word) : LaunchRec :=
  { placedRec with lid := 2, tasks, acc := 0, spb := 0, nmbase := 5, nmcount := 0, crec := 0x0100000000400020, accrec }

/-- The queue's Waystation knows the records' page, and the module's steward ring is off. -/
def queueing (bytes : List Byte) : State := storing (mapped near 0xD) 0x600200008000 bytes

theorem witness_LaunchRecordsAreApplied :
    ((queueing (recordBytes 1 0x0100000000400010)).gate (pageStore 0x600200008000 (recordBytes 1 0x0100000000400010)) = .go 0x600200008000 ∧
     onPage 0x600200008000 = true ∧ pageReg 0x600200008000 = .launch ∧ (recordBytes 1 0x0100000000400010).length = 128 ∧
     FieldsOf (recordBytes 1 0x0100000000400010) (rec2 1 0x0100000000400010) ∧
     Acceptable (mapped near 0xD) (recordBytes 1 0x0100000000400010) (rec2 1 0x0100000000400010) ∧ (rec2 1 0).tasks ≤ 2 ^ 32 ∧
     ((mapped near 0xD).readArgs (rec2 1 0)).1 = some [] ∧
     (pageStore 0x600200008000 (recordBytes 1 0x0100000000400010)).failed = false ∧
     (queueing (recordBytes 1 0x0100000000400010)).recordShut (recordBytes 1 0x0100000000400010) = none ∧
     (State.payAll 0 ((queueing (recordBytes 1 0x0100000000400010)).recordCharges (recordBytes 1 0x0100000000400010))
       (queueing (recordBytes 1 0x0100000000400010))).isSome = true ∧
     ((mapped near 0xD).queueKey 0 0x0100000000400010 .write).1 = some 0x400010 ∧ onPage 0x400010 = false) ∧
    (after (exec (.launchRecord 0) (queueing (recordBytes 1 0x0100000000400010)))).map (fun u => (u.launches.map (·.info.lid), u.peek 0x400010 4)) =
      some ([1, 2], [0, 0, 2, 0]) ∧
    (Acceptable (mapped near 0xD) (recordBytes (2 ^ 32 + 1) 0) (rec2 (2 ^ 32 + 1) 0) ∧ 2 ^ 32 < (rec2 (2 ^ 32 + 1) 0).tasks ∧ RingOff near ∧
     ((mapped near 0xD).queueKey 0 0x0100000000400020 .write).1 = some 0x400020 ∧
     (queueing (recordBytes (2 ^ 32 + 1) 0)).recordShut (recordBytes (2 ^ 32 + 1) 0) = none ∧
     (State.payAll 0 ((queueing (recordBytes (2 ^ 32 + 1) 0)).recordCharges (recordBytes (2 ^ 32 + 1) 0)) (queueing (recordBytes (2 ^ 32 + 1) 0))).isSome = true ∧
     (after (exec (.launchRecord 0) (queueing (recordBytes (2 ^ 32 + 1) 0)))).map (fun u => (u.launches.length, u.peek 0x400020 4, u.mc.mring.held.map (·.arg))) =
       some (1, [2, 0, 2, 0], [0x202])) ∧
    ((after (exec (.launchRecord 0) { queueing (recordBytes 1 0) with failed := true })).map (fun u => (u.launches.length, u.peek 0x400020 1)) =
       some (1, [3])) ∧
    ((recordBytes 1 0).drop 64 |>.length) ≠ 128 ∧
    (after (exec (.launchRecord 0) (queueing ((recordBytes 1 0).drop 64)))).map (fun u => (u.launches.length, u.mc.mring.held.map (·.arg))) =
      some (1, [0x400001]) := by and_intros <;> decide +kernel

-- A record whose slot has nothing left at the ACCEPT record's channel waits; one whose argument block comes in on an excluded input is lost.
theorem witness_LaunchRecordsAreApplied_wait :
    (let bs := recordBytes 1 0x0100000000400010
     let s : State := { queueing bs with units := [(0, { ChUnit.fresh with shares := Vector.replicate 16 (true, 0), inRound := Vector.replicate 16 (true, 0) })] }
     s.recordWaits bs = false ∧ (State.payAll 0 (s.recordCharges bs) s).isSome = false ∧
     (after (exec (.launchRecord 0) s)).map (fun u => (u.launches.length, u.net.length)) = some (1, 1)) ∧
    (let bs := ([0x20001, 0x0100000000000000, 0, 1, 0x0101, 0x600 + 1 * 2 ^ 16, 5, 0, 0, 0, 0x0100000000400020, 0, 0x0100000000400000, 16, 0, 0] : List Nat).flatMap (leBytes 8)
     let s := { queueing bs with ports := [((homeOf 0x400000).port, ⟨[], [], [(Src.queue.input, [])], 0⟩)] }
     s.recordWaits bs = false ∧ (s.recordShut bs).isSome = true ∧
     (after (exec (.launchRecord 0) s)).map (fun u => (u.launches.length, u.net.map (·.failed), u.mc.mring.held.length)) = some (1, [true], 1)) := by
  and_intros <;> decide +kernel

theorem witness_LaunchRecordsAreRefused : ¬ Acceptable { mapped near 0xD with failed := true } (recordBytes 1 0) (rec2 1 0) :=
  fun h => absurd h.1.2.1 (by decide)

/-- Launch 2 queued beside the placed one. -/
def queued2 (r : LaunchRec) : State := { near with launches := near.launches ++ [{ placedLaunch with info := r, stage := .queued, sets := [] }] }

theorem witness_LaunchesArePlaced : ((queued2 (rec2 1 0)).headLaunch.map (·.info.lid)) = some 2 ∧ (queued2 (rec2 1 0)).streamsFree { rec2 1 0 with nmbase := 65535 } = true ∧
    (queued2 (rec2 1 0)).fitsAt (rec2 1 0) 0 0 = none ∧ ((queued2 (rec2 1 0)).fitsAt (rec2 1 0) 0 1).map (·.1) = some 0 ∧
    (rec2 1 0).tc * (rec2 1 0).tcml * 256 ≤ 393216 ∧ (∀ i < 81, ¬ i + 81 ≤ 80) ∧
    (after (exec .launchPlacement (queued2 { rec2 1 0 with nmbase := 65535 }))).map (fun u => u.launches.map fun l => (l.stage, l.crow, l.ccol)) =
      some [(.running, 0, 0), (.placed, 0, 1)] ∧
    (after (exec .launchPlacement (queued2 { rec2 1 0 with nmbase := 65535, dh := 81 }))).map (fun u => u.launches.map (·.stage)) =
      some [.running, .queued] := by and_intros <;> decide +kernel

/-- The placed launch before its release as a DET launch of one task on two thread sets. -/
def unreleased : State :=
  { near with focus := Thread.fresh (.thread ⟨0, 0, 0⟩ 0)
              launches := [{ placedLaunch with info := { placedRec with det := true, tasks := 1 }, stage := .placed, sets := [(⟨0, 0, 0⟩, [0]), (⟨0, 0, 1⟩, [1])] }] }

theorem witness_LaunchesAreReleased : (unreleased.launch? 1).map (·.stage) = some .placed ∧ unreleased.evicted = [] ∧
    (∀ t ∈ unreleased.harts, t.state ≠ .saved) ∧ placedLaunch.lcore ⟨0, 0, 0⟩ = 0 ∧ placedLaunch.lcore ⟨0, 0, 1⟩ = 1 ∧
    (after (exec (.launchRelease 1) unreleased)).map (fun u => (u.launches.map (·.stage), (u.hart (.thread ⟨0, 0, 0⟩ 0)).pc,
      (u.hart (.thread ⟨0, 0, 1⟩ 1)).state)) = some ([.running], 0x0100000000000000, .free) ∧
    (Memory.wf near.mem = true ∧ ({ near with holders := [(tcmKey ⟨0, 0, 0⟩ 0x38, 4, 3)] }.takeRange (tcmKey ⟨0, 0, 0⟩ 0x38) 8 0).peek
      (tcmKey ⟨0, 0, 0⟩ 0x38) 8 = [0, 0, 0, 0, 0x84, 0x83, 0x82, 0x81]) := by and_intros <;> decide +kernel

/-- A live launch 1 with its completion record in the mapped page, in a stage. -/
def ending (stage : LStage) (tasks ncont : Nat) : State :=
  { mapped near 0xD with
    focus := { near.focus with state := .free, lid := 0 }
    launches := [{ placedLaunch with info := { placedRec with tasks, crec := 0x0100000000400020, doneev := 6 }, stage, ncont }]
    clear := [(0, 6)] }

theorem witness_LaunchesComplete : (∀ st ∈ [LStage.queued, .running, .aborting],
      ((ending st 0 0).launches.map fun l => (decide (l.stage = st), (ending st 0 0).isReady l.info, (ending st 0 0).recordHeld l)) = [(true, true, false)] ∧
      ((ending st 0 0).queueKey 0 0x0100000000400020 .write).1 = some 0x400020 ∧
      (State.payAll 0 ((ending st 0 0).queueCharges 0 0x0100000000400020 32) (ending st 0 0)).isSome = true ∧
      (ending st 0 0).launches.map (fun l => (ending st 0 0).undecided l) = [false]) ∧
    ((ending .running 1 0).members 1).length = 0 ∧ (ending .running 1 0).launchBusy 1 = false ∧
    (after (exec (.doneEmpty 1) (ending .queued 0 0))).map (fun u => (u.launches.length, u.clear, u.peek 0x400020 4)) = some (0, [], [1, 0, 1, 0]) ∧
    (after (exec (.launchCompletion 1) (ending .running 1 2))).map (fun u => (u.launches.length, u.clear, u.peek 0x400020 5)) = some (0, [], [5, 0, 1, 0, 2]) ∧
    (after (exec (.launchCompletion 1) (ending .aborting 1 0))).map (fun u => (u.launches.length, u.peek 0x400020 4)) = some (0, [4, 0, 1, 0]) ∧
    (let s := { (det (ending .aborting 1 0)) with
       net := [{ refusal with phase := .refused 0x07 0x0100000000400040, src := .hart near.focus.id, superstep := 0, idx := 1 }],
       focus := { near.focus with stage := .aborted } }
     s.launches.map (fun l => s.undecided l) = [true] ∧ (after (exec (.launchCompletion 1) s)).map (·.launches.length) = some 1) ∧
    ((near.members 1).length ≠ 0 ∧ (after (exec (.launchCompletion 1) near)).map (·.launches.length) = some 1) := by and_intros <;> decide +kernel

/-- The placed thread stopped at an ECALL, or otherwise, in a CONTAIN launch. -/
def stopped (st : TState) : State :=
  (contained near).mapFocus fun t => { t with state := st, fault := some ((near.faultCtx near.focus 0x0C 0x0100000000000010 0 false 0)), ctx := { t.ctx with scode := 0x0C } }

theorem witness_StoppedThreadsAreCommanded : OnPage (stopped .stopped) tctl (.tctl near.focus.id) 1 ∧ OnPage (stopped .stopped) tctl (.tctl near.focus.id) 0x0402 ∧
    (after (exec (.tctlResume 0) (storing (stopped .stopped) tctl (leBytes 8 1)))).map (fun u => (u.focus.state, u.focus.pc)) =
      some (.running, 0x0100000000000014) ∧
    (after (exec (.tctlResume 0) (storing (stopped .running) tctl (leBytes 8 1)))).map (fun u => u.focus.pc) = some near.focus.pc ∧
    (after (exec (.tctlKill 0) (storing (stopped .stopped) tctl (leBytes 8 0x0402)))).map (fun u => (u.focus.stage, u.focus.fault.map (·.code))) =
      some (.dying, some 4) ∧
    (after (exec (.tctlKill 0) (storing (stopped .stopped) tctl (leBytes 8 0x0F02)))).map (fun u => u.focus.state) = some .stopped := by
  and_intros <;> decide +kernel


theorem witness_RecordsWaitForHolds :
    (queueing (recordBytes 1 0x0100000000400010)).recordWaits (recordBytes 1 0x0100000000400010) = false ∧
    (queueing (recordBytes (2 ^ 32 + 1) 0)).recordWaits (recordBytes (2 ^ 32 + 1) 0) = false ∧
    (let s : State := { queueing (recordBytes 1 0x0100000000400010) with
       units := [(0, { ChUnit.fresh with streams := [(5, ⟨4, false, [], some { active false fillBytes with held := [0x4000] }⟩)] })] }
     s.recordWaits (recordBytes 1 0x0100000000400010) = true ∧
     (after (exec (.launchRecord 0) s)).map (fun u => (u.launches.length, u.net.length)) = some (1, 1)) ∧
    (porterPage + 0x308) % 8 = 0 ∧ onPorterPage (porterPage + 0x308) = true ∧ (pageStore (porterPage + 0x308) (leBytes 8 77)).wide = false := by
  and_intros <;> decide +kernel

/-- Launch 2 queued where launch 1 holds streams 0 to n. -/
def streaming (n : Nat) : State :=
  let s := queued2 { rec2 1 0 with nmbase := 3, nmcount := 2 }
  { s with launches := s.launches.map fun l => if l.info.lid = 1 then { l with info := { l.info with nmbase := 0, nmcount := n } } else l }

theorem witness_LaunchesArePlaced_streams : (streaming 4).headLaunch.map (fun l => (l.info.nmbase, l.info.nmcount)) = some (3, 2) ∧
    (streaming 4).placed.map (fun q => (q.info.nmbase, q.info.nmcount)) = [(0, 4)] ∧
    (after (exec .launchPlacement (streaming 4))).map (fun u => u.launches.map (·.stage)) = some [.running, .queued] ∧
    (after (exec .launchPlacement (streaming 3))).map (fun u => u.launches.map (·.stage)) = some [.running, .placed] := by and_intros <;> decide +kernel

theorem witness_LaunchesArePlaced_room :
    (RoomAt (queued2 (rec2 1 0)) (rec2 1 0) 0 1 ∧ TcmAt (queued2 (rec2 1 0)) (rec2 1 0) 0 1 0 ∧ PadAt (queued2 (rec2 1 0)) (rec2 1 0) 1 0 ∧
     reservedAt (rec2 1 0) 0 1 (0, 0) = 2) ∧
    (placedLaunch.tcmOff = 0 ∧ ¬ TcmAt (queued2 (rec2 1 0)) (rec2 1 0) 0 0 0 ∧ ¬ TcmAt (queued2 (rec2 1 0)) (rec2 1 0) 0 0 0x100) ∧
    (¬ RoomAt (queued2 (rec2 1 0)) { rec2 1 0 with tc := 4 } 0 0 ∧ ((queued2 { rec2 1 0 with tc := 4 }).fitsAt { rec2 1 0 with tc := 4 } 0 0).isSome = false) := by
  and_intros <;> decide +kernel

theorem witness_RecordsThatNeedNothingGoOn : (readRec (recordBytes 1 0)).accrec = 0 ∧ (readRec (recordBytes 1 0)).arglen = 0 ∧
    near.checkRecord (recordBytes 1 0) (readRec (recordBytes 1 0)) = none ∧ near.recordWaits (recordBytes 1 0) = false := by and_intros <;> decide +kernel
/-! ### Witnesses: saving and restoring -/

/-- The placed thread in a state with its save area at 0x1000000. -/
def saves (st : TState) (swap : Bool) : State :=
  near.mapFocus fun t => { t with state := st, ctx := { t.ctx with savea := 0x1000000, gba := 0x1100000, gblen := 96, swap } }

theorem witness_ThreadsAreSaved : OnPage (saves .running false) tctl (.tctl near.focus.id) 0xB ∧
    (after (exec (.tctlPreempt 0) (storing (saves .running false) tctl (leBytes 8 0xB)))).map (fun u => (u.focus.state, u.focus.ctx.swap)) =
      some (.pending, true) ∧
    (after (exec (.tctlPreempt 0) (storing (saves .saved false) tctl (leBytes 8 0xB)))).map (fun u => (u.focus.state, u.focus.ctx.swap)) =
      some (.saved, false) ∧
    (∀ b ∈ [false, true], (saves .pending b).focus.mayYield = true ∧ (saves .pending b).focus.pend = [] ∧ (saves .pending b).settled (saves .pending b).focus = true ∧
      RingId.real (ringFor near.focus.id) ∧ ((saves .pending b).ring (ringFor near.focus.id)).en = false) ∧
    (after (exec (.preemptSave near.focus.id) (saves .pending false))).map (fun u => (u.focus.state, (u.ring (.die 0 0)).held.map (·.code))) =
      some (.saved, [0x12]) := by
  refine ⟨⟨?_, ?_, ?_, ?_, ?_, ?_, ?_, ?_⟩, ?_, ?_, ?_, ?_⟩
  on_goal 11 => intro b hb; simp only [List.mem_cons, List.not_mem_nil, or_false] at hb; rcases hb with rfl | rfl <;> and_intros <;> decide +kernel
  all_goals decide +kernel

/-- The save area holds the identity of the first core's thread set 0 and a pc. -/
def restores (swap : Bool) : State :=
  let s := saves .saved swap
  (s.pokeBytes (0x1000000 + 16) (leBytes 8 0x0100000000000020)).pokeBytes (0x1000000 + 72) (leBytes 8 (injOf near.focus.id).toNat)

theorem witness_ThreadsAreRestored : OnPage (restores false) tctl (.tctl near.focus.id) 4 ∧ (restores false).restorable (restores false).focus = true ∧
    (restores false).ecc = [] ∧ (restores true).guestUsed (restores true).focus = 0 ∧
    (after (exec (.tctlRestore 0) (storing (restores false) tctl (leBytes 8 4)))).map (fun u => (u.focus.state, u.focus.pc)) =
      some (.running, 0x0100000000000020) ∧
    (after (exec (.tctlRestore 0) (storing near tctl (leBytes 8 4)))).map (fun u => u.focus.pc) = some near.focus.pc := by and_intros <;> decide +kernel

/-- A bulk store of some bytes to TCM byte 0x40 of the first core. -/
def guest (n : Nat) : State := { saves .saved true with net := [{ aStore 0x0001000000000040 with body := .store ((List.replicate n 7).map some) }] }

theorem witness_GuestbooksTakeStores :
    (guest 4).gate { aStore 0x0001000000000040 with body := .store ((List.replicate 4 7).map some) } = .go (tcmKey ⟨0, 0, 0⟩ 0x40) ∧
    ((guest 4).swappedAt 1 (tcmKey ⟨0, 0, 0⟩ 0x40) 4).map (·.id) = some near.focus.id ∧
    (16 + 0 + 32 + 4 + 4 ≤ 96 ∧ (after (exec (.guestbookAppend 0) (guest 4))).map (fun u => (u.peek 0x1100000 1, u.peek 0x1100008 1, u.peek 0x1100020 1, u.peek 0x1100030 5)) =
      some ([1], [40], [0x40], [7, 7, 7, 7, 0])) ∧
    ((96 : Nat) < 16 + 0 + 32 + 50 + 6 ∧ (after (exec (.guestbookAppend 0) (guest 50))).map (fun u => (u.peek 0x1100000 1, u.net.length)) = some ([0], 1)) := by
  and_intros <;> decide +kernel

/-- Channel 0's unit in a state with its save area at 0x2000000 of that channel, whose first word is given. -/
def unitSaves (n : NState) (version : Nat) : State :=
  { near.pokeBytes 0x2000000 (leBytes 8 version) with units := [(0, { ChUnit.fresh with nstate := n, nmusave := 0x2000000 })] }

theorem witness_UnitsAreSavedAndRestored : ((unitSaves .running 1).unit 0).areaOk 0 = true ∧
    OnPage (unitSaves .running 1) 0x600300002000 (.nmucmd 0) 1 ∧ OnPage (unitSaves .saved 1) 0x600300002000 (.nmucmd 0) 2 ∧
    (after (exec (.nmuPreempt 0) (storing (unitSaves .running 1) 0x600300002000 (leBytes 8 1)))).map (fun u => (u.unit 0).nstate) = some .saving ∧
    (after (exec (.nmuPreempt 0) (storing (unitSaves .saved 1) 0x600300002000 (leBytes 8 1)))).map (fun u => (u.unit 0).nstate) = some .saved ∧
    (after (exec (.nmuRestore 0) (storing (unitSaves .saved 1) 0x600300002000 (leBytes 8 2)))).map (fun u => (u.unit 0).nstate) = some .restoring ∧
    (after (exec (.nmuRestore 0) (storing (unitSaves .running 1) 0x600300002000 (leBytes 8 2)))).map (fun u => (u.unit 0).nstate) = some .running ∧
    (((unitSaves .saving 1).hart (.overlay 0)).stage = .active ∧ (unitSaves .saving 1).quiet (.overlay 0) = true ∧ RingOff (unitSaves .saving 1) ∧
     (after (exec (.nmuSaveDone 0) (unitSaves .saving 0))).map (fun u => ((u.unit 0).nstate, u.mc.mring.held.map (·.code))) = some (.saved, [0x12])) ∧
    ((unitSaves .restoring 1).peekN 0x2000000 8 = 1 ∧
     (after (exec (.nmuRestoreDone 0) (unitSaves .restoring 1))).map (fun u => ((u.unit 0).nstate, u.mc.mring.held.map (·.code))) = some (.running, [0x12])) ∧
    ((unitSaves .restoring 2).peekN 0x2000000 8 ≠ 1 ∧
     (after (exec (.nmuRestoreDone 0) (unitSaves .restoring 2))).map (fun u => ((u.unit 0).nstate, u.mc.mring.held.map (·.code))) = some (.saved, [0x10])) := by
  and_intros <;> decide +kernel


/-- A thread at an entry with a repeat context, whose live-in mask names x6, x28 and v1. -/
def entered : Thread :=
  { floats.focus with region := { floats.focus.region with
      entry := 0x0100000000000040, mask := 0x0000000210000040, rep := some ⟨0x0100000000000044, [(1, 4), (2, 4)], 7, 3, 5, 1⟩ } }

theorem witness_ContextsLoadBack :
    (let m := near.contextBytes entered
     let w := Thread.reload near.focus m [(1, 4), (2, 4)]
     m.length = 4864 ∧ (w.pc, w.x[6], w.x[28], w.x[7], w.v[1], w.v[2], w.f[2]) = ((0x0100000000000040 : Word), entered.x[6], (0 : Word), (0 : Word), entered.v[1], (0 : VReg), (0xC0100000 : W32)) ∧
     w.pred 0 = 0xFFFFFFFF ∧ numAt m 1472 4 = 2 ^ 32 - 1 ∧ w.p[1] = 5 ∧
     w.rep.map (fun c => (c.body, c.insns.length, c.desc, c.pass, c.remaining)) = some (0x0100000000000044, 2, 7, 3, 5)) ∧
    (let w := Thread.reload near.focus (near.contextBytes floats.focus) []
     floats.focus.region.rep = none ∧ w.rep = none) := by and_intros <;> decide +kernel

theorem witness_GuestbooksWaitForHolds :
    (guest 4).unitsHeld 0x1100000 16 = false ∧ (guest 4).unitsHeld 0x1100010 40 = false ∧
    (let s : State := { guest 4 with
       units := [(0, { ChUnit.fresh with streams := [(5, ⟨4, false, [], some { active false fillBytes with held := [0x11000] }⟩)] })] }
     s.unitsHeld 0x1100000 16 = true ∧
     (after (exec (.guestbookAppend 0) s)).map (fun u => (u.peek 0x1100000 1, u.net.length)) = some ([0], 1)) ∧
    (unitSaves .saving 1).unitsHeldBy 0 0x2000000 ((unitSaves .saving 1).unitBytes 0).length = false := by and_intros <;> decide +kernel

theorem witness_AskedThreadsAreCommanded :
    (let s (st : TState) := (stopped st).mapFocus fun t => { t with ctx := { t.ctx with asked := true } }
     (after (exec (.tctlResume 0) (storing (s .stopped) tctl (leBytes 8 1)))).map (fun u => u.focus.state) = some .pending ∧
     (after (exec (.tctlKill 0) (storing (s .stopped) tctl (leBytes 8 0x0402)))).map (fun u => (u.focus.state, u.focus.stage)) = some (.pending, .dying)) ∧
    (let s : State := { stopped .stopped with launches := placedLaunch :: [] }
     (s.launchOf s.focus).map (·.info.contain) = some false ∧ near.focus.id.core?.isSome = true ∧
     (after (exec (.tctlKill 0) (storing (stopped .stopped) tctl (leBytes 8 0x0402)))).map (fun u => u.focus.deaf) = some true ∧
     (after (exec (.tctlKill 0) (storing s tctl (leBytes 8 0x0402)))).map (fun u => (u.focus.stage, u.launches.map (·.stage))) =
       some (.aborted, [.aborting])) := by and_intros <;> decide +kernel

-- A thread whose TCM piece is swapped out, or that an abort has stopped; and a block that holds the guestbook header.
theorem witness_ThreadsAreRestored_cases :
    (let s := (restores false).mapFocus fun t => { t with stage := .aborted }
     s.restorable s.focus = true ∧ (after (exec (.tctlRestore 0) (storing s tctl (leBytes 8 4)))).map (fun u => (u.focus.state, u.focus.stage)) =
       some (.running, .aborted)) ∧
    ((restores true).restorable (restores true).focus = true ∧ (restores true).focus.ctx.swap = true ∧
     (restores true).unitsHeld (restores true).focus.ctx.gba.toNat 16 = false) ∧
    (let s : State := { restores true with
       units := [(0, { ChUnit.fresh with streams := [(5, ⟨4, false, [], some { active false fillBytes with held := [0x11000] }⟩)] })] }
     s.unitsHeld s.focus.ctx.gba.toNat 16 = true ∧
     (after (exec (.tctlRestore 0) (storing s tctl (leBytes 8 4)))).map (fun u => (u.focus.state, u.net.length)) = some (.saved, 1)) := by
  and_intros <;> decide +kernel

theorem witness_ThreadsAreSaved_asked :
    (after (exec (.tctlPreempt 0) (storing (saves .running false) tctl (leBytes 8 0xB)))).map (fun u => u.focus.ctx.asked) = some true ∧
    (after (exec (.preemptSave near.focus.id) ((saves .pending false).mapFocus fun t => { t with ctx := { t.ctx with asked := true } }))).map
      (fun u => u.focus.ctx.asked) = some false ∧
    (let a : Active := { active false fillBytes with held := [0x20000] }
     let s : State := { unitSaves .saving 1 with units := (unitSaves .saving 1).units.map fun e => (e.1, { e.2 with streams := [(5, ⟨4, false, [], some a⟩)] }) }
     s.unitsHeldBy 0 0x2000000 256 = false ∧ s.unitsHeld 0x2000000 256 = true ∧
     (after (exec (.nmuSaveDone 0) s)).map (fun u => (u.unit 0).nstate) = some .saved) := by and_intros <;> decide +kernel
/-! ### Witnesses: registers, errors and the fabric -/

/-- The request that such a store is. -/
def cmd (v : Nat) (pa : Nat) : Req := pageStore pa (leBytes 8 v)

/-- The next state of writing a plain register of the control pages. -/
def written (s : State) (pa v : Nat) : Option State := after (execRegisterWrite 0 (storing s pa (leBytes 8 v)))

/-- A register that a store leaves as it is. -/
abbrev unaffected (pa : Nat) (reg : PageReg) : Prop :=
  OnPage near pa reg 7 ∧ reg.command = false ∧ (written near pa 7).map (fun u => (u.mc.boot, u.mc.lcs, u.mc.fports, u.mc.locked, u.focus.state)) =
    some (near.mc.boot, near.mc.lcs, near.mc.fports, near.mc.locked, near.focus.state)

theorem witness_RegistersAreWritten :
    (OnPage near 0x600200000008 (.sroot 1) (0x7001 + 2 ^ 60) ∧ (PageReg.sroot 1).command = false ∧
     (written near 0x600200000008 (0x7001 + 2 ^ 60)).map (fun u => u.mc.sroot.toArray.getD 1 (0, false)) = some (0x7000, true)) ∧
    (OnPage near (tctl + 8) (.savea near.focus.id) 0x1008 ∧ (written near (tctl + 8) 0x1008).map (fun u => u.focus.ctx.savea) = some 0x1008) ∧
    (OnPage near (tctl + 16) (.gba near.focus.id) 0x2000 ∧ (written near (tctl + 16) 0x2000).map (fun u => u.focus.ctx.gba) = some 0x2000) ∧
    (OnPage near (tctl + 24) (.gblen near.focus.id) 96 ∧ (written near (tctl + 24) 96).map (fun u => u.focus.ctx.gblen) = some 96) ∧
    (OnPage near 0x600000000300 (.prog 0 3) 0x40 ∧ (written near 0x600000000300 0x40).map (fun u => (u.hart (.porter 0 3)).porter.prog) = some 0x40) ∧
    (let s : State := { near with parked := [{ Thread.fresh (.porter 0 3) with porter := ⟨0, 0, true, true, false⟩ }] }
     OnPage s 0x600000000310 (.status 0 3) 2 ∧
     (written s 0x600000000310 2).map (fun u => ((u.hart (.porter 0 3)).porter.fault, (u.hart (.porter 0 3)).porter.lost)) = some (true, false)) ∧
    (OnPage near 0x600200000340 .pwlim 40 ∧ (written near 0x600200000340 40).map (·.mc.pwlim) = some 40) ∧
    (OnPage near 0x600200000340 .pwlim 41 ∧ (written near 0x600200000340 41).map (·.mc.pwlim) = some near.mc.pwlim) ∧
    (OnPage near 0x600200000348 .wmstall 9 ∧ (written near 0x600200000348 9).map (·.mc.wmstall) = some near.mc.wmstall) ∧
    (OnPage near 0x600200000350 (.nrbase .module) 0x5001 ∧ (written near 0x600200000350 0x5001).map (fun u => (u.mc.mring.base, u.mc.mring.en)) = some (0x5000, true)) ∧
    (OnPage near 0x600200000358 (.nrptr .module) 0x30007 ∧ (written near 0x600200000358 0x30007).map (·.mc.mring.tail) = some 3) ∧
    (unaffected 0x600200000300 .bootstat ∧ unaffected 0x600200000310 .lcs ∧ unaffected 0x600200000330 .fports ∧ unaffected 0x600200000338 .tsync ∧
     unaffected 0x600200000110 .none ∧ unaffected (tctl + 32) (.tstat near.focus.id)) ∧
    (near.focus.state ≠ .stopped ∧ near.regRead (.xreg near.focus.id 6) = 0) ∧
    ((stopped .stopped).focus.state = .stopped ∧ (stopped .stopped).regRead (.xreg near.focus.id 6) = 0x40) := by
  refine ⟨?_, ?_, ?_, ?_, ?_, ⟨?_, ?_⟩, ?_, ?_, ?_, ?_, ?_, ?_, ?_, ?_⟩
  all_goals first | decide +kernel | (and_intros <;> decide +kernel)

/-- Translations and a line of two address spaces, and an invalidation that has begun. -/
def cached (pending : Bool) : State :=
  let v := BitVec.ofNat 64 (0x400000 + 0xD)
  { near with
    tlb := [(.die 0 0, ⟨0, 0x40, 32, v⟩), (.die 0 0, ⟨0, 0x80, 32, v⟩), (.die 0 0, ⟨1, 0x40, 32, v⟩)]
    icache := [((0, 0, 0x0100000000400000), 1), ((0, 1, 0x0100000000400000), 2)]
    mc := { near.mc with invPending := if pending then some (0, 0x5F0000) else none, inva := 0x5F0000 } }

/-- What an invalidation of a kind leaves. -/
def invalidated (v : Nat) : Option (List (Nat × Nat) × Nat) :=
  (after (execInvalidationDone (storing (cached true) 0x600200000108 (leBytes 8 v)))).map fun u => (u.tlb.map fun e => (e.2.space, e.2.page), u.icache.length)

theorem witness_InvalidationsDropEntries : OnPage (cached false) 0x600200000108 .invc 0x40 ∧ (cached false).mc.invPending = none ∧
    (after (exec (.invc 0) (storing (cached false) 0x600200000108 (leBytes 8 0x40)))).map (·.mc.invPending) = some (some (0, 0x5F0000)) ∧
    (storing (cached true) 0x600200000108 (leBytes 8 0x40)).reqKey? (pageStore 0x600200000108 (leBytes 8 0x40)) = some 0x600200000108 ∧
    invalidated 0x40 = some ([(0, 0x80), (1, 0x40)], 1) ∧ invalidated 0x10 = some ([(1, 0x40)], 2) ∧ invalidated 0x60 = some ([], 0) ∧
    invalidated 0x1 = some ([(0, 0x40), (0, 0x80)], 2) := by and_intros <;> decide +kernel

theorem witness_ExclusionsAreMade :
    (let s : State := { near with mc := { near.mc with cecnt := near.mc.cecnt.set 5 9 } }
     OnPage s 0x600200000228 (.cecnt 5) 0 ∧
     (after (exec (.cecntClear 0) (storing s 0x600200000228 (leBytes 8 0)))).map (fun u => u.mc.cecnt.toArray.getD 5 1) = some 0) ∧
    (OnPage near 0x600300020000 (.excl 2) 0x4303 ∧
     (after (exec (.excl 0) (storing near 0x600300020000 (leBytes 8 0x4303)))).map (fun u => (u.portRec 0x4300).excluded) = some [(3, [0])] ∧ 3 ∉ (near.exclude 0x4300 3).presentInputs 0x4300) ∧
    (OnPage near 0x600200000328 .fexcl 63 ∧
     (after (exec (.fexcl 0) (storing { near with mc := { near.mc with fports := BitVec.allOnes 64 } } 0x600200000328 (leBytes 8 63)))).map
       (fun u => (u.mc.fexcl, u.mc.fports)) = some (0x8000000000000000, 0x7FFFFFFFFFFFFFFF)) := by
  refine ⟨⟨?_, ?_⟩, ?_, ?_⟩ <;> decide +kernel

/-- A word in error. -/
def erring (e : List (Nat × Bool)) : State := { near with ecc := e }

theorem witness_ScrubbingCorrects :
    ((∀ e ∈ (erring [(0x400000000010, false)]).ecc, shareWord 0x400000000008 8 e.1 8 = false) ∧
     (after (exec (.scrub 0x40000000000B) (erring [(0x400000000010, false)]))).map (·.ecc) = some [(0x400000000010, false)]) ∧
    ((0x400000000010, true) ∉ (erring [(0x400000000010, false)]).ecc ∧ (∀ e ∈ (erring [(0x400000000010, false)]).ecc, e.1 % 8 = 0) ∧ dieOfKey 0x400000000010 = some 0 ∧
     near.mc.cecnt.toArray.getD 0 0 ≠ BitVec.allOnes 32 ∧
     (after (exec (.scrub 0x400000000013) (erring [(0x400000000010, false)]))).map (fun u => (u.ecc, u.mc.cecnt.toArray.getD 0 0)) = some ([], 1)) ∧
    ((0x400000000010, true) ∈ (erring [(0x400000000010, true)]).ecc ∧ RingOff (erring [(0x400000000010, true)]) ∧ 0x400000000010 < 2 ^ 47 ∧
     (after (exec (.scrub 0x400000000013) (erring [(0x400000000010, true)]))).map (fun u => u.mc.mring.held.map fun n => (n.code, n.arg)) = some [(0x10, 0x400000000010)]) := by
  and_intros <;> decide +kernel

/-- What a machine check leaves. -/
def failing (o : Host.Outcome State Fault Refusal) : Option (Bool × List (LStage × BitVec 8) × List (BitVec 8)) :=
  (after o).map fun u => (u.failed, u.launches.map fun l => (l.stage, l.fcode), u.mc.mring.held.map (·.code))

theorem witness_MachineChecksFailTheModule : RingOff near ∧ failing (exec (.mcheckStateError 3) near) = some (true, [(.aborting, 0x10)], [0x10]) ∧
    failing (exec (.thermalMcheck 3) near) = some (true, [(.aborting, 0x10)], [0x10]) ∧
    failing (exec (.flitRetry 3 9) near) = some (true, [(.aborting, 0x10)], [0x10]) ∧ failing (exec (.flitRetry 3 8) near) = some (false, [(.running, 0)], []) := by
  and_intros <;> decide +kernel

/-- A request that went out through port 3 and one that did not; ports 2 and 3 are up, port 4 excluded. -/
def linked : State :=
  { near with net := [{ aLoad .bulk with phase := .atHome, via := some 3 }, { aLoad .bulk with id := 1, phase := .atHome }]
              mc := { near.mc with fports := 0xC, fexcl := 0x10 } }

theorem witness_PortsGoDownAndUp : (linked.net.map (·.id)).Nodup ∧
    (after (exec (.portDown 3) linked)).map (fun u => (u.mc.fports, u.net.map (·.phase))) = some (0x4, [.refused 0x04 0, .atHome]) ∧
    linked.mc.fexcl.getLsbD 0 = false ∧ (after (exec (.portUp 0) linked)).map (·.mc.fports) = some 0xD ∧
    linked.mc.fexcl.getLsbD 4 = true ∧ (after (exec (.portUp 4) linked)).map (·.mc.fports) = some 0xC := by and_intros <;> decide +kernel

/-- A held atomic and a held store that were accepted through port 3, and a launch whose arrival left through it. -/
def heldLinked : State :=
  { linked with net := [{ aLoad .held with body := .amo 0 8 1 0 5, phase := .accepted false, via := some 3 },
                        { aLoad .held with id := 1, body := .store [some 1], phase := .accepted false, via := some 3 }]
                launches := [{ placedLaunch with fbSent := true, fbVia := some 3 }] }

theorem witness_PortsGoDownAndUp_held : (heldLinked.net.map (·.id)).Nodup ∧ heldLinked.net.map (wentThrough 3) = [true, false] ∧
    (after (exec (.portDown 3) heldLinked)).map (fun u => (u.net.map (·.phase), u.launches.map fun l => (l.fbSent, l.fbVia))) =
      some ([.refused 0x04 0, .accepted false], [(false, none)]) := by and_intros <;> decide +kernel

/-- The fabric may reach frame 4, not with atomics; the table at 0x10000000 (of which one entry is set); port 3 is up, port 4 excluded; and
the module is in AWAIT or runs. -/
def framed (boot : Boot) : State :=
  { near.pokeBytes 0x10000004 [1] with mc := { near.mc with fftb := 0x10000000, fports := 0x18, fexcl := 0x10, boot } }

theorem witness_FabricRequestsAreChecked :
    (PacketOk 0x40010 (.write [1, 2] (some ⟨5, 9, 3, 2, 0⟩)) ∧ Admits (framed .running) 0x40010 (.write [1, 2] (some ⟨5, 9, 3, 2, 0⟩)) ∧
     (framed .running).mc.fexcl.getLsbD 3 = false ∧ (framed .running).mc.fports.getLsbD 3 = true ∧
     (after (exec (.fabricRequest 3 0x40010 (.write [1, 2] (some ⟨5, 9, 3, 2, 0⟩))) (framed .running))).map (fun u => u.net.map fun r => (r.src, r.cls, r.stamp)) =
       some [(.fabric 3, .ordered, ⟨5, 9, 3, 2⟩)]) ∧
    (PacketOk 0x40010 (.atomic 0 4 1 0 none) ∧ ¬ Admits (framed .running) 0x40010 (.atomic 0 4 1 0 none) ∧
     (after (exec (.fabricRequest 3 0x40010 (.atomic 0 4 1 0 none)) (framed .running))).map (·.net) = some []) ∧
    (PacketOk 0x40000 (.read 256 none) ∧ Admits (framed .running) 0x40000 (.read 256 none) ∧ ¬ Admits (framed .running) 0x50000 (.read 256 none)) ∧
    (PacketOk 0x400000000000 (.write [1] none) ∧ Admits (framed .await) 0x400000000000 (.write [1] none) ∧
     ¬ Admits (framed .running) 0x400000000000 (.write [1] none) ∧ ¬ Admits (framed .await) 0x400004000000 (.write [1] none)) ∧
    (Admits (framed .running) 0x600200000300 (.read 8 none) ∧ ¬ Admits (framed .running) 0x600200000308 (.write [1] none) ∧
     Admits (framed .await) 0x600200000308 (.write [1] none) ∧ ¬ Admits (framed .running) 0x600200000318 (.read 8 none)) ∧
    (Admits (framed .running) 0x600200008040 (.write (List.replicate 128 0) none) ∧ PacketOk 0x600200008040 (.write (List.replicate 128 0) none) ∧
     ¬ Admits (framed .running) 0x600200008041 (.write (List.replicate 128 0) none) ∧
     (after (exec (.fabricRequest 3 0x600200008040 (.write (List.replicate 128 0) none)) (framed .running))).map (fun u => u.net.length) = some 1) ∧
    (framed .running).ecc = [] ∧ ((framed .running).frameRead 0x40010).ecc = [] ∧
    (after (exec (.fabricRequest 3 0x40010 (.write [1, 2] none)) { framed .running with ecc := [(0x10000000, false)] })).map (fun u => (u.ecc, u.net.length)) =
      some ([], 1) ∧
    ((framed .running).mc.fexcl.getLsbD 4 = true ∧ RingOff (framed .running) ∧
     (after (exec (.fabricRequest 4 0x40010 (.write [1] none)) (framed .running))).map (fun u => u.mc.mring.held.map (·.arg)) =
       some [BitVec.ofNat 64 (6 + (2 ^ 32 + 4) * 2 ^ 16)]) := by and_intros <;> decide +kernel

/-- The clock unlocked since time 0, a port up and an offset to be slewed. -/
def drifting (now : Nat) (slew : Int) : State :=
  { near with now, mc := { near.mc with locked := false, unlockedSince := 0, fports := 1, slew } }

theorem witness_TimeIsKept : (drifting 0 0).mc.fports ≠ 0 ∧
    (after (exec (.timeMessage (-4)) (drifting 0 0))).map (fun u => (u.mc.slew, u.mc.locked)) = some (-4, true) ∧
    (after (exec (.timeMessage 5) (drifting 0 0))).map (fun u => (u.mc.slew, u.mc.locked)) = some (5, false) ∧
    near.mc.lost = false ∧ RingOff near ∧ 0 + 2 ^ 20 ≤ (drifting (2 ^ 20) 0).now ∧
    (after (exec .clockLockLost (drifting (2 ^ 20) 0))).map (fun u => (u.mc.lost, u.mc.mring.held.map (·.arg))) = some (true, [8]) ∧
    (after (exec .clockLockLost (drifting (2 ^ 20 - 1) 0))).map (·.mc.lost) = some false ∧
    { drifting 0 10 with delays := [1023] }.tick.mc.slew = 6 ∧ { drifting 0 10 with delays := [1023] }.tick.clk = near.clk + 1028 ∧
    { drifting 0 (-10) with delays := [1023] }.tick.clk = near.clk + 1020 ∧
    (let s : State := { drifting 0 10 with mc := { (drifting 0 10).mc with slewRest := 255 } }
     s.delays = [] ∧ (s.tick.mc.slew, s.tick.mc.slewRest) = (9, 0)) ∧ (drifting 0 10).tick.mc.slewRest = 1 := by
  and_intros <;> decide +kernel

/-- A contribution of 5 to the word at 0x400040, as a sum, and a round of 7 open there since time 0. -/
def aPart (merged : Nat) : Req := { atHome .bulk (.reduction 2 0 3 merged 5) with src := .fabric 3, lid := 0 }
def reducing (merged : Nat) (rounds : List Round) (now : Nat) : State := { homed .bulk (.store []) with net := [aPart merged], rounds, now }
def anOpen : Round := ⟨2, 0x400040, 0, 3, 2, 7, [], 0⟩

theorem witness_ReductionsAreApplied :
    ((reducing 2 [] 0).req? 0 = some (aPart 2) ∧ (aPart 2).arrived = true ∧ (reducing 2 [] 0).gate (aPart 2) = .go 0x400040 ∧
     (after (exec (.reductionPacket 0) (reducing 2 [] 0))).map (fun u => u.rounds.map fun p => (p.got, p.value)) = some [(2, 5)]) ∧
    ((reducing 1 [anOpen] 0).gate (aPart 1) = .go 0x400040 ∧ anOpen.count ≤ anOpen.got + 1 ∧ (reducing 1 [anOpen] 0).ecc = [] ∧
     Memory.wf (reducing 1 [anOpen] 0).mem = true ∧
     (after (exec (.reductionPacket 0) (reducing 1 [anOpen] 0))).map (fun u => (u.peekN 0x400040 8, u.rounds)) = some (0x030201 + 12, [])) ∧
    ((reducing 1 [anOpen] 0).roundHeld 0x400040 = false ∧
     (after (exec (.reductionTimeout 2 0x400040) (reducing 1 [anOpen] (2 ^ 20)))).map (fun u => (u.peekN 0x400040 8, u.rounds, u.mc.mring.held.map (·.arg))) =
       some (0x030201 + 7, [], [BitVec.ofNat 64 (7 + 0x400040 * 2 ^ 16)]) ∧
     (after (exec (.reductionTimeout 2 0x400040) (reducing 1 [anOpen] (2 ^ 20 - 1)))).map (fun u => u.rounds.length) = some 1) := by
  and_intros <;> decide +kernel

/-- The machine before a boot step. -/
def booting (b : Boot) : State := { near with ecc := [(8, true)], mc := { near.mc with boot := b } }

theorem witness_ResetStartsOver : (after (exec .reset near)).map (fun u => (u.launches.length, u.focus.state, u.mc.boot, u.mc.lcs)) =
      some (0, .free, .wipe, 2) ∧ near.off = false ∧
    (after (step (booting .wipe))).map (fun u => (u.mem.length, u.ecc.length, u.mc.boot)) = some (0, 0, .selftest) ∧
    (booting .selftest).mc.boot = .selftest := by and_intros <;> decide +kernel

/-- An image delivered with its magic number wrong, or right but no further. -/
def delivered (magic : Nat) : State :=
  { near.pokeBytes 0x400000000000 (leBytes 4 magic) with mc := { near.mc with boot := .checking, fwgo := 3373 } }

theorem witness_ImagesAreChecked : OnPage (framed .await) 0x600200000308 .fwgo 3373 ∧ OnPage (framed .running) 0x600200000308 .fwgo 3373 ∧
    (after (exec (.fwgo 0) (storing (framed .await) 0x600200000308 (leBytes 8 3373)))).map (fun u => (u.mc.boot, u.mc.fwgo)) = some (.checking, 3373) ∧
    (after (exec (.fwgo 0) (storing (framed .running) 0x600200000308 (leBytes 8 3373)))).map (·.mc.boot) = some .running ∧
    ((delivered 1).mc.boot = .checking ∧ Memory.wf (delivered 1).mem = true ∧
     (after (exec .imageCheck (delivered 1))).map (fun u => (u.mc.boot, u.mc.reject, u.peek 0x400000000000 4)) = some (.await, 1, [0, 0, 0, 0])) ∧
    ((framed .running).mc.boot ≠ .checking ∧ (after (exec .imageCheck (framed .running))).map (·.mc.boot) = some .running) := by
  and_intros <;> decide +kernel

theorem witness_ImagesAreRefused : ¬ ImageOk (delivered 1) (Header.ofBytes ((delivered 1).peek 0x400000000000 64)) :=
  fun h => absurd h.1 (by decide +kernel)

/-- A complete image of either kind, which passes if the vendor's signature on it is good. -/
def complete : State := { delivered 0x4D445242 with mc := { (delivered 0x4D445242).mc with lcs := 2, svn := 0 } }

theorem witness_ImagesMayPass : complete.mc.fwgo = 64 + 0 + 3309 ∧ complete.mc.svn.toNat = 0 ∧ complete.mc.lcs.toNat + 1 = 3 := by
  and_intros <;> decide +kernel

theorem witness_ImagesPass : ∀ kind, kind ≤ 1 → shake256 Config.vendorKey = Config.vendorDigest →
    dsaVerify Config.vendorKey (shake256 (complete.peek 0x400000000000 (64 + 0))) (complete.peek (0x400000000000 + 64 + 0) 3309) = true → ImageOk complete ⟨0x4D445242, kind, 0, 0, 0, 3, Config.serial.toNat, true⟩ :=
  fun _ hk hd hs => ⟨rfl, hk, rfl, witness_ImagesMayPass.1, by rw [witness_ImagesMayPass.1]; decide, hd, hs,
    by rw [witness_ImagesMayPass.2.1], fun _ => ⟨rfl, witness_ImagesMayPass.2.2.symm⟩⟩

/-- A quote request's bytes. -/
def quoteBytes (dst : Nat) : List Byte := leBytes 32 9 ++ leBytes 8 dst ++ List.replicate 24 0

theorem witness_QuotesAreWritten :
    (let s := framed .running
     (storing s 0x600200008080 (quoteBytes 0x40010)).gate (pageStore 0x600200008080 (quoteBytes 0x40010)) = .go 0x600200008080 ∧
     onPage 0x600200008080 = true ∧ pageReg 0x600200008080 = .qreq ∧ (quoteBytes 0x40010).length = 64 ∧ numAt (quoteBytes 0x40010) 32 8 = 0x40010 ∧
     isPlain 0x40010 = true ∧ s.frameEntry 0x40010 % 2 = 1 ∧ (∀ b ∈ (quoteBytes 0x40010).drop 40, b = 0) ∧ s.mc.lcs = 2 ∧ s.mc.quote = none ∧
     (after (exec (.qreq 0) (storing s 0x600200008080 (quoteBytes 0x40010)))).map (fun u => u.mc.quote.map (·.2)) = some (some 0x40010)) ∧
    (0x40014 % 8 ≠ 0 ∧ RingOff (framed .running) ∧
     (after (exec (.qreq 0) (storing (framed .running) 0x600200008080 (quoteBytes 0x40014)))).map (fun u => (u.mc.quote, u.mc.mring.held.map (·.arg))) =
       some (none, [BitVec.ofNat 64 (5 + 64 * 2 ^ 16)])) ∧
    (framed .running).holds = [] ∧ (∀ i < 3501, isPlain (0x40010 + i) = true) := by
  refine ⟨⟨?_, ?_, ?_, ?_, ?_, ?_, ?_, ?_, ?_, ?_, ?_⟩, ⟨?_, ?_, ?_⟩, ?_, fun i hi => ?_⟩
  on_goal 16 => simp only [isPlain, phys, if_pos (show 0x40010 + i < 2 ^ 41 by omega), if_pos (show (0x40010 + i) % 2 ^ 31 < 2000000000 by omega)]
  all_goals decide +kernel

theorem witness_PowerIsLost : 23 ∉ near.blades ∧ near.blades = [] ∧
    (after (exec (.bladeFailure 23) near)).map (fun u => (u.blades, u.off)) = some ([23], false) ∧
    (after (exec (.bladeFailure 23) { near with blades := [1, 2] })).map (·.off) = some true ∧
    (after (exec (.thermalPowerOff 3) near)).map (·.off) = some true ∧
    (after (step { near with off := true, agenda := [.event .reset] })).map (·.off) = some false := by and_intros <;> decide +kernel

/-- The same with the placed launch in fabric group 7. -/
def grouped7 : State := { framed .running with launches := [{ placedLaunch with info := { placedRec with fbid := 7, fbn := 2 } }] }

theorem witness_PartnersPackets :
    ((framed .running).mc.fexcl.getLsbD 3 = false ∧ (framed .running).mc.fports.getLsbD 3 = true ∧ (grouped7.launches.any fun l => l.info.fbid = 7) = true ∧
     (after (exec (.fabricRequest 3 0x40010 (.close 7 4)) grouped7)).map (·.fbCloses) = some [(7, 4)]) ∧
    (Admits grouped7 0x40010 (.write [1, 2] (some ⟨5 * 2 ^ 24, 9, 3, 2, 7⟩)) ∧
     (after (exec (.fabricRequest 3 0x40010 (.write [1, 2] (some ⟨5 * 2 ^ 24, 9, 3, 2, 7⟩))) grouped7)).map
       (fun u => u.net.map fun r => (r.cls, r.fbid, r.superstep)) = some [(.held, 7, 5)]) ∧
    ((∀ p ∈ [anOpen], (aPart 1).id ∉ p.ids) ∧ ((reducing 1 [anOpen] 0).net.map (·.id)).Nodup) := by and_intros <;> decide +kernel

theorem witness_OutgoingReductionsStay :
    (let r : Req := { aPart 1 with src := .hart near.focus.id, via := some 3 }
     let s : State := { windows with net := [r] }
     r.arrived = true ∧ s.gate r = .go (2 ^ 50 + 3 * 2 ^ 47 + 0x40) ∧
     (after (exec (.reductionPacket 0) s)).map (fun u => (u.rounds, u.net.map (·.phase))) = some ([], [.atHome])) := by and_intros <;> decide +kernel
/-! ### Witnesses: fetching, decoding and the step -/

/-- A word or halfword placed for the next step. -/
def placed (w : Nat) : State := State.reset.withFetchWord 32 w

/-- The halfwords of a fetch, or how it fails. -/
def halves (f : Fetched) : Option (BitVec 16 × BitVec 16) ⊕ (Word × Bool × W32) :=
  match f with
  | .word lo hi _ => .inl (some (lo, hi))
  | .wait => .inl none
  | .fail a st iw _ => .inr (a, st, iw)

/-- The placed thread elsewhere. -/
def lost : State := (placed 0).mapFocus fun t => { t with pc := 0x0100000070000000 }

theorem witness_StepRunsDecodedWord : ((placed 0x004A6381).off = false ∧ (placed 0x004A6381).booting = false ∧ (placed 0x004A6381).agenda = []) ∧ MayIssue (turned (placed 0x004A6381)) ∧
    halves (turned (placed 0x004A6381)).fetch = .inl (some (0x6381, 0x004A)) ∧
    decodeHalves 0x6381 0x004A = .instr (.add ⟨false, 0⟩ 5 6 7) 0x004A6381 4 ∧
    (after (step (placed 0x004A6381))).map (fun u => (u.focus.pc, u.focus.iword)) = some (0x0100000000000004, 0x004A6381) ∧
    (MayIssue (turned (placed 0xFFFFFFFF)) ∧ halves (turned (placed 0xFFFFFFFF)).fetch = .inl (some (0xFFFF, 0xFFFF)) ∧
     decodeHalves 0xFFFF 0xFFFF = .reserved 0xFFFFFFFF 4) ∧
    (lost.off = false ∧ lost.booting = false ∧ lost.agenda = [] ∧ MayIssue (turned lost) ∧ halves (turned lost).fetch = .inr (0x0100000070000000, false, 0)) ∧
    (let s : State := { near with agenda := [.event (.scrub 8), .issue near.focus.id] }
     s.off = false ∧ s.booting = false ∧ (Instr.scrub 8).happens = true ∧ (after (step s)).map (·.agenda) = some [.issue near.focus.id]) ∧
    MayIssue (turned { placed 0x004A6381 with agenda := [.issue near.focus.id] }) := by
  refine ⟨⟨?_, ?_, ?_⟩, ?_, ?_, ?_, ?_, ⟨?_, ?_, ?_⟩, ⟨?_, ?_, ?_, ?_, ?_⟩, ⟨?_, ?_, ?_, ?_⟩, ?_⟩ <;> decide +kernel

theorem witness_FetchReadsMemory : (∀ w ∈ [0x004A6381, 0xF800], (placed w).focus.rep = none ∧ (placed w).focus.troupe = none ∧
      (placed w).focus.pc.toNat / 2 ^ 48 = 0x0100 ∧ (placed w).icache = [] ∧
      (placed w).xlatWalk (placed w).focus.space ((placed w).focus.pc.toNat % 2 ^ 48) .fetch = .hit 0 ∧
      (placed w).xlatWalk (placed w).focus.space (((placed w).focus.pc + 2).toNat % 2 ^ 48) .fetch = .hit 2) ∧
    halves (placed 0x004A6381).fetch = .inl (some (0x6381, 0x004A)) ∧ halves (placed 0xF800).fetch = .inl (some (0xF800, 0)) ∧
    lost.xlatWalk lost.focus.space (lost.focus.pc.toNat % 2 ^ 48) .fetch = .fail 0x06 := by and_intros <;> decide +kernel

theorem witness_StepsKeepMemoryCanonical : Memory.wf (placed 0x004A6381).mem = true ∧ (after (step (placed 0x004A6381))).isSome = true := by
  and_intros <;> decide +kernel

theorem witness_DecodingInvertsEncoding : (Instr.add ⟨false, 0⟩ 5 6 7).wellFormed = true ∧ encode (.add ⟨false, 0⟩ 5 6 7) = some [0x6381, 0x004A] ∧
    decode [0x6381, 0x004A] = some (.add ⟨false, 0⟩ 5 6 7) ∧ State.reset.off = false := by and_intros <;> decide +kernel

/-- The leader of a troupe at a NOP.N in its slot 2, while the member to its east stands at a BSWAP in slot 0, of the same cycle, with b1 empty. -/
def ringed : State :=
  { troupe with
    mem := (placed 0xB000).mem, mc := (placed 0xB000).mc, off := false, agenda := []
    focus := { former 0 with troupe := some 0, wait := none, slotNo := 2, pc := 0x0100000000000000 }
    parked := [{ former 1 with troupe := some 0, wait := none, tpos := 1 }]
    troupes := [(0, ⟨0, 0, 0, 2, 2, [some (former 0).id, some (former 1).id],
      [⟨0, ((encode (.bswap g0)).map fun hs => (hs.getD 1 0 ++ hs.getD 0 0 : W32)).getD 0, 4, 4, false, none⟩, ⟨4, 0xB000, 2, 6, false, none⟩], none, none, []⟩)] }

theorem witness_CyclesStallTogether :
    (ringed.off = false ∧ ringed.booting = false ∧ ringed.agenda = [] ∧ (turned ringed).ready (turned ringed).focus = true ∧
     (turned ringed).quantumDue = false ∧ (turned ringed).focus.pend = [] ∧ (turned ringed).slotOpen (turned ringed).focus = true) ∧
    (turned ringed).cycleMembers.map (·.id) = [(former 1).id] ∧ (turned ringed).cycleStalled runDecoded = true ∧
    ((turned ringed).stallOf runDecoded (former 1).id).map (fun t => t.wait.map (·.1)) = some (some .swap) ∧
    (after (step ringed)).map (fun u => (u.focus.slotNo, (u.hart (former 1).id).wait.map (·.1), (u.hart (former 1).id).slotNo)) =
      some (2, some .swap, 0) ∧
    (let s := ringed.mapFocus fun t => { t with slotNo := 3 }
     (turned s).slotOpen (turned s).focus = false ∧
     (after (step s)).map (fun u => (u.focus.slotNo, (u.hart (former 1).id).wait.isNone)) = some (3, true)) := by
  and_intros <;> decide +kernel

/-- The placed thread where its page's memory is charged to a slot of weight 0. -/
def unserved : State := { placed 0x004A6381 with units := [(0, { ChUnit.fresh with
  shares := Vector.replicate 16 (true, 0), inRound := Vector.replicate 16 (true, 0) })] }

theorem witness_FetchesWait : MayIssue (turned unserved) ∧ unserved.booting = false ∧ halves (turned unserved).fetch = .inl none ∧
    (after (step unserved)).map (fun u => (u.focus.pc, u.focus.wait.isSome)) = some (0x0100000000000000, true) ∧
    (State.payAll 0 ((placed 0x004A6381).walkCharges 0 0 ++ chargesOf [(0, 2)]) (placed 0x004A6381)).isSome = true := by
  and_intros <;> decide +kernel

/-- The placed thread whose word has an uncorrectable error; and one that waits already where its fetch has to. -/
def broken : State := { contained (placed 0x004A6381) with ecc := [(0, true)] }
def waitsOn : State := { unserved with focus := { unserved.focus with wait := some (.barrier 3, 0) } }

theorem witness_FetchesStopAndWait : MayIssue (turned broken) ∧ broken.booting = false ∧ halves (turned broken).fetch = .inl (some (0x6381, 0x004A)) ∧
    (match (turned broken).fetch with | .word _ _ s' => decide (s'.focus.stage = .active) | _ => true) = false ∧
    (after (step broken)).map (fun u => (u.focus.stage, u.focus.pc)) = some (.aborted, 0x0100000000000000) ∧
    (halves (turned waitsOn).fetch = .inl none ∧ ((turned waitsOn).focus.wait.map (·.1)) = some (.barrier 3) ∧
     (after (step waitsOn)).map (fun u => u.focus.wait.map (·.1)) = some (some (.barrier 3))) := by and_intros <;> decide +kernel

/-- Two thread sets of a core, the running one with a WFE that waits, with its latch or without. -/
def dozing (latch : Bool) : State :=
  { (placed 0x0BC00007).mapFocus fun t => { t with wait := some (.event, 0), latch } with parked := twoSets.parked, streaks := [(⟨0, 0, 0⟩, (0, 3))] }

theorem witness_TurnsAreGiven : (∀ l ∈ [false, true], ∀ n ∈ [1, 2, 3], ((dozing l).hart (.thread ⟨0, 0, 0⟩ n)).wait = none) ∧
    ((twoSets.turnTo runDecoded (.thread ⟨0, 0, 0⟩ 2)).focus.id = (twoSets.giveTurn (.thread ⟨0, 0, 0⟩ 2)).focus.id) ∧
    ((dozing false).turnTo runDecoded (.thread ⟨0, 0, 0⟩ 0)).focus.id = .thread ⟨0, 0, 0⟩ 2 ∧
    ((dozing true).turnTo runDecoded (.thread ⟨0, 0, 0⟩ 0)).focus.id = .thread ⟨0, 0, 0⟩ 0 ∧
    ((near.turnTo runDecoded (.porter 0 3)).focus.id = .porter 0 3) := by and_intros <;> decide +kernel

/-- A YIELD before a WFE of another thread set of the core, whose latch is set. -/
def rousing (latch : Bool) : State :=
  let s := State.reset.withFetchWord 64 (((encode (.yield g0)).map fun hs => (hs.getD 1 0 ++ hs.getD 0 0 : W32).toNat).getD 0 + 0x0BC00007 * 2 ^ 32)
  { s with parked := [{ s.focus with id := .thread ⟨0, 0, 0⟩ 2, pc := s.focus.pc + 4, wait := some (.event, 0), latch }] }

theorem test_yield_sees_a_wait_that_is_over :
    (after (step (rousing true))).map (fun u => (u.focus.id, u.focus.wait.isNone)) = some (.thread ⟨0, 0, 0⟩ 2, true) ∧
    (after (step (rousing false))).map (fun u => u.focus.id) = some (.thread ⟨0, 0, 0⟩ 0) := by and_intros <;> decide +kernel

/-! ### Decoding, one word of every instruction

The fields of each word stand apart: "not", the guard, the major and then those of the format. Where an instruction stands in an example of
the spec, the word is that example's. -/

theorem test_decode_add : ∀ e ∈ ([
      (0b0_000_000001_00111_00101_00110_000000_1, .add ⟨false, 0⟩ 7 5 6),
      (0b0_000_000001_00101_00110_00111_000001_1, .sub ⟨false, 0⟩ 5 6 7),
      (0b0_000_000001_00101_00110_00111_000010_1, .and ⟨false, 0⟩ 5 6 7),
      (0b0_000_000001_00101_00110_00111_000011_1, .or ⟨false, 0⟩ 5 6 7),
      (0b0_000_000001_00101_00110_00111_000100_1, .xor ⟨false, 0⟩ 5 6 7),
      (0b0_000_000001_00101_00110_00111_000101_1, .andn ⟨false, 0⟩ 5 6 7),
      (0b0_000_000001_00101_00110_00111_000110_1, .sll ⟨false, 0⟩ 5 6 7),
      (0b0_000_000001_00101_00110_00111_000111_1, .srl ⟨false, 0⟩ 5 6 7),
      (0b0_000_000001_01001_01010_01011_001000_1, .sra ⟨false, 0⟩ 9 10 11),
      (0b0_000_000001_00101_00110_00111_001001_1, .ror ⟨false, 0⟩ 5 6 7),
      (0b0_000_000001_00101_00110_00111_001010_1, .slt ⟨false, 0⟩ 5 6 7),
      (0b0_000_000001_00101_00110_00111_001011_1, .sltu ⟨false, 0⟩ 5 6 7)] : List (W32 × Instr)), decode32 e.1 = some e.2 := by decide +kernel

theorem test_decode_min : ∀ e ∈ ([
      (0b0_000_000001_00101_00110_00111_001100_1, .min ⟨false, 0⟩ 5 6 7),
      (0b0_000_000001_00101_00110_00111_001101_1, .max ⟨false, 0⟩ 5 6 7),
      (0b0_000_000001_00101_00110_00111_001110_1, .minu ⟨false, 0⟩ 5 6 7),
      (0b0_000_000001_00101_00110_00111_001111_1, .maxu ⟨false, 0⟩ 5 6 7),
      (0b0_000_000001_00101_00110_00111_010000_1, .addsh1 ⟨false, 0⟩ 5 6 7),
      (0b0_000_000001_00101_00110_00111_010001_1, .addsh2 ⟨false, 0⟩ 5 6 7),
      (0b0_000_000001_00101_00110_00111_010010_1, .addsh3 ⟨false, 0⟩ 5 6 7),
      (0b0_000_000001_00101_00110_00000010011_1, .clz ⟨false, 0⟩ 5 6),
      (0b0_000_000001_00101_00110_00000010100_1, .ctz ⟨false, 0⟩ 5 6),
      (0b0_000_000001_00101_00110_00000010101_1, .popc ⟨false, 0⟩ 5 6),
      (0b0_000_000001_00101_00110_00000010110_1, .byterev ⟨false, 0⟩ 5 6),
      (0b0_000_000001_00101_00110_00000010111_1, .sextw ⟨false, 0⟩ 5 6)] : List (W32 × Instr)), decode32 e.1 = some e.2 := by decide +kernel

theorem test_decode_zextw : ∀ e ∈ ([
      (0b0_000_000001_00101_00110_00000011000_1, .zextw ⟨false, 0⟩ 5 6),
      (0b0_010_000001_00101_00110_00111_011001_1, .addw ⟨false, 2⟩ 5 6 7),
      (0b0_000_000001_00101_00110_00111_011010_1, .subw ⟨false, 0⟩ 5 6 7),
      (0b0_000_000010_00101_00110_00111_000000_1, .mul ⟨false, 0⟩ 5 6 7),
      (0b0_000_000010_00101_00110_00111_000001_1, .mulh ⟨false, 0⟩ 5 6 7),
      (0b0_000_000010_00101_00110_00111_000010_1, .mulhu ⟨false, 0⟩ 5 6 7),
      (0b0_000_000010_00101_00110_00111_000011_1, .mulhsu ⟨false, 0⟩ 5 6 7),
      (0b0_000_000010_00101_00110_00111_000100_1, .div ⟨false, 0⟩ 5 6 7),
      (0b0_000_000010_01000_01001_01010_000101_1, .divu ⟨false, 0⟩ 8 9 10),
      (0b0_000_000010_00101_00110_00111_000110_1, .rem ⟨false, 0⟩ 5 6 7),
      (0b0_000_000010_00101_00110_00111_000111_1, .remu ⟨false, 0⟩ 5 6 7),
      (0b0_000_000011_10100_01011_00000100000_1, .addi ⟨false, 0⟩ 20 11 32)] : List (W32 × Instr)), decode32 e.1 = some e.2 := by decide +kernel

theorem test_decode_andi : ∀ e ∈ ([
      (0b0_000_000100_00101_00101_00011111111_1, .andi ⟨false, 0⟩ 5 5 255),
      (0b0_000_000101_00101_00110_00000001001_1, .ori ⟨false, 0⟩ 5 6 9),
      (0b0_000_000110_00101_00110_00000001001_1, .xori ⟨false, 0⟩ 5 6 9),
      (0b0_000_000111_00101_00110_00000001001_1, .slti ⟨false, 0⟩ 5 6 9),
      (0b0_000_001000_00101_00110_11111111111_1, .sltiu ⟨false, 0⟩ 5 6 2047),
      (0b0_000_001001_00101_00110_00000_001001_1, .slli ⟨false, 0⟩ 5 6 9),
      (0b0_000_001001_00101_00110_00100_001001_1, .srli ⟨false, 0⟩ 5 6 9),
      (0b0_000_001001_00101_00110_01000_000011_1, .srai ⟨false, 0⟩ 5 6 3),
      (0b0_000_001001_00101_00110_01100_001000_1, .rori ⟨false, 0⟩ 5 6 8),
      (0b0_000_001010_01000_0100000000000000_1, .li ⟨false, 0⟩ 8 16384),
      (0b0_000_001011_01000_0000000000000010_1, .lis ⟨false, 0⟩ 8 2),
      (0b0_000_001100_00101_1111111111111111_1, .addpc ⟨false, 0⟩ 5 65535)] : List (W32 × Instr)), decode32 e.1 = some e.2 := by decide +kernel

theorem test_decode_cmp : ∀ e ∈ ([
      (0b0_000_001101_10_001_00101_00110_000_110_1, .cmp ⟨false, 0⟩ 2 1 5 6 0 6),
      (0b0_000_001110_01_001_00111_00000_010_000_1, .cmpi ⟨false, 0⟩ 1 1 7 0 2 0),
      (0b0_000_001111_00_001_00_010_00_011_000000_1, .pand ⟨false, 0⟩ 1 2 3),
      (0b0_000_001111_00_001_00_010_00_011_000001_1, .por ⟨false, 0⟩ 1 2 3),
      (0b0_000_001111_00_001_00_010_00_011_000010_1, .pxor ⟨false, 0⟩ 1 2 3),
      (0b0_000_001111_00_001_00_010_00_011_000011_1, .pandn ⟨false, 0⟩ 1 2 3),
      (0b0_000_001111_00_001_00_010_00_011_000100_1, .porn ⟨false, 0⟩ 1 2 3),
      (0b0_000_001111_00_001_00_010_00000000101_1, .pnot ⟨false, 0⟩ 1 2),
      (0b0_000_001111_00_100_01001_00000001000_1, .pfromx ⟨false, 0⟩ 4 9),
      (0b0_000_001111_00101_00_010_00000001001_1, .ptox ⟨false, 0⟩ 5 2),
      (0b0_000_001111_00_010_00_101_00000001010_1, .pfirst ⟨false, 0⟩ 2 5),
      (0b0_000_001111_00110_00_001_00000001011_1, .pcnt ⟨false, 0⟩ 6 1)] : List (W32 × Instr)), decode32 e.1 = some e.2 := by decide +kernel

theorem test_decode_fcmp : ∀ e ∈ ([
      (0b0_000_010000_01_011_0_0001_0_0010_000_001_1, .fcmp ⟨false, 0⟩ 1 3 1 2 0 1),
      (0b0_000_010001_10_101_00111_01000_110_100_1, .vcmp ⟨false, 0⟩ 2 5 7 8 6 4),
      (0b0_000_010010_01_001_00010_00001_010_001_1, .vfcmp ⟨false, 0⟩ 1 1 2 1 2 1),
      (0b1_001_010011_000000000000000000011_1, .j ⟨true, 1⟩ 3),
      (0b0_000_010100_000000000000010000000_1, .jal ⟨false, 0⟩ 128),
      (0b0_000_010101_00001_10100_00000000100_1, .jalr ⟨false, 0⟩ 1 20 4),
      (0b0_000_010110_00101_1111111111111000_1, .djnz ⟨false, 0⟩ 5 65528),
      (0b0_000_010111_00000_01001_0001_011_0000_1, .rep ⟨false, 0⟩ 9 1 3),
      (0b0_000_011000_00000_00101_00110_000000_1, .trpForm ⟨false, 0⟩ 5 6),
      (0b0_000_011000_000000000000000000001_1, .trpSplit ⟨false, 0⟩),
      (0b0_000_011000_00111_0000000000000010_1, .trpPos ⟨false, 0⟩ 7),
      (0b0_000_011000_00111_0000000000000011_1, .trpWidth ⟨false, 0⟩ 7)] : List (W32 × Instr)), decode32 e.1 = some e.2 := by decide +kernel

theorem test_decode_ld : ∀ e ∈ ([
      (0b0_000_011001_00111_01011_0001000_10_00_1, .ld ⟨false, 0⟩ 7 11 8 2 0),
      (0b0_000_011010_00110_01011_0000011_00_00_1, .ldu ⟨false, 0⟩ 6 11 3 0 0),
      (0b0_000_011011_00111_01011_0000011_01_01_1, .st ⟨false, 0⟩ 7 11 3 1 1),
      (0b0_000_011100_00101_10101_0000001_10_11_1, .sto ⟨false, 0⟩ 5 21 1 2 3),
      (0b0_000_011101_0_0100_01011_0000011_10_00_1, .fld ⟨false, 0⟩ 4 11 3 2 0),
      (0b0_000_011110_0_0010_10100_0000001_00_01_1, .fst ⟨false, 0⟩ 2 20 1 0 1),
      (0b0_000_011111_00001_01011_0000000_0_0_00_1, .vld ⟨false, 0⟩ 1 11 0 0 0),
      (0b0_001_100000_00001_10100_0000000_0_1_00_1, .vst ⟨false, 1⟩ 1 20 0 1 0),
      (0b0_000_100001_00110_10100_00111_000_10_1_1, .amoAdd ⟨false, 0⟩ 6 20 7 2 1),
      (0b0_000_100001_00101_00110_00111_001_01_0_1, .amoAnd ⟨false, 0⟩ 5 6 7 1 2),
      (0b0_000_100001_00101_00110_00111_010_01_0_1, .amoOr ⟨false, 0⟩ 5 6 7 1 2),
      (0b0_000_100001_00101_00110_00111_011_01_0_1, .amoXor ⟨false, 0⟩ 5 6 7 1 2)] : List (W32 × Instr)), decode32 e.1 = some e.2 := by decide +kernel

theorem test_decode_amoMin : ∀ e ∈ ([
      (0b0_000_100001_00101_00110_00111_100_01_0_1, .amoMin ⟨false, 0⟩ 5 6 7 1 2),
      (0b0_000_100001_00000_10100_00111_101_00_1_1, .amoMax ⟨false, 0⟩ 0 20 7 0 1),
      (0b0_000_100001_00101_00110_00111_110_01_0_1, .amoSwap ⟨false, 0⟩ 5 6 7 1 2),
      (0b0_000_100001_00101_10100_00110_111_01_0_1, .amoCas ⟨false, 0⟩ 5 20 6 1 0),
      (0b0_000_100010_000000000000000_100_000_1, .fence ⟨false, 0⟩ 4),
      (0b0_000_100010_000000000000000_010_001_1, .fenceSt ⟨false, 0⟩ 2),
      (0b0_000_100010_000000000000000_001_010_1, .fenceLd ⟨false, 0⟩ 1),
      (0b0_000_100011_00000_00001_00000000000_1, .sync ⟨false, 0⟩ 1),
      (0b0_000_100011_00000_00010_00000000001_1, .arrive ⟨false, 0⟩ 2),
      (0b0_000_100011_00000_00010_000_01_000010_1, .arrived ⟨false, 0⟩ 2 1),
      (0b0_000_100011_00000_00010_00000000011_1, .wait ⟨false, 0⟩ 2),
      (0b0_000_100011_00000000_10_00100_000100_1, .waitdc ⟨false, 0⟩ 2 4)] : List (W32 × Instr)), decode32 e.1 = some e.2 := by decide +kernel

theorem test_decode_rgn : ∀ e ∈ ([
      (0b0_000_100011_0000000_011_00000000101_1, .rgn ⟨false, 0⟩ 3),
      (0b0_000_100011_000000000000000000110_1, .yield ⟨false, 0⟩),
      (0b0_000_100011_00000_00011_00000000111_1, .phaseX ⟨false, 0⟩ 3),
      (0b0_000_100100_10100_10101_10110_011_1_10_1, .cpy ⟨false, 0⟩ 20 21 22 3 1 2),
      (0b0_000_100101_0_0001_0_0010_0_0011_000_000_1, .fadd ⟨false, 0⟩ 1 2 3 0),
      (0b0_000_100101_0_0101_0_0110_0_0111_001_001_1, .fsub ⟨false, 0⟩ 5 6 7 1),
      (0b0_000_100101_0_0100_0_0101_0_0110_010_010_1, .fmul ⟨false, 0⟩ 4 5 6 2),
      (0b0_000_100101_0_0101_0_0110_0_0111_011_001_1, .fmin ⟨false, 0⟩ 5 6 7 1),
      (0b0_000_100101_0_0101_0_0110_0_0111_100_001_1, .fmax ⟨false, 0⟩ 5 6 7 1),
      (0b0_010_100101_0_0001_0_0010_0_0011_101_000_1, .fdiv ⟨false, 2⟩ 1 2 3 0),
      (0b0_000_100101_0_0111_0_1000_00000110_001_1, .fsqrt ⟨false, 0⟩ 7 8 1),
      (0b0_000_100101_0_0001_0_0010_0_0011_111_000_1, .ffma ⟨false, 0⟩ 1 2 3 0)] : List (W32 × Instr)), decode32 e.1 = some e.2 := by decide +kernel

theorem test_decode_fmvxf : ∀ e ∈ ([
      (0b0_000_100110_00101_0_0010_00000000000_1, .fmvxf ⟨false, 0⟩ 5 2),
      (0b0_000_100110_0_0011_00110_00000000001_1, .fmvfx ⟨false, 0⟩ 3 6),
      (0b0_000_100110_0_0001_00111_00000000010_1, .fcvtFX ⟨false, 0⟩ 1 7),
      (0b0_000_100110_01000_0_0001_00000000011_1, .fcvtXF ⟨false, 0⟩ 8 1),
      (0b0_000_100110_01001_0_0100_00000000101_1, .fkey ⟨false, 0⟩ 9 4),
      (0b0_000_100110_01010_0_0100_00000000110_1, .fclass ⟨false, 0⟩ 10 4),
      (0b0_000_100111_00001_00010_00011_0000_10_1, .vadd ⟨false, 0⟩ 1 2 3 2),
      (0b0_000_100111_00101_00110_00111_0001_01_1, .vsub ⟨false, 0⟩ 5 6 7 1),
      (0b1_011_100111_00001_00010_00011_0010_01_1, .vmul ⟨true, 3⟩ 1 2 3 1),
      (0b0_000_100111_00101_00110_00111_0011_01_1, .vmin ⟨false, 0⟩ 5 6 7 1),
      (0b0_000_100111_00101_00110_00111_0100_01_1, .vmax ⟨false, 0⟩ 5 6 7 1),
      (0b0_000_100111_00101_00110_00111_0101_01_1, .vminu ⟨false, 0⟩ 5 6 7 1)] : List (W32 × Instr)), decode32 e.1 = some e.2 := by decide +kernel

theorem test_decode_vmaxu : ∀ e ∈ ([
      (0b0_000_100111_00101_00110_00111_0110_01_1, .vmaxu ⟨false, 0⟩ 5 6 7 1),
      (0b0_000_100111_00101_00110_00111_0111_01_1, .vand ⟨false, 0⟩ 5 6 7 1),
      (0b0_000_100111_00101_00110_00111_1000_01_1, .vor ⟨false, 0⟩ 5 6 7 1),
      (0b0_000_100111_00101_00110_00111_1001_01_1, .vxor ⟨false, 0⟩ 5 6 7 1),
      (0b0_000_100111_00101_00110_00111_1010_01_1, .vsll ⟨false, 0⟩ 5 6 7 1),
      (0b0_000_100111_00101_00110_00111_1011_01_1, .vsrl ⟨false, 0⟩ 5 6 7 1),
      (0b0_000_100111_00111_01000_01001_1100_01_1, .vsra ⟨false, 0⟩ 7 8 9 1),
      (0b0_000_100111_00001_00010_000001101_00_1, .vabs ⟨false, 0⟩ 1 2 0),
      (0b0_000_100111_00100_00101_00110_1110_00_1, .vadds ⟨false, 0⟩ 4 5 6 0),
      (0b0_000_100111_00101_00110_00111_1111_01_1, .vsubs ⟨false, 0⟩ 5 6 7 1),
      (0b0_000_101000_00001_00010_00011_0000_00_1, .vfadd ⟨false, 0⟩ 1 2 3 0),
      (0b0_000_101000_00101_00110_00111_0001_01_1, .vfsub ⟨false, 0⟩ 5 6 7 1)] : List (W32 × Instr)), decode32 e.1 = some e.2 := by decide +kernel

theorem test_decode_vfmul : ∀ e ∈ ([
      (0b0_000_101000_00101_00110_00111_0010_01_1, .vfmul ⟨false, 0⟩ 5 6 7 1),
      (0b0_000_101000_00101_00110_00111_0011_01_1, .vfmin ⟨false, 0⟩ 5 6 7 1),
      (0b0_000_101000_00101_00110_00111_0100_01_1, .vfmax ⟨false, 0⟩ 5 6 7 1),
      (0b0_000_101000_00100_00101_00110_0101_01_1, .vffma ⟨false, 0⟩ 4 5 6 1),
      (0b0_000_101000_00101_00110_00111_0110_01_1, .vfdiv ⟨false, 0⟩ 5 6 7 1),
      (0b0_000_101000_00111_01000_000000111_10_1, .vfsqrt ⟨false, 0⟩ 7 8 2),
      (0b0_000_101000_00101_00110_000001000_01_1, .vfabs ⟨false, 0⟩ 5 6 1),
      (0b0_000_101000_00001_00010_000001001_00_1, .vfneg ⟨false, 0⟩ 1 2 0),
      (0b0_000_101001_00001_00101_000000000_01_1, .vbcast ⟨false, 0⟩ 1 5 1),
      (0b0_000_101001_00010_0_0011_000000001_01_1, .vbcastf ⟨false, 0⟩ 2 3 1),
      (0b0_000_101001_00101_00010_00110_0010_10_1, .vext ⟨false, 0⟩ 5 2 6 2),
      (0b0_000_101001_00011_00101_00110_0011_00_1, .vins ⟨false, 0⟩ 3 5 6 0)] : List (W32 × Instr)), decode32 e.1 = some e.2 := by decide +kernel

theorem test_decode_vperm : ∀ e ∈ ([
      (0b0_000_101001_00001_00010_00011_0100_00_1, .vperm ⟨false, 0⟩ 1 2 3 0),
      (0b0_000_101001_0_0001_00010_000000101_00_1, .vredadd ⟨false, 0⟩ 1 2 0),
      (0b0_000_101001_0_0010_00011_000000110_01_1, .vredmax ⟨false, 0⟩ 2 3 1),
      (0b0_000_101001_00110_00111_000_10_0111_00_1, .vcvt ⟨false, 0⟩ 6 7 2 0),
      (0b0_000_101001_00001_00010_000001000_00_1, .vkey ⟨false, 0⟩ 1 2 0),
      (0b0_000_101001_00001_00010_000001001_01_1, .vmov ⟨false, 0⟩ 1 2 1),
      (0b0_000_101001_00001_00000000001010_10_1, .vzero ⟨false, 0⟩ 1 2),
      (0b0_000_101001_00001_00000000001011_01_1, .viota ⟨false, 0⟩ 1 1),
      (0b0_001_101010_0000_0_01000_0_0000_000110_1, .mma ⟨false, 1⟩ 0 8 0 6),
      (0b0_000_101011_0000_1_0000000000000000_1, .mz ⟨false, 0⟩ 1),
      (0b0_000_101011_0000_0_10100_000_01_000001_1, .mrdF32 ⟨false, 0⟩ 0 20 1),
      (0b0_000_101011_0000_1_10101_000_00_000010_1, .mrdBf16 ⟨false, 0⟩ 1 21 0)] : List (W32 × Instr)), decode32 e.1 = some e.2 := by decide +kernel

theorem test_decode_mrdF16 : ∀ e ∈ ([
      (0b0_000_101011_0000_0_10100_000_00_000011_1, .mrdF16 ⟨false, 0⟩ 0 20 0),
      (0b0_000_101011_00101_0000_0_00000000100_1, .mexp ⟨false, 0⟩ 5 0),
      (0b0_000_101011_0000_0_00110_00000000101_1, .msete ⟨false, 0⟩ 0 6),
      (0b0_000_101011_0000_0_10100_000_10_000110_1, .mred ⟨false, 0⟩ 0 20 2),
      (0b0_000_101011_0000_0_01011_01001_000111_1, .macc ⟨false, 0⟩ 0 11 9),
      (0b0_000_101011_0000_1_10100_00111_001000_1, .mcvtI8 ⟨false, 0⟩ 1 20 7),
      (0b0_000_101011_00110_01010_00000_001001_1, .geom ⟨false, 0⟩ 6 10 0),
      (0b0_000_101011_0011_0_01010_00000001010_1, .geomg ⟨false, 0⟩ 3 10),
      (0b0_000_101011_0000_0_10100_00111_001011_1, .mcvtI4 ⟨false, 0⟩ 0 20 7),
      (0b0_000_101100_00000_10100_000_01_000000_1, .bld ⟨false, 0⟩ 20 1),
      (0b0_000_101100_000000000000000000001_1, .brot ⟨false, 0⟩),
      (0b0_000_101100_000000000000000000010_1, .bswap ⟨false, 0⟩)] : List (W32 × Instr)), decode32 e.1 = some e.2 := by decide +kernel

theorem test_decode_bst : ∀ e ∈ ([
      (0b0_000_101100_00000_10101_000_00_000011_1, .bst ⟨false, 0⟩ 21 0),
      (0b0_011_101101_0011_0_10100_00000_01_0000_1, .desc ⟨false, 3⟩ 3 20 1),
      (0b0_000_101101_00101_10100_10101_01_0001_1, .bkup ⟨false, 0⟩ 5 20 21 1),
      (0b0_000_101101_00101_10100_10101_00_0010_1, .unmk ⟨false, 0⟩ 5 20 21 0),
      (0b0_000_101101_00101_10100_10110_10_0011_1, .expnd ⟨false, 0⟩ 5 20 22 2),
      (0b0_000_101101_00111_10100_01001_00_0100_1, .nalloc ⟨false, 0⟩ 7 20 9 0),
      (0b0_000_101101_00101_10100_00000_11_0101_1, .rcyc ⟨false, 0⟩ 5 20 3),
      (0b0_000_101101_0100_0_10100_00000_00_0110_1, .nstat ⟨false, 0⟩ 4 20 0),
      (0b0_000_101101_00101_10111_00000_00_0111_1, .ninit ⟨false, 0⟩ 5 23 0),
      (0b0_010_101110_00000_10100_00000_01_0000_1, .nmsend ⟨false, 2⟩ 20 1),
      (0b0_000_101110_00000_10101_00000_00_0001_1, .nmovl ⟨false, 0⟩ 21 0),
      (0b0_000_101110_00000_10100_00000_10_0010_1, .nmrst ⟨false, 0⟩ 20 2)] : List (W32 × Instr)), decode32 e.1 = some e.2 := by decide +kernel

theorem test_decode_ecall : ∀ e ∈ ([
      (0b0_000_101111_000000000000000000000_1, .ecall ⟨false, 0⟩),
      (0b0_000_101111_000000000000000000001_1, .ebreak ⟨false, 0⟩),
      (0b0_001_101111_000000000000000000010_1, .halt ⟨false, 1⟩),
      (0b0_000_101111_000000000000000000011_1, .wfe ⟨false, 0⟩),
      (0b0_000_101111_00000_00101_00000000100_1, .fault ⟨false, 0⟩ 5),
      (0b0_000_101111_000000000000000010000_1, .tret ⟨false, 0⟩),
      (0b0_000_110000_00101_00110_00000000001_1, .csrrw ⟨false, 0⟩ 5 6 1),
      (0b0_000_110001_00110_00000_00000100000_1, .csrrs ⟨false, 0⟩ 6 0 32),
      (0b0_000_110010_00000_00111_00000000001_1, .csrrc ⟨false, 0⟩ 0 7 1),
      (0b0_000_110011_00_110_10101_00000000000_1, .sete ⟨false, 0⟩ 6 21),
      (0b0_000_110011_00101_00_110_00000000001_1, .gete ⟨false, 0⟩ 5 6),
      (0b0_000_110100_00101_00110_00111_0000_11_1, .rand ⟨false, 0⟩ 5 6 7 3)] : List (W32 × Instr)), decode32 e.1 = some e.2 := by decide +kernel

theorem test_decode_narrow : ∀ e ∈ ([
      (0b00001_00101_00110_0, .mvN 5 6),
      (0b00010_00101_00110_0, .addN 5 6),
      (0b00011_00101_00110_0, .subN 5 6),
      (0b00100_00101_00110_0, .andN 5 6),
      (0b00101_00101_00110_0, .orN 5 6),
      (0b00110_00101_00110_0, .xorN 5 6),
      (0b00111_00101_00110_0, .sllN 5 6),
      (0b01000_00101_00110_0, .srlN 5 6),
      (0b01001_00101_00110_0, .sraN 5 6),
      (0b01010_00101_01001_0, .addiN 5 9),
      (0b01011_00101_01001_0, .liN 5 9),
      (0b01100_00101_01001_0, .slliN 5 9),
      (0b01101_00101_01001_0, .srliN 5 9),
      (0b01110_00101_01001_0, .sraiN 5 9),
      (0b01111_00101_00110_0, .ldDN 5 6),
      (0b10000_00101_00110_0, .stDN 5 6),
      (0b10001_00101_00110_0, .ldWN 5 6),
      (0b10010_00101_00110_0, .stWN 5 6),
      (0b10011_00101_00110_0, .vmovN 5 6),
      (0b10100_00000_00110_0, .jrN 6),
      (0b10101_00101_00110_0, .jalrN 5 6),
      (0b10110_00000_00000_0, .nopN),
      (0b10111_00000_00000_0, .haltN)] : List (BitVec 16 × Instr)), decode16 e.1 = some e.2 := by decide +kernel

/-! ### Ill-formed instructions, one for each check; what the encoder would make of each is a reserved word -/

/-- The instruction is refused, and so is its word. -/
def refused (i : Instr) : Bool := !i.wellFormed && ((encode32 i).any fun w => (decode32 w).isNone)

theorem test_guard_not_p0 : refused (.add ⟨true, 0⟩ 5 6 7) = true ∧ refused (.halt ⟨true, 0⟩) = true := by decide +kernel
theorem test_compare_modes : (∀ c ∈ [.cmp g0 3 1 5 6 2 0, .cmpi g0 3 1 5 6 2 0, .fcmp g0 3 1 5 6 2 0, .vcmp g0 3 1 5 6 2 0, .vfcmp g0 3 1 5 6 2 0], refused c = true) := by
  decide +kernel
theorem test_compare_pairs : (∀ c ∈ [.cmp g0 0 1 5 6 1 0, .cmpi g0 0 1 5 6 1 0, .fcmp g0 0 1 5 6 1 0, .vcmp g0 0 1 5 6 1 0, .vfcmp g0 0 1 5 6 1 0], refused c = true) ∧
    (Instr.cmp g0 0 0 5 6 0 0).wellFormed = true := by decide +kernel
theorem test_float_conditions : refused (.fcmp g0 0 1 5 6 2 4) = true ∧ refused (.vfcmp g0 0 1 5 6 2 4) = true := by decide +kernel
theorem test_load_sizes : refused (.ldu g0 5 20 0 3 0) = true ∧ refused (.fld g0 5 20 0 3 0) = true ∧ refused (.fst g0 5 20 0 3 0) = true := by decide +kernel
theorem test_cas_destination : refused (.amoCas g0 0 20 6 0 2) = true := by decide +kernel
theorem test_fence_scopes : ∀ s ∈ [0, 5], refused (.fence g0 s) = true ∧ refused (.fenceSt g0 s) = true ∧ refused (.fenceLd g0 s) = true := by decide +kernel
theorem test_barrier_levels : ∀ l ∈ [0, 5], refused (.sync g0 l) = true ∧ refused (.arrive g0 l) = true ∧ refused (.arrived g0 l 1) = true ∧
    refused (.wait g0 l) = true ∧ refused (.phaseX g0 l) = true := by decide +kernel
theorem test_copy_variants : refused (.cpy g0 20 21 22 7 0 0) = true := by decide +kernel
theorem test_float_types : ∀ c ∈ [.fadd g0 1 2 3 3, .fsub g0 1 2 3 3, .fmul g0 1 2 3 3, .fmin g0 1 2 3 3, .fmax g0 1 2 3 3, .fdiv g0 1 2 3 3, .fsqrt g0 1 2 3,
    .ffma g0 1 2 3 3], refused c = true := by decide +kernel
theorem test_vector_types : ∀ c ∈ [.vadd g0 1 2 3 3, .vabs g0 1 2 3, .vsubs g0 1 2 3 3, .vfadd g0 1 2 3 3, .vfneg g0 1 2 3, .vbcast g0 1 2 3, .vext g0 1 2 3 3,
    .vins g0 1 2 3 3, .vperm g0 1 2 3 3, .vredadd g0 1 2 3, .vkey g0 1 2 3, .vmov g0 1 2 3, .vzero g0 1 3, .viota g0 1 3], refused c = true := by decide +kernel
theorem test_conversions : refused (.vcvt g0 1 2 1 1) = true ∧ refused (.vcvt g0 1 2 3 1) = true ∧ refused (.vcvt g0 1 2 1 3) = true := by decide +kernel
theorem test_matrix_formats : refused (.mma g0 0 20 1 0) = true ∧ refused (.mma g0 0 20 1 7) = true := by decide +kernel


theorem test_shake256_empty : (shake256 []).take 8 = [0x46, 0xB9, 0xDD, 0x2B, 0x0B, 0xA8, 0x8D, 0x13] := by decide +kernel

-- FIPS 204's table of zetas: entries 1 and 2.
theorem test_dsa_zetas : zetaPow (brv8 1) = 4808194 ∧ zetaPow (brv8 2) = 3765607 := by decide +kernel

end Sys2Proof.Tests
end

section
/-! SUPPORT. Numbers in little-endian bytes (R64): a number read at an offset is a slice of the number that all the bytes
make, and what is read back of bytes that were written. -/

namespace Sys2Proof.Machine

theorem ofBytes_append (a b : List Byte) : ofBytes (a ++ b) = ofBytes a + 256 ^ a.length * ofBytes b := by
  induction a with
  | nil => simp [ofBytes]
  | cons x a ih => simp only [List.cons_append, ofBytes, ih, List.length_cons, Nat.pow_succ]; ring

theorem ofBytes_lt (bs : List Byte) : ofBytes bs < 256 ^ bs.length := by
  induction bs with
  | nil => simp [ofBytes]
  | cons b r ih =>
    have hb : b.toNat < 256 := b.isLt
    simp only [ofBytes, List.length_cons, Nat.pow_succ]
    omega

/-- The first bytes make the low part of the number. -/
theorem ofBytes_take (k : Nat) (bs : List Byte) : ofBytes (bs.take k) = ofBytes bs % 256 ^ k := by
  by_cases h : k ≤ bs.length
  · have hlt : ofBytes (bs.take k) < 256 ^ k := by simpa [h] using ofBytes_lt (bs.take k)
    conv_rhs => rw [← List.take_append_drop k bs, ofBytes_append, List.length_take_of_le h]
    rw [Nat.add_mul_mod_self_left, Nat.mod_eq_of_lt hlt]
  · have hlt : ofBytes bs < 256 ^ k := (ofBytes_lt bs).trans_le (Nat.pow_le_pow_right (by decide) (by omega))
    rw [List.take_of_length_le (by omega), Nat.mod_eq_of_lt hlt]

/-- Without its first bytes a number is shifted down. -/
theorem ofBytes_drop (k : Nat) (bs : List Byte) : ofBytes (bs.drop k) = ofBytes bs / 256 ^ k := by
  by_cases h : k ≤ bs.length
  · have hlt : ofBytes (bs.take k) < 256 ^ k := by simpa [h] using ofBytes_lt (bs.take k)
    conv_rhs => rw [← List.take_append_drop k bs, ofBytes_append, List.length_take_of_le h]
    rw [Nat.add_mul_div_left _ _ (by positivity), Nat.div_eq_of_lt hlt, Nat.zero_add]
  · have hlt : ofBytes bs < 256 ^ k := (ofBytes_lt bs).trans_le (Nat.pow_le_pow_right (by decide) (by omega))
    rw [List.drop_of_length_le (by omega), Nat.div_eq_of_lt hlt]; rfl

theorem numAt_eq (bs : List Byte) (o n : Nat) : numAt bs o n = ofBytes bs / 256 ^ o % 256 ^ n := by
  rw [numAt, ofBytes_take, ofBytes_drop]

/-- A field of a number is a slice of it. -/
theorem numAt_slice (bs : List Byte) (o i k n : Nat) (h : i + k ≤ n) :
    numAt bs (o + i) k = numAt bs o n / 256 ^ i % 256 ^ k := by
  obtain ⟨d, rfl⟩ := Nat.exists_eq_add_of_le h
  rw [numAt_eq, numAt_eq, Nat.pow_add, ← Nat.div_div_eq_div_mul, Nat.add_assoc, Nat.pow_add, Nat.mod_mul_right_div_self,
    Nat.pow_add, Nat.mod_mul_right_mod]

theorem numAt_lt (bs : List Byte) (o n : Nat) : numAt bs o n < 256 ^ n := by
  rw [numAt_eq]; exact Nat.mod_lt _ (by positivity)

theorem numAt_drop (bs : List Byte) (m o n : Nat) : numAt (bs.drop m) o n = numAt bs (m + o) n := by
  rw [numAt, List.drop_drop, numAt]

/-- A number that lies behind some bytes. -/
theorem numAt_append_right {a b : List Byte} {o : Nat} (n : Nat) (h : a.length ≤ o) :
    numAt (a ++ b) o n = numAt b (o - a.length) n := by
  rw [numAt, List.drop_append, List.drop_of_length_le h, List.nil_append, numAt]

/-- A number that lies before some bytes. -/
theorem numAt_append_left {a b : List Byte} {o n : Nat} (h : o + n ≤ a.length) : numAt (a ++ b) o n = numAt a o n := by
  rw [numAt, List.drop_append_of_le_length (by omega), List.take_append_of_le_length (by simp; omega), numAt]

@[simp] theorem length_leBytes (n v : Nat) : (leBytes n v).length = n := by
  induction n generalizing v with
  | zero => rfl
  | succ n ih => simp [leBytes, ih]

theorem ofBytes_leBytes (n v : Nat) : ofBytes (leBytes n v) = v % 256 ^ n := by
  induction n generalizing v with
  | zero => simp [leBytes, ofBytes, Nat.mod_one]
  | succ n ih => rw [leBytes, ofBytes, ih, BitVec.toNat_ofNat, pow_succ' 256 n, Nat.mod_mul]

/-- What is read of a number that was written. -/
theorem numAt_leBytes {o k n : Nat} (v : Nat) (h : o + k ≤ n) : numAt (leBytes n v) o k = v / 256 ^ o % 256 ^ k := by
  have hall : numAt (leBytes n v) 0 n = v % 256 ^ n := by
    rw [numAt_eq, ofBytes_leBytes, Nat.pow_zero, Nat.div_one, Nat.mod_mod]
  obtain ⟨d, rfl⟩ := Nat.exists_eq_add_of_le h
  have hslice := numAt_slice (leBytes (o + k + d) v) 0 o k _ h
  rw [Nat.zero_add] at hslice
  rw [hslice, hall, Nat.add_assoc, Nat.pow_add, Nat.mod_mul_right_div_self, Nat.pow_add, Nat.mod_mul_right_mod]

/-- A field behind a written number. -/
theorem numAt_leBytes_append_right {m o : Nat} (v n : Nat) (r : List Byte) (h : m ≤ o) :
    numAt (leBytes m v ++ r) o n = numAt r (o - m) n := by
  rw [numAt_append_right n (by simpa using h), length_leBytes]

/-- A field within a written number. -/
theorem numAt_leBytes_append_left {o k n : Nat} (v : Nat) (r : List Byte) (h : o + k ≤ n) :
    numAt (leBytes n v ++ r) o k = v / 256 ^ o % 256 ^ k := by
  rw [numAt_append_left (by simpa using h), numAt_leBytes v h]

/-- Bytes read one by one are the bytes that stand there. -/
theorem map_byteAt {bs : List Byte} {o n : Nat} (h : o + n ≤ bs.length) :
    (List.range n).map (fun i => byteAt bs (o + i)) = (bs.drop o).take n := by
  refine List.ext_getElem (by simp; omega) fun i hi _ => ?_
  have hi' : o + i < bs.length := by simp at hi; omega
  simp [byteAt, hi']

end Sys2Proof.Machine
end

section
/-! SUPPORT. The layouts of a pool's header, a node and an edge (R273, R275 to R277, R283): each field as a slice of the
doubleword that holds it, and what is read of a node that was written. -/

namespace Sys2Proof.Machine

/-! ### Fields of what is read -/

/-- A one-bit field is a bit of its doubleword. -/
theorem dfield_one (bs : List Byte) (o i : Nat) : decide (dfield bs o i 1 = 1) = (numAt bs o 8).testBit i := by
  rw [dfield, fieldN, Nat.testBit_eq_decide_div_mod_eq, Nat.pow_one]

/-- The upper half of a doubleword. -/
theorem numAt_high (bs : List Byte) (o : Nat) : numAt bs (o + 4) 4 = numAt bs o 8 / 2 ^ 32 := by
  have := numAt_lt bs o 8
  rw [numAt_slice bs o 4 4 8 (by decide)]; omega

/-- The lower half of a doubleword. -/
theorem numAt_low (bs : List Byte) (o : Nat) : numAt bs o 4 = numAt bs o 8 % 2 ^ 32 := by
  simpa using numAt_slice bs o 0 4 8 (by decide)

/-- The highest two bytes of a doubleword. -/
theorem numAt_top (bs : List Byte) (o : Nat) : numAt bs (o + 6) 2 = numAt bs o 8 / 2 ^ 48 := by
  have hlt : numAt bs o 8 < 2 ^ 48 * 2 ^ 16 := numAt_lt bs o 8
  rw [numAt_slice bs o 6 2 8 (by decide)]
  exact Nat.mod_eq_of_lt (Nat.div_lt_of_lt_mul hlt)

theorem sint_32_mod (v : Nat) : sint 32 (v % 2 ^ 32) = (BitVec.ofNat 32 v).toInt := by
  rw [sint]; congr 1; exact BitVec.eq_of_toNat_eq (by simp)

theorem sint_32_numAt (bs : List Byte) (o : Nat) : sint 32 (numAt bs o 4) = (BitVec.ofNat 32 (numAt bs o 8)).toInt := by
  rw [numAt_low, sint_32_mod]

/-- R273: a pool's header by its doublewords. -/
theorem readPool_eq (bs : List Byte) : readPool bs =
    ⟨numAt bs 0 8, numAt bs 8 8 % 2 ^ 32, numAt bs 16 8 % 2 ^ 32, numAt bs 16 8 / 2 ^ 32, numAt bs 24 8, numAt bs 32 8 % 4,
      (numAt bs 32 8).testBit 8, (BitVec.ofNat 32 (numAt bs 32 8 / 2 ^ 32)).toInt, (BitVec.ofNat 32 (numAt bs 40 8)).toInt,
      (BitVec.ofNat 32 (numAt bs 40 8 / 2 ^ 32)).toInt⟩ := by
  rw [readPool, dfield_one, numAt_low bs 8, numAt_low bs 16, numAt_high bs 16, numAt_high bs 32, numAt_high bs 40,
    sint_32_numAt bs 40, sint, sint]
  simp [dfield, fieldN]

/-- R276: an edge by its doublewords. -/
theorem readEdge_eq (bs : List Byte) (e : Nat) : readEdge bs e =
    ⟨(BitVec.ofNat 64 (numAt bs (64 + 32 * e) 8)).toInt, numAt bs (72 + 32 * e) 8 % 2 ^ 32,
      numAt bs (72 + 32 * e) 8 / 2 ^ 32 % 2 ^ 16, numAt bs (72 + 32 * e) 8 / 2 ^ 48, numAt bs (80 + 32 * e) 8,
      numAt bs (88 + 32 * e) 8⟩ := by
  have hf : numAt bs (72 + 32 * e + 4) 2 = numAt bs (72 + 32 * e) 8 / 2 ^ 32 % 2 ^ 16 := numAt_slice bs _ 4 2 8 (by decide)
  rw [readEdge, sint, show 64 + 32 * e + 8 = 72 + 32 * e by omega, show 64 + 32 * e + 12 = 72 + 32 * e + 4 by omega,
    show 64 + 32 * e + 14 = 72 + 32 * e + 6 by omega, show 64 + 32 * e + 16 = 80 + 32 * e by omega,
    show 64 + 32 * e + 24 = 88 + 32 * e by omega, numAt_low, hf, numAt_top]

/-- R275: the byte-sized fields of a node's first doubleword. -/
theorem numAt_word0 (bs : List Byte) :
    numAt bs 0 1 = numAt bs 0 8 % 2 ^ 8 ∧ numAt bs 1 1 = numAt bs 0 8 / 2 ^ 8 % 2 ^ 8 :=
  ⟨by simpa using numAt_slice bs 0 0 1 8 (by decide), by simpa using numAt_slice bs 0 1 1 8 (by decide)⟩

/-- R275: the claimant's fields of a node's second doubleword. -/
theorem numAt_word8 (bs : List Byte) :
    numAt bs 8 2 = numAt bs 8 8 % 2 ^ 16 ∧ numAt bs 10 4 = numAt bs 8 8 / 2 ^ 16 % 2 ^ 32 :=
  ⟨by simpa using numAt_slice bs 8 0 2 8 (by decide), by simpa using numAt_slice bs 8 2 4 8 (by decide)⟩

/-! ### What is read of a node that was written (R275, R276) -/

@[simp] theorem Edge.length_bytes (e : Edge) : e.bytes.length = 32 := by simp [Edge.bytes]

/-- A field within edge i of the edges' bytes. -/
theorem numAt_flatMap_edgeBytes {es : List Edge} {i : Nat} (hi : i < es.length) {o n : Nat} (h : o + n ≤ 32) :
    numAt (es.flatMap Edge.bytes) (32 * i + o) n = numAt es[i].bytes o n := by
  induction es generalizing i with
  | nil => simp at hi
  | cons e es ih =>
    cases i with
    | zero => simpa using numAt_append_left (b := es.flatMap Edge.bytes) (a := e.bytes) (by simpa using h)
    | succ i =>
      rw [List.flatMap_cons, numAt_append_right n (by simp; omega), Edge.length_bytes,
        show 32 * (i + 1) + o - 32 = 32 * i + o by omega, ih (by simpa using hi), List.getElem_cons_succ]

/-- What an edge's fields can hold (R276). -/
def Edge.InRange (e : Edge) : Prop :=
  -(2 ^ 63) ≤ e.w ∧ e.w < 2 ^ 63 ∧ e.n < 2 ^ 32 ∧ e.f < 2 ^ 16 ∧ e.p < 2 ^ 16 ∧ e.child < 2 ^ 64 ∧ e.epay < 2 ^ 64

/-- R276: a written edge's fields are read back. -/
theorem Edge.bytes_fields {e : Edge} (h : e.InRange) :
    sint 64 (numAt e.bytes 0 8) = e.w ∧ numAt e.bytes 8 4 = e.n ∧ numAt e.bytes 12 2 = e.f ∧ numAt e.bytes 14 2 = e.p ∧
    numAt e.bytes 16 8 = e.child ∧ numAt e.bytes 24 8 = e.epay := by
  obtain ⟨hw, hw', hn, hf, hp, hc, he⟩ := h
  have hsint : sint 64 (BitVec.ofInt 64 e.w).toNat = e.w := by
    rw [sint, BitVec.ofNat_toNat, BitVec.setWidth_eq, BitVec.toInt_ofInt, Int.bmod_eq_of_le (by omega) (by omega)]
  have hlt := (BitVec.ofInt 64 e.w).isLt
  refine ⟨?_, ?_⟩
  · rw [Edge.bytes]
    simp only [List.append_assoc]
    rw [numAt_leBytes_append_left _ _ (by decide), Nat.pow_zero, Nat.div_one, Nat.mod_eq_of_lt (by omega), hsint]
  · simp (disch := decide) only [Edge.bytes, List.append_assoc, numAt_leBytes_append_right, numAt_leBytes_append_left,
      numAt_leBytes, Nat.reduceSub]
    omega

section
variable {n : Node} (hpay : n.payload.length = 24)
include hpay

theorem Node.length_bytes (hedges : n.edges.length = 14) : n.bytes.length = 512 := by
  simp [Node.bytes, hpay, hedges]

/-- R275: the edges stand behind a node's first 64 bytes. -/
theorem Node.drop_bytes : n.bytes.drop 64 = n.edges.flatMap Edge.bytes :=
  List.drop_left' (by simp [hpay])

theorem Node.payload_bytes : (n.bytes.drop 40).take 24 = n.payload := by
  rw [Node.bytes, List.append_assoc, List.drop_left' (by simp), List.take_left' hpay]

/-- R276: a written node's edge is read back. -/
theorem readEdge_bytes {i : Nat} (hi : i < n.edges.length) (h : n.edges[i].InRange) : readEdge n.bytes i = n.edges[i] := by
  have field (o k : Nat) (hok : o + k ≤ 32) : numAt n.bytes (64 + 32 * i + o) k = numAt n.edges[i].bytes o k := by
    rw [Nat.add_assoc, ← numAt_drop, Node.drop_bytes hpay, numAt_flatMap_edgeBytes hi hok]
  obtain ⟨hw, hn, hf, hp, hc, he⟩ := Edge.bytes_fields h
  rw [readEdge, field 8 4 (by decide), field 12 2 (by decide), field 14 2 (by decide), field 16 8 (by decide),
    field 24 8 (by decide), show 64 + 32 * i = 64 + 32 * i + 0 from rfl, field 0 8 (by decide), hw, hn, hf, hp, hc, he]
end

/-- R275: a written node's first 40 bytes, field by field, its reserved bytes zero. -/
theorem Node.bytes_fields (n : Node) :
    numAt n.bytes 0 8 = n.word0 % 2 ^ 64 ∧ numAt n.bytes 8 2 = n.clid % 2 ^ 16 ∧ numAt n.bytes 10 4 = n.cltask % 2 ^ 32 ∧
    numAt n.bytes 14 2 = 0 ∧ numAt n.bytes 16 4 = n.ntot % 2 ^ 32 ∧ numAt n.bytes 20 4 = n.ftot % 2 ^ 32 ∧
    numAt n.bytes 24 8 = n.parent % 2 ^ 64 ∧ numAt n.bytes 32 4 = n.tval % 2 ^ 32 ∧ numAt n.bytes 36 4 = 0 := by
  simp (disch := decide) [Node.bytes, List.append_assoc, numAt_leBytes_append_right, numAt_leBytes_append_left]

/-- R275: what a node's first doubleword holds. -/
theorem Node.word0_fields {n : Node} (hc : n.ecount ≤ 14) (hg : n.gen < 2 ^ 32) :
    n.word0 < 2 ^ 64 ∧ n.word0 % 2 ^ 8 = n.state.code ∧ n.word0 / 2 ^ 8 % 2 ^ 8 = n.ecount ∧ n.word0 / 2 ^ 32 = n.gen ∧
    n.word0 / 2 ^ 18 % 2 ^ 14 = 0 ∧ n.word0.testBit 16 = n.sat ∧ n.word0.testBit 17 = n.ufl := by
  have hs : n.state.code ≤ 4 := by cases n.state <;> decide
  simp only [Nat.testBit_eq_decide_div_mod_eq, Node.word0]
  cases n.sat <;> cases n.ufl <;> simp [flag] <;> omega

theorem nstateOf_code (s : NState') : nstateOf s.code = s := by cases s <;> rfl

/-! ### The claim -/

/-- R275, R276, R277, R283: a node by its doublewords. -/
theorem readNode_fields (bs : List Byte) (hlen : bs.length = 512) :
    let w (o : Nat) : Nat := numAt bs o 8
    let n := readNode bs
    n.state = nstateOf (w 0 % 2 ^ 8) ∧ n.ecount = min 14 (w 0 / 2 ^ 8 % 2 ^ 8) ∧ n.sat = (w 0).testBit 16 ∧
    n.ufl = (w 0).testBit 17 ∧ n.gen = w 0 / 2 ^ 32 ∧
    (n.state = .expanding → n.clid = w 8 % 2 ^ 16 ∧ n.cltask = w 8 / 2 ^ 16 % 2 ^ 32) ∧
    (n.state ≠ .expanding → n.clid = 0 ∧ n.cltask = 0) ∧
    n.ntot = w 16 % 2 ^ 32 ∧ n.ftot = w 16 / 2 ^ 32 ∧ n.parent = w 24 ∧ n.tval = w 32 % 2 ^ 32 ∧
    n.payload = (bs.drop 40).take 24 := by
  obtain ⟨h0, h1⟩ := numAt_word0 bs
  obtain ⟨h8, h10⟩ := numAt_word8 bs
  refine ⟨congrArg nstateOf h0, congrArg (min 14) h1, dfield_one bs 0 16, dfield_one bs 0 17, numAt_high bs 0, ?_, ?_,
    numAt_low bs 16, numAt_high bs 16, rfl, numAt_low bs 32, map_byteAt (by omega)⟩
  · intro h; exact ⟨(if_pos h).trans h8, (if_pos h).trans h10⟩
  · intro h; exact ⟨if_neg h, if_neg h⟩

/-- R275, R276: a node whose fields fit is read back from its bytes. -/
theorem readNode_bytes {n : Node} (h : Claim.Fits n) : readNode n.bytes = n := by
  obtain ⟨hcount, hgen, hclid, hcltask, hntot, hftot, hparent, htval, hpay, hedges, hclaim, hrange⟩ := h
  obtain ⟨w0, wclid, wcltask, -, wntot, wftot, wparent, wtval, -⟩ := n.bytes_fields
  obtain ⟨hw, hstate, hec, hg, -, hsat, hufl⟩ := n.word0_fields hcount hgen
  rw [Nat.mod_eq_of_lt hw] at w0
  obtain ⟨h0, h1⟩ := numAt_word0 n.bytes
  have redges : (List.range 14).map (readEdge n.bytes) = n.edges := by
    refine List.ext_getElem (by simp [hedges]) fun i _ hi => ?_
    simpa using readEdge_bytes hpay hi (hrange _ (List.getElem_mem hi))
  have rpay := map_byteAt (bs := n.bytes) (o := 40) (n := 24) (by rw [Node.length_bytes hpay hedges]; decide)
  have rgen : numAt n.bytes 4 4 = n.gen := by rw [numAt_high n.bytes 0, w0, hg]
  rw [readNode, redges, rpay, Node.payload_bytes hpay, dfield_one, dfield_one, rgen, h0, h1, w0, hstate, hec, hsat, hufl,
    nstateOf_code, wclid, wcltask, wntot, wftot, wparent, wtval, Nat.min_eq_right hcount, Nat.mod_eq_of_lt hclid,
    Nat.mod_eq_of_lt hcltask, Nat.mod_eq_of_lt hntot, Nat.mod_eq_of_lt hftot, Nat.mod_eq_of_lt hparent, Nat.mod_eq_of_lt htval]
  have claimant (x : Nat) (hx : n.state ≠ .expanding → x = 0) : (if n.state = .expanding then x else 0) = x :=
    ite_eq_left_iff.mpr fun hs => (hx hs).symm
  rw [claimant n.clid fun hs => (hclaim hs).1, claimant n.cltask fun hs => (hclaim hs).2]

/-- R273, R275 to R277, R283: headers and nodes are read as the tables lay them out, and written so. -/
theorem nodeBytesAreRight : Claim.NodeBytesAreRight := by
  refine ⟨fun bs _ => readPool_eq bs, fun bs hlen => ?_, fun n h => ?_⟩
  · obtain ⟨hstate, hcount, hsat, hufl, hgen, hclaim, hfree, hntot, hftot, hparent, htval, hpay⟩ := readNode_fields bs hlen
    exact ⟨hstate, hcount, hsat, hufl, hgen, hclaim, hfree, hntot, hftot, hparent, htval, hpay,
      List.map_congr_left fun e _ => readEdge_eq bs e⟩
  · have hread := readNode_bytes h
    obtain ⟨hcount, hgen, -, -, -, -, -, -, hpay, hedges, -, -⟩ := h
    obtain ⟨w0, -, -, w14, -, -, -, -, w36⟩ := n.bytes_fields
    obtain ⟨hw, -, -, -, hres, -, -⟩ := n.word0_fields hcount hgen
    refine ⟨Node.length_bytes hpay hedges, hread, ?_, (numAt_top n.bytes 8).symm.trans w14, (numAt_high n.bytes 32).symm.trans w36⟩
    rw [w0, Nat.mod_eq_of_lt hw, hres]

end Sys2Proof.Machine
end

section
/-! SUPPORT. Selection (R280, R281) and the integer square root (R9). -/

namespace Sys2Proof.Machine

/-! ### The integer square root (R9) -/

/-- Where the root lies between r and r + 2^(k + 1), the bits from 2^k down find it. -/
theorem isqrtFrom_root (k : Nat) : ∀ r n : Nat, r * r ≤ n → n < (r + 2 ^ (k + 1)) * (r + 2 ^ (k + 1)) →
    isqrtFrom k r n * isqrtFrom k r n ≤ n ∧ n < (isqrtFrom k r n + 1) * (isqrtFrom k r n + 1) := by
  induction k with
  | zero =>
    intro r n lo hi
    rw [isqrtFrom]
    split
    · exact ⟨‹_›, by simpa using hi⟩
    · exact ⟨lo, by omega⟩
  | succ k ih =>
    intro r n lo hi
    rw [isqrtFrom]
    split
    · refine ih _ n ‹_› ?_
      rwa [Nat.add_assoc, ← Nat.two_mul, ← Nat.pow_succ']
    · exact ih r n lo (by omega)

/-- A number is below the square of the power that isqrt starts from. -/
theorem lt_isqrt_start (n : Nat) : n < 2 ^ (Nat.log2 n / 2 + 2) * 2 ^ (Nat.log2 n / 2 + 2) := by
  rw [← Nat.pow_add]
  exact (Nat.lt_log2_self).trans_le (Nat.pow_le_pow_right (by decide) (by omega))

/-- R9: isqrt is the integer square root. -/
theorem isqrt_root (n : Nat) : isqrt n * isqrt n ≤ n ∧ n < (isqrt n + 1) * (isqrt n + 1) :=
  isqrtFrom_root _ 0 n (by simp) (by simpa using lt_isqrt_start n)

/-! ### Selection (R280, R281) -/

/-- One step of selection: an eligible edge replaces the best one so far if its score is greater. -/
def Pool.keepBest (p : Pool) (n : Node) (s : Nat) (best : Option (Nat × Int)) (x : Edge × Nat) : Option (Nat × Int) :=
  if p.eligible n x.2 x.1 then
    match best with
    | none => some (x.2, p.score s x.1)
    | some (j, b) => if b < p.score s x.1 then some (x.2, p.score s x.1) else some (j, b)
  else best

theorem Pool.choose_eq (p : Pool) (n : Node) :
    p.choose n = (n.edges.zipIdx.foldl (p.keepBest n (isqrt (n.ntot + n.ftot))) none).map (·.1) := rfl

/-- What selection holds after the edges `es`: nothing where none of them is eligible, else an eligible edge of greatest score, the
first of those, with its score. -/
def Pool.IsBest (p : Pool) (n : Node) (s : Nat) (es : List Edge) : Option (Nat × Int) → Prop
  | none => ∀ j e, es[j]? = some e → p.eligible n j e = false
  | some (i, b) => (∃ e, es[i]? = some e ∧ p.eligible n i e = true ∧ p.score s e = b) ∧
      ∀ j e, es[j]? = some e → p.eligible n j e = true → p.score s e ≤ b ∧ (p.score s e = b → i ≤ j)

/-- An edge of a list with one more edge is one of the list or the last. -/
theorem getElem?_concat_cases {es : List Edge} {x e : Edge} {j : Nat} (h : (es ++ [x])[j]? = some e) :
    es[j]? = some e ∨ (j = es.length ∧ e = x) := by
  rcases Nat.lt_trichotomy j es.length with hj | hj | hj
  · exact .inl (by rwa [List.getElem?_append_left hj] at h)
  · subst hj; exact .inr ⟨rfl, by simpa using h.symm⟩
  · rw [List.getElem?_eq_none (by simp; omega)] at h; cases h

/-- One more edge keeps the invariant. -/
theorem Pool.keepBest_isBest {p : Pool} {n : Node} {s : Nat} {es : List Edge} {best : Option (Nat × Int)} (x : Edge)
    (h : p.IsBest n s es best) : p.IsBest n s (es ++ [x]) (p.keepBest n s best (x, es.length)) := by
  have hlast : (es ++ [x])[es.length]? = some x := by simp
  have old {j : Nat} {e : Edge} (hj : es[j]? = some e) : j < es.length ∧ (es ++ [x])[j]? = some e := by
    have := (List.getElem?_eq_some_iff.mp hj).1
    exact ⟨this, by rwa [List.getElem?_append_left this]⟩
  unfold Pool.keepBest
  cases hx : p.eligible n es.length x with
  | false =>
    rw [if_neg (by simp)]
    cases best with
    | none =>
      intro j e hj
      obtain hj | ⟨rfl, rfl⟩ := getElem?_concat_cases hj
      · exact h j e hj
      · exact hx
    | some ib =>
      obtain ⟨⟨e₀, he₀, hel, hsc⟩, hmax⟩ := h
      refine ⟨⟨e₀, (old he₀).2, hel, hsc⟩, fun j e hj he => ?_⟩
      obtain hj | ⟨rfl, rfl⟩ := getElem?_concat_cases hj
      · exact hmax j e hj he
      · simp [hx] at he
  | true =>
    rw [if_pos rfl]
    cases best with
    | none =>
      refine ⟨⟨x, hlast, hx, rfl⟩, fun j e hj he => ?_⟩
      obtain hj | ⟨rfl, rfl⟩ := getElem?_concat_cases hj
      · simp [h j e hj] at he
      · exact ⟨le_rfl, fun _ => le_rfl⟩
    | some ib =>
      obtain ⟨i, b⟩ := ib
      obtain ⟨⟨e₀, he₀, hel, hsc⟩, hmax⟩ := h
      dsimp only
      split
      · next hlt =>
        refine ⟨⟨x, hlast, hx, rfl⟩, fun j e hj he => ?_⟩
        obtain hj | ⟨rfl, rfl⟩ := getElem?_concat_cases hj
        · have := (hmax j e hj he).1
          exact ⟨by omega, by omega⟩
        · exact ⟨le_rfl, fun _ => le_rfl⟩
      · next hle =>
        refine ⟨⟨e₀, (old he₀).2, hel, hsc⟩, fun j e hj he => ?_⟩
        obtain hj | ⟨rfl, rfl⟩ := getElem?_concat_cases hj
        · exact hmax j e hj he
        · exact ⟨by omega, fun _ => (old he₀).1.le⟩

/-- Selection over all edges finds the best of them. -/
theorem Pool.foldl_keepBest_isBest (p : Pool) (n : Node) (s : Nat) (es : List Edge) :
    p.IsBest n s es (es.zipIdx.foldl (p.keepBest n s) none) := by
  induction es using List.reverseRecOn with
  | nil => intro j e h; simp at h
  | append_singleton es x ih =>
    rw [List.zipIdx_append, List.foldl_append]
    simpa using Pool.keepBest_isBest x ih

/-- R281: the score with its floored quotients written out. -/
theorem Pool.score_eq (p : Pool) (s : Nat) (e : Edge) : p.score s e =
    (let count := e.n + e.f
     let q : Int := if count = 0 then p.qinit else (e.w - p.vl * e.f).fdiv count
     if p.kind = 0 then q + (p.c * e.p * s).fdiv ((1 + count) * 65536)
     else if p.kind = 1 then e.n else if p.kind = 2 then e.p else q) := by
  have hfloor (a : Int) (b : Nat) : a / (b : Int) = a.fdiv b := (Int.fdiv_eq_ediv_of_nonneg a (Int.natCast_nonneg b)).symm
  unfold Pool.score
  simp only [hfloor]
  split <;> simp_all

/-- R280: eligibility as a condition on the edge. -/
theorem Pool.eligible_iff (p : Pool) (n : Node) (i : Nat) (e : Edge) :
    p.eligible n i e = true ↔ i < n.ecount ∧ e.f < 65535 ∧ (p.skipnull = true → e.child ≠ 0) := by
  cases hs : p.skipnull <;> simp [Pool.eligible, hs, and_assoc]

/-- R280: a node has an eligible edge i. -/
def Pool.Fit (p : Pool) (n : Node) (i : Nat) : Prop := i < n.edges.length ∧ p.eligible n i (n.edges.getD i Edge.zero) = true

/-- R281: the score of a node's edge i. -/
def Pool.scoreAt (p : Pool) (n : Node) (i : Nat) : Int := p.score (isqrt (n.ntot + n.ftot)) (n.edges.getD i Edge.zero)

/-- What selection answers, by index: the first eligible edge of greatest score, or nothing where none is eligible. -/
theorem Pool.choose_cases (p : Pool) (n : Node) :
    (p.choose n = none ∧ ∀ i, ¬ p.Fit n i) ∨
    (∃ i, p.choose n = some i ∧ p.Fit n i ∧
      ∀ j, p.Fit n j → p.scoreAt n j ≤ p.scoreAt n i ∧ (p.scoreAt n j = p.scoreAt n i → i ≤ j)) := by
  have hbest := p.foldl_keepBest_isBest n (isqrt (n.ntot + n.ftot)) n.edges
  have hget {i : Nat} (h : i < n.edges.length) : n.edges[i]? = some (n.edges.getD i Edge.zero) := by simp [h]
  rw [p.choose_eq]
  cases hf : n.edges.zipIdx.foldl (p.keepBest n (isqrt (n.ntot + n.ftot))) none with
  | none =>
    rw [hf] at hbest
    exact .inl ⟨rfl, fun i ⟨hi, he⟩ => Bool.false_ne_true ((hbest i _ (hget hi)).symm.trans he)⟩
  | some ib =>
    rw [hf] at hbest
    obtain ⟨⟨e, hi, he, hsc⟩, hmax⟩ := hbest
    have hlen := (List.getElem?_eq_some_iff.mp hi).1
    obtain rfl : n.edges.getD ib.1 Edge.zero = e := Option.some.inj ((hget hlen).symm.trans hi)
    refine .inr ⟨ib.1, rfl, ⟨hlen, he⟩, fun j ⟨hj, hej⟩ => ?_⟩
    rw [show p.scoreAt n ib.1 = ib.2 from hsc]
    exact hmax j _ (hget hj) hej

/-- R280, R281: selection takes the first eligible edge of greatest score. -/
theorem selectionIsBestEdge : Claim.SelectionIsBestEdge := by
  intro p n s edge fit score
  have hscore (i : Nat) : p.scoreAt n i = score i := p.score_eq s (edge i)
  have hfit (i : Nat) : p.Fit n i ↔ fit i := and_congr_right fun _ => p.eligible_iff n i (edge i)
  have hcases := p.choose_cases n
  simp only [hscore, hfit] at hcases
  obtain ⟨hnone, hno⟩ | ⟨i, hsome, hi, hmax⟩ := hcases
  · exact ⟨fun i h => absurd (hnone.symm.trans h) (by simp), fun _ => hno, fun _ => hnone⟩
  · refine ⟨fun k h => ?_, fun h => absurd (hsome.symm.trans h) (by simp), fun h => absurd hi (h i)⟩
    obtain rfl : i = k := Option.some.inj (hsome.symm.trans h)
    exact ⟨hi, fun j hj => (hmax j hj).1, fun j hj => (hmax j hj).2⟩

end Sys2Proof.Machine
end

section
/-! SUPPORT. What DESC, BKUP, UNMK and EXPND make of a node (R282, R283, R294, R295, R297). -/

namespace Sys2Proof.Machine

/-! ### Edges -/

theorem getD_modify {es : List Edge} {i : Nat} (hi : i < es.length) (f : Edge → Edge) :
    (es.modify i f).getD i Edge.zero = f (es.getD i Edge.zero) := by
  simp [hi]

/-- Functions that agree on edge i change it alike. -/
theorem modify_congr {es : List Edge} {i : Nat} {f g : Edge → Edge} (h : f (es.getD i Edge.zero) = g (es.getD i Edge.zero)) :
    es.modify i f = es.modify i g := by
  refine List.ext_getElem (by simp) fun j hj _ => ?_
  rw [List.length_modify] at hj
  rw [List.getElem_modify, List.getElem_modify]
  split
  · next e => subst e; simpa [hj] using h
  · rfl

/-! ### DESC (R294) -/

/-- R282: a mark more, or SAT where FTOT is at its limit. -/
theorem descNode_chosen {p : Pool} {n : Node} {i : Nat} (handle lid task : Nat) (hs : n.state = .expanded)
    (hc : p.choose n = some i) : descNode p n handle lid task =
      ⟨0, i, (n.edges.getD i Edge.zero).child, 0, some (n.mapEdge i fun e => { e with f := e.f + 1 }).ftotUp⟩ := by
  simp only [descNode, hs, hc]

theorem Node.ftotUp_below {n : Node} (h : n.ftot < 2 ^ 32 - 1) : n.ftotUp = { n with ftot := n.ftot + 1 } :=
  if_neg (Nat.ne_of_lt h)

theorem Node.ftotUp_limit {n : Node} (h : n.ftot = 2 ^ 32 - 1) : n.ftotUp = { n with sat := true } := if_pos h

/-! ### BKUP and UNMK (R282, R295) -/

theorem Node.ftotDown_eq (n : Node) : n.ftotDown = { n with ftot := n.ftot - 1, ufl := n.ufl || decide (n.ftot = 0) } := by
  by_cases h : n.ftot = 0 <;> simp [Node.ftotDown, h]

/-- R282: the lower of a mark that stands. -/
theorem removeMark_marked {n : Node} {i : Nat} (h : (n.edges.getD i Edge.zero).f ≠ 0) : removeMark n i =
    (0, { n with edges := n.edges.modify i fun e => { e with f := e.f - 1 }, ftot := n.ftot - 1
                 ufl := n.ufl || decide (n.ftot = 0) }) := by
  rw [removeMark, if_neg h, Node.ftotDown_eq]; rfl

theorem removeMark_unmarked {n : Node} {i : Nat} (h : (n.edges.getD i Edge.zero).f = 0) :
    removeMark n i = (8, { n with ufl := true }) := if_pos h

/-- R282: what a visit makes of an edge that has value w with it: N and W stop at their limits. -/
def Edge.visited (w : Int) (e : Edge) : Edge := { e with n := min (e.n + 1) (2 ^ 32 - 1), w := max (-(2 ^ 63)) (min (2 ^ 63 - 1) w) }

/-- R282: an edge with one mark less. -/
def Edge.unmarked (e : Edge) : Edge := { e with f := e.f - 1 }

/-- R282: whether a visit to an edge that has value w with it meets a limit of N, NTOT or W. -/
def Node.limited (n : Node) (e : Edge) (w : Int) : Bool :=
  decide (e.n + 1 = 2 ^ 32) || decide (n.ntot + 1 = 2 ^ 32) || decide (w < -(2 ^ 63)) || decide (2 ^ 63 ≤ w)

theorem addVisit_eq {n : Node} {i : Nat} {e : Edge} (he : n.edges.getD i Edge.zero = e) (v : Int) : addVisit n i v =
    { n with edges := n.edges.modify i (Edge.visited (e.w + v)), ntot := min (n.ntot + 1) (2 ^ 32 - 1)
             sat := n.sat || n.limited e (e.w + v) } := by
  have hcount (x : Nat) : decide (x = 2 ^ 32 - 1) = decide (x + 1 = 2 ^ 32) := decide_eq_decide.mpr (by omega)
  have hvalue (w : Int) : decide (2 ^ 63 - 1 < w) = decide (2 ^ 63 ≤ w) := decide_eq_decide.mpr (by omega)
  simp only [addVisit, Node.limited, hcount, hvalue, he]
  rfl

/-- R282, R295: a visit and the lower of its mark, which may be missing. -/
theorem removeMark_addVisit {n : Node} {i : Nat} {e : Edge} (hi : i < n.edges.length) (he : n.edges.getD i Edge.zero = e) (v : Int) :
    removeMark (addVisit n i v) i =
    (if e.f = 0 then 8 else 0,
      { n with
        edges := n.edges.modify i fun x => (Edge.visited (e.w + v) x).unmarked
        ntot := min (n.ntot + 1) (2 ^ 32 - 1), ftot := if e.f = 0 then n.ftot else n.ftot - 1
        sat := n.sat || n.limited e (e.w + v), ufl := n.ufl || decide (e.f = 0) || decide (n.ftot = 0) }) := by
  have hmarks : ((addVisit n i v).edges.getD i Edge.zero).f = e.f := by
    rw [addVisit_eq he]
    dsimp only
    rw [getD_modify hi, he]; rfl
  by_cases hf : e.f = 0
  · have hkeep : n.edges.modify i (Edge.visited (e.w + v)) = n.edges.modify i fun x => (Edge.visited (e.w + v) x).unmarked :=
      modify_congr (by simp only [he, Edge.unmarked, Edge.visited, hf])
    rw [removeMark_unmarked (hmarks.trans hf), addVisit_eq he, hkeep]
    simp [hf]
  · rw [removeMark_marked (hmarks ▸ hf), addVisit_eq he]
    simp only [hf, List.modify_modify_eq, decide_false, Bool.or_false, if_false]
    rfl

/-- BKUP and UNMK on an edge of an EXPANDED node (R295). -/
theorem markNode_expanded {n : Node} {b : Nat} (hs : n.state = .expanded) (hi : b % 2 ^ 8 < n.ecount) (backup : Bool) :
    markNode backup n b =
      (let r := removeMark (if backup then addVisit n (b % 2 ^ 8) (BitVec.ofNat 32 (b / 2 ^ 32)).toInt else n) (b % 2 ^ 8)
       ⟨r.1, b % 2 ^ 8, 0, 0, some r.2⟩) := by
  have hedge : fieldN b 0 8 = b % 2 ^ 8 := by simp [fieldN]
  have hvalue : sint 32 (fieldN b 32 32) = (BitVec.ofNat 32 (b / 2 ^ 32)).toInt := sint_32_mod _
  simp only [markNode, hs, hedge, hvalue, if_neg (Nat.not_le.mpr hi)]

/-- BKUP and UNMK on an edge that an EXPANDED node does not have, or on another node: EDGE comes back and nothing changes. -/
theorem markNode_refused {n : Node} {b : Nat} (backup : Bool) :
    (n.state = .expanded → n.ecount ≤ b % 2 ^ 8 → markNode backup n b = ⟨10, b % 2 ^ 8, 0, 0, none⟩) ∧
    (n.state = .leaf ∨ n.state = .expanding ∨ n.state = .terminal → markNode backup n b = ⟨10, b % 2 ^ 8, 0, 0, none⟩) ∧
    (n.state = .free → markNode backup n b = ⟨5, b % 2 ^ 8, 0, 0, none⟩) := by
  have hedge : fieldN b 0 8 = b % 2 ^ 8 := by simp [fieldN]
  refine ⟨fun hs hi => ?_, ?_, fun hs => ?_⟩
  · simp only [markNode, hs, hedge, if_pos hi, NodeOut.same]
  · rintro (hs | hs | hs) <;> simp only [markNode, hs, hedge, NodeOut.same]
  · simp only [markNode, hs, hedge, NodeOut.same]

/-! ### EXPND (R297) -/

/-- The claimant's EXPND on its node (R283, R297): a leaf again, a terminal value, or edges. -/
theorem expndNode_claimed {n : Node} {lid task : Nat} (bs : List Byte) (hs : n.state = .expanding) (hl : n.clid = lid % 2 ^ 16)
    (ht : n.cltask = task % 2 ^ 32) :
    let count := numAt bs 0 8 % 2 ^ 8
    let final := (numAt bs 0 8).testBit 8
    let bare := { n with edges := List.replicate 14 Edge.zero, ntot := 0, ftot := 0, clid := 0, cltask := 0 }
    expndNode n bs lid task =
      if final then ⟨0, 0xFF, 0, 0, some { bare with ecount := 0, tval := numAt bs 4 4, state := .terminal }⟩
      else if 14 < count then ⟨10, 0xFF, 0, 0, none⟩
      else if count = 0 then ⟨0, 0xFF, 0, 0, some { bare with ecount := 0, state := .leaf }⟩
      else ⟨0, 0xFF, 0, 0, some { bare with
        edges := (List.range 14).map fun i => if i < count then blockEdge bs i else Edge.zero
        ecount := count, state := .expanded }⟩ := by
  simp only [expndNode, hs, hl, ht, dfield_one, (numAt_word0 bs).1, NodeOut.same]
  generalize numAt bs 0 8 % 2 ^ 8 = count
  cases (numAt bs 0 8).testBit 8 with
  | true => simp
  | false => by_cases h14 : 14 < count <;> by_cases h0 : count = 0 <;> simp [h14, h0]

/-- EXPND by another than the claimant, or on a node that none claims (R283, R297). -/
theorem expndNode_unclaimed {n : Node} {lid task : Nat} (bs : List Byte) (hs : n.state ≠ .free)
    (h : n.state ≠ .expanding ∨ n.clid ≠ lid % 2 ^ 16 ∨ n.cltask ≠ task % 2 ^ 32) :
    expndNode n bs lid task = ⟨7, 0xFF, 0, 0, none⟩ := by
  unfold expndNode; dsimp only; rw [if_neg hs, if_pos h]; rfl

theorem expndNode_free {n : Node} {lid task : Nat} (bs : List Byte) (hs : n.state = .free) :
    expndNode n bs lid task = ⟨5, 0xFF, 0, 0, none⟩ := by
  unfold expndNode; dsimp only; rw [if_pos hs]; rfl

/-- R282, R283, R294, R295, R297: the node rules, command by command. -/
theorem nodeRules : Claim.NodeRules := by
  intro p n handle lid task b bs hedges hcount
  obtain ⟨bkupAbsent, bkupOther, bkupGone⟩ := markNode_refused (n := n) (b := b) true
  obtain ⟨unmkAbsent, unmkOther, unmkGone⟩ := markNode_refused (n := n) (b := b) false
  refine ⟨?leaf, ?free, ?expanding, ?terminal, ?none, ?below, ?limit, ⟨?absent, ?other, ?gone, ?marks⟩, ?expnd, ?unclaimed,
    expndNode_free bs⟩
  case leaf => intro hs; simp only [descNode, hs]
  case free => intro hs; simp only [descNode, hs, NodeOut.same]
  case expanding => intro hs; simp only [descNode, hs, NodeOut.same]
  case terminal => intro hs; simp only [descNode, hs, NodeOut.same]
  case none => intro hs hc; simp only [descNode, hs, hc, NodeOut.same]
  case below =>
    intro i hs hc hf
    rw [descNode_chosen handle lid task hs hc, Node.ftotUp_below (n := n.mapEdge i _) hf]; rfl
  case limit =>
    intro i hs hc hf
    rw [descNode_chosen handle lid task hs hc, Node.ftotUp_limit (n := n.mapEdge i _) hf]; rfl
  case absent => exact fun hs hi => ⟨bkupAbsent hs hi, unmkAbsent hs hi⟩
  case other => exact fun hs => ⟨bkupOther hs, unmkOther hs⟩
  case gone => exact fun hs => ⟨bkupGone hs, unmkGone hs⟩
  case marks =>
    intro hs hi
    refine ⟨fun hf => ?_, fun hf => ?_, ?_⟩
    · rw [markNode_expanded hs hi]; dsimp only; rw [if_neg Bool.false_ne_true, removeMark_marked hf]
    · rw [markNode_expanded hs hi]; dsimp only; rw [if_neg Bool.false_ne_true, removeMark_unmarked hf]
    · rw [markNode_expanded hs hi]; dsimp only; rw [if_pos rfl, removeMark_addVisit (by omega) rfl]; rfl
  case expnd =>
    intro count final hs hl ht
    have hclaimed := expndNode_claimed bs hs hl ht
    have notFinal (hf : final = false) : ¬ final = true := Bool.eq_false_iff.mp hf
    refine ⟨fun hf h14 => ?_, fun hf h0 => ?_, fun hf h1 h14 => ?_, fun hf => ?_⟩
    · exact hclaimed.trans ((if_neg (notFinal hf)).trans (if_pos h14))
    · exact hclaimed.trans ((if_neg (notFinal hf)).trans ((if_neg (by omega)).trans (if_pos h0)))
    · exact hclaimed.trans ((if_neg (notFinal hf)).trans ((if_neg (Nat.not_lt.mpr h14)).trans (if_neg (Nat.ne_of_gt h1))))
    · exact hclaimed.trans (if_pos hf)
  case unclaimed =>
    intro h
    refine expndNode_unclaimed bs (fun hs => by simp [hs] at h) ?_
    by_cases hs : n.state = .expanding
    · exact .inr (by simpa [hs] using h)
    · exact .inl hs

/-! ### O30 -/

/-- Settles O30: the layouts by slices of their doublewords, selection by the invariant of its fold, isqrt by the bits that are
left to find, and the node rules by what each command makes of each state. -/
theorem nodeSelectionIsRight : Obligations.NodeSelectionIsRight :=
  ⟨nodeBytesAreRight, selectionIsBestEdge, isqrt_root, nodeRules⟩

end Sys2Proof.Machine
end

section
/-! SUPPORT. Reset, the boot steps before AWAIT, and the loss of power (R5, R404, R406, R409). -/

namespace Sys2Proof.Machine

/-! ### The events' arms -/

theorem exec_reset (s : State) : exec .reset s = .next s.restart := rfl
theorem exec_bladeFailure (b : Nat) (s : State) : exec (.bladeFailure b) s = execBladeFailure b s := rfl
theorem exec_thermalPowerOff (d : Nat) (s : State) : exec (.thermalPowerOff d) s = execThermalPowerOff d s := rfl

/-! ### Reset and boot -/

/-- R404: a reset leaves nothing in flight and no launch; the fuses stay (R406). -/
theorem State.restart_fresh (s : State) : Claim.FreshlyReset s.restart ∧ s.restart.mc.lcs = s.mc.lcs ∧
    s.restart.mc.svn = s.mc.svn ∧ s.restart.mc.secretGone = s.mc.secretGone := by
  simp [Claim.FreshlyReset, State.restart, State.reset, ModuleRegs.fresh, Thread.fresh]

theorem State.reset_fresh : Claim.FreshlyReset State.reset := by
  simp [Claim.FreshlyReset, State.reset, ModuleRegs.fresh, Thread.fresh]

/-- With power, a boot step before AWAIT is the whole step. -/
theorem step_booting {s : State} (hoff : s.off = false) (hboot : s.booting = true) : step s = .next s.tick.bootStep := by
  simp [step, hoff, hboot]

@[simp] theorem State.tick_boot (s : State) : s.tick.mc.boot = s.mc.boot := rfl
@[simp] theorem State.tick_mem (s : State) : s.tick.mem = s.mem := rfl
@[simp] theorem State.tick_failed (s : State) : s.tick.failed = s.failed := rfl
@[simp] theorem State.tick_nextId (s : State) : s.tick.nextId = s.nextId := rfl

/-- WIPE (R404). -/
theorem State.bootStep_wipe {s : State} (h : s.mc.boot = .wipe) :
    s.bootStep = { s with mem := [], ecc := [], mc := { s.mc with boot := .selftest } } := by
  simp only [State.bootStep, h]

/-- SELFTEST where every test passes (R5, R404). -/
theorem State.bootStep_pass {s : State} (h : s.mc.boot = .selftest) (hok : Config.selfTestOk s.nextId = true) :
    s.bootStep = { s with nextId := s.nextId + 1, mc := { s.mc with boot := .await, locked := true, unlockedSince := s.now } } := by
  simp only [State.bootStep, h, hok, if_true]

/-- SELFTEST where a test fails (R5, R404). -/
theorem State.bootStep_fail {s : State} (h : s.mc.boot = .selftest) (hok : Config.selfTestOk s.nextId = false) :
    s.bootStep = { s with nextId := s.nextId + 1, failed := true, mc := { s.mc with boot := .failed } } := by
  simp only [State.bootStep, h, hok, Bool.false_eq_true, if_false]

/-- R5, R404, R406: reset starts over, WIPE follows, then SELFTEST. -/
theorem resetStartsOver : Claim.ResetStartsOver := by
  refine ⟨State.reset_fresh, rfl, fun s => ⟨s.restart, exec_reset s, s.restart_fresh⟩, fun s hoff hboot => ?_,
    fun s hoff hboot => ?_⟩
  · rw [step_booting hoff (by simp [State.booting, hboot]), State.bootStep_wipe (by simpa using hboot)]
  · refine ⟨_, step_booting hoff (by simp [State.booting, hboot]), ?_⟩
    have hboot' : s.tick.mc.boot = .selftest := by simpa using hboot
    cases hok : Config.selfTestOk s.nextId with
    | true => rw [State.bootStep_pass hboot' hok]; simp
    | false => rw [State.bootStep_fail hboot' hok]; simp

/-! ### Power -/

/-- The agenda whose next turn is a given one. -/
theorem State.agenda_of_nextTurn {s u : State} {t : Turn} (h : s.nextTurn = (some t, u)) : ∃ r, s.agenda = t :: r := by
  unfold State.nextTurn at h
  split at h
  · cases h
  · next a r ha => cases h; exact ⟨r, ha⟩

/-- R409: without power a step that goes on is a reset. -/
theorem agenda_of_step_off {s u : State} (hoff : s.off = true) (h : step s = .next u) : ∃ r, s.agenda = .event .reset :: r := by
  rw [step, if_neg (by simp [hoff]), hoff] at h
  split at h
  · next hturn => exact State.agenda_of_nextTurn hturn
  · cases h
  all_goals (next hb _ => cases hb)

/-- R409: blades, heat and what happens without power. -/
theorem powerIsLost : Claim.PowerIsLost := by
  refine ⟨fun s b hb hnew => ?_, fun s d => exec_thermalPowerOff d s, fun s hoff ⟨u, hu⟩ => agenda_of_step_off hoff hu⟩
  rw [exec_bladeFailure, execBladeFailure, if_pos ⟨hb, hnew⟩]

/-! ### O54 -/

/-- Settles O54: what a reset leaves, the two boot steps after it, and the step without power. -/
theorem resetAndPower : Obligations.ResetAndPower := ⟨resetStartsOver, powerIsLost⟩

end Sys2Proof.Machine
end

section
/-! SUPPORT. Harts by name: what a hart is after another, or it, has been put back, changed or given the turn. -/

namespace Sys2Proof.Machine

theorem find?_putThread_same (t : Thread) (l : List Thread) : (putThread t l).find? (fun u => u.id = t.id) = some t := by
  induction l with
  | nil => simp [putThread]
  | cons u r ih =>
    unfold putThread
    split
    · simp
    · next hu => simp [hu, ih]

theorem find?_putThread_ne {t : Thread} {k : HartId} (hk : k ≠ t.id) (l : List Thread) :
    (putThread t l).find? (fun u => u.id = k) = l.find? (fun u => u.id = k) := by
  induction l with
  | nil => simp [putThread, Ne.symm hk]
  | cons u r ih =>
    unfold putThread
    split
    · next hu => simp [hu, Ne.symm hk]
    · simp only [List.find?_cons, ih]

/-- A hart's own name. -/
@[simp] theorem State.hart_id (s : State) (h : HartId) : (s.hart h).id = h := by
  unfold State.hart
  split
  · assumption
  · cases hf : s.parked.find? fun t => t.id = h with
    | none => rfl
    | some t => simpa using List.find?_some hf

@[simp] theorem State.hart_focus (s : State) : s.hart s.focus.id = s.focus := if_pos rfl

theorem State.hart_of_focus {s : State} {h : HartId} (hf : s.focus.id = h) : s.hart h = s.focus := if_pos hf

theorem State.hart_setHart_same (s : State) (t : Thread) : (s.setHart t).hart t.id = t := by
  unfold State.setHart
  split
  · exact if_pos rfl
  · next hne => simp only [State.hart, if_neg hne, find?_putThread_same]; rfl

theorem State.hart_setHart_ne (s : State) {t : Thread} {k : HartId} (hk : k ≠ t.id) : (s.setHart t).hart k = s.hart k := by
  unfold State.setHart
  split
  · next heq => simp [State.hart, heq, Ne.symm hk]
  · simp only [State.hart, find?_putThread_ne hk]

/-- Changing a hart gives its changed self. -/
theorem State.hart_mapHart_same {s : State} {h : HartId} {f : Thread → Thread} (hid : (f (s.hart h)).id = h) :
    (s.mapHart h f).hart h = f (s.hart h) := by
  have := s.hart_setHart_same (f (s.hart h))
  rwa [hid] at this

/-- Changing a hart leaves the others. -/
theorem State.hart_mapHart_ne {s : State} {h k : HartId} {f : Thread → Thread} (hid : (f (s.hart h)).id = h) (hk : k ≠ h) :
    (s.mapHart h f).hart k = s.hart k :=
  s.hart_setHart_ne (by rwa [hid])

/-- Changing the issuing hart by its name. -/
theorem State.mapHart_focus_id {s : State} {h : HartId} {f : Thread → Thread} (hf : s.focus.id = h) (hid : (f s.focus).id = h) :
    s.mapHart h f = s.mapFocus f := by
  simp only [State.mapHart, State.setHart, State.hart_of_focus hf, hf, hid, if_true]; rfl

/-- What a change of a hart leaves of the state: all but the issuing and the parked harts. -/
theorem State.setHart_frame (s : State) (t : Thread) :
    s.setHart t = { s with focus := (s.setHart t).focus, parked := (s.setHart t).parked } := by
  unfold State.setHart; split <;> rfl

theorem State.focus_setHart_same {s : State} {t : Thread} (h : s.focus.id = t.id) : (s.setHart t).focus = t := by
  simp [State.setHart, h]

theorem State.focus_setHart_ne {s : State} {t : Thread} (h : s.focus.id ≠ t.id) : (s.setHart t).focus = s.focus := by
  simp [State.setHart, h]

theorem State.hart_mapFocus_ne {s : State} {f : Thread → Thread} {k : HartId} (hid : (f s.focus).id = s.focus.id)
    (hk : k ≠ s.focus.id) : (s.mapFocus f).hart k = s.hart k := by
  simp [State.hart, State.mapFocus, hid, Ne.symm hk]

/-- A change of every listed hart that keeps the names and leaves a hart at reset as it is. -/
theorem State.hart_map {s u : State} {f : Thread → Thread} (hid : ∀ t, (f t).id = t.id) (hfocus : u.focus = f s.focus)
    (hparked : u.parked = s.parked.map f) {k : HartId} (hfresh : f (Thread.fresh k) = Thread.fresh k) :
    u.hart k = f (s.hart k) := by
  unfold State.hart
  rw [hfocus, hparked, hid]
  split
  · rfl
  · rw [List.find?_map, show ((fun u : Thread => decide (u.id = k)) ∘ f) = fun u => decide (u.id = k) by funext u; simp [hid]]
    cases s.parked.find? fun u => decide (u.id = k) with
    | none => exact hfresh.symm
    | some t => rfl

/-- A change of every hart that a test picks, which no hart at reset passes. -/
theorem State.hart_mapHarts {s : State} {p : Thread → Bool} {f : Thread → Thread} (hid : ∀ t, (f t).id = t.id) {k : HartId}
    (hp : p (Thread.fresh k) = false) : (s.mapHarts p f).hart k = if p (s.hart k) then f (s.hart k) else s.hart k :=
  State.hart_map (f := fun t => if p t then f t else t) (fun t => by split <;> simp [hid]) rfl rfl (by simp [hp])

theorem State.focus_mapHarts (s : State) (p : Thread → Bool) (f : Thread → Thread) :
    (s.mapHarts p f).focus = if p s.focus then f s.focus else s.focus := rfl

/-- Giving a hart the turn makes it the issuing one. -/
@[simp] theorem State.focusOn_focus (s : State) (h : HartId) : (s.focusOn h).focus = s.hart h := by
  unfold State.focusOn
  split
  · next hf => rw [State.hart_of_focus hf]
  · rfl

theorem State.hart_of_parked {s : State} {k : HartId} (hk : s.focus.id ≠ k) :
    s.hart k = (s.parked.find? fun t => t.id = k).getD (Thread.fresh k) := if_neg hk

/-- Giving a hart the turn changes no hart. -/
@[simp] theorem State.hart_focusOn (s : State) (h k : HartId) : (s.focusOn h).hart k = s.hart k := by
  by_cases hk : k = h
  · rw [State.hart_of_focus (by simp [hk]), State.focusOn_focus, hk]
  · rw [State.hart_of_parked (by simpa using Ne.symm hk)]
    unfold State.focusOn
    split
    · next hf => rw [State.hart_of_parked (by simpa [hf] using Ne.symm hk)]
    · by_cases hkf : k = s.focus.id
      · subst hkf; simp only [find?_putThread_same, State.hart_focus]; rfl
      · have hfilter : (s.parked.filter fun t => t.id ≠ h).find? (fun u => u.id = k) = s.parked.find? (fun u => u.id = k) := by
          rw [List.find?_filter]; congr 1; funext u
          by_cases hu : u.id = k <;> simp [hu, hk]
        rw [State.hart_of_parked (Ne.symm hkf), find?_putThread_ne hkf, hfilter]

/-- What a turn leaves of the state: all but which hart issues. -/
theorem State.focusOn_frame (s : State) (h : HartId) :
    s.focusOn h = { s with focus := s.hart h, parked := (s.focusOn h).parked } := by
  rw [← State.focusOn_focus]; unfold State.focusOn; split <;> rfl

/-- The hart that issues already has the turn. -/
theorem State.focusOn_self {s : State} {h : HartId} (hf : s.focus.id = h) : s.focusOn h = s := if_pos hf

end Sys2Proof.Machine
end

section
/-! SUPPORT. Operands at issue (R48, R49, R50, R102, R214): the reads and writes of x registers do what the statements'
`take` and `give` say, and what holds an operand back. -/

namespace Sys2Proof.Machine

open Sys2Proof.Claim

theorem M.bind_error {α β : Type} {m : M α} {f : α → M β} {s s' : State} {e : Stop} (h : m s = .error e s') :
    (m >>= f) s = .error e s' := by
  rw [M.bind_run, h]

/-! ### Sources -/

/-- Taking an operand changes nothing of the hart but its arrival queues. -/
theorem take_frame {s : State} {t t' : Thread} {r : BitVec 5} {x : Word} (h : take s t r = some (x, t')) :
    t' = { t with arrivals := t'.arrivals } := by
  unfold take at h
  split at h
  · cases h; rfl
  · split at h
    · cases h
    · split at h
      · split at h <;> cases h; rfl
      · cases h; rfl

/-- A source that the statements take is read. -/
theorem readX_of_take {s : State} {t t' : Thread} {r : BitVec 5} {x : Word} (h : take s t r = some (x, t')) :
    readX r { s with focus := t } = .ok x { s with focus := t' } := by
  unfold take at h
  split at h
  · next h0 => cases h; subst h0; exact readX_zero _
  · next h0 =>
    split at h
    · cases h
    · next hw =>
      have hclear : State.writers { s with focus := t } t (.x r) = [] := not_not.mp hw
      split at h
      · next p hp =>
        split at h
        · cases h
        · next w ws hq => cases h; exact readX_port h0 hp hclear hq
      · next hp => cases h; exact readX_reg h0 hp hclear

/-- A register that an access in flight will write holds the instruction back, or traps where the access is held (R32, R102). -/
theorem scoreboard_busy {s : State} {r : Reg} (h : s.writers s.focus r ≠ []) : scoreboard r s =
    if (s.writers s.focus r).any (fun q => decide (q.cls = .held)) then .error (.trap DET_ORDER 0) s else .error (.wait .other) s := by
  simp only [scoreboard, M.bind_run, M.get_run]
  split <;> simp [await_run, h]

/-- A source that an access in flight will write. -/
theorem readX_busy {s : State} {r : BitVec 5} (h0 : r ≠ 0) (h : s.writers s.focus (.x r) ≠ []) : readX r s =
    if (s.writers s.focus (.x r)).any (fun q => decide (q.cls = .held)) then .error (.trap DET_ORDER 0) s
    else .error (.wait .other) s := by
  simp only [readX, M.bind_run, focus_run, if_neg h0, scoreboard_busy h]
  cases (s.writers s.focus (.x r)).any fun q => decide (q.cls = .held) <;> rfl

/-- A port register is not x0. -/
theorem ne_zero_of_portOf {h : HartId} {r : BitVec 5} {p : Fin 4} (hp : portOf h r = some p) : r ≠ 0 := by
  rintro rfl
  unfold portOf at hp
  split at hp
  · cases hp
  · cases hp
  · exact absurd hp (by simp)

/-- An empty arrival queue makes its reader wait (R49). -/
theorem readX_empty {s : State} {r : BitVec 5} {p : Fin 4} (hp : portOf s.focus.id r = some p) (hw : s.writers s.focus (.x r) = [])
    (hq : s.focus.arrivals[p] = []) : readX r s = .error (.wait (.port p false)) s := by
  simp only [readX, popPort, M.bind_run, focus_run, if_neg (ne_zero_of_portOf hp), scoreboard_clear hw, hp, hq, waitFor_run]

/-- A named port that leads out of the domain traps before any pop or push (R50). -/
theorem checkPorts_absent {s : State} {rs : List (BitVec 5)} (h : ¬ PortsOk s rs) :
    checkPorts rs s = .error (.trap PORT_ABSENT 0) s := by
  have : ¬ (rs.all fun r => match portOf s.focus.id r with | some p => s.portOk s.focus p | none => true) = true := by
    rw [List.all_eq_true]
    intro hall
    refine h fun r hr p hp => ?_
    have := hall r hr
    rwa [hp] at this
  simp only [checkPorts, M.bind_run, M.get_run, check_run]; exact if_neg this

/-! ### Destinations -/

/-- Pushing words in order while there is room for all. -/
theorem forM_pushPort_room {p : Fin 4} (qs : List Pending) : ∀ {s : State}, s.focus.outputs[p].length + qs.length ≤ 2 →
    (qs.forM fun q => pushPort p (q.value.setWidth 64)) s =
      .ok () (s.mapFocus fun t => { t with outputs := t.outputs.set p (t.outputs[p] ++ qs.map fun q => q.value.setWidth 64) }) := by
  induction qs with
  | nil => intro s _; simp [State.mapFocus]
  | cons q qs ih =>
    intro s h
    simp only [List.length_cons, Fin.getElem_fin] at h
    have hpush : pushPort p (q.value.setWidth 64) s = .ok ()
        (s.mapFocus fun t => { t with outputs := t.outputs.set p (t.outputs[p] ++ [q.value.setWidth 64]) }) := by
      simp only [pushPort, M.bind_run, focus_run, await_run, setFocus_run, decide_eq_true_eq]
      rw [if_pos (by simp only [Fin.getElem_fin]; omega)]
    rw [show (q :: qs).forM (fun q => pushPort p (q.value.setWidth 64)) s = _ from M.bind_ok hpush, ih (by simp; omega)]
    simp [State.mapFocus]

/-- A full output queue makes its writer wait (R49). -/
theorem pushPort_full {s : State} {p : Fin 4} {w : Word} (h : s.focus.outputs[p].length = 2) :
    pushPort p w s = .error (.wait (.port p true)) s := by
  simp only [pushPort, M.bind_run, focus_run, await_run, h]; rfl

/-- Giving a register a result changes the register, or the port's output queue, and the local loads of it that pend. -/
theorem give_frame {s : State} {t t' : Thread} {r : BitVec 5} {w : Word} (h : give s t r w = some t') :
    t' = { t with x := t'.x, pend := t'.pend, outputs := t'.outputs } := by
  unfold give at h
  split at h
  · cases h; rfl
  · split at h
    · cases h
    · split at h
      · cases h; rfl
      · dsimp only at h
        split at h
        · cases h; rfl
        · cases h

/-- The pushes of a port that are due when they find room for all (R214). -/
theorem flushPort_room {s : State} {r : BitVec 5} {p : Fin 4}
    (h : s.focus.outputs[p].length + (s.focus.pend.filter fun q => q.dest = .inl r).length ≤ 2) :
    flushPort r p s = .ok () (s.mapFocus fun t => { t with
      outputs := t.outputs.set p (t.outputs[p] ++ (s.focus.pend.filter fun q => q.dest = .inl r).map fun q => q.value.setWidth 64)
      pend := t.pend.filter fun q => q.dest ≠ .inl r }) := by
  simp only [flushPort, M.bind_run, focus_run]
  rw [forM_pushPort_room _ h]
  rfl

/-- A destination that the statements give a result is written. -/
theorem writeX_of_give {s : State} {t t' : Thread} {r : BitVec 5} {w : Word} (h : give s t r w = some t') :
    writeX r w { s with focus := t } = .ok () { s with focus := t' } := by
  unfold give at h
  split at h
  · next h0 => cases h; subst h0; exact writeX_zero _ _
  · next h0 =>
    split at h
    · cases h
    · next hw =>
      have hclear : State.writers { s with focus := t } t (.x r) = [] := not_not.mp hw
      split at h
      · next hp =>
        cases h
        rw [writeX_reg h0 hp hclear]
        simp only [State.mapFocus, Thread.setX, if_neg h0]; rfl
      · next p hp =>
        dsimp only at h
        split at h
        · next hroom =>
          cases h
          simp only [List.length_map, Fin.getElem_fin] at hroom
          simp only [writeX, M.bind_run, focus_run, if_neg h0, hp, scoreboard_clear hclear]
          rw [flushPort_room (by simp only [Fin.getElem_fin]; omega)]
          simp only [pushPort, M.bind_run, focus_run, await_run, State.mapFocus, setFocus_run, decide_eq_true_eq]
          rw [if_pos (by simp; omega)]
          simp
        · cases h

/-- A result for a port whose output queue is full waits for room. -/
theorem writeX_full {s : State} {r : BitVec 5} {p : Fin 4} {w : Word} (hp : portOf s.focus.id r = some p)
    (hw : s.writers s.focus (.x r) = []) (hfull : s.focus.outputs[p].length = 2) :
    ∃ s', writeX r w s = .error (.wait (.port p true)) s' := by
  simp only [writeX, M.bind_run, focus_run, if_neg (ne_zero_of_portOf hp), hp, scoreboard_clear hw]
  cases hdue : s.focus.pend.filter fun q => q.dest = .inl r with
  | nil =>
    rw [flushPort_room (by rw [hdue, hfull]; rfl)]
    exact ⟨_, pushPort_full (by rw [hdue]; simpa using hfull)⟩
  | cons q qs =>
    refine ⟨s, ?_⟩
    simp only [flushPort, M.bind_run, focus_run, hdue]
    rw [show (q :: qs).forM (fun q => pushPort p (q.value.setWidth 64)) s = _ from
      (M.bind_run (pushPort p (q.value.setWidth 64)) _ s).trans (by rw [pushPort_full hfull])]

end Sys2Proof.Machine
end

section
/-! SUPPORT. How a scalar instruction issues: it completes, traps, waits, or does nothing under a false guard (R134, R335), and
how it retires (R16, R99). -/

namespace Sys2Proof.Machine

open Sys2Proof.Claim

section
variable {s s' : State} {av : Avail} {g : Guard} {m : M Unit} {pre : State → Option (BitVec 8)} {cl : Closing}

/-- An enabled instruction whose effect runs to its end completes. -/
theorem State.scalar_completes {t : Thread} (hen : Enabled s av g) (hpre : pre s = none)
    (hm : m { s with focus := start s 4 } = .ok () { s with focus := t }) : s.scalar av g m pre cl = retired s t 4 cl := by
  unfold State.scalar; rw [hen.2]; exact State.issue_ok hen.1 hpre hm

/-- An enabled instruction whose effect changes more than the hart. -/
theorem State.scalar_ok (hen : Enabled s av g) (hpre : pre s = none) (hm : m { s with focus := start s 4 } = .ok () s') :
    s.scalar av g m pre cl = s'.retire s.focus 4 cl true := by
  unfold State.scalar; rw [hen.2]; exact State.issue_ok hen.1 hpre hm

/-- An enabled instruction that traps has no other effect. -/
theorem State.scalar_trap {code : BitVec 8} {a : Word} (hen : Enabled s av g) (hpre : pre s = none)
    (hm : m { s with focus := start s 4 } = .error (.trap code a) s') : s.scalar av g m pre cl = s.raise code a := by
  unfold State.scalar; rw [hen.2]; exact State.issue_trap hen.1 hpre hm

/-- An enabled instruction that waits is tried again. -/
theorem State.scalar_wait {w : Wait} (hen : Enabled s av g) (hpre : pre s = none)
    (hm : m { s with focus := start s 4 } = .error (.wait w) s') : s.scalar av g m pre cl = s.stall w := by
  unfold State.scalar; rw [hen.2]; exact State.issue_wait hen.1 hpre hm

/-- A refusal before the guard. -/
theorem State.scalar_pre {code : BitVec 8} (ha : av.allows s.focus.id = true) (hpre : pre s = some code) :
    s.scalar av g m pre cl = s.raise code 0 := by
  simp [State.scalar, State.issue, ha, hpre]

/-- What does nothing under a guard whose bit 0 is 0, in a hart that may execute the instruction, retires. -/
theorem State.scalar_disabled (ha : av.allows s.focus.id = true) (hpre : pre s = none) (hg : bit (s.focus.guard g) 0 = false) :
    s.scalar av g m pre cl = { s with focus := start s 4 }.retire s.focus 4 cl false := by
  simp only [State.scalar, State.issue, ha, hpre, hg]; rfl

/-- A 16-bit instruction whose effect runs to its end completes. -/
theorem State.compact_completes {t : Thread} (ha : av.allows s.focus.id = true)
    (hm : m { s with focus := start s 2 } = .ok () { s with focus := t }) : s.compact av m cl = retired s t 2 cl := by
  unfold State.compact; exact State.issue_ok ha rfl hm

end

/-- Every hart may execute what an engine may (R335). -/
@[simp] theorem Avail.engine_allows (h : HartId) : Avail.engine.allows h = true := by cases h <;> rfl

/-! ### Retirement (R16, R99) -/

@[simp] theorem Thread.setX_id (t : Thread) (r : BitVec 5) (w : Word) : (t.setX r w).id = t.id := by
  unfold Thread.setX; split <;> rfl

@[simp] theorem Thread.commit_id (t : Thread) (q : Pending) : (t.commit q).id = t.id := by
  unfold Thread.commit
  repeat' split
  all_goals simp

theorem Thread.foldl_commit_id (qs : List Pending) : ∀ t : Thread, (qs.foldl Thread.commit t).id = t.id := by
  induction qs with
  | nil => intro t; rfl
  | cons q qs ih => intro t; rw [List.foldl_cons, ih, Thread.commit_id]

@[simp] theorem Thread.age_id (t : Thread) : t.age.id = t.id := Thread.foldl_commit_id _ _

theorem lookup?_insertKey_same {κ α : Type} [DecidableEq κ] (k : κ) (a : α) (m : List (κ × α)) :
    lookup? k (insertKey k a m) = some a := by
  induction m with
  | nil => simp [insertKey, lookup?]
  | cons e r ih =>
    obtain ⟨k', b⟩ := e
    unfold insertKey
    split
    · simp [lookup?]
    · next hk => simp [lookup?, hk, ih]

theorem lookup?_insertKey_ne {κ α : Type} [DecidableEq κ] {k k' : κ} (h : k' ≠ k) (a : α) (m : List (κ × α)) :
    lookup? k' (insertKey k a m) = lookup? k' m := by
  induction m with
  | nil => simp [insertKey, lookup?, Ne.symm h]
  | cons e r ih =>
    obtain ⟨k'', b⟩ := e
    unfold insertKey
    split
    · next hk => subst hk; simp [lookup?, Ne.symm h]
    · simp only [lookup?, ih]

/-- Counting an issue changes the count alone. -/
theorem State.countIssue_frame (s : State) : s.countIssue = { s with streaks := s.countIssue.streaks } := by
  unfold State.countIssue; split <;> rfl

/-- The count of issues in a row of a thread set. -/
theorem State.countIssue_streaks {s : State} {c : CoreId} {h : Nat} (hid : s.focus.id = .thread c h) :
    lookup? c s.countIssue.streaks =
      some (h, match lookup? c s.streaks with | some (h', n) => if h' = h then n + 1 else 1 | none => 1) := by
  rcases hl : lookup? c s.streaks with _ | ⟨h', n⟩ <;> simp [State.countIssue, hid, lookupD, hl, lookup?_insertKey_same]

/-- Retirement of a hart outside a troupe that repeats nothing and closes nothing: it moves on, and its core counts an issue. -/
theorem State.retired_alone {s : State} (t : Thread) (len : Nat) (htr : s.focus.troupe = none) (hrep : s.focus.rep = none) :
    retired s t len .no = State.countIssue { s with
      focus := { ({ t with pc := t.npc } : Thread).age with wait := none, part := none, cycles := t.cycles + 1 } } := by
  simp only [retired, State.retire, State.slotDone, State.moveRegion, Thread.advance, htr, hrep]
  rfl

/-- R16, R99: retirement of a hart outside a troupe that repeats nothing. -/
theorem retiresAlone : Claim.RetiresAlone := by
  intro s t len htr hrep
  rw [State.retired_alone t len htr hrep]
  exact ⟨State.countIssue_frame _, fun c h hid => State.countIssue_streaks (by simpa using hid)⟩

/-! ### Instructions of two sources and of one (R185, R187, R189, R190) -/

/-- The two-source instructions are the shared form, each with a function of its own. -/
theorem exec_twoSource {e : (Guard → BitVec 5 → BitVec 5 → BitVec 5 → Instr) × (Word → Word → Word)}
    (he : e ∈ aluOps ++ mulDivOps) : ∃ f, ∀ g d a b s, exec (e.1 g d a b) s = .next (s.scalar .engine g (binary f d a b)) := by
  simp only [aluOps, mulDivOps, List.cons_append, List.nil_append, List.mem_cons, List.not_mem_nil, or_false] at he
  rcases he with rfl | rfl | rfl | rfl | rfl | rfl | rfl | rfl | rfl | rfl | rfl | rfl | rfl | rfl | rfl | rfl | rfl | rfl | rfl | rfl |
    rfl | rfl | rfl | rfl | rfl | rfl | rfl | rfl | rfl <;> exact ⟨_, fun _ _ _ _ _ => rfl⟩

/-- The one-source ALU instructions. -/
theorem exec_oneSource {e : (Guard → BitVec 5 → BitVec 5 → Instr) × (Word → Word)} (he : e ∈ aluUnaryOps) :
    ∃ f, ∀ g d a s, exec (e.1 g d a) s = .next (s.scalar .engine g (unary f d a)) := by
  simp only [aluUnaryOps, List.mem_cons, List.not_mem_nil, or_false] at he
  rcases he with rfl | rfl | rfl | rfl | rfl | rfl <;> exact ⟨_, fun _ _ _ _ => rfl⟩

/-- The immediate forms. -/
theorem exec_immediate {e : (Guard → BitVec 5 → BitVec 5 → BitVec 11 → Instr) × (Word → Word → Word)} (he : e ∈ immOps)
    (i : BitVec 11) : ∃ f, ∀ g d a s, exec (e.1 g d a i) s = .next (s.scalar .engine g (unary f d a)) := by
  simp only [immOps, List.mem_cons, List.not_mem_nil, or_false] at he
  rcases he with rfl | rfl | rfl | rfl | rfl | rfl <;> exact ⟨_, fun _ _ _ _ => rfl⟩

/-- The shift immediates. -/
theorem exec_shiftImmediate {e : (Guard → BitVec 5 → BitVec 5 → BitVec 6 → Instr) × (Word → Nat → Word)} (he : e ∈ shiftImmOps)
    (i : BitVec 6) : ∃ f, ∀ g d a s, exec (e.1 g d a i) s = .next (s.scalar .engine g (unary f d a)) := by
  simp only [shiftImmOps, List.mem_cons, List.not_mem_nil, or_false] at he
  rcases he with rfl | rfl | rfl | rfl <;> exact ⟨_, fun _ _ _ _ => rfl⟩

/-- The first source of a two-source instruction holds it back. -/
theorem binary_source_error {s : State} {f : Word → Word → Word} {d a b : BitVec 5} {e : Stop}
    (hports : PortsOk s [a, b, d]) (ha : readX a s = .error e s) : binary f d a b s = .error e s :=
  (M.bind_ok (checkPorts_ok hports)).trans (M.bind_error ha)

/-- R16, R32, R49, R50, R102: what keeps a two-source instruction from completing. -/
theorem operandsHoldBack : Claim.OperandsHoldBack := by
  intro e he s g d a b hen
  obtain ⟨f, hf⟩ := exec_twoSource he
  simp only [hf, Host.Outcome.next.injEq]
  refine ⟨fun hports => ?_, fun hports hclear p hp hempty => ?_, fun hports ha hbusy => ?_,
    fun hports x y t₁ t₂ p hx hy hp hclear hfull => ?_⟩
  · refine State.scalar_trap (s' := { s with focus := start s 4 }) hen rfl ?_
    exact M.bind_error (checkPorts_absent hports)
  · exact State.scalar_wait hen rfl (binary_source_error hports (readX_empty hp hclear hempty))
  · have hread := readX_busy (s := { s with focus := start s 4 }) ha hbusy
    split
    · next hheld => exact State.scalar_trap hen rfl (binary_source_error hports (hread.trans (if_pos hheld)))
    · next hheld => exact State.scalar_wait hen rfl (binary_source_error hports (hread.trans (if_neg hheld)))
  · have h₁ := take_frame hx
    have h₂ := take_frame hy
    obtain ⟨s', hs'⟩ := writeX_full (s := { s with focus := t₂ }) (w := f x y) (r := d) (p := p)
      (by rw [h₂, h₁]; exact hp) (by rw [h₂, h₁]; exact hclear) (by rw [h₂, h₁]; exact hfull)
    refine State.scalar_wait hen rfl (s' := s') ?_
    exact (M.bind_ok (s := { s with focus := start s 4 }) (checkPorts_ok hports)).trans
      ((M.bind_ok (readX_of_take hx)).trans ((M.bind_ok (readX_of_take hy)).trans hs'))

/-- R134: what a false guard makes of an ALU, MULDIV or immediate instruction. -/
theorem disabledHasNoEffect : Claim.DisabledHasNoEffect := by
  intro s g hg
  refine ⟨fun e he d a b => ?_, fun e he d a => ?_, fun e he d a i => ?_, fun e he d a i => ?_⟩
  · obtain ⟨f, hf⟩ := exec_twoSource he
    rw [hf, State.scalar_disabled (Avail.engine_allows _) rfl hg]
  · obtain ⟨f, hf⟩ := exec_oneSource he
    rw [hf, State.scalar_disabled (Avail.engine_allows _) rfl hg]
  · obtain ⟨f, hf⟩ := exec_immediate he i
    rw [hf, State.scalar_disabled (Avail.engine_allows _) rfl hg]
  · obtain ⟨f, hf⟩ := exec_shiftImmediate he i
    rw [hf, State.scalar_disabled (Avail.engine_allows _) rfl hg]

/-- Settles O4: retirement, false guards, and what holds the operands of a two-source instruction back. -/
theorem instructionsRetireOrAreHeldBack : Obligations.InstructionsRetireOrAreHeldBack :=
  ⟨operandsHoldBack, disabledHasNoEffect, retiresAlone⟩

end Sys2Proof.Machine
end

section
/-! SUPPORT. The special registers, the operand-extension registers and RAND (R60 to R63, R344 to R346, R352). -/

namespace Sys2Proof.Machine

open Sys2Proof.Claim

/-! ### What a CSR reads as (R25, R60 to R63) -/

/-- R25, R60, R62, R352: the registers that every hart has. -/
theorem csr_of_hart (s : State) : s.csr 0x001 = s.focus.fcsr ∧ s.csr 0x010 = BitVec.ofNat 64 (s.focus.task % 2 ^ 32) ∧
    s.csr 0x014 = BitVec.ofNat 64 (Config.deviceId.toNat * 2 ^ 18 + (injOf s.focus.id).toNat) ∧ s.csr 0x020 = s.clk.setWidth 64 ∧
    s.csr 0x030 = s.focus.region.entry ∧ s.csr 0x400 = (if s.focus.sup.spp then 1 else 0) ∧ s.csr 0x401 = s.focus.sup.sepc ∧
    s.csr 0x402 = s.focus.sup.scause ∧ s.csr 0x403 = s.focus.sup.stval ∧ s.csr 0x404 = s.focus.sup.stvec ∧
    s.csr 0x405 = s.focus.sup.sscratch := by
  refine ⟨rfl, rfl, rfl, rfl, rfl, ?_, rfl, rfl, rfl, rfl, rfl⟩
  show BitVec.ofNat 64 (flag s.focus.sup.spp) = _
  cases s.focus.sup.spp <;> rfl

/-- What a core thread's launch gives it. -/
theorem State.ofLaunch_eq {s : State} {c : CoreId} {k : Nat} {l : Launch} (hid : s.focus.id = .thread c k)
    (hl : s.launchOf s.focus = some l) (f : Launch → CoreId → Nat) : s.ofLaunch f = f l c := by
  simp [State.ofLaunch, hl, hid, HartId.core?]

/-- R25: the fields of dom. -/
theorem Launch.dom_eq (l : Launch) (c : CoreId) :
    let sdi := if l.info.sdh = 0 ∨ l.info.sdw = 0 then 0
        else (c.crow - l.crow) / l.info.sdh * ((l.info.dw + l.info.sdw - 1) / l.info.sdw) + (c.ccol - l.ccol) / l.info.sdw
    l.dom c = 5 + (if l.info.sdh = 0 then 0 else 2) + (if l.info.fbid = 0 then 0 else 8) + l.info.dw * 2 ^ 4 +
        l.info.dh * 2 ^ 12 + l.info.sdw * 2 ^ 19 + l.info.sdh * 2 ^ 27 + sdi * 2 ^ 34 + l.info.fbid * 2 ^ 48 := by
  intro sdi
  have hsub : l.subdomain c = sdi := by
    unfold Launch.subdomain
    by_cases hz : l.info.sdh = 0 ∨ l.info.sdw = 0
    · simp [sdi, hz]
    · have hw : l.info.sdw ≠ 0 := fun h => hz (.inr h)
      simp [sdi, ceilDiv, hw]
  have hflag (n : Nat) (k : Nat) : flag (decide (n ≠ 0)) * k = if n = 0 then 0 else k := by
    by_cases h : n = 0 <;> simp [flag, h]
  simp only [Launch.dom, hsub, hflag]
  omega

/-- R23, R63: trinfo. -/
theorem trinfo_eq (s : State) : (s.troupeOf s.focus = none → s.csr 0x022 = 0) ∧ ∀ tr, s.troupeOf s.focus = some tr →
    s.csr 0x022 = BitVec.ofNat 64 (s.focus.tpos + tr.width * 2 ^ 8 + tr.skew * 2 ^ 16 + 2 ^ 24 + (if s.focus.tpos = 0 then 2 ^ 25 else 0) +
      (if ∃ n, tr.broken = some n ∧ n ≤ s.focus.slotNo then 2 ^ 26 else 0)) := by
  refine ⟨fun h => ?_, fun tr h => ?_⟩
  · show s.trinfo s.focus = 0
    simp [State.trinfo, h]
  · show s.trinfo s.focus = _
    have hbroken : flag (tr.brokenAt s.focus.slotNo) * 2 ^ 26 = if ∃ n, tr.broken = some n ∧ n ≤ s.focus.slotNo then 2 ^ 26 else 0 := by
      cases hb : tr.broken with
      | none => simp [Troupe.brokenAt, hb, flag]
      | some n => by_cases hn : n ≤ s.focus.slotNo <;> simp [Troupe.brokenAt, hb, flag, hn]
    have hlead : flag (decide (s.focus.tpos = 0)) * 2 ^ 25 = if s.focus.tpos = 0 then 2 ^ 25 else 0 := by
      by_cases h0 : s.focus.tpos = 0 <;> simp [flag, h0]
    simp only [State.trinfo, h, hbroken, hlead]
    congr 1; omega

/-! ### The CSR instructions (R344) -/

/-- The CSR instructions are the shared form. -/
theorem exec_csr {e : (Guard → BitVec 5 → BitVec 5 → BitVec 11 → Instr) × (Word → Word → Word) × Bool} (he : e ∈ csrOps)
    (g : Guard) (d a : BitVec 5) (i : BitVec 11) (s : State) : exec (e.1 g d a i) s =
      .next (s.scalar .core g (csrOp e.2.1 e.2.2 d a i.toNat) (csrPre i.toNat (e.2.2 || decide (a ≠ 0)))) := by
  simp only [csrOps, List.mem_cons, List.not_mem_nil, or_false] at he
  rcases he with rfl | rfl | rfl
  · rfl
  · simp only [Bool.false_or]; rfl
  · simp only [Bool.false_or]; rfl

/-- R60, R158, R352: what the checks before the guard admit. -/
theorem csrPre_ok {s : State} {n : Nat} {w : Bool} (h : CsrOk s n w) : csrPre n w s = none := by
  rcases h with (rfl | ⟨rfl, h⟩) | ⟨h4, h5, hst, hpriv⟩
  · simp [csrPre, userCsr]
  · have huser : userCsr n = some true := by
      unfold userCsr
      rw [if_neg (by omega), if_pos (by omega)]
    simp [csrPre, huser, show ¬ 0x400 ≤ n by omega]
  · simp [csrPre, h4, State.supervisor, hst, hpriv, h5]

/-- A user CSR that does not exist or must not be written is refused. -/
theorem csrPre_user {s : State} {n : Nat} {w : Bool} (hn : n < 0x400) (h : ¬ CsrOk s n w) : csrPre n w s = some ILLEGAL := by
  unfold csrPre
  rw [if_neg (by omega)]
  unfold userCsr
  by_cases h1 : n = 1
  · exact absurd (.inl (.inl h1)) h
  · rw [if_neg (by omega)]
    split
    · next heq => rfl
    · next ro heq =>
      split at heq
      · next hr =>
        cases heq
        cases w
        · exact absurd (.inl (.inr ⟨rfl, by omega⟩)) h
        · rfl
      · cases heq

/-- The low k bits of a word. -/
theorem and_low_bits (w : Word) {k : Nat} (hk : k < 64) : w &&& BitVec.ofNat 64 (2 ^ k - 1) = BitVec.ofNat 64 (w.toNat % 2 ^ k) := by
  apply BitVec.eq_of_toNat_eq
  have : 2 ^ k < 2 ^ 64 := Nat.pow_lt_pow_right (by decide) hk
  rw [BitVec.toNat_and, BitVec.toNat_ofNat, BitVec.toNat_ofNat, Nat.mod_eq_of_lt (by omega), Nat.and_two_pow_sub_one_eq_mod,
    Nat.mod_eq_of_lt (Nat.lt_of_le_of_lt (Nat.mod_le _ _) w.isLt)]

/-- A word without its bit 0. -/
theorem and_not_one (w : Word) : w &&& ~~~ 1 = BitVec.ofNat 64 (w.toNat / 2 * 2) := by
  apply BitVec.eq_of_getLsbD_eq
  intro i hi
  rw [BitVec.getLsbD_and, BitVec.getLsbD_not, BitVec.getLsbD_ofNat, show (1 : Word) = 1#64 from rfl, BitVec.getLsbD_one]
  cases i with
  | zero => simp
  | succ i => simp [Nat.testBit_succ, hi, BitVec.getLsbD]

/-- R61, R344, R352: a CSR that may be written takes its value. -/
theorem setCsr_eq {s : State} {n : Nat} (h : CsrOk s n true) (t : Thread) (w : Word) : t.setCsr n w = csrWritten t n w := by
  have hn : n = 1 ∨ n = 0x400 ∨ n = 0x401 ∨ n = 0x402 ∨ n = 0x403 ∨ n = 0x404 ∨ n = 0x405 := by
    rcases h with (h | ⟨h, -⟩) | ⟨h, h', -⟩
    · exact .inl h
    · cases h
    · omega
  have h7 : w &&& 0x7f = BitVec.ofNat 64 (w.toNat % 128) := and_low_bits w (k := 7) (by decide)
  have h8 : w &&& 0xff = BitVec.ofNat 64 (w.toNat % 256) := and_low_bits w (k := 8) (by decide)
  rcases hn with rfl | rfl | rfl | rfl | rfl | rfl | rfl <;> simp only [Thread.setCsr, csrWritten, h7, h8, and_not_one] <;> rfl

/-- R246: no load in flight may still raise a flag. -/
theorem flagsDue_false {s : State} (h : ∀ r ∈ s.net, r.src = .hart s.focus.id → ∀ n q f, r.body ≠ .load n (.f q f)) :
    s.flagsDue = false := by
  unfold State.flagsDue
  rw [List.any_eq_false]
  intro r hr
  rw [Bool.and_eq_true, not_and]
  intro hof
  have hof : r.src = .hart s.focus.id := by simpa [Req.isOf] using hof
  split
  · next n q f heq => exact absurd heq (h r hr hof n q f)
  · simp

/-- What a CSR reads as depends on neither the next pc nor the arrival queues. -/
theorem csr_start (s : State) (len n : Nat) : State.csr { s with focus := start s len } n = s.csr n := by
  unfold State.csr
  split <;> rfl

/-- The effect of a CSR instruction whose operands are there. -/
theorem csrOp_run {s : State} {f : Word → Word → Word} {always : Bool} {d a : BitVec 5} {n : Nat} {x : Word} {t₁ t₂ : Thread}
    (hports : PortsOk s [a, d]) (hflags : n = 0x001 → s.flagsDue = false) (hx : take s (start s 4) a = some (x, t₁))
    (hgive : give s (if always = true ∨ a ≠ 0 then t₁.setCsr n (f (s.csr n) x) else t₁) d (s.csr n) = some t₂) :
    csrOp f always d a n { s with focus := start s 4 } = .ok () { s with focus := t₂ } := by
  rw [← csr_start s 4 n] at hgive
  have htail : (readX a >>= fun x => if (always || decide (a ≠ 0)) = true then
        setFocus (fun t => t.setCsr n (f (State.csr { s with focus := start s 4 } n) x)) >>= fun _ =>
          writeX d (State.csr { s with focus := start s 4 } n)
      else writeX d (State.csr { s with focus := start s 4 } n)) { s with focus := start s 4 } = .ok () { s with focus := t₂ } := by
    refine (M.bind_ok (readX_of_take hx)).trans ?_
    by_cases hw : always = true ∨ a ≠ 0
    · rw [if_pos hw] at hgive
      rw [if_pos (by simpa using hw)]
      exact (M.bind_ok (setFocus_run _ _)).trans (writeX_of_give hgive)
    · rw [if_neg hw] at hgive
      rw [if_neg (by simpa using hw)]
      exact writeX_of_give hgive
  refine (M.bind_ok (s := { s with focus := start s 4 }) (checkPorts_ok hports)).trans ((M.bind_ok (M.get_run _)).trans ?_)
  by_cases hn : n = 0x001
  · have hdue : State.flagsDue { s with focus := start s 4 } = false := hflags hn
    rw [if_pos hn]
    exact (M.bind_ok (by rw [await_run, hdue]; rfl)).trans htail
  · rw [if_neg hn]; exact htail

/-- R60, R158, R344, R352: the CSR instructions. -/
theorem csrAccesses : Claim.CsrAccesses := by
  refine ⟨fun e he s g d a i x t₁ t₂ hen hports hok hflags hx hgive => ?_, fun e he s g d a i hcore => ⟨fun hi hok => ?_,
    fun hi hsup => ?_, fun hi hst hpriv => ?_⟩, csr_of_hart, fun s c k l hid hl => ?_, trinfo_eq⟩
  · rw [Completes, exec_csr he]
    refine congrArg _ (State.scalar_completes hen (csrPre_ok hok) (csrOp_run hports (fun hi => flagsDue_false (hflags ?_)) hx ?_))
    · exact BitVec.eq_of_toNat_eq hi
    · split at hgive
      · next hw =>
        rw [show (e.2.2 || decide (a ≠ 0)) = true by simpa using hw] at hok
        rw [if_pos hw, setCsr_eq hok]; exact hgive
      · next hw => rw [if_neg hw]; exact hgive
  · rw [exec_csr he, State.scalar_pre hcore (csrPre_user hi hok)]; rfl
  · have hsuper : s.supervisor = false := by
      rcases hsup with h | h <;> simp [State.supervisor, h]
    rw [exec_csr he, State.scalar_pre hcore (code := PRIV) (by simp [csrPre, hi, hsuper])]; rfl
  · have hsuper : s.supervisor = true := by simp [State.supervisor, hst, hpriv]
    rw [exec_csr he, State.scalar_pre hcore (code := ILLEGAL) (by simp [csrPre, hi, hsuper, show 0x400 ≤ i.toNat by omega])]; rfl
  · have hof (f : Launch → CoreId → Nat) : BitVec.ofNat 64 (s.ofLaunch f) = BitVec.ofNat 64 (f l c) :=
      congrArg _ (State.ofLaunch_eq hid hl f)
    refine ⟨hof _, hof _, hof _, hof _, (hof _).trans (congrArg _ (l.dom_eq c)), (hof _).trans (BitVec.ofNat_toNat _ _),
      (hof _).trans (congrArg (fun n => BitVec.ofNat 64 (l.tcmOff + s.focus.h * n)) (Nat.mul_comm _ _)),
      (hof _).trans (congrArg (BitVec.ofNat 64) (Nat.mul_comm _ _)), hof fun l _ => if l.info.det then l.sstep % 2 ^ 32 else 0⟩

/-! ### SETE, GETE and RAND (R345, R346) -/

/-- R345: SETE and GETE. -/
theorem operandExtensionMoves : Claim.OperandExtensionMoves := by
  refine ⟨fun s g d a x t hen hports hx => ?_, fun s g d a t hen hports hgive => ?_⟩
  · refine congrArg _ (State.scalar_completes hen rfl ?_)
    exact (M.bind_ok (s := { s with focus := start s 4 }) (checkPorts_ok hports)).trans (M.bind_ok (readX_of_take hx))
  · refine congrArg _ (State.scalar_completes hen rfl ?_)
    exact (M.bind_ok (s := { s with focus := start s 4 }) (checkPorts_ok hports)).trans (writeX_of_give hgive)

theorem mix_eq (z m : Word) (k : Nat) : Claim.mix z k m = (z ^^^ z >>> k) * m := by
  have : z >>> k = BitVec.ofNat 64 (z.toNat / 2 ^ k) := by
    apply BitVec.eq_of_toNat_eq
    rw [BitVec.toNat_ushiftRight, Nat.shiftRight_eq_div_pow, BitVec.toNat_ofNat,
      Nat.mod_eq_of_lt (Nat.lt_of_le_of_lt (Nat.div_le_self _ _) z.isLt)]
  rw [Claim.mix, this]

theorem mix_one (z : Word) (k : Nat) : Claim.mix z k 1 = z ^^^ z >>> k := (mix_eq z 1 k).trans (BitVec.mul_one _)

/-- R346: the generator's word. -/
theorem randWord_eq (seed counter : Word) (w : BitVec 2) : randWord seed counter w = randAt seed counter w.toNat := by
  have hv : (counter <<< 2) + w.setWidth 64 = BitVec.ofNat 64 (counter.toNat * 4 + w.toNat) := by
    apply BitVec.eq_of_toNat_eq
    have := w.isLt
    simp only [BitVec.toNat_add, BitVec.toNat_shiftLeft, BitVec.toNat_setWidth, BitVec.toNat_ofNat, Nat.shiftLeft_eq]
    omega
  simp only [randWord, randAt, hv]
  rw [mix_one, mix_eq, mix_eq, mix_eq]

/-- R346: RAND. -/
theorem randWritesItsWord : Claim.RandWritesItsWord := by
  intro s g d a b w x y t₁ t₂ t₃ hen hports hx hy hgive
  rw [← randWord_eq] at hgive
  refine congrArg _ (State.scalar_completes hen rfl ?_)
  exact (M.bind_ok (s := { s with focus := start s 4 }) (checkPorts_ok hports)).trans
    ((M.bind_ok (readX_of_take hx)).trans ((M.bind_ok (readX_of_take hy)).trans (writeX_of_give hgive)))

/-- Settles O40: the special registers by what the checks before the guard admit and the shared form of their instructions. -/
theorem specialRegistersAndRand : Obligations.SpecialRegistersAndRand :=
  ⟨csrAccesses, operandExtensionMoves, randWritesItsWord⟩

end Sys2Proof.Machine
end

section
/-! SUPPORT. WFE at its end (R341): the statement keeps the model's mark of a transfer of control, which the model clears. -/

namespace Sys2Proof.Machine

open Sys2Proof.Claim

/-- A thread that waits in a WFE with its event latch set, the instruction before which transferred control. -/
def wfeAfterJump : State :=
  { State.reset with focus := { State.reset.focus with latch := true, taken := true, wait := some (.event, 0) } }

/-- The WFE itself transfers no control, and the model's mark of one is clear at its end. -/
theorem endWfe_taken : (wfeAfterJump.endWfe wfeAfterJump.focus.id).focus.taken = false := rfl

/-- The statement's hart keeps the mark. -/
theorem wfeEnded_taken : (wfeEnded wfeAfterJump wfeAfterJump.focus.id).focus.taken = true := rfl

theorem not_haltAndWfe : ¬ Claim.HaltAndWfe := by
  rintro ⟨-, -, -, -, hends⟩
  have hwake := (hends wfeAfterJump wfeAfterJump.focus.id 0 rfl rfl).1 rfl
  have hstate : wfeAfterJump.endWfe wfeAfterJump.focus.id = wfeEnded wfeAfterJump wfeAfterJump.focus.id :=
    Host.Outcome.next.inj hwake
  have htaken := endWfe_taken
  rw [hstate, wfeEnded_taken] at htaken
  cases htaken

/-- Refutes O39: a WFE that ends leaves the thread with the model's mark of a transfer of control (R22) clear, and the statement's
`wfeEnded` keeps the mark of the instruction before it, here a jump. -/
theorem not_callsHaltsAndReturns : ¬ Obligations.CallsHaltsAndReturns :=
  fun h => not_haltAndWfe h.2.1

end Sys2Proof.Machine
end

section
/-! SUPPORT. Leaving a troupe (R23, R24), notices (R351), and the abort of a launch (R39, R375): what each changes. -/

namespace Sys2Proof.Machine

open Sys2Proof.Claim

theorem State.hart_congr {s u : State} (hf : u.focus = s.focus) (hp : u.parked = s.parked) (k : HartId) : u.hart k = s.hart k := by
  simp only [State.hart, hf, hp]

/-! ### Changes of harts -/

theorem State.mapHart_frame (s : State) (h : HartId) (f : Thread → Thread) :
    s.mapHart h f = { s with focus := (s.mapHart h f).focus, parked := (s.mapHart h f).parked } := s.setHart_frame _

/-- A change of the issuing hart by its name leaves the parked ones. -/
theorem State.mapHart_focus_parked {s : State} {h : HartId} {f : Thread → Thread} (hf : s.focus.id = h) (hid : (f s.focus).id = h) :
    (s.mapHart h f).focus = f s.focus ∧ (s.mapHart h f).parked = s.parked := by
  rw [State.mapHart_focus_id hf hid]; exact ⟨rfl, rfl⟩

/-- A change of another hart leaves the issuing one. -/
theorem State.mapHart_focus_ne {s : State} {h : HartId} {f : Thread → Thread} (hf : s.focus.id ≠ h) (hid : (f (s.hart h)).id = h) :
    (s.mapHart h f).focus = s.focus := State.focus_setHart_ne (by rwa [hid])

@[simp] theorem State.setHart_focus_id (s : State) (t : Thread) : (s.setHart t).focus.id = s.focus.id := by
  unfold State.setHart
  split
  · next h => exact h.symm
  · rfl

@[simp] theorem State.mapHart_focus_name (s : State) (h : HartId) (f : Thread → Thread) : (s.mapHart h f).focus.id = s.focus.id :=
  s.setHart_focus_id _

/-! ### Leaving a troupe -/

@[simp] theorem Thread.leave_id (t : Thread) : t.leave.id = t.id := rfl

/-- What leaving changes of the state. -/
theorem State.leaveTroupe_frame (s : State) (h : HartId) : s.leaveTroupe h =
    { s with focus := (s.leaveTroupe h).focus, parked := (s.leaveTroupe h).parked, troupes := (s.leaveTroupe h).troupes } := by
  unfold State.leaveTroupe
  split
  · rfl
  · split
    · rw [State.mapHart_troupes]; exact s.mapHart_frame _ _
    · dsimp only
      split
      · rfl
      · conv_lhs => rw [State.mapHart_frame s h Thread.leave]

@[simp] theorem State.leaveTroupe_mem (s : State) (h : HartId) : (s.leaveTroupe h).mem = s.mem := by rw [s.leaveTroupe_frame h]
@[simp] theorem State.leaveTroupe_net (s : State) (h : HartId) : (s.leaveTroupe h).net = s.net := by rw [s.leaveTroupe_frame h]
@[simp] theorem State.leaveTroupe_evicted (s : State) (h : HartId) : (s.leaveTroupe h).evicted = s.evicted := by rw [s.leaveTroupe_frame h]
@[simp] theorem State.leaveTroupe_launches (s : State) (h : HartId) : (s.leaveTroupe h).launches = s.launches := by rw [s.leaveTroupe_frame h]
@[simp] theorem State.leaveTroupe_now (s : State) (h : HartId) : (s.leaveTroupe h).now = s.now := by rw [s.leaveTroupe_frame h]
@[simp] theorem State.leaveTroupe_units (s : State) (h : HartId) : (s.leaveTroupe h).units = s.units := by rw [s.leaveTroupe_frame h]
@[simp] theorem State.leaveTroupe_mc (s : State) (h : HartId) : (s.leaveTroupe h).mc = s.mc := by rw [s.leaveTroupe_frame h]
@[simp] theorem State.leaveTroupe_dies (s : State) (h : HartId) : (s.leaveTroupe h).dies = s.dies := by rw [s.leaveTroupe_frame h]

/-- A hart stays as it is when another, or it, leaves a troupe, or goes on alone. -/
theorem State.hart_leaveTroupe (s : State) (h k : HartId) :
    (s.leaveTroupe h).hart k = s.hart k ∨ (s.leaveTroupe h).hart k = (s.hart k).leave := by
  have hmap : (s.mapHart h Thread.leave).hart k = s.hart k ∨ (s.mapHart h Thread.leave).hart k = (s.hart k).leave := by
    by_cases hk : k = h
    · subst hk; exact .inr (State.hart_mapHart_same (by simp))
    · exact .inl (State.hart_mapHart_ne (by simp) hk)
  unfold State.leaveTroupe
  split
  · exact .inl rfl
  · next i _ =>
    split
    · exact hmap
    · dsimp only
      split
      · have hall : (s.mapHarts (fun t => decide (t.troupe = some i)) Thread.leave).hart k = s.hart k ∨
            (s.mapHarts (fun t => decide (t.troupe = some i)) Thread.leave).hart k = (s.hart k).leave := by
          rw [State.hart_mapHarts Thread.leave_id (by simp [Thread.fresh])]
          split
          · exact .inr rfl
          · exact .inl rfl
        exact hall
      · exact hmap

/-- The issuing hart keeps its name. -/
@[simp] theorem State.leaveTroupe_focus_id (s : State) (h : HartId) : (s.leaveTroupe h).focus.id = s.focus.id := by
  unfold State.leaveTroupe
  split
  · rfl
  · have hmap : (s.mapHart h Thread.leave).focus.id = s.focus.id := by
      by_cases hf : s.focus.id = h
      · rw [(State.mapHart_focus_parked hf (by simp [hf])).1]; rfl
      · rw [State.mapHart_focus_ne hf (by simp)]
    split
    · exact hmap
    · dsimp only
      split
      · rw [State.focus_mapHarts]; split <;> rfl
      · exact hmap

theorem State.leaveTroupe_focus (s : State) (h : HartId) :
    (s.leaveTroupe h).focus = s.focus ∨ (s.leaveTroupe h).focus = s.focus.leave := by
  have := s.hart_leaveTroupe h s.focus.id
  rwa [State.hart_of_focus (s.leaveTroupe_focus_id h), State.hart_focus] at this

/-- Fields that leaving a troupe does not touch. -/
theorem State.hart_leaveTroupe_field {α : Type} {f : Thread → α} (hf : ∀ t : Thread, f t.leave = f t) (s : State) (h k : HartId) :
    f ((s.leaveTroupe h).hart k) = f (s.hart k) := by
  rcases s.hart_leaveTroupe h k with heq | heq
  · rw [heq]
  · rw [heq, hf]

theorem State.leaveTroupe_focus_field {α : Type} {f : Thread → α} (hf : ∀ t : Thread, f t.leave = f t) (s : State) (h : HartId) :
    f (s.leaveTroupe h).focus = f s.focus := by
  rcases s.leaveTroupe_focus h with heq | heq
  · rw [heq]
  · rw [heq, hf]

/-! ### Rings and notices -/

theorem State.setRing_frame (s : State) (id : RingId) (r : Ring) :
    s.setRing id r = { s with dies := (s.setRing id r).dies, mc := (s.setRing id r).mc } := by
  cases id <;> rfl

/-- A ring that the module has, after it was replaced. -/
theorem State.ring_setRing_same (s : State) {id : RingId} (r : Ring) (hid : RingId.real id) : (s.setRing id r).ring id = r := by
  cases id with
  | module => rfl
  | die d t =>
    obtain ⟨hd, ht⟩ := hid
    simp [State.ring, State.setRing, Array.getD, Vector.setIfInBounds, hd, ht]

theorem State.ring_congr {s u : State} (hd : u.dies = s.dies) (hm : u.mc = s.mc) (id : RingId) : u.ring id = s.ring id := by
  cases id <;> simp only [State.ring, hd, hm]

/-- What appending a notice changes of the state. -/
theorem State.appendNotice_frame (s : State) (id : RingId) (n : Notice) : s.appendNotice id n =
    { s with focus := (s.appendNotice id n).focus, parked := (s.appendNotice id n).parked, mem := (s.appendNotice id n).mem,
             ecc := (s.appendNotice id n).ecc, dies := (s.appendNotice id n).dies, mc := (s.appendNotice id n).mc } := by
  unfold State.appendNotice
  dsimp only
  rw [State.mapHart_frame, State.setRing_frame]
  rfl

@[simp] theorem State.appendNotice_net (s : State) (id : RingId) (n : Notice) : (s.appendNotice id n).net = s.net := by rw [s.appendNotice_frame id n]
@[simp] theorem State.appendNotice_evicted (s : State) (id : RingId) (n : Notice) : (s.appendNotice id n).evicted = s.evicted := by rw [s.appendNotice_frame id n]
@[simp] theorem State.appendNotice_launches (s : State) (id : RingId) (n : Notice) : (s.appendNotice id n).launches = s.launches := by rw [s.appendNotice_frame id n]
@[simp] theorem State.appendNotice_troupes (s : State) (id : RingId) (n : Notice) : (s.appendNotice id n).troupes = s.troupes := by rw [s.appendNotice_frame id n]
@[simp] theorem State.appendNotice_now (s : State) (id : RingId) (n : Notice) : (s.appendNotice id n).now = s.now := by rw [s.appendNotice_frame id n]
@[simp] theorem State.appendNotice_units (s : State) (id : RingId) (n : Notice) : (s.appendNotice id n).units = s.units := by rw [s.appendNotice_frame id n]

/-- Appending a notice leaves every hart but the ring's steward. -/
theorem State.hart_appendNotice_ne {s : State} {id : RingId} {n : Notice} {k : HartId} (hk : k ≠ id.hart) :
    (s.appendNotice id n).hart k = s.hart k := by
  unfold State.appendNotice
  dsimp only
  rw [State.hart_mapHart_ne (by simp) hk]
  exact State.hart_congr (by rw [State.setRing_frame]; rfl) (by rw [State.setRing_frame]; rfl) k

@[simp] theorem State.appendNotice_focus_id (s : State) (id : RingId) (n : Notice) : (s.appendNotice id n).focus.id = s.focus.id := by
  unfold State.appendNotice
  dsimp only
  rw [State.mapHart_focus_name, State.setRing_frame]
  rfl

/-- R351: a ring after a notice was appended to it. -/
theorem State.ring_appendNotice (s : State) {id : RingId} (n : Notice) (hid : RingId.real id) :
    (s.appendNotice id n).ring id = { s.ring id with head := (s.ring id).head + 1 } := by
  unfold State.appendNotice
  dsimp only
  rw [State.ring_congr (State.mapHart_dies _ _ _) (State.mapHart_mc _ _ _), State.ring_setRing_same _ _ hid]

/-- R351: the notice is in the ring, and its steward's event latch is set. -/
theorem State.appendNotice_noticed (s : State) {id : RingId} (n : Notice) (hid : RingId.real id) :
    Noticed s (s.appendNotice id n) id n := by
  refine ⟨by rw [State.ring_appendNotice _ _ hid], by rw [State.ring_appendNotice _ _ hid], ?_, ?_⟩
  · unfold State.appendNotice
    dsimp only
    rw [State.hart_mapHart_same (by simp)]
  · unfold State.appendNotice
    dsimp only
    rw [State.mapHart_mem, State.setRing_frame]
    rfl

/-- What a report changes of the state. -/
theorem State.report_frame (s : State) (id : RingId) (n : Notice) : s.report id n =
    { s with focus := (s.report id n).focus, parked := (s.report id n).parked, mem := (s.report id n).mem,
             ecc := (s.report id n).ecc, dies := (s.report id n).dies, mc := (s.report id n).mc } := by
  unfold State.report
  dsimp only
  split
  · rw [State.setRing_frame]
  · exact s.appendNotice_frame id n

@[simp] theorem State.report_net (s : State) (id : RingId) (n : Notice) : (s.report id n).net = s.net := by rw [s.report_frame id n]
@[simp] theorem State.report_evicted (s : State) (id : RingId) (n : Notice) : (s.report id n).evicted = s.evicted := by rw [s.report_frame id n]
@[simp] theorem State.report_launches (s : State) (id : RingId) (n : Notice) : (s.report id n).launches = s.launches := by rw [s.report_frame id n]
@[simp] theorem State.report_troupes (s : State) (id : RingId) (n : Notice) : (s.report id n).troupes = s.troupes := by rw [s.report_frame id n]
@[simp] theorem State.report_now (s : State) (id : RingId) (n : Notice) : (s.report id n).now = s.now := by rw [s.report_frame id n]
@[simp] theorem State.report_units (s : State) (id : RingId) (n : Notice) : (s.report id n).units = s.units := by rw [s.report_frame id n]

/-- A report leaves every hart but the ring's steward. -/
theorem State.hart_report_ne {s : State} {id : RingId} {n : Notice} {k : HartId} (hk : k ≠ id.hart) :
    (s.report id n).hart k = s.hart k := by
  unfold State.report
  dsimp only
  split
  · exact State.hart_congr (by rw [State.setRing_frame]) (by rw [State.setRing_frame]) k
  · exact State.hart_appendNotice_ne hk

@[simp] theorem State.report_focus_id (s : State) (id : RingId) (n : Notice) : (s.report id n).focus.id = s.focus.id := by
  unfold State.report
  dsimp only
  split
  · rw [State.setRing_frame]
  · exact s.appendNotice_focus_id id n

end Sys2Proof.Machine
end

section
/-! SUPPORT. Aborting a launch (R39, R375), task faults (R41, R43, R44), and what taking an exception leaves (R325, R338, R352). -/

namespace Sys2Proof.Machine

open Sys2Proof.Claim

/-! ### Launches -/

/-- A launch after a change of one launch that keeps its record. -/
theorem State.launch?_mapLaunch (s : State) (lid lid' : Nat) {f : Launch → Launch} (hf : ∀ l, (f l).info = l.info) :
    (s.mapLaunch lid f).launch? lid' = (s.launch? lid').map fun l => if l.info.lid = lid then f l else l := by
  unfold State.mapLaunch State.launch?
  rw [List.find?_map]
  congr 2
  funext l
  simp only [Function.comp]
  split <;> simp [hf]

theorem State.launch?_lid {s : State} {lid : Nat} {l : Launch} (h : s.launch? lid = some l) : l.info.lid = lid := by
  simpa using List.find?_some h

theorem State.launch?_congr {s u : State} (h : u.launches = s.launches) (lid : Nat) : u.launch? lid = s.launch? lid := by
  simp only [State.launch?, h]

@[simp] theorem Launch.noteFault_info (l : Launch) (code : BitVec 8) (task : Nat) (key : Nat × Nat × Nat × Nat) :
    (l.noteFault code task key).info = l.info := by
  unfold Launch.noteFault
  repeat' split
  all_goals rfl

/-- R365: the first task fault of a launch is the one it reports so far. -/
theorem Launch.noteFault_first {l : Launch} (h : l.fkey = none) (code : BitVec 8) (task : Nat) (key : Nat × Nat × Nat × Nat) :
    l.noteFault code task key = { l with fcode := code, ftask := task, fkey := some key } := by
  simp [Launch.noteFault, h]

/-! ### Aborting a launch (R39, R375) -/

/-- What an abort makes of a core thread. -/
def stopThread (lid : Nat) (t : Thread) : Thread :=
  if decide (t.lid = lid) && decide (t.state ≠ .free) && (match t.id with | .thread _ _ => true | _ => false) then
    { t with stage := .aborted, wait := none, state := if t.state = .saved then .saved else .running }
  else t

/-- What an abort makes of a Porter. -/
def stopPorter (lid : Nat) (t : Thread) : Thread :=
  if decide (t.lid = lid) && (match t.id with | .porter _ _ => t.porter.run | _ => false) then
    { t with stage := .aborted, wait := none }
  else t

/-- What an abort makes of a launch. -/
def Launch.abort (code : BitVec 8) (task : Nat) (key : Nat × Nat × Nat × Nat) (l : Launch) : Launch :=
  if l.stage = .aborting then (if l.info.det then l.noteFault code task key else l)
  else { (l.noteFault code task key) with stage := .aborting }

/-- An abort changes the harts, the saved contexts and the launch, and nothing else. -/
theorem State.abortLaunch_eq (s : State) (lid : Nat) (code : BitVec 8) (task : Nat) (key : Nat × Nat × Nat × Nat) :
    s.abortLaunch lid code task key = { s with
      focus := stopPorter lid (stopThread lid s.focus), parked := s.parked.map fun t => stopPorter lid (stopThread lid t)
      evicted := s.evicted.map fun t => if t.lid = lid then { t with stage := .aborted, wait := none } else t
      launches := (s.mapLaunch lid (Launch.abort code task key)).launches } := by
  unfold State.abortLaunch
  simp only [State.mapHarts, State.mapLaunch, List.map_map]
  rfl

@[simp] theorem stopThread_id (lid : Nat) (t : Thread) : (stopThread lid t).id = t.id :=
  (apply_ite Thread.id _ _ _).trans (ite_self _)
@[simp] theorem stopPorter_id (lid : Nat) (t : Thread) : (stopPorter lid t).id = t.id :=
  (apply_ite Thread.id _ _ _).trans (ite_self _)

theorem stopThread_running {lid : Nat} {t : Thread} {c : CoreId} {n : Nat} (hid : t.id = .thread c n) (hlid : t.lid = lid)
    (hstate : t.state ≠ .free) : stopThread lid t =
      { t with stage := .aborted, wait := none, state := if t.state = .saved then .saved else .running } := by
  simp [stopThread, hid, hlid, hstate]

theorem stopThread_ne {lid : Nat} {t : Thread} (h : t.lid ≠ lid) : stopThread lid t = t := by simp [stopThread, h]

theorem stopThread_other {lid : Nat} {t : Thread} (h : ∀ c n, t.id ≠ .thread c n) : stopThread lid t = t := by
  cases hid : t.id with
  | thread c n => exact absurd hid (h c n)
  | _ => simp [stopThread, hid]

theorem stopPorter_thread {lid : Nat} {t : Thread} {c : CoreId} {n : Nat} (hid : t.id = .thread c n) : stopPorter lid t = t := by
  simp [stopPorter, hid]

theorem stopPorter_ne {lid : Nat} {t : Thread} (h : t.lid ≠ lid) : stopPorter lid t = t := by simp [stopPorter, h]

theorem stopPorter_running {lid : Nat} {t : Thread} {d p : Nat} (hid : t.id = .porter d p) (hlid : t.lid = lid)
    (hrun : t.porter.run = true) : stopPorter lid t = { t with stage := .aborted, wait := none } := by
  simp [stopPorter, hid, hlid, hrun]

/-- A hart after an abort. -/
theorem State.hart_abortLaunch (s : State) (lid : Nat) (code : BitVec 8) (task : Nat) (key : Nat × Nat × Nat × Nat) (k : HartId) :
    (s.abortLaunch lid code task key).hart k = stopPorter lid (stopThread lid (s.hart k)) := by
  rw [State.abortLaunch_eq]
  refine State.hart_map (s := s) (f := fun t => stopPorter lid (stopThread lid t)) (by simp) rfl rfl ?_
  have hfresh : stopThread lid (Thread.fresh k) = Thread.fresh k := by simp [stopThread, Thread.fresh]
  rw [hfresh]
  cases k <;> simp [stopPorter, Thread.fresh]

@[simp] theorem Launch.abort_info (code : BitVec 8) (task : Nat) (key : Nat × Nat × Nat × Nat) (l : Launch) :
    (l.abort code task key).info = l.info := by
  unfold Launch.abort
  repeat' split
  all_goals simp

/-- The launch after its abort. -/
theorem State.launch?_abortLaunch {s : State} {lid : Nat} {l : Launch} (hl : s.launch? lid = some l) (code : BitVec 8) (task : Nat)
    (key : Nat × Nat × Nat × Nat) : (s.abortLaunch lid code task key).launch? lid = some (l.abort code task key) := by
  have hmap : (s.abortLaunch lid code task key).launches = (s.mapLaunch lid (Launch.abort code task key)).launches := by
    rw [State.abortLaunch_eq]
  rw [State.launch?_congr hmap, State.launch?_mapLaunch _ _ _ (by simp), hl]
  simp [State.launch?_lid hl]

/-! ### Task faults (R41, R43, R44) -/

/-- R41, R43: a dying thread. -/
def Thread.dyingOf (l : Launch) (ctx : FaultCtx) (t : Thread) : Thread :=
  { t with stage := .dying, state := if t.ctx.asked then .pending else .running, wait := none, fault := some ctx, pend := [], deaf := true
           arrived := if l.info.det then Vector.replicate 4 .none else t.arrived
           superstep := if t.heldIdx = 0 then min t.superstep l.sstep else t.superstep }

theorem State.launchOf_leaveTroupe (s : State) (h : HartId) (t : Thread) : (s.leaveTroupe h).launchOf t = s.launchOf t :=
  State.launch?_congr (s.leaveTroupe_launches h) _

/-- R41, R43: a task fault under CONTAIN. -/
theorem State.taskFault_contained {s : State} {l : Launch} {ctx : FaultCtx} (notify : Bool) (hl : s.launchOf s.focus = some l)
    (hc : l.info.contain = true) (hr : s.focus.reaper = false) : s.taskFault s.focus.id ctx notify =
      ((s.leaveTroupe s.focus.id).mapLaunch l.info.lid fun l =>
        { (l.noteFault ctx.code s.focus.task ctx.key) with ncont := l.ncont + 1 }).mapHart s.focus.id (Thread.dyingOf l ctx) := by
  unfold State.taskFault
  simp only [State.hart_focus, State.launchOf_leaveTroupe, hl, hc, hr]
  rfl

/-- R39, R44: a task fault in a launch without containment, or in a reaper. -/
theorem State.taskFault_aborts {s : State} {l : Launch} {ctx : FaultCtx} (hl : s.launchOf s.focus = some l)
    (hc : l.info.contain = false ∨ s.focus.reaper = true) (hstage : l.stage ≠ .aborting) : s.taskFault s.focus.id ctx true =
      ((s.leaveTroupe s.focus.id).abortLaunch l.info.lid ctx.code s.focus.task ctx.key).report (ringFor s.focus.id)
        ⟨injOf s.focus.id, ctx.code, l.info.lid, ctx.fpc⟩ := by
  have hcond : (l.info.contain && !s.focus.reaper) = false := by rcases hc with h | h <;> simp [h]
  unfold State.taskFault
  simp only [State.hart_focus, State.launchOf_leaveTroupe, hl, hcond]
  simp [hstage]

/-- A core thread's ring belongs to another hart. -/
theorem ringFor_hart_ne (c c' : CoreId) (n n' : Nat) : HartId.thread c n ≠ (ringFor (.thread c' n')).hart := by
  simp [ringFor, RingId.hart]

/-! ### Taking an exception -/

theorem State.raiseAt_thread {s : State} {c : CoreId} {n : Nat} (hid : s.focus.id = .thread c n) {code : BitVec 8} (h12 : code ≠ 0x0C)
    (h13 : code ≠ 0x0D) (fa : Word) (st : Bool) (iw : W32) : s.raiseAt code fa st iw =
      s.taskFault s.focus.id (s.faultCtx s.focus code s.focus.pc fa st iw) true := by
  have hcode : ¬ (code = 0x0C ∨ code = 0x0D) := fun h => h.elim h12 h13
  unfold State.raiseAt State.raiseOf
  simp only [hid, if_neg hcode]

/-- R352: a steward goes to its handler. -/
def State.atHandler (s : State) (code : BitVec 8) (fa : Word) : State :=
  { s with focus := { s.focus with
      sup := { s.focus.sup with sepc := s.focus.pc, scause := BitVec.ofNat 64 code.toNat, stval := fa, spp := s.focus.sup.priv, priv := true }
      pc := s.focus.sup.stvec, wait := none, rep := none } }

theorem State.raiseAt_steward {s : State} (hid : (∃ d k, s.focus.id = .steward d k) ∨ s.focus.id = .moduleSteward) (code : BitVec 8)
    (fa : Word) (st : Bool) (iw : W32) : s.raiseAt code fa st iw = s.atHandler code fa := by
  unfold State.raiseAt State.raiseOf State.atHandler
  rw [BitVec.ofNat_toNat 64 code]
  dsimp only
  split
  · next heq => simp [heq] at hid
  · next heq => simp [heq] at hid
  · next heq => simp [heq] at hid
  · rfl

/-- R338: a Porter's program stops with its fault context. -/
theorem State.raiseAt_porter {s : State} {d p : Nat} (hid : s.focus.id = .porter d p) (code : BitVec 8) (fa : Word) (st : Bool)
    (iw : W32) : s.raiseAt code fa st iw =
      s.mapFocus fun t => { t with stage := .trapped, wait := none, fault := some (s.faultCtx s.focus code s.focus.pc fa st iw) } := by
  unfold State.raiseAt State.raiseOf
  dsimp only
  split
  · next heq => simp [heq] at hid
  · rfl
  · next heq => simp [heq] at hid
  · next _ _ hne _ => exact absurd hid (hne d p)

theorem State.raiseAt_overlay {s : State} {ch : Nat} (hid : s.focus.id = .overlay ch) (code : BitVec 8) (fa : Word) (st : Bool)
    (iw : W32) : s.raiseAt code fa st iw = s.endRun ch (some 9) := by
  unfold State.raiseAt State.raiseOf
  dsimp only
  split
  · next heq => simp [heq] at hid
  · next heq => simp [heq] at hid
  · next heq => rw [hid] at heq; cases heq; rfl
  · next _ _ _ hne => exact absurd hid (hne ch)

/-- R325: what ends an overlay's program changes neither memory nor its other registers. -/
theorem State.endRun_focus {s : State} {ch : Nat} (hid : s.focus.id = .overlay ch) (status : Option Nat) :
    (s.endRun ch status).mem = s.mem ∧ (s.endRun ch status).focus = { s.focus with state := .free, stage := .active, wait := none } := by
  unfold State.endRun
  dsimp only
  rw [State.mapHart_mem]
  exact ⟨rfl, (State.mapHart_focus_parked (by exact hid) (by exact hid)).1⟩

/-- R41, R43: the entry of a task fault under CONTAIN. -/
theorem taskFault_contained_entry {s : State} {l : Launch} {ctx : FaultCtx} (hl : s.launchOf s.focus = some l)
    (hc : l.info.contain = true) (hr : s.focus.reaper = false) :
    let left := s.leaveTroupe s.focus.id
    let u := s.taskFault s.focus.id ctx true
    u.focus = Thread.dyingOf l ctx left.focus ∧ u.mem = s.mem ∧ u.parked = left.parked ∧ u.troupes = left.troupes ∧ u.net = s.net ∧
      (u.launchOf s.focus).map (·.ncont) = some (l.ncont + 1) ∧
      (l.fkey = none → (u.launchOf s.focus).map (fun l => (l.fcode, l.ftask)) = some (ctx.code, s.focus.task)) := by
  intro left u
  have hu : u = _ := State.taskFault_contained true hl hc hr
  have hid : (left.mapLaunch l.info.lid fun l =>
      { (l.noteFault ctx.code s.focus.task ctx.key) with ncont := l.ncont + 1 }).focus.id = s.focus.id := s.leaveTroupe_focus_id _
  obtain ⟨hfocus, hparked⟩ := State.mapHart_focus_parked (f := Thread.dyingOf l ctx) hid hid
  have hlaunch : u.launchOf s.focus = some { (l.noteFault ctx.code s.focus.task ctx.key) with ncont := l.ncont + 1 } := by
    unfold State.launchOf
    rw [hu, State.launch?_congr (State.mapHart_launches _ _ _), State.launch?_mapLaunch _ _ _ (by simp)]
    rw [show left.launch? s.focus.lid = some l from (s.launchOf_leaveTroupe _ _).trans hl]
    simp
  refine ⟨by rw [hu]; exact hfocus, ?_, by rw [hu]; exact hparked, ?_, ?_, by rw [hlaunch]; rfl, fun hkey => ?_⟩
  · rw [hu, State.mapHart_mem, State.mapLaunch_mem, State.leaveTroupe_mem]
  · rw [hu, State.mapHart_troupes, State.mapLaunch_troupes]
  · rw [hu, State.mapHart_net, State.mapLaunch_net, State.leaveTroupe_net]
  · rw [hlaunch, Launch.noteFault_first hkey]; rfl

/-- R39, R375: the entry of a task fault that aborts its launch. -/
theorem taskFault_aborts_entry {s : State} {l : Launch} {ctx : FaultCtx} (hl : s.launchOf s.focus = some l)
    (hc : l.info.contain = false ∨ s.focus.reaper = true) (hstage : l.stage ≠ .aborting) :
    let left := s.leaveTroupe s.focus.id
    let u := s.taskFault s.focus.id ctx true
    u.launchOf s.focus = some { (l.noteFault ctx.code s.focus.task ctx.key) with stage := .aborting } ∧ u.troupes = left.troupes ∧
      u.focus.id = s.focus.id ∧ (∀ k : HartId, k ≠ (ringFor s.focus.id).hart → u.hart k = stopPorter s.focus.lid (stopThread s.focus.lid (left.hart k))) ∧
      u.evicted = s.evicted.map fun t => if t.lid = s.focus.lid then { t with stage := .aborted, wait := none } else t := by
  intro left u
  have hu : u = _ := State.taskFault_aborts (ctx := ctx) hl hc hstage
  have hlid : l.info.lid = s.focus.lid := State.launch?_lid hl
  have hleft : left.launch? l.info.lid = some l := by rw [hlid]; exact (s.launchOf_leaveTroupe _ _).trans hl
  refine ⟨?_, ?_, ?_, fun k hk => ?_, ?_⟩
  · unfold State.launchOf
    rw [hu, State.launch?_congr (State.report_launches _ _ _), ← hlid, State.launch?_abortLaunch hleft,
      Launch.abort, if_neg hstage]
  · rw [hu, State.report_troupes, State.abortLaunch_eq]
  · rw [hu, State.report_focus_id, State.abortLaunch_eq]
    simp
  · rw [hu, State.hart_report_ne hk, State.hart_abortLaunch, hlid]
  · rw [hu, State.report_evicted, State.abortLaunch_eq, hlid, ← State.leaveTroupe_evicted s s.focus.id]

/-- R39, R41, R45, R325, R338, R352: what taking an exception leaves. -/
theorem trapEntry_raiseAt (s : State) {code : BitVec 8} (h12 : code ≠ 0x0C) (h13 : code ≠ 0x0D) (fa : Word) (st : Bool) (iw : W32) :
    TrapEntry s (s.raiseAt code fa st iw) code fa st iw := by
  unfold TrapEntry
  dsimp only
  split
  · next d k hid => exact State.raiseAt_steward (.inl ⟨d, k, hid⟩) code fa st iw
  · next hid => exact State.raiseAt_steward (.inr hid) code fa st iw
  · next d p hid => exact State.raiseAt_porter hid code fa st iw
  · next ch hid => rw [State.raiseAt_overlay hid]; exact State.endRun_focus hid _
  · next c n hid =>
    intro l hl
    rw [State.raiseAt_thread hid h12 h13]
    refine ⟨fun hc hr => ?_, fun hc hstate hlid hstage => ?_⟩
    · obtain ⟨hfocus, hrest⟩ := taskFault_contained_entry (ctx := s.faultCtx s.focus code s.focus.pc fa st iw) hl hc hr
      refine ⟨hfocus.trans ?_, hrest⟩
      rcases s.leaveTroupe_focus s.focus.id with h | h <;> rw [h] <;> rfl
    · obtain ⟨hlaunch, htroupes, hfocusId, hharts, hevicted⟩ :=
        taskFault_aborts_entry (ctx := s.faultCtx s.focus code s.focus.pc fa st iw) hl hc hstage
      have hring (c' : CoreId) (n' : Nat) : HartId.thread c' n' ≠ (ringFor s.focus.id).hart := by
        rw [hid]; exact ringFor_hart_ne c' c n' n
      have hstopped (c' : CoreId) (n' : Nat) (hlid' : (s.hart (.thread c' n')).lid = s.focus.lid)
          (hfree : (s.hart (.thread c' n')).state ≠ .free) :=
        (hharts _ (hring c' n')).trans ((stopPorter_thread (c := c') (n := n') (by simp)).trans (stopThread_running (c := c') (n := n')
          (by simp) ((State.hart_leaveTroupe_field (f := Thread.lid) (fun _ => rfl) s _ _).trans hlid')
          (by rw [State.hart_leaveTroupe_field (f := Thread.state) (fun _ => rfl)]; exact hfree)))
      refine ⟨?_, by rw [hlaunch]; rfl, htroupes, fun c' n' hlid' hfree => ?_, fun c' n' hlid' => ?_, fun d p hlid' hrun => ?_,
        fun e he hlid' => ?_, fun hkey => by rw [hlaunch, Launch.noteFault_first hkey]; rfl⟩
      · have hown := State.hart_of_focus hid
        rw [← State.hart_of_focus (hfocusId.trans hid), hstopped c n (by rw [hown]) (by rwa [hown])]
      · rw [hstopped c' n' hlid' hfree]
        exact ⟨rfl, rfl, by rw [State.hart_leaveTroupe_field (f := Thread.state) (fun _ => rfl)],
          State.hart_leaveTroupe_field (f := Thread.x) (fun _ => rfl) _ _ _, State.hart_leaveTroupe_field (f := Thread.pc) (fun _ => rfl) _ _ _⟩
      · have hne : ((s.leaveTroupe s.focus.id).hart (.thread c' n')).lid ≠ s.focus.lid := by
          rwa [State.hart_leaveTroupe_field (f := Thread.lid) (fun _ => rfl)]
        rw [hharts _ (hring c' n'), stopThread_ne hne, stopPorter_ne hne]
      · have hlid'' : ((s.leaveTroupe s.focus.id).hart (.porter d p)).lid = s.focus.lid := by
          rwa [State.hart_leaveTroupe_field (f := Thread.lid) (fun _ => rfl)]
        rw [hharts _ (by simp [hid, ringFor, RingId.hart]), stopThread_other (by simp), stopPorter_running (d := d) (p := p) (by simp) hlid''
          (by rwa [State.hart_leaveTroupe_field (f := fun t => t.porter.run) (fun _ => rfl)])]
      · rw [hevicted, List.mem_map] at he
        obtain ⟨t, -, rfl⟩ := he
        by_cases ht : t.lid = s.focus.lid
        · rw [if_pos ht]
        · rw [if_neg ht] at hlid'; exact absurd hlid' ht

/-- Settles O38: the exception's entry for each kind of hart, and the instructions and events that take one. -/
theorem exceptionsAreTaken : Obligations.ExceptionsAreTaken := by
  refine ⟨fun s code fa st iw h12 h13 => trapEntry_raiseAt s h12 h13 fa st iw,
    fun s w => ⟨_, rfl, trapEntry_raiseAt s (by decide) (by decide) _ _ _⟩,
    fun s fa st iw => ⟨_, rfl, trapEntry_raiseAt s (by decide) (by decide) _ _ _⟩,
    fun s g a x t hen hports hx => ⟨s.raise 0x0E x, congrArg _ (State.scalar_trap (s' := { s with focus := t }) hen rfl ?_),
      trapEntry_raiseAt s (by decide) (by decide) _ _ _⟩⟩
  exact (M.bind_ok (s := { s with focus := start s 4 }) (checkPorts_ok hports)).trans (M.bind_ok (readX_of_take hx))

end Sys2Proof.Machine
end

section
/-! SUPPORT. Counterexamples in states that list a hart twice. The state is a list of harts, and a hart by name is the first of
its name (`State.hart`), while the carousel looks for a receiver through the whole list. -/

namespace Sys2Proof.Machine

open Sys2Proof.Claim

/-- The thread set of the examples. -/
def hart0 : HartId := .thread ⟨0, 0, 0⟩ 0

/-! ### A tile that lands (R265) -/

/-- A thread whose own tile is on its way to its core, and behind it a second entry of the same name at which b1 fills. -/
def shadowedReceiver : State :=
  { State.reset with
    focus := { Thread.fresh hart0 with outTile := some (Latch.zero, true, some ⟨0, 0, 0⟩) }
    parked := [{ Thread.fresh hart0 with
      fill := .filling false, region := { (Thread.fresh hart0).region with entry := 4, fill := .filling false } }] }

/-- The tile lands in the hart of the receiver's name, whose region entry is its own. -/
theorem shadowedReceiver_entry : ∀ u, exec (.ringDeliveryDone hart0) shadowedReceiver = .next u →
    (u.hart hart0).region.entry = 0 := by
  rintro u ⟨⟩; rfl

theorem not_ringDeliveries : ¬ Claim.RingDeliveries := by
  rintro ⟨-, -, -, hdone⟩
  obtain ⟨u, hu, -, -, -, -, -, hregion, -⟩ := hdone shadowedReceiver hart0 Latch.zero ⟨0, 0, 0⟩ _ rfl rfl
  have hentry : (u.hart hart0).region.entry = 4 := congrArg Region.entry (hregion false rfl)
  rw [shadowedReceiver_entry u hu] at hentry
  exact absurd hentry (by decide)

/-- Refutes O27: a delivery looks for its receiver through the list of harts and lands in the hart of the name that it found; where
that is another entry of the list, the region entry is not the found one's. -/
theorem not_carouselMovesTiles : ¬ Obligations.CarouselMovesTiles := fun h => not_ringDeliveries h.2.2.1

/-! ### A task that follows (R340) -/

/-- A halting thread of a launch with a task left, a second entry of its name that runs, and a thread with a tile for their core. -/
def shadowedHalt : State :=
  { State.reset with
    launches := [{ placedLaunch with ranges := [(0, 0, 1)] }]
    focus := { Thread.fresh hart0 with lid := 1, state := .running, stage := .halting }
    parked := [{ Thread.fresh hart0 with lid := 1, state := .running },
      { Thread.fresh (.thread ⟨0, 0, 0⟩ 1) with lid := 1, state := .running, outTile := some (Latch.zero, false, some ⟨0, 0, 0⟩) }] }

/-- The tile leaves for the second entry, and b1 of the hart of its name begins to fill. -/
theorem shadowedHalt_fill : ∀ u, exec (.haltComplete hart0) shadowedHalt = .next u → (u.hart hart0).fill = .filling false := by
  rintro u ⟨⟩; decide +kernel

/-- Refutes O43: the hart that follows its task is not as `begin` leaves it where the list of harts has a second entry of its name,
which still receives tiles. -/
theorem not_tasksFollow : ¬ Obligations.TasksFollow := by
  rintro ⟨htasks, -⟩
  obtain ⟨-, hnext, -⟩ := htasks shadowedHalt hart0 ⟨0, 0, 0⟩ 0 _ rfl rfl rfl (by decide +kernel) rfl (by simp [shadowedHalt, State.reset])
  obtain ⟨u, hu, hhart, -⟩ := hnext 0 0 1 (by decide +kernel) (by decide +kernel)
  have hfill : (u.hart hart0).fill = .empty := congrArg Thread.fill hhart
  rw [shadowedHalt_fill u hu] at hfill
  exact absurd hfill (by decide)

end Sys2Proof.Machine
end

section
/-! SUPPORT. Fault records, captured replies, reapers, notices and the supervisor's abort (R39 to R46, R351, R375). -/

namespace Sys2Proof.Machine

open Sys2Proof.Claim

/-! ### The fault record (R45, R46) -/

/-- The bytes of one reply in a record. -/
def Captured.bytes (q : Captured) : List Byte :=
  leBytes 8 (q.kind + q.reg * 2 ^ 8 + q.dcn * 2 ^ 16) ++ (leBytes 8 q.a.toNat ++ leBytes 8 q.b.toNat)

@[simp] theorem Captured.length_bytes (q : Captured) : q.bytes.length = 24 := by simp [Captured.bytes]

/-- The eight places for replies. -/
def FaultCtx.replyBytes (c : FaultCtx) : List Byte :=
  (List.range 8).flatMap fun i => (c.replies.getD i ⟨0, 0, 0, 0, 0, 0⟩).bytes

theorem FaultCtx.record_eq (c : FaultCtx) (task : Nat) : c.record task =
    leBytes 8 (c.code.toNat + (flag c.straddle + flag c.troupe * 2 + flag c.forced * 4) * 2 ^ 8 + min c.nreply 255 * 2 ^ 16 + task % 2 ^ 32 * 2 ^ 32) ++
    (leBytes 8 c.fpc.toNat ++ (leBytes 8 c.faddr.toNat ++ (leBytes 8 c.ftime.toNat ++
    (leBytes 8 (c.iword.toNat + c.tpos * 2 ^ 32 + c.twidth * 2 ^ 40 + c.tskew * 2 ^ 48) ++
    (leBytes 8 c.rentry.toNat ++ (leBytes 8 c.dcs.toNat ++ (leBytes 8 0 ++ c.replyBytes))))))) := by
  simp only [FaultCtx.record, FaultCtx.replyBytes, Captured.bytes, List.append_assoc]

/-- A number inside the i-th of equally long pieces. -/
theorem numAt_flatMap {α : Type} {f : α → List Byte} {k : Nat} (hf : ∀ a, (f a).length = k) {l : List α} {i : Nat} (hi : i < l.length)
    {o n : Nat} (h : o + n ≤ k) : numAt (l.flatMap f) (k * i + o) n = numAt (f l[i]) o n := by
  induction l generalizing i with
  | nil => simp at hi
  | cons a l ih =>
    cases i with
    | zero => simpa using numAt_append_left (b := l.flatMap f) (a := f a) (by rw [hf]; exact h)
    | succ i =>
      have hshift : k * (i + 1) + o - k = k * i + o := by rw [Nat.mul_succ]; omega
      rw [List.flatMap_cons, numAt_append_right n (by rw [hf, Nat.mul_succ]; omega), hf, hshift, ih (by simpa using hi),
        List.getElem_cons_succ]

theorem FaultCtx.numAt_replyBytes (c : FaultCtx) {i : Nat} {q : Captured} (hi : i < 8) (hq : c.replies[i]? = some q) {o n : Nat}
    (h : o + n ≤ 24) : numAt c.replyBytes (24 * i + o) n = numAt q.bytes o n := by
  rw [FaultCtx.replyBytes, numAt_flatMap (fun _ => Captured.length_bytes _) (by simpa using hi) h]
  simp [List.getD_eq_getElem?_getD, hq]

/-- R46: where the i-th reply of a record stands. -/
theorem FaultCtx.numAt_record_reply (c : FaultCtx) (task : Nat) {i : Nat} {q : Captured} (hi : i < 8) (hq : c.replies[i]? = some q)
    {o n : Nat} (h : o + n ≤ 24) : numAt (c.record task) (64 + o + 24 * i) n = numAt q.bytes o n := by
  rw [FaultCtx.record_eq, ← c.numAt_replyBytes hi hq h]
  iterate 8 rw [numAt_leBytes_append_right _ _ _ (by omega)]
  congr 1; omega

theorem Captured.bytes_fields (q : Captured) : numAt q.bytes 0 1 = q.kind % 256 ∧
    numAt q.bytes 1 1 = (q.kind + q.reg * 2 ^ 8 + q.dcn * 2 ^ 16) / 256 % 256 ∧
    numAt q.bytes 2 1 = (q.kind + q.reg * 2 ^ 8 + q.dcn * 2 ^ 16) / 65536 % 256 ∧
    numAt q.bytes 8 8 = q.a.toNat ∧ numAt q.bytes 16 8 = q.b.toNat := by
  have ha := q.a.isLt
  have hb := q.b.isLt
  simp (disch := decide) [Captured.bytes, numAt_leBytes_append_right, numAt_leBytes_append_left, numAt_leBytes]
  omega

/-- R45, R46: the fields of a fault record. -/
theorem FaultCtx.record_fields (ctx : FaultCtx) (task : Nat) : (ctx.record task).length = 256 ∧
    numAt (ctx.record task) 0 1 = ctx.code.toNat ∧
    numAt (ctx.record task) 4 4 = task % 2 ^ 32 ∧ numAt (ctx.record task) 8 8 = ctx.fpc.toNat ∧
    numAt (ctx.record task) 16 8 = ctx.faddr.toNat ∧ numAt (ctx.record task) 24 8 = ctx.ftime.toNat ∧
    numAt (ctx.record task) 32 4 = ctx.iword.toNat ∧
    numAt (ctx.record task) 1 1 = (if ctx.straddle then 1 else 0) + (if ctx.troupe then 2 else 0) + (if ctx.forced then 4 else 0) ∧
    numAt (ctx.record task) 2 1 = min ctx.nreply 255 ∧ numAt (ctx.record task) 40 8 = ctx.rentry.toNat ∧
    numAt (ctx.record task) 48 8 = ctx.dcs.toNat := by
  have hcode := ctx.code.isLt
  have hfpc := ctx.fpc.isLt
  have hfaddr := ctx.faddr.isLt
  have hftime := ctx.ftime.isLt
  have hiword := ctx.iword.isLt
  have hrentry := ctx.rentry.isLt
  have hdcs := ctx.dcs.isLt
  have hflags : flag ctx.straddle + flag ctx.troupe * 2 + flag ctx.forced * 4 =
      (if ctx.straddle then 1 else 0) + (if ctx.troupe then 2 else 0) + (if ctx.forced then 4 else 0) := by
    cases ctx.straddle <;> cases ctx.troupe <;> cases ctx.forced <;> rfl
  have hsmall : flag ctx.straddle + flag ctx.troupe * 2 + flag ctx.forced * 4 ≤ 7 := by
    cases ctx.straddle <;> cases ctx.troupe <;> cases ctx.forced <;> decide
  rw [FaultCtx.record_eq, ← hflags]
  simp (disch := decide) only [numAt_leBytes_append_right, numAt_leBytes_append_left]
  generalize flag ctx.straddle + flag ctx.troupe * 2 + flag ctx.forced * 4 = fl at *
  refine ⟨?_, ?_, ?_, ?_, ?_, ?_, ?_, ?_, ?_, ?_, ?_⟩
  · simp [FaultCtx.replyBytes]
  all_goals omega

/-! ### Writing the record (R41, R43, R351) -/

/-- A thread whose every operation has completed has no held access left. -/
theorem State.drainHeld_quiet {s : State} {h : HartId} (hq : s.quietAll h = true) : s.drainHeld h = s := by
  have hnone : (s.net.filter fun r => r.ofThread (s.hart h) && decide (r.cls = .held)) = [] := by
    rw [List.filter_eq_nil_iff]
    intro r hr hheld
    simp only [State.quietAll, Bool.and_eq_true, Bool.not_eq_true', List.any_eq_false] at hq
    simp only [Bool.and_eq_true] at hheld
    exact hq.2 r hr hheld.1
  rw [State.drainHeld, hnone]; rfl

/-- Keeping the bytes that a superstep began with changes the launches alone. -/
theorem State.keepOld_frame (s : State) (lid superstep key n : Nat) :
    s.keepOld lid superstep key n = { s with launches := (s.keepOld lid superstep key n).launches } := by
  unfold State.keepOld
  repeat' split
  all_goals rfl

@[simp] theorem State.keepOld_mem (s : State) (lid superstep key n : Nat) : (s.keepOld lid superstep key n).mem = s.mem := by
  rw [State.keepOld_frame]
@[simp] theorem State.keepOld_dies (s : State) (lid superstep key n : Nat) : (s.keepOld lid superstep key n).dies = s.dies := by
  rw [State.keepOld_frame]
@[simp] theorem State.keepOld_mc (s : State) (lid superstep key n : Nat) : (s.keepOld lid superstep key n).mc = s.mc := by
  rw [State.keepOld_frame]

@[simp] theorem State.hart_keepOld (s : State) (lid superstep key n : Nat) (k : HartId) :
    (s.keepOld lid superstep key n).hart k = s.hart k := by
  rw [State.keepOld_frame]; rfl

@[simp] theorem State.hart_pokeBytes (s : State) (key : Nat) (bs : List Byte) (k : HartId) :
    (s.pokeBytes key bs).hart k = s.hart k := rfl

/-- A notice concerns the state's ring and memory alone. -/
theorem noticed_congr {s s' u : State} {id : RingId} {n : Notice} (hring : s'.ring id = s.ring id) (hmem : s'.mem = s.mem)
    (h : Noticed s u id n) : Noticed s' u id n := by
  unfold Noticed at *
  simp only [State.pokeBytes, State.poke, hring, hmem] at *
  exact h

section
variable {s : State} {h : HartId} {c : CoreId} {l : Launch} {ctx : FaultCtx}

/-- What keeps the record from being written. -/
theorem exec_faultRecordWrite_waits (hc : h.core? = some c) (hstage : (s.hart h).stage = .dying) (hl : s.launchOf (s.hart h) = some l)
    (hctx : (s.hart h).fault = some ctx) (hq : s.quietAll h = true)
    (hwait : (s.hart h).forced l = true ∨ (s.hart h).ctx.scode = 0 ∧ s.ringShut (ringFor h) = true) :
    exec (.faultRecordWrite h) s = .next s := by
  show execFaultRecordWrite h s = .next s
  rcases hwait with hforced | ⟨hscode, hshut⟩
  · simp [execFaultRecordWrite, hstage, hc, hl, State.drainHeld_quiet hq, hctx, hforced]
  · simp [execFaultRecordWrite, hstage, hc, hl, State.drainHeld_quiet hq, hctx, hscode, hshut]

/-- The record and its notice. -/
theorem exec_faultRecordWrite_writes (hc : h.core? = some c) (hstage : (s.hart h).stage = .dying) (hl : s.launchOf (s.hart h) = some l)
    (hctx : (s.hart h).fault = some ctx) (hq : s.quietAll h = true) (hscode : (s.hart h).ctx.scode = 0)
    (hforced : (s.hart h).forced l = false) (hopen : s.ringShut (ringFor h) = false) (hheld : (s.ring (ringFor h)).held = []) :
    let a := (s.hart h).recordAt l
    exec (.faultRecordWrite h) s = .next ((((s.keepOld l.info.lid l.sstep (tcmKey c a) 256).pokeBytes (tcmKey c a)
      (ctx.record (s.hart h).task)).mapHart h fun t => { t with stage := .reaperDue }).appendNotice (ringFor h)
        ⟨injOf h, ctx.code, l.info.lid, BitVec.ofNat 64 a⟩) := by
  show execFaultRecordWrite h s = _
  simp [execFaultRecordWrite, hstage, hc, hl, State.drainHeld_quiet hq, hctx, hscode, hforced, hopen, hheld, hq]

end

/-- R41, R43, R45, R351: fault records. -/
theorem faultRecordsAreWritten : Claim.FaultRecordsAreWritten := by
  refine ⟨fun s h c l ctx hc hstage hl hctx hq hscode hreal => ⟨fun hdet hstep => ?_, fun hdone hopen hheld => ?_, fun hshut => ?_⟩,
    fun ctx task => ?_⟩
  · exact exec_faultRecordWrite_waits hc hstage hl hctx hq (.inl (by simp [Thread.forced, hdet, hstage, hstep]))
  · have hforced : (s.hart h).forced l = false := by
      cases hdet : l.info.det with
      | false => simp [Thread.forced, hdet]
      | true => simp [Thread.forced, hdone hdet]
    obtain ⟨n, rfl⟩ : ∃ n, h = .thread c n := by
      cases h <;> simp_all [HartId.core?]
    have hat : (s.hart (.thread c n)).recordAt l = (s.hart (.thread c n)).tcmb l + l.tcmlBytes - 256 := rfl
    refine ⟨_, exec_faultRecordWrite_writes hc hstage hl hctx hq hscode hforced hopen hheld, ?_, ?_⟩
    · rw [State.hart_appendNotice_ne (ringFor_hart_ne _ _ _ _), State.hart_mapHart_same (by simp)]
      simp
    · refine noticed_congr ?_ ?_ (State.appendNotice_noticed _ _ hreal)
      · exact (State.ring_congr (by simp) (by simp) _).symm
      · rw [State.mapHart_mem]
        simp only [State.pokeBytes, State.poke, State.keepOld_mem, hat]
  · exact exec_faultRecordWrite_waits hc hstage hl hctx hq (.inr ⟨hscode, hshut⟩)
  · obtain ⟨h0, h1, h2, h3, h4, h5, h6, h7, h8, h9, h10⟩ := ctx.record_fields task
    refine ⟨h0, h1, h2, h3, h4, h5, h6, h7, h8, h9, h10, fun i q hi hq hk hr hd => ?_⟩
    obtain ⟨b0, b1, b2, b8, b16⟩ := q.bytes_fields
    have hreply {o n : Nat} (hon : o + n ≤ 24) := ctx.numAt_record_reply task hi hq hon
    refine ⟨(hreply (o := 0) (by decide)).trans (b0.trans (by omega)), (hreply (o := 1) (by decide)).trans (b1.trans (by omega)),
      (hreply (o := 2) (by decide)).trans (b2.trans (by omega)), (hreply (o := 8) (by decide)).trans b8,
      (hreply (o := 16) (by decide)).trans b16⟩

/-! ### Captured replies (R41, R46) -/

theorem loadedInt_eq {n : Nat} {data : List Byte} (h : data.length = n) (signed : Bool) :
    loadedInt signed data = loadedWord signed n data := by
  have hlt : ofBytes data < 2 ^ (8 * n) := by
    have := ofBytes_lt data
    rwa [h, show (256 : Nat) = 2 ^ 8 from rfl, ← Nat.pow_mul] at this
  unfold loadedInt loadedWord
  subst h
  cases signed with
  | false => simp
  | true =>
    simp only [if_true, true_and, sext, BitVec.signExtend]
    have hint : (BitVec.ofNat (8 * data.length) (ofBytes data)).toInt =
        if 2 * ofBytes data < 2 ^ (8 * data.length) then (ofBytes data : Int) else (ofBytes data : Int) - 2 ^ (8 * data.length) := by
      rw [BitVec.toInt_eq_toNat_cond, BitVec.toNat_ofNat, Nat.mod_eq_of_lt hlt]
      split <;> simp
    rw [hint]
    by_cases hzero : data.length = 0
    · simp [List.length_eq_zero_iff.mp hzero, ofBytes]
    · obtain ⟨m, hm⟩ : ∃ m, 8 * data.length = m + 1 := ⟨8 * data.length - 1, by omega⟩
      rw [hm, Nat.add_sub_cancel]
      by_cases hneg : 2 ^ m ≤ ofBytes data
      · rw [if_pos hneg, if_neg (by rw [Nat.pow_succ]; omega)]
      · rw [if_neg hneg, if_pos (by rw [Nat.pow_succ]; omega), BitVec.ofInt_natCast]

theorem loadedFloat_eq (fmt : BitVec 2) (data : List Byte) : loadedFloat fmt data = floatIn fmt data := by
  have hfmt : fmt = 0 ∨ fmt = 1 ∨ fmt = 2 ∨ fmt = 3 := by revert fmt; decide
  rcases hfmt with rfl | rfl | rfl | rfl <;> rfl

theorem insertCaptured_false (e : Captured) (l : List Captured) : insertCaptured false e l = l ++ [e] := by
  induction l with
  | nil => rfl
  | cons q r ih => simp [insertCaptured, ih]

theorem insertCaptured_perm (e : Captured) (l : List Captured) : (insertCaptured true e l).Perm (e :: l) := by
  induction l with
  | nil => rfl
  | cons q r ih =>
    unfold insertCaptured
    split
    · rfl
    · exact (ih.cons q).trans (.swap e q r)

/-- R41: in a DET launch the captured replies stand in the order of issue. -/
theorem insertCaptured_sorted {e : Captured} {l : List Captured} (h : l.Pairwise fun a b => a.issue ≤ b.issue) :
    (insertCaptured true e l).Pairwise fun a b => a.issue ≤ b.issue := by
  induction l with
  | nil => simp [insertCaptured]
  | cons q r ih =>
    obtain ⟨hq, hr⟩ := List.pairwise_cons.mp h
    unfold insertCaptured
    split
    · next hlt =>
      have hlt : e.issue < q.issue := by simpa using hlt
      refine List.pairwise_cons.mpr ⟨fun b hb => ?_, h⟩
      rcases List.mem_cons.mp hb with rfl | hb
      · omega
      · have := hq b hb; omega
    · next hge =>
      have hge : q.issue ≤ e.issue := by simpa using hge
      refine List.pairwise_cons.mpr ⟨fun b hb => ?_, ih hr⟩
      rcases List.mem_cons.mp ((insertCaptured_perm e r).mem_iff.mp hb) with rfl | hb
      · exact hge
      · exact hq b hb

/-- R41, R46: what a dead task captures of a reply. -/
theorem repliesAreCaptured : Claim.RepliesAreCaptured := by
  refine ⟨fun r data => ⟨fun n d signed hbody hlen => ?_, fun n d fmt hbody => ?_, fun op n y cmp d hbody hd hlen => ?_,
    fun op a b block d d2 hbody => ?_, fun hnone => ?_⟩, fun e l => ⟨insertCaptured_false e l, insertCaptured_perm e l, insertCaptured_sorted⟩,
    fun t c r data e hstage hfault hcap => ?_, fun t r data hstage => ?_⟩
  · simp only [captured, hbody, loadedInt_eq hlen]
  · simp only [captured, hbody, loadedFloat_eq, BitVec.ofNat_toNat]
  · simp only [captured, hbody, if_neg hd, loadedInt_eq hlen]
  · simp only [captured, hbody]
    cases op <;> rfl
  · rcases hnone with ⟨bs, hbody⟩ | ⟨offs, d, ps, hbody⟩ | ⟨op, n, y, cmp, hbody⟩ <;> simp only [captured, hbody]
    rfl
  · simp only [Thread.capture, hstage, hfault, hcap]
  · unfold Thread.capture
    split
    · next heq _ _ => exact absurd heq hstage
    · rfl

/-! ### The reaper (R42, R43) -/

/-- A change of harts that may only move their b1's fill state and their outgoing tile. -/
def SameButTiles (t u : Thread) : Prop := u = { t with fill := u.fill, outTile := u.outTile }

theorem SameButTiles.refl (t : Thread) : SameButTiles t t := rfl

theorem SameButTiles.trans {t u v : Thread} (h : SameButTiles t u) (h' : SameButTiles u v) : SameButTiles t v := by
  unfold SameButTiles at *; rw [h', h]

theorem State.startRing_frame (s : State) (h : HartId) :
    s.startRing h = { s with focus := (s.startRing h).focus, parked := (s.startRing h).parked } := by
  unfold State.startRing
  split
  · split
    · split
      · rw [State.mapHart_frame (s.mapHart _ _)]; simp
      · rfl
    · rw [State.mapHart_frame]
  · rfl

theorem State.hart_mapHart_sameButTiles {s : State} {h : HartId} {f : Thread → Thread} (hf : ∀ t, SameButTiles t (f t)) (k : HartId) :
    SameButTiles (s.hart k) ((s.mapHart h f).hart k) := by
  have hid : (f (s.hart h)).id = h := by rw [hf (s.hart h)]; simp
  by_cases hk : k = h
  · subst hk; rw [State.hart_mapHart_same hid]; exact hf _
  · rw [State.hart_mapHart_ne hid hk]; exact .refl _

/-- R262: a delivery that starts changes b1's fill state and outgoing tiles, and nothing else. -/
theorem State.hart_startRing (s : State) (h k : HartId) : SameButTiles (s.hart k) ((s.startRing h).hart k) := by
  unfold State.startRing
  split
  · split
    · split
      · refine .trans (State.hart_mapHart_sameButTiles ?_ k) (State.hart_mapHart_sameButTiles ?_ k) <;> exact fun _ => rfl
      · exact .refl _
    · refine State.hart_mapHart_sameButTiles ?_ k; exact fun _ => rfl
  · exact .refl _

theorem State.foldl_startRing_frame (ts : List Thread) : ∀ s : State, ts.foldl (fun s t => s.startRing t.id) s =
    { s with focus := (ts.foldl (fun s t => s.startRing t.id) s).focus, parked := (ts.foldl (fun s t => s.startRing t.id) s).parked } := by
  induction ts with
  | nil => intro s; rfl
  | cons t ts ih => intro s; rw [List.foldl_cons, ih, State.startRing_frame]

theorem State.hart_foldl_startRing (ts : List Thread) (k : HartId) :
    ∀ s : State, SameButTiles (s.hart k) ((ts.foldl (fun s t => s.startRing t.id) s).hart k) := by
  induction ts with
  | nil => intro s; exact .refl _
  | cons t ts ih => intro s; exact (s.hart_startRing t.id k).trans (ih _)

theorem State.startRings_frame (s : State) :
    s.startRings = { s with focus := s.startRings.focus, parked := s.startRings.parked } := State.foldl_startRing_frame _ s

theorem State.hart_startRings (s : State) (k : HartId) : SameButTiles (s.hart k) (s.startRings.hart k) :=
  State.hart_foldl_startRing _ k s

@[simp] theorem State.hart_mapLaunch (s : State) (lid : Nat) (f : Launch → Launch) (k : HartId) :
    (s.mapLaunch lid f).hart k = s.hart k := rfl

/-- R42: the thread that runs a reaper. -/
def Thread.reap (l : Launch) (ctx : FaultCtx) (next : Nat) (t : Thread) : Thread :=
  let t' := t.begin l t.task
  Thread.settle { t' with
    x := (t'.x.setIfInBounds 11 (BitVec.ofNat 64 (t.recordAt l))).setIfInBounds 12 (ctx.code.setWidth 64), pc := l.info.reaper
    region := { t'.region with entry := l.info.reaper }, reaper := true
    superstep := if l.info.det then l.sstep else t'.superstep, heldIdx := if l.info.det then 0 else t'.heldIdx
    ctx := { t'.ctx with scode := 0 } } next

/-- R42: what a reaper finds in its x registers. -/
theorem Thread.reap_x (l : Launch) (ctx : FaultCtx) (next : Nat) (t : Thread) :
    (t.reap l ctx next).x.toList = (List.range 32).map (fun i => if i = 10 then BitVec.ofNat 64 t.task
      else if i = 11 then BitVec.ofNat 64 (t.tcmb l + l.tcmlBytes - 256) else if i = 12 then BitVec.ofNat 64 ctx.code.toNat
      else if i = 13 then BitVec.ofNat 64 l.info.lid else 0) := by
  have hcode : ctx.code.setWidth 64 = BitVec.ofNat 64 ctx.code.toNat := BitVec.eq_of_toNat_eq (by simp)
  rw [← hcode]
  rfl

theorem exec_reaperStart {s : State} {h : HartId} {l : Launch} {ctx : FaultCtx} (hstage : (s.hart h).stage = .reaperDue)
    (hctx : (s.hart h).fault = some ctx) (hl : s.launchOf (s.hart h) = some l) :
    exec (.reaperStart h) s = .next (s.mapHart h (Thread.reap l ctx s.nextId)).startRings := by
  show execReaperStart h s = _
  simp only [execReaperStart, hstage, hctx, hl]
  rfl

/-- R42: reapers start. -/
theorem reapersStart : Claim.ReapersStart := by
  intro s h l ctx hstage hctx hl
  refine ⟨_, exec_reaperStart hstage hctx hl, ?_, ?_, ?_, ?_⟩
  · rw [State.startRings_frame]; simp
  · rw [State.startRings_frame]; simp
  · rw [State.startRings_frame]; simp
  · have htiles := (s.mapHart h (Thread.reap l ctx s.nextId)).hart_startRings h
    rw [State.hart_mapHart_same (by simp [Thread.reap, Thread.settle, Thread.begin, Thread.fresh])] at htiles
    unfold SameButTiles at htiles
    rw [htiles]
    exact ⟨rfl, rfl, rfl, rfl, rfl, Thread.reap_x l ctx s.nextId (s.hart h), rfl, rfl, rfl⟩

/-! ### Notices (R351) -/

/-- R351: notices are appended. -/
theorem noticesAreAppended : Claim.NoticesAreAppended := by
  refine ⟨fun s ring n rest hreal hopen hheld => ?_, fun s ring t ctx hreal hopen hheld hfind hhart hctx hne => ?_, fun s ring hshut => ?_⟩
  · refine ⟨(s.setRing ring { s.ring ring with held := rest }).appendNotice ring n, ?_, ?_, ?_⟩
    · show execNoticeAppend ring s = _
      simp [execNoticeAppend, hopen, hheld]
    · have hring := s.ring_setRing_same { s.ring ring with held := rest } hreal
      obtain ⟨hhead, htail, hlatch, hmem⟩ := (s.setRing ring { s.ring ring with held := rest }).appendNotice_noticed n hreal
      rw [hring] at hhead htail hmem
      refine ⟨hhead, htail, hlatch, hmem.trans ?_⟩
      rw [State.setRing_frame]; rfl
    · rw [State.ring_appendNotice _ _ hreal, State.ring_setRing_same _ _ hreal]
  · refine ⟨s.stopNow t.id, ?_, ?_⟩
    · show execNoticeAppend ring s = _
      simp [execNoticeAppend, hopen, hheld, hfind]
    · have hnoticed : Noticed s (s.appendNotice ring ⟨injOf t.id, ctx.code, t.lid, ctx.fpc⟩) ring ⟨injOf t.id, ctx.code, t.lid, ctx.fpc⟩ :=
        s.appendNotice_noticed _ hreal
      have hfound : t.stage = .stopping ∧ ringFor t.id = ring := by simpa using List.find?_some hfind
      have hkept : (s.appendNotice ring ⟨injOf t.id, ctx.code, t.lid, ctx.fpc⟩).hart t.id = t :=
        (State.hart_appendNotice_ne hne).trans hhart
      have hid : ((s.appendNotice ring ⟨injOf t.id, ctx.code, t.lid, ctx.fpc⟩).hart t.id).id = t.id := by rw [hkept]
      simp only [State.stopNow, hhart, hctx, hfound.2]
      refine ⟨?_, ?_⟩
      · obtain ⟨hhead, htail, hlatch, hmem⟩ := hnoticed
        unfold Noticed
        rw [State.ring_congr (State.mapHart_dies _ _ _) (State.mapHart_mc _ _ _),
          State.hart_mapHart_ne hid (Ne.symm hne), State.mapHart_mem]
        exact ⟨hhead, htail, hlatch, hmem⟩
      · rw [State.hart_mapHart_same hid, hkept, hctx]
  · show execNoticeAppend ring s = _
    simp [execNoticeAppend, hshut]

/-! ### The supervisor's abort (R27, R39, R375) -/

/-- R40: the codes that are raised. -/
theorem raisedCode_eq_false {code : BitVec 8} (h : code = 0 ∨ code = 0x0F ∨ 0x15 < code.toNat) : raisedCode code = false := by
  rcases h with rfl | rfl | h
  · rfl
  · rfl
  · simp [raisedCode, h]

theorem supervisorAborts : Claim.SupervisorAborts := by
  refine ⟨fun s lid code hcode => ?_, fun s lid code l hl h0 hF h15 => ⟨fun hstage => ?_, fun hstage => ?_⟩⟩
  · show execSupervisorAbort lid code s = _
    simp [execSupervisorAbort, raisedCode_eq_false hcode]
  · show execSupervisorAbort lid code s = _
    simp [execSupervisorAbort, State.abortWith, hl, hstage]
  · have hraised : raisedCode code = true := by simp only [raisedCode, h0, hF, h15, ne_eq, not_false_eq_true, decide_true, Bool.and_self]
    refine ⟨(s.abortLaunch lid code 0 (0, 0, 0, 0)).mapLaunch lid fun l => { l with fcode := code, ftask := 0, fkey := some (0, 0, 0, 0) },
      ?_, ?_, ?_, ?_, ?_, ?_, ?_, ?_, ?_⟩
    · show execSupervisorAbort lid code s = _
      simp [execSupervisorAbort, State.abortWith, hl, hstage, hraised]
    · rw [State.launch?_mapLaunch _ _ _ (by simp), State.launch?_abortLaunch hl]
      simp [State.launch?_lid hl, Launch.abort, hstage]
    · rw [State.mapLaunch_mem, State.abortLaunch_eq]
    · rw [State.mapLaunch_net, State.abortLaunch_eq]
    · rintro h c k rfl hlid hfree
      rw [State.hart_mapLaunch, State.hart_abortLaunch, stopThread_running (c := c) (n := k) (by simp) hlid hfree,
        stopPorter_thread (c := c) (n := k) (by simp)]
      exact ⟨rfl, rfl⟩
    · rintro h d p rfl hlid hrun
      rw [State.hart_mapLaunch, State.hart_abortLaunch, stopThread_other (by simp), stopPorter_running (d := d) (p := p) (by simp) hlid hrun]
    · intro e he helid
      rw [State.mapLaunch_evicted, State.abortLaunch_eq, List.mem_map] at he
      obtain ⟨t, -, rfl⟩ := he
      by_cases ht : t.lid = lid
      · rw [if_pos ht]
      · rw [if_neg ht] at helid; exact absurd helid ht
    · rw [State.mapLaunch_evicted, State.abortLaunch_eq, List.map_map]
      refine List.map_congr_left fun t _ => ?_
      exact (apply_ite Thread.id _ _ _).trans (ite_self _)
    · intro h hne
      rw [State.hart_mapLaunch, State.hart_abortLaunch, stopThread_ne hne, stopPorter_ne hne]

/-- Settles O41: the record, the captured replies, the reaper's start, the notices and the supervisor's abort. -/
theorem faultsAreRecordedAndReported : Obligations.FaultsAreRecordedAndReported :=
  ⟨faultRecordsAreWritten, repliesAreCaptured, reapersStart, noticesAreAppended, supervisorAborts⟩

end Sys2Proof.Machine
end

section
/-! SUPPORT. Every step with power has a next state (R39, R158, R159, R404). -/

namespace Sys2Proof.Machine

/-- A result with a next state. -/
def GoesOn (r : Result) : Prop := ∃ t, r = .next t

theorem goesOn_next (t : State) : GoesOn (.next t) := ⟨t, rfl⟩

/-- Each row's meaning is a next state: its traps, faults and refusals of requests are states too. -/
theorem exec_goesOn (i : Instr) (s : State) : GoesOn (exec i s) := by
  cases i <;> exact goesOn_next _

theorem runDecoded_goesOn (d : Decoded) (s : State) : GoesOn (runDecoded d s) := by
  cases d with
  | instr i word _ => exact exec_goesOn i _
  | reserved word _ => exact exec_goesOn (.reservedEncoding word) _

/-- A hart's turn: what keeps it from issuing leaves a state, and so does each of the fetch's outcomes. -/
theorem issueStep_goesOn (s : State) : GoesOn (issueStep s) := by
  unfold issueStep
  split
  · exact goesOn_next _
  split
  · exact exec_goesOn _ _
  split
  · exact goesOn_next _
  split
  · exact goesOn_next _
  split
  · exact goesOn_next _
  split
  · split
    · exact runDecoded_goesOn _ _
    · exact goesOn_next _
  · split
    · exact exec_goesOn _ _
    · exact goesOn_next _
  · exact goesOn_next _

/-- With power, a step is a boot step, an event or a hart's turn. -/
theorem step_goesOn {s : State} (hoff : s.off = false) : GoesOn (step s) := by
  unfold step
  rw [hoff]
  split
  · exact goesOn_next _
  split
  · next h _ => cases h
  · next h _ => cases h
  · split
    · exact exec_goesOn _ _
    · exact goesOn_next _
  · exact issueStep_goesOn _
  · exact issueStep_goesOn _

/-- R404: reset lists no byte. -/
theorem resetMemoryIsCanonical : Claim.ResetMemoryIsCanonical := ⟨rfl, fun _ => rfl⟩

/-- Settles O60, by the arms of `exec` and the branches of a step. -/
theorem stepsNeverStop : Obligations.StepsNeverStop := ⟨fun _ => step_goesOn, resetMemoryIsCanonical⟩

end Sys2Proof.Machine
end

section
/-! SUPPORT. Port words, waits that take too long, and whose turn it is on a core (R16, R19, R49, R50). -/

namespace Sys2Proof.Machine

/-! ### Port words (R49) -/

@[simp] theorem Thread.unwait_id (t : Thread) (w : Wait) : (t.unwait w).id = t.id := by
  unfold Thread.unwait; split <;> (try split) <;> rfl

/-- Ending a wait changes the wait alone. -/
theorem Thread.unwait_frame (t : Thread) (w : Wait) : t.unwait w = { t with wait := (t.unwait w).wait } := by
  unfold Thread.unwait; split <;> (try split) <;> rfl

theorem Thread.unwait_arrivals (t : Thread) (w : Wait) : (t.unwait w).arrivals = t.arrivals := by rw [t.unwait_frame w]
theorem Thread.unwait_outputs (t : Thread) (w : Wait) : (t.unwait w).outputs = t.outputs := by rw [t.unwait_frame w]
theorem Thread.unwait_latch (t : Thread) (w : Wait) : (t.unwait w).latch = t.latch := by rw [t.unwait_frame w]
theorem Thread.unwait_x (t : Thread) (w : Wait) : (t.unwait w).x = t.x := by rw [t.unwait_frame w]

/-- R49: the sender's oldest word leaves. -/
def Thread.sendWord (p : Fin 4) (rest : List Word) (t : Thread) : Thread := { t with outputs := t.outputs.set p rest }.unwait (.port p true)

/-- R49: a word enters an arrival queue. -/
def Thread.takeWord (q : Fin 4) (w : Word) (t : Thread) : Thread :=
  { t with arrivals := t.arrivals.set q (t.arrivals[q] ++ [w]), latch := true }.unwait (.port q false)

@[simp] theorem Thread.sendWord_id (p : Fin 4) (rest : List Word) (t : Thread) : (t.sendWord p rest).id = t.id := Thread.unwait_id _ _
@[simp] theorem Thread.takeWord_id (q : Fin 4) (w : Word) (t : Thread) : (t.takeWord q w).id = t.id := Thread.unwait_id _ _

theorem exec_portWordArrival {s : State} {h id : HartId} {port : BitVec 2} {l : Launch} {w : Word} {rest : List Word}
    (hout : (s.hart h).outputs[port.toNat]'port.isLt = w :: rest) (hl : s.launchOf (s.hart h) = some l)
    (hpeer : l.peer (s.hart h) ⟨port.toNat, port.isLt⟩ = some id) (hsaved : s.savedOn id (s.hart h).lid = none) :
    exec (.portWordArrival h port) s = .next
      (if (s.hart id).stage ≠ .restoring ∧ (s.hart id).arrivals[(port.toNat + 2) % 4].length < 4 then
        (s.mapHart h (Thread.sendWord ⟨port.toNat, port.isLt⟩ rest)).mapHart id
          (Thread.takeWord ⟨(port.toNat + 2) % 4, Nat.mod_lt _ (by decide)⟩ w) else s) := by
  show execPortWordArrival h port s = _
  simp only [execPortWordArrival, Fin.getElem_fin, hout, hl, hpeer, hsaved]
  rfl

/-- R49, R341, R385: a word moves to the neighbour, or stays. -/
theorem portWordsArrive : Claim.PortWordsArrive := by
  intro s h port p q l id w rest hp hq hout hl hpeer hne hsaved
  obtain rfl : p = ⟨port.toNat, port.isLt⟩ := Fin.ext hp
  obtain rfl : q = ⟨(port.toNat + 2) % 4, Nat.mod_lt _ (by decide)⟩ := Fin.ext hq
  have hexec := exec_portWordArrival (port := port) hout hl hpeer hsaved
  refine ⟨fun hrest => ?_, fun hrest hroom => ?_, fun hfull => ?_⟩
  · rw [hexec, if_neg fun hc => hc.1 hrest]
  · rw [hexec, if_pos ⟨hrest, hroom⟩]
    have hid := (s.mapHart h (Thread.sendWord ⟨port.toNat, port.isLt⟩ rest)).hart_id id
    have hkept : (s.mapHart h (Thread.sendWord ⟨port.toNat, port.isLt⟩ rest)).hart id = s.hart id := State.hart_mapHart_ne (by simp) hne
    refine ⟨_, rfl, ?_, ?_, ?_, ?_, fun k hkh hkid => ?_, by simp, by simp⟩
    · rw [State.hart_mapHart_ne (by simp) (Ne.symm hne), State.hart_mapHart_same (by simp), Thread.sendWord, Thread.unwait_outputs]
      simp
    · rw [State.hart_mapHart_same (by simp), hkept, Thread.takeWord, Thread.unwait_arrivals]
      simp
    · rw [State.hart_mapHart_same (by simp), hkept, Thread.takeWord, Thread.unwait_latch]
    · rw [State.hart_mapHart_same (by simp), hkept, Thread.takeWord, Thread.unwait_x]
    · rw [State.hart_mapHart_ne (by simp) hkid, State.hart_mapHart_ne (by simp) hkh]
  · rw [hexec, if_neg fun hc => absurd hc.2 (Nat.not_lt.mpr hfull)]

/-! ### Waits (R19, R50) -/

theorem State.waitedOut_iff (s : State) (since : Nat) : s.waitedOut since = true ↔ 2 ^ s.mc.pwlim.toNat < s.now - since := decide_eq_true_iff

theorem exec_portTimeout {s : State} {h : HartId} {p : Fin 4} {push : Bool} {n : Nat} (hactive : (s.hart h).stage = .active)
    (hwait : (s.hart h).wait = some (.port p push, n)) : exec (.portTimeout h) s =
      .next (if s.waitedOut n then s.onHart h fun s => s.raise PORT_TIMEOUT 0 else s) := by
  show execPortTimeout h s = _
  simp only [execPortTimeout, hwait, hactive, and_true]

theorem exec_trpFormTimeout {s : State} {h : HartId} {n : Nat} (hactive : (s.hart h).stage = .active)
    (hforming : (s.hart h).formingSince = some n) : exec (.trpFormTimeout h) s =
      .next (if s.waitedOut n then s.onHart h fun s => s.raise PORT_TIMEOUT 0 else s) := by
  show execTrpFormTimeout h s = _
  simp only [execTrpFormTimeout, hforming, hactive, and_true]

@[simp] theorem Wait.goesOn_self (w : Wait) : w.goesOn w = true := by
  cases w <;> simp [Wait.goesOn]

/-- A hart that is no core's thread has no turn to give. -/
theorem State.switch_of_no_thread {s : State} (h : ∀ c k, s.focus.id ≠ .thread c k) : s.switch = s := by
  unfold State.switch
  split
  · next c k hid => exact absurd hid (h c k)
  · rfl

/-- R19, R50: waits time out, and one that goes on keeps its beginning. -/
theorem longWaitsTrap : Claim.LongWaitsTrap := by
  refine fun s h n hactive => ⟨fun p push hwait => ?_, fun hwait => ?_, fun w hwait hf hno => ?_⟩
  · rw [exec_portTimeout hactive hwait]
    exact ⟨fun hlong => by rw [if_pos ((s.waitedOut_iff n).mpr hlong)]; rfl,
      fun hshort => by rw [if_neg fun hc => absurd ((s.waitedOut_iff n).mp hc) (Nat.not_lt.mpr hshort)]⟩
  · have hforming : (s.hart h).formingSince = some n := by
      rcases hwait with hwait | ⟨width, skew, hwait⟩ <;> simp only [Thread.formingSince, hwait]
    rw [exec_trpFormTimeout hactive hforming]
    exact ⟨fun hlong => by rw [if_pos ((s.waitedOut_iff n).mpr hlong)]; rfl,
      fun hshort => by rw [if_neg fun hc => absurd ((s.waitedOut_iff n).mp hc) (Nat.not_lt.mpr hshort)]⟩
  · rw [hf, State.hart_focus] at hwait
    rw [State.stall, State.switch_of_no_thread (by simpa [State.mapFocus, ← hf] using hno)]
    simp [State.mapFocus, hwait]

/-! ### Turns (R16) -/

/-- The first of rising numbers that passes a test: the smaller ones fail it. -/
theorem eq_false_of_lt_of_find? {q : Nat → Bool} {l : List Nat} (hl : l.Pairwise (· < ·)) {i j : Nat} (h : l.find? q = some j)
    (hi : i ∈ l) (hij : i < j) : q i = false := by
  obtain ⟨-, as, bs, rfl, has⟩ := List.find?_eq_some_iff_append.mp h
  obtain ⟨-, hrest, -⟩ := List.pairwise_append.mp hl
  rcases List.mem_append.mp hi with hi | hi
  · simpa using has i hi
  · rcases List.mem_cons.mp hi with rfl | hi
    · exact absurd hij (lt_irrefl _)
    · exact absurd ((List.pairwise_cons.mp hrest).1 i hi) (Nat.lt_asymm hij)

/-- R16: a thread set that can take the turn. -/
def State.canTake (s : State) (id : HartId) : Bool := (s.harts.any fun t => decide (t.id = id)) && s.canIssue (s.hart id)

theorem State.nextReady_eq_some {s : State} {c : CoreId} {h : Nat} {id : HartId} (hnext : s.nextReady c h = some id) :
    ∃ j, [1, 2, 3].find? (fun k => s.canTake (.thread c ((h + k) % 4))) = some j ∧ id = .thread c ((h + j) % 4) := by
  change (([1, 2, 3].map fun k => HartId.thread c ((h + k) % 4)).find? s.canTake) = _ at hnext
  rw [List.find?_map] at hnext
  obtain ⟨j, hj, rfl⟩ := Option.map_eq_some_iff.mp hnext
  exact ⟨j, hj, rfl⟩

/-- R16: an end of a thread's 256 issues in a row. -/
theorem turnEndsAfterManyIssues {s : State} {c : CoreId} {h n : Nat} {id : HartId} (hstreak : lookup? c s.streaks = some (h, n)) (hn : 256 ≤ n)
    (hnext : s.nextReady c h = some id) (hf : s.focus.id = .thread c h) :
    exec (.threadSwitchQuantum c) s = .next ({ s with streaks := insertKey c (id.set, 0) s.streaks }.focusOn id) := by
  show execThreadSwitchQuantum c s = _
  simp only [execThreadSwitchQuantum, hstreak, hn, hnext, hf, if_true]

/-- R16: which thread set comes next. -/
theorem nextReady_spec {s : State} {c : CoreId} {h : Nat} {id : HartId} (hnext : s.nextReady c h = some id) :
    ∃ j ∈ [1, 2, 3], id = .thread c ((h + j) % 4) ∧ s.canIssue (s.hart id) = true ∧
      ∀ i ∈ [1, 2, 3], i < j → (∀ t ∈ s.harts, t.id ≠ .thread c ((h + i) % 4)) ∨ s.canIssue (s.hart (.thread c ((h + i) % 4))) = false := by
  obtain ⟨j, hj, rfl⟩ := State.nextReady_eq_some hnext
  have htakes := List.find?_some hj
  refine ⟨j, List.mem_of_find?_eq_some hj, rfl, (Bool.and_eq_true_iff.mp htakes).2, fun i hi hij => ?_⟩
  have hfails := eq_false_of_lt_of_find? (by decide) hj hi hij
  rcases Bool.and_eq_false_iff.mp hfails with hnone | hcannot
  · exact .inl (by simpa using hnone)
  · exact .inr hcannot

/-- R16: what it takes to issue. -/
theorem State.canIssue_iff (s : State) (t : Thread) : s.canIssue t = true ↔ s.ready t = true ∧
    (t.wait = none ∨ ∃ n since, t.wait = some (.barrier n, since) ∧ t.arrived.toArray.getD (n - 1) .none = .passed) := by
  unfold State.canIssue Thread.holding
  split
  · next hw => simp [hw]
  · next n since hw => simp [hw]
  · next w hno hw =>
    have hnot : ∀ n since, w ≠ (.barrier n, since) := fun n since h => hno n since h
    simp [hw, hnot]

/-- R16: cores take turns. -/
theorem coresTakeTurns : Claim.CoresTakeTurns := by
  refine ⟨fun s c h n id hstreak hn hnext hf => ?_, fun s c h id => nextReady_spec, fun s c k r n hstreak => ⟨fun hcan => ?_, fun id hcannot hnext => ?_⟩,
    State.canIssue_iff⟩
  · refine ⟨_, turnEndsAfterManyIssues hstreak hn hnext hf, ?_, ?_, ?_, ?_, fun k => ?_⟩
    · rw [State.focusOn_focus]; rfl
    · rw [State.focusOn_frame]; exact lookup?_insertKey_same _ _ _
    · rw [State.focusOn_frame]
    · rw [State.focusOn_frame]
    · rw [State.hart_focusOn]; rfl
  · simp only [State.giveTurn, hstreak, hcan, if_true]
  · simp only [State.giveTurn, hstreak, hcannot, hnext, Bool.false_eq_true, if_false, Option.getD_some]

/-- Settles O42: the port words, the time limits and the turns. -/
theorem portsWaitsAndTurns : Obligations.PortsWaitsAndTurns := ⟨portWordsArrive, longWaitsTrap, coresTakeTurns⟩

end Sys2Proof.Machine
end

section
/-! SUPPORT. Fences, WAITDC, RGN and YIELD (R124, R127, R219, R226 to R228). -/

namespace Sys2Proof.Machine

open Sys2Proof.Claim

/-! ### Keys do not depend on the issuing hart -/

theorem State.walkFrom_focus (s : State) (t : Thread) (va : Nat) : ∀ fuel level a,
    ({ s with focus := t } : State).walkFrom va fuel level a = s.walkFrom va fuel level a
  | 0, _, _ => rfl
  | fuel + 1, level, a => by
    unfold State.walkFrom
    simp only [State.walkFrom_focus s t va fuel]
    rfl

theorem State.keyAt?_focus (s : State) (t : Thread) (src : Src) (lid space : Nat) (physical : Bool) (a : Word) :
    ({ s with focus := t } : State).keyAt? src lid space physical a = s.keyAt? src lid space physical a := by
  unfold State.keyAt? State.walk
  simp only [State.walkFrom_focus]
  rfl

theorem State.reqKey_focus (s : State) (t : Thread) (r : Req) : ({ s with focus := t } : State).reqKey r = s.reqKey r := by
  unfold State.reqKey State.reqKey?
  simp only [State.keyAt?_focus]

theorem State.copyKeys_focus (s : State) (t : Thread) (c : Copy) : ({ s with focus := t } : State).copyKeys c = s.copyKeys c := by
  unfold State.copyKeys
  simp only [State.keyAt?_focus]

/-! ### Fences (R124, R127, R219) -/

theorem inScope_iff (scope : BitVec 3) (t : Thread) (key : Nat) : inScope scope t key = true ↔ Within scope t key := by
  unfold inScope Within
  split
  · next h =>
    rw [if_pos h]
    split
    · next c c' hc hc' => simp [hc, hc']
    · next hno =>
      constructor
      · intro hc; cases hc
      · rintro ⟨c, c', hc, hc', -⟩; exact (hno c c' hc hc').elim
  · next h => rw [if_neg (by omega), if_pos h, decide_eq_true_iff]
  · next h =>
    rw [if_neg (by omega), if_neg (by omega), if_pos h]
    split
    · next dev hdev => simp [hdev]
    · next hno => simpa using hno
  · next h₁ h₂ h₃ => simp [if_neg h₁, if_neg h₂, if_neg h₃]

/-- A held access that its home has not accepted. -/
theorem Req.covered_eq_false_iff (r : Req) : r.covered = false ↔ r.phase = .sent ∨ r.phase = .atHome ∨ ∃ c a, r.phase = .refused c a := by
  unfold Req.covered
  split <;> simp_all

/-- R124, R219: what holds a fence back. -/
theorem State.fenceHeld_iff (s : State) (t : Thread) (scope : BitVec 3) (st ld : Bool) : s.fenceHeld t scope st ld = true ↔
    (∃ r ∈ s.buffered t.id ++ s.net, r.src = .hart t.id ∧ ((st = true ∧ r.counted = true) ∨ (ld = true ∧ r.body.returns = true)) ∧
      Within scope t (s.reqKey r) ∧ (r.cls = .held → r.phase = .sent ∨ r.phase = .atHome ∨ ∃ c a, r.phase = .refused c a)) ∨
    (st = true ∧ ∃ c ∈ s.copies, c.hart = t.id ∧ ∃ key ∈ s.copyKeys c, Within scope t key) := by
  simp only [State.fenceHeld, Bool.or_eq_true, List.any_eq_true, Bool.and_eq_true, Req.isOf, decide_eq_true_iff, inScope_iff,
    Bool.not_eq_true', Req.covered_eq_false_iff, and_assoc, ne_eq, imp_iff_not_or]

theorem State.fenceHeld_start (s : State) (scope : BitVec 3) (st ld : Bool) :
    ({ s with focus := start s 4 } : State).fenceHeld (start s 4) scope st ld = s.fenceHeld s.focus scope st ld := by
  unfold State.fenceHeld
  simp only [State.reqKey_focus, State.copyKeys_focus]
  rfl

/-- A fence issues when no acquire is pending and nothing holds it back; else it waits. -/
theorem fence_run (s : State) (scope : BitVec 3) (st ld : Bool) : fence scope st ld s =
    if s.focus.acquires = [] ∧ s.fenceHeld s.focus scope st ld = false then .ok () s else .error (.wait .other) s := by
  simp only [fence, openGate, M.bind_run, focus_run, M.get_run, await_run]
  by_cases hacq : s.focus.acquires = []
  · cases hheld : s.fenceHeld s.focus scope st ld <;> simp [hacq, hheld]
  · simp [hacq]

/-- The three fences are one form. -/
theorem exec_fence {e : (Guard → BitVec 3 → Instr) × Bool × Bool} (he : e ∈ ([(.fence, true, true), (.fenceSt, true, false),
    (.fenceLd, false, true)] : List ((Guard → BitVec 3 → Instr) × Bool × Bool))) (s : State) (g : Guard) (sz : BitVec 3) :
    exec (e.1 g sz) s = .next (s.scalar .porter g (fence sz e.2.1 e.2.2)) := by
  simp only [List.mem_cons, List.not_mem_nil, or_false] at he
  rcases he with rfl | rfl | rfl <;> rfl

section
variable {s : State} {g : Guard} {sz : BitVec 3} {st ld : Bool}

theorem fence_completes (hen : Enabled s .porter g) (hacq : s.focus.acquires = []) (hfree : s.fenceHeld s.focus sz st ld = false) :
    s.scalar .porter g (fence sz st ld) = retired s (start s 4) 4 .no :=
  State.scalar_completes hen rfl ((fence_run _ sz st ld).trans (if_pos ⟨hacq, (s.fenceHeld_start sz st ld).trans hfree⟩))

theorem fence_waits (hen : Enabled s .porter g) (h : s.focus.acquires ≠ [] ∨ s.fenceHeld s.focus sz st ld = true) :
    s.scalar .porter g (fence sz st ld) = s.stall .other := by
  refine State.scalar_wait (s' := { s with focus := start s 4 }) hen rfl ((fence_run _ sz st ld).trans (if_neg ?_))
  rintro ⟨hacq, hfree⟩
  rw [State.fenceHeld_start] at hfree
  exact h.elim (· hacq) fun hheld => absurd (hheld.symm.trans hfree) (by decide)

end

/-- R124, R219: fences wait. -/
theorem fencesWait : Claim.FencesWait := fun _ he s g sz hen =>
  ⟨fun h => by rw [exec_fence he, fence_waits hen h], fun hacq hfree => by rw [Completes, exec_fence he, fence_completes hen hacq hfree]⟩

/-- R220: where the i-th packet that a copy has still to send begins. -/
def Copy.packetAt (c : Copy) (i : Nat) : Nat :=
  if i = 0 then c.dst.toNat + c.done else floor256 (c.dst.toNat + c.done) + 256 * i

/-- R220: packets begin where the copy stands and at each multiple of 256 of its destination. -/
theorem Copy.exists_packetAt (c : Copy) (a : Nat) : (∃ i < (c.len - c.done) / 256 + 2, c.packetAt i = a ∧ a < c.dst.toNat + c.len) ↔
    ∃ o, c.done ≤ o ∧ o < c.len ∧ (o = c.done ∨ (c.dst.toNat + o) % 256 = 0) ∧ c.dst.toNat + o = a := by
  simp only [Copy.packetAt, floor256]
  constructor
  · rintro ⟨i, hi, rfl, hin⟩
    by_cases hi0 : i = 0
    · rw [if_pos hi0] at hin ⊢
      exact ⟨c.done, le_rfl, by omega, .inl rfl, rfl⟩
    · rw [if_neg hi0] at hin ⊢
      exact ⟨(c.dst.toNat + c.done) / 256 * 256 + 256 * i - c.dst.toNat, by omega, by omega, .inr (by omega), by omega⟩
  · rintro ⟨o, hdone, hlen, ho, rfl⟩
    by_cases hfirst : o = c.done
    · exact ⟨0, by omega, by rw [if_pos rfl, hfirst], by omega⟩
    · have hmult : (c.dst.toNat + o) % 256 = 0 := ho.resolve_left hfirst
      exact ⟨(c.dst.toNat + o) / 256 - (c.dst.toNat + c.done) / 256, by omega, by rw [if_neg (by omega)]; omega, by omega⟩

theorem State.mem_copyKeys (s : State) (c : Copy) (key : Nat) : key ∈ s.copyKeys c ↔
    ∃ o, c.done ≤ o ∧ o < c.len ∧ (o = c.done ∨ (c.dst.toNat + o) % 256 = 0) ∧
      s.keyAt? (.hart c.hart) c.lid c.space c.hart.physical (BitVec.ofNat 64 (c.dst.toNat + o)) = some key := by
  have hmem : key ∈ s.copyKeys c ↔ ∃ a, (∃ i < (c.len - c.done) / 256 + 2, c.packetAt i = a ∧ a < c.dst.toNat + c.len) ∧
      s.keyAt? (.hart c.hart) c.lid c.space c.hart.physical (BitVec.ofNat 64 a) = some key := by
    simp only [State.copyKeys, List.mem_filterMap, List.mem_range]
    constructor
    · rintro ⟨i, hi, hkey⟩
      obtain ⟨hin, hkey⟩ := Option.ite_none_right_eq_some.mp hkey
      exact ⟨c.packetAt i, ⟨i, hi, rfl, hin⟩, hkey⟩
    · rintro ⟨a, ⟨i, hi, rfl, hin⟩, hkey⟩
      exact ⟨i, hi, Option.ite_none_right_eq_some.mpr ⟨hin, hkey⟩⟩
  simp only [hmem, Copy.exists_packetAt]
  constructor
  · rintro ⟨_, ⟨o, hdone, hlen, ho, rfl⟩, hkey⟩
    exact ⟨o, hdone, hlen, ho, hkey⟩
  · rintro ⟨o, hdone, hlen, ho, hkey⟩
    exact ⟨_, ⟨o, hdone, hlen, ho, rfl⟩, hkey⟩

/-- Where a hart has no access in flight and no copy that a fence counts, nothing holds the fence back. -/
theorem State.fenceHeld_of_nothing {s : State} {t : Thread} {st ld : Bool} (scope : BitVec 3)
    (hreqs : ∀ r ∈ s.buffered t.id ++ s.net, r.src = .hart t.id → (st = true → r.counted = false) ∧ (ld = true → r.body.returns = false))
    (hcopies : st = true → ∀ c ∈ s.copies, c.hart ≠ t.id) : s.fenceHeld t scope st ld = false := by
  rw [Bool.eq_false_iff, Ne, State.fenceHeld_iff]
  rintro (⟨r, hr, hsrc, hcount, -⟩ | ⟨hst, c, hc, hhart, -⟩)
  · obtain ⟨hcounted, hreturns⟩ := hreqs r hr hsrc
    rcases hcount with ⟨hst, h⟩ | ⟨hld, h⟩
    · rw [hcounted hst] at h; cases h
    · rw [hreturns hld] at h; cases h
  · exact hcopies hst c hc hhart

/-- R124, R127: what fences wait for. -/
theorem fencesCoverStores : Claim.FencesCoverStores := by
  refine ⟨State.fenceHeld_iff, State.mem_copyKeys, fun s g sz hen hacq => ?_⟩
  exact ⟨fun ⟨hreqs, hcopies⟩ => congrArg _ (fence_completes hen hacq (State.fenceHeld_of_nothing sz hreqs hcopies)),
    fun ⟨hreqs, hcopies⟩ => congrArg _ (fence_completes hen hacq (State.fenceHeld_of_nothing sz hreqs hcopies)),
    fun ⟨hreqs, hcopies⟩ => congrArg _ (fence_completes hen hacq (State.fenceHeld_of_nothing sz hreqs hcopies))⟩

/-! ### WAITDC and RGN -/

/-- R57, R226: WAITDC waits for its counter. -/
theorem waitdcWaits : Claim.WaitdcWaits := by
  intro s g c h hen
  have hrun : (do let t ← focus; await (decide ((t.counter c).toNat ≤ h.toNat)) : M Unit) { s with focus := start s 4 } =
      if (s.focus.counter c).toNat ≤ h.toNat then .ok () { s with focus := start s 4 }
      else .error (.wait .other) { s with focus := start s 4 } := by
    simp only [M.bind_run, focus_run, await_run, decide_eq_true_iff]; rfl
  exact ⟨fun habove => congrArg _ (State.scalar_wait hen rfl (hrun.trans (if_neg (Nat.not_le.mpr habove)))),
    fun hready => congrArg _ (State.scalar_completes hen rfl (hrun.trans (if_pos hready)))⟩

/-- R37: the region entry is where a firm mark stands. -/
theorem Thread.mark_firm (t : Thread) {m : Mark} (hm : m.firm = true) : (t.mark m).region = m.region := by
  simp [Thread.mark, Thread.settleMarks, Mark.live, hm]

/-- The next instruction of a hart outside a troupe becomes its region entry. -/
theorem retired_rgn_region {s : State} (t : Thread) (mask : Word) (htr : s.focus.troupe = none) (hrep : s.focus.rep = none) :
    (retired s t 4 (.rgn mask)).focus.region = ({ t with pc := t.npc } : Thread).age.regionHere mask := by
  simp only [retired, State.retire, State.slotDone, State.moveRegion, Thread.advance, htr, hrep, Closing.closer, if_true]
  rw [State.countIssue_frame]
  exact Thread.mark_firm _ rfl

@[simp] theorem Thread.settleMarks_pc (t : Thread) : t.settleMarks.pc = t.pc := by rw [Thread.settleMarks_frame]

theorem retired_rgn_pc {s : State} (t : Thread) (mask : Word) (htr : s.focus.troupe = none) (hrep : s.focus.rep = none) :
    (retired s t 4 (.rgn mask)).focus.pc = ({ t with pc := t.npc } : Thread).age.pc := by
  simp only [retired, State.retire, State.slotDone, State.moveRegion, Thread.advance, htr, hrep, Closing.closer, if_true]
  rw [State.countIssue_frame]
  simp [State.mapFocus, State.certain, Thread.mark]

theorem Thread.age_of_nothing_pending {t : Thread} (h : t.pend = []) : t.age = t := by
  simp only [Thread.age, h, List.map_nil, List.filter_nil, List.foldl_nil]
  rw [← h]

/-- R34, R227: RGN moves the region entry. -/
theorem rgnMovesTheRegion : Claim.RgnMovesTheRegion := by
  intro s g e hen
  have hdone : Completes (.rgn g e) s (start s 4) 4 (.rgn (s.focus.e.toArray.getD e.toNat 0)) :=
    congrArg _ (State.scalar_completes hen rfl rfl)
  refine ⟨hdone, fun htr hrep hpend => ⟨_, hdone, ?_, ?_, ?_⟩⟩
  · rw [retired_rgn_region _ _ htr hrep, Thread.age_of_nothing_pending (t := { start s 4 with pc := (start s 4).npc }) hpend, ← hrep]; rfl
  · rw [retired_rgn_pc _ _ htr hrep, Thread.age_of_nothing_pending (t := { start s 4 with pc := (start s 4).npc }) hpend]; rfl
  · simp only [retired, State.retire, State.slotDone, State.moveRegion, htr, Closing.closer, if_true]
    rw [State.countIssue_frame]; rfl

/-! ### YIELD (R16, R228) -/

@[simp] theorem Thread.advance_id (t : Thread) (c : Option RepCtx) : (t.advance c).id = t.id := by
  unfold Thread.advance; split <;> (try split) <;> (try split) <;> rfl

@[simp] theorem State.splitOff_focus_id (s : State) (h : HartId) : (s.splitOff h).focus.id = s.focus.id := by
  unfold State.splitOff; split <;> (try split) <;> simp

@[simp] theorem State.splitOff_mem (s : State) (h : HartId) : (s.splitOff h).mem = s.mem := by
  unfold State.splitOff; split <;> (try split) <;> simp

/-- The end of a slot keeps which hart issues, and the memory. -/
theorem State.slotDone_focus_id_mem (s : State) (before : Thread) (len : Nat) :
    (s.slotDone before len).focus.id = s.focus.id ∧ (s.slotDone before len).mem = s.mem := by
  unfold State.slotDone
  dsimp only
  repeat' split
  all_goals simp [State.mapFocus]

theorem retired_focus_id_mem (s : State) (t : Thread) (len : Nat) : (retired s t len .no).focus.id = t.id ∧ (retired s t len .no).mem = s.mem := by
  simp only [retired, State.retire, State.moveRegion]
  rw [State.countIssue_frame]
  obtain ⟨hid, hmem⟩ := State.slotDone_focus_id_mem
    (({ s with focus := t } : State).mapFocus fun t => { (t.advance s.focus.rep).age with wait := none, part := none, cycles := t.cycles + 1 }) s.focus len
  exact ⟨hid.trans (by simp [State.mapFocus]), hmem⟩

/-- R16: the turn of a core goes on, and no hart changes. -/
theorem State.switch_spec {s : State} {c : CoreId} {h : Nat} (hid : s.focus.id = .thread c h) :
    lookup? c s.switch.streaks = some (s.switch.focus.id.set, 0) ∧ (∀ k, s.switch.hart k = s.hart k) ∧ s.switch.mem = s.mem ∧
      s.switch.focus.id = (s.nextReady c h).getD (.thread c h) := by
  rcases hnext : s.nextReady c h with _ | id
  · simp only [State.switch, hid, hnext]
    exact ⟨lookup?_insertKey_same _ _ _, fun _ => rfl, trivial, rfl⟩
  · simp only [State.switch, hid, hnext]
    refine ⟨?_, fun k => State.hart_focusOn s id k, by rw [State.focusOn_frame], ?_⟩
    · rw [State.focusOn_focus, State.hart_id]; exact lookup?_insertKey_same _ _ _
    · rw [State.focusOn_focus, State.hart_id]; rfl

/-- R16, R228: YIELD turns the core. -/
theorem yieldTurnsTheCore : Claim.YieldTurnsTheCore := by
  intro s g c h hen hid
  obtain ⟨hrid, hrmem⟩ := retired_focus_id_mem s (start s 4) 4
  obtain ⟨hstreaks, hharts, hmem, hnext⟩ := State.switch_spec (hrid.trans hid)
  refine ⟨(retired s (start s 4) 4 .no).switch, ?_, hstreaks, hharts, hmem.trans hrmem, hnext⟩
  show execYield g s = _
  have hdone : s.scalar .core g (pure ()) = retired s (start s 4) 4 .no := State.scalar_completes hen rfl rfl
  simp only [execYield, hen.1, hen.2, hdone, Bool.and_self, if_true]

/-- Settles O12: fences, what they count, WAITDC, RGN and YIELD. -/
theorem fencesWaitsAndTurns : Obligations.FencesWaitsAndTurns :=
  ⟨fencesWait, fencesCoverStores, waitdcWaits, rgnMovesTheRegion, yieldTurnsTheCore⟩

end Sys2Proof.Machine
end

section
/-! SUPPORT. Phases, arrivals, SYNC and WAIT (R25 to R29, R31, R224, R229). -/

namespace Sys2Proof.Machine

open Sys2Proof.Claim

/-! ### Arrivals -/

/-- R31: an arrival ends the thread's part in a superstep where its level's barrier does. -/
theorem arriving_eq (s : State) (t : Thread) (level : Nat) (a : Arrival) :
    (t.setArrival level a).nextStep (s.endsStep level) = arriving s t level a := by
  unfold arriving Thread.nextStep
  split <;> rfl

theorem State.arrive_eq (s : State) (level : Nat) (a : Arrival) : s.arrive level a = s.mapFocus fun t => arriving s t level a := by
  simp only [State.arrive, arriving_eq]

theorem recorded_eq (t : Thread) (upto : Nat) : t.settle upto = recorded t upto := by
  unfold Thread.settle recorded
  congr 1
  refine Vector.map_congr_left fun a _ => ?_
  cases a <;> rfl

/-! ### What a barrier instruction checks -/

/-- What a level's instruction does once its check has passed. -/
theorem checked_run {ok : Bool} {m : M Unit} (s : State) (h : ok = true) : (do check ok BARRIER_LEVEL; m : M Unit) s = m s := by
  rw [h]; exact M.bind_ok rfl

/-- What a level's instruction does where its check fails. -/
theorem unchecked_run {ok : Bool} {m : M Unit} (s : State) (h : ok = false) :
    (do check ok BARRIER_LEVEL; m : M Unit) s = .error (.trap BARRIER_LEVEL 0) s := by
  rw [h]; exact M.bind_error rfl

section
variable {s : State} {g : Guard} {l : BitVec 5} {c : BitVec 2}

theorem arrive_completes (hen : Enabled s .core g) (hlevel : HasLevel s l.toNat) (hnone : s.focus.arrival l.toNat = .none) :
    Completes (.arrive g l) s (arriving s (start s 4) l.toNat (.arrived s.nextId)) 4 := by
  refine congrArg _ (State.scalar_completes hen rfl ?_)
  refine (M.bind_ok (M.get_run _)).trans ((checked_run _ (Bool.and_eq_true_iff.mpr ⟨hlevel, decide_eq_true hnone⟩)).trans ?_)
  rw [M.modify_run, State.arrive_eq]; rfl

theorem arrived_completes (hen : Enabled s .core g) (hlevel : HasLevel s l.toNat) (hnone : s.focus.arrival l.toNat = .none) :
    Completes (.arrived g l c) s (recorded (arriving s (start s 4) l.toNat (.pending c)) s.nextId) 4 := by
  refine congrArg _ (State.scalar_completes hen rfl ?_)
  refine (M.bind_ok (M.get_run _)).trans ((checked_run _ (Bool.and_eq_true_iff.mpr ⟨hlevel, decide_eq_true hnone⟩)).trans ?_)
  rw [M.modify_run, State.arrive_eq]; simp only [recorded_eq]; rfl

theorem arrive_traps (hen : Enabled s .core g) (h : (s.levelOk l.toNat && decide (s.focus.arrival l.toNat = .none)) = false) :
    exec (.arrive g l) s = .next (s.raise 0x0B 0) :=
  congrArg _ (State.scalar_trap hen rfl ((M.bind_ok (M.get_run _)).trans (unchecked_run _ h)))

theorem arrived_traps (hen : Enabled s .core g) (h : (s.levelOk l.toNat && decide (s.focus.arrival l.toNat = .none)) = false) :
    exec (.arrived g l c) s = .next (s.raise 0x0B 0) :=
  congrArg _ (State.scalar_trap hen rfl ((M.bind_ok (M.get_run _)).trans (unchecked_run _ h)))

theorem wait_traps (hen : Enabled s .core g) (h : (s.levelOk l.toNat && decide (s.focus.arrival l.toNat ≠ .none)) = false) :
    exec (.wait g l) s = .next (s.raise 0x0B 0) :=
  congrArg _ (State.scalar_trap hen rfl ((M.bind_ok (M.get_run _)).trans (unchecked_run _ h)))

/-- SYNC's first attempt arrives and waits. -/
theorem exec_sync_first (hen : Enabled s .core g) (hlevel : HasLevel s l.toNat) (hnone : s.focus.arrival l.toNat = .none) :
    exec (.sync g l) s = .next ((s.mapFocus fun t => arriving s t l.toNat (.arrived s.nextId)).stall (.barrier l.toNat)) := by
  rw [← State.arrive_eq]
  exact congrArg _ (if_pos (by simp [hen.1, hen.2, hlevel, hnone]))

/-- WAIT. -/
def waitBody (n : Nat) : M Unit := do
  let s ← get
  check (s.levelOk n && decide (s.focus.arrival n ≠ .none)) BARRIER_LEVEL
  await (decide (s.focus.arrival n = .passed)) (.barrier n)
  leaveBarrier n

/-- SYNC after its first attempt. -/
def syncAgain (n : Nat) : M Unit := do
  let s ← get
  check (s.levelOk n && s.focus.inSync n) BARRIER_LEVEL
  await (decide (s.focus.arrival n = .passed)) (.barrier n)
  leaveBarrier n

theorem exec_sync_again (h : (s.levelOk l.toNat && decide (s.focus.arrival l.toNat = .none)) = false) :
    exec (.sync g l) s = .next (s.scalar .core g (syncAgain l.toNat) noPre (s.barrierClosing l.toNat)) :=
  congrArg _ (if_neg (by simp only [Bool.and_assoc, h, Bool.and_false]; exact Bool.false_ne_true))

theorem sync_traps (hen : Enabled s .core g) (hlevel : ¬HasLevel s l.toNat) : exec (.sync g l) s = .next (s.raise 0x0B 0) := by
  have hno : s.levelOk l.toNat = false := Bool.eq_false_iff.mpr hlevel
  rw [exec_sync_again (by rw [hno, Bool.false_and])]
  refine congrArg _ (State.scalar_trap hen rfl ((M.bind_ok (M.get_run _)).trans (unchecked_run _ ?_)))
  exact (congrArg (· && _) hno).trans (Bool.false_and _)

end

/-- R25, R29, R229: phases, and levels that a launch has not. -/
theorem phasesAndLevels : Claim.PhasesAndLevels := by
  refine ⟨fun s g l hen hlevel => ?_, fun s g l c hen hlevel => ?_⟩
  · exact congrArg _ (State.scalar_completes hen rfl ((M.bind_ok (M.get_run _)).trans ((checked_run _ hlevel).trans rfl)))
  · have hno : s.levelOk l.toNat = false := Bool.eq_false_iff.mpr hlevel
    have hnot (b : Bool) : (s.levelOk l.toNat && b) = false := by rw [hno, Bool.false_and]
    exact ⟨congrArg _ (State.scalar_trap hen rfl ((M.bind_ok (M.get_run _)).trans (unchecked_run _ hno))),
      arrive_traps hen (hnot _), arrived_traps hen (hnot _), wait_traps hen (hnot _), sync_traps hen hlevel⟩

/-- R27, R28, R31, R224: ARRIVE and ARRIVED. -/
theorem arrivalsAreRecorded : Claim.ArrivalsAreRecorded := fun s g l c hen hlevel =>
  ⟨arrive_completes hen hlevel, arrived_completes hen hlevel, fun harrived =>
    ⟨arrive_traps hen (by simp [harrived]), arrived_traps hen (by simp [harrived])⟩⟩

/-! ### WAIT and SYNC return -/

/-- A thread that returns from a level's barrier: its arrival is spent and its phase ends. -/
def Thread.leftBarrier (t : Thread) (level : Nat) : Thread :=
  { t.setArrival level .none with phases := t.phases.setIfInBounds (level - 1) false }

/-- R29, R32: what returning from a barrier does. -/
theorem leaveBarrier_run (s : State) (level : Nat) {la : Launch} (hl : s.launchOf s.focus = some la) : leaveBarrier level s = .ok ()
    (if s.endsStep level then State.deliverHeld { s with focus := s.focus.leftBarrier level } s.focus.id la.sstep
      else { s with focus := s.focus.leftBarrier level }) := by
  simp only [leaveBarrier, M.bind_run, M.get_run, setFocus_run, hl]
  cases s.endsStep level <;> rfl

/-- A thread whose barrier has not completed waits for it. -/
theorem awaitBarrier_waits {a : Arrival} {level : Nat} (s : State) {m : M Unit} (h : a ≠ .passed) :
    (do await (decide (a = .passed)) (.barrier level); m : M Unit) s = .error (.wait (.barrier level)) s :=
  M.bind_error (by rw [await_run, if_neg (by simpa using h)])

/-- A thread whose barrier has completed goes on. -/
theorem awaitBarrier_passed {a : Arrival} {level : Nat} (s : State) {m : M Unit} (h : a = .passed) :
    (do await (decide (a = .passed)) (.barrier level); m : M Unit) s = m s :=
  M.bind_ok (by rw [await_run, if_pos (by simpa using h)])

section
variable {s : State} {g : Guard} {l : BitVec 5}

/-- R28, R224: WAIT and SYNC once the check of their level has passed. -/
def returnFrom (n : Nat) (s : State) : M Unit := do
  await (decide (s.focus.arrival n = .passed)) (.barrier n)
  leaveBarrier n

/-- The state in which a SYNC or WAIT has returned. -/
def returned (s : State) (level : Nat) (la : Launch) : State :=
  (if s.endsStep level then State.deliverHeld { s with focus := (start s 4).leftBarrier level } s.focus.id la.sstep
    else { s with focus := (start s 4).leftBarrier level }).retire s.focus 4 (s.barrierClosing level) true

theorem scalar_returns {m : M Unit} {n : Nat} {la : Launch} (hen : Enabled s .core g) (hl : s.launchOf s.focus = some la)
    (hpassed : s.focus.arrival n = .passed) (hm : m { s with focus := start s 4 } = returnFrom n { s with focus := start s 4 } { s with focus := start s 4 }) :
    s.scalar .core g m noPre (s.barrierClosing n) = returned s n la :=
  State.scalar_ok hen rfl (hm.trans ((awaitBarrier_passed _ hpassed).trans (leaveBarrier_run _ n hl)))

theorem scalar_waitsAtBarrier {m : M Unit} {n : Nat} (hen : Enabled s .core g) (hpassed : s.focus.arrival n ≠ .passed)
    (hm : m { s with focus := start s 4 } = returnFrom n { s with focus := start s 4 } { s with focus := start s 4 }) :
    s.scalar .core g m noPre (s.barrierClosing n) = s.stall (.barrier n) :=
  State.scalar_wait hen rfl (hm.trans (awaitBarrier_waits _ hpassed))

end

/-- R32: the result of one held atomic reaches its register. -/
theorem deliverHeld_atomic {s : State} {h : HartId} {below : Nat} {r : Req} {op : BitVec 3} {n : Nat} {y cmp : Word} {d : BitVec 5}
    {data : List Byte} {time : BitVec 56}
    (hdue : (s.net.filter fun q => decide (q.src = .hart h) && decide (q.lid = (s.hart h).lid) && decide (q.cls = .held) &&
      decide (q.superstep < below)) = [r])
    (hphase : r.phase = .performed data time) (hbody : r.body = .amo op n y cmp d) (hd : d ≠ 0) (hport : portOf h d = none)
    (hactive : (s.hart h).stage = .active) (hlive : (s.hart h).state ≠ .free) :
    s.deliverHeld h below = { s.mapHart h fun t => { t with x := t.x.setIfInBounds d.toNat (loadedInt true data) } with
      net := s.net.filter fun q => decide (q.id ≠ r.id) } := by
  have hdue' : (s.net.filter fun q => q.ofThread (s.hart h) && decide (q.cls = .held) && decide (q.superstep < below)) = [r] := by
    simpa only [Req.ofThread, Req.isOf, State.hart_id] using hdue
  have hd' : ¬d = 0#5 := hd
  have hlistens : (s.hart h).listens = true := by simp [Thread.listens, hactive, hlive]
  have hroom : (s.hart h).room (r.body.words data) = true := by simp [Thread.room, hbody, Body.words, hport]
  have hland : (s.hart h).deliver r.body data = { s.hart h with x := (s.hart h).x.setIfInBounds d.toNat (loadedInt true data) } := by
    simp [hbody, Thread.deliver, Body.words, Thread.land, Thread.setX, hport, hd']
  simp only [State.deliverHeld, hdue', List.foldl_cons, List.foldl_nil, hphase, hlistens, hroom, Bool.not_true, Bool.false_eq_true, if_false,
    if_true, State.mapHart, hland]
  simp only [State.drop]
  rw [State.setHart_frame]

/-- R28, R29, R34, R224: how WAIT and SYNC end. -/
theorem waitsReturn (s : State) (g : Guard) (l : BitVec 5) (hen : Enabled s .core g) (hlevel : HasLevel s l.toNat) :
    (s.focus.arrival l.toNat = .passed → ∀ la, s.launchOf s.focus = some la → exec (.wait g l) s = .next (returned s l.toNat la)) ∧
    (s.focus.arrival l.toNat = .none → exec (.wait g l) s = .next (s.raise 0x0B 0)) ∧
    (s.focus.arrival l.toNat ≠ .none → s.focus.arrival l.toNat ≠ .passed → exec (.wait g l) s = .next (s.stall (.barrier l.toNat))) ∧
    (s.focus.arrival l.toNat = .none →
      exec (.sync g l) s = .next ((s.mapFocus fun t => arriving s t l.toNat (.arrived s.nextId)).stall (.barrier l.toNat))) ∧
    (∀ since, s.focus.wait = some (.barrier l.toNat, since) →
      (s.focus.arrival l.toNat = .passed → ∀ la, s.launchOf s.focus = some la → exec (.sync g l) s = .next (returned s l.toNat la)) ∧
      (s.focus.arrival l.toNat ≠ .none → s.focus.arrival l.toNat ≠ .passed → exec (.sync g l) s = .next (s.stall (.barrier l.toNat)))) := by
  have hwait (harrived : s.focus.arrival l.toNat ≠ .none) :
      waitBody l.toNat { s with focus := start s 4 } = returnFrom l.toNat { s with focus := start s 4 } { s with focus := start s 4 } :=
    (M.bind_ok (M.get_run _)).trans (checked_run _ (Bool.and_eq_true_iff.mpr ⟨hlevel, decide_eq_true harrived⟩))
  have hsync {since : Nat} (hin : s.focus.wait = some (.barrier l.toNat, since)) (harrived : s.focus.arrival l.toNat ≠ .none) :
      syncAgain l.toNat { s with focus := start s 4 } = returnFrom l.toNat { s with focus := start s 4 } { s with focus := start s 4 } := by
    refine (M.bind_ok (M.get_run _)).trans (checked_run _ (Bool.and_eq_true_iff.mpr ⟨hlevel, ?_⟩))
    simp [Thread.inSync, start, hin]
    exact harrived
  refine ⟨fun hpassed la hl => ?_, fun hnone => wait_traps hen (by simp [hnone]), fun harrived hpassed => ?_,
    exec_sync_first hen hlevel, fun since hin => ⟨fun hpassed la hl => ?_, fun harrived hpassed => ?_⟩⟩
  · exact congrArg _ (scalar_returns hen hl hpassed (hwait (by simp [hpassed])))
  · exact congrArg _ (scalar_waitsAtBarrier hen hpassed (hwait harrived))
  · rw [exec_sync_again (by simp [hpassed]), scalar_returns hen hl hpassed (hsync hin (by simp [hpassed]))]
  · rw [exec_sync_again (by simp [harrived]), scalar_waitsAtBarrier hen hpassed (hsync hin harrived)]

/-- R28, R29, R32, R34, R224: WAIT and SYNC. -/
theorem waitsReturnAfterTheBarrier : Claim.WaitsReturnAfterTheBarrier := by
  refine ⟨waitsReturn, fun s h below r op n y cmp d data time hdue hphase hbody hd hport _ hactive hlive hlen hn => ?_⟩
  rw [deliverHeld_atomic hdue hphase hbody hd hport hactive hlive, loadedInt_eq hlen]

/-- R28, R118: an ARRIVED that waited is recorded. -/
theorem arrivedIsRecordedAtZero : Claim.ArrivedIsRecordedAtZero := by
  intro s h level c hpending hzero
  show execArrivedArrival h level s = _
  simp only [execArrivedArrival, hpending, hzero, if_true]
  rfl

/-- Settles O13: phases and levels, arrivals, WAIT and SYNC, and the recording of an ARRIVED. -/
theorem barrierInstructions : Obligations.BarrierInstructions :=
  ⟨phasesAndLevels, arrivalsAreRecorded, waitsReturnAfterTheBarrier, arrivedIsRecordedAtZero⟩

end Sys2Proof.Machine
end

section
/-! SUPPORT. The bytes of a saved context and what a reload reads of them (R35, R37, R53, R204, R381, R382). -/

namespace Sys2Proof.Machine

/-! ### Blocks of bytes -/

/-- The bytes before the i-th block. -/
def blockStart (bs : List (List Byte)) (i : Nat) : Nat := ((bs.take i).map List.length).sum

/-- A piece that lies inside the i-th of some blocks. -/
theorem take_drop_flatten {bs : List (List Byte)} {i : Nat} (hi : i < bs.length) {o n : Nat} (h : o + n ≤ bs[i].length) :
    (bs.flatten.drop (blockStart bs i + o)).take n = (bs[i].drop o).take n := by
  induction bs generalizing i with
  | nil => simp at hi
  | cons b bs ih =>
    cases i with
    | zero =>
      have h₀ : o + n ≤ b.length := h
      simp only [blockStart, List.take_zero, List.map_nil, List.sum_nil, Nat.zero_add, List.flatten_cons, List.getElem_cons_zero]
      rw [List.drop_append_of_le_length (by omega), List.take_append_of_le_length (by simp; omega)]
    | succ i =>
      have hstart : blockStart (b :: bs) (i + 1) + o = b.length + (blockStart bs i + o) := by simp [blockStart, Nat.add_assoc]
      rw [List.flatten_cons, hstart, List.drop_append, List.drop_of_length_le (by omega), List.nil_append,
        Nat.add_sub_cancel_left, ih (by simpa using hi) (by simpa using h)]
      rfl

/-- A number inside the i-th of some blocks. -/
theorem numAt_flatten {bs : List (List Byte)} {i : Nat} (hi : i < bs.length) {o n : Nat} (h : o + n ≤ bs[i].length) :
    numAt bs.flatten (blockStart bs i + o) n = numAt bs[i] o n := by
  rw [numAt, take_drop_flatten hi h, numAt]

/-- A word read back of the bytes written for it. -/
theorem ofNat_numAt_leBytes {w n : Nat} (hw : w = 8 * n) (v : BitVec w) : BitVec.ofNat w (numAt (leBytes n v.toNat) 0 n) = v := by
  have hv : v.toNat < 256 ^ n := by
    rw [show (256 : Nat) = 2 ^ 8 from rfl, ← Nat.pow_mul, ← hw]; exact v.isLt
  rw [numAt_leBytes _ (by omega), Nat.pow_zero, Nat.div_one, Nat.mod_eq_of_lt hv, BitVec.ofNat_toNat, BitVec.setWidth_eq]

/-- Words of equal length one after the other. -/
def wordBytes {w : Nat} (n : Nat) (vs : List (BitVec w)) : List Byte := vs.flatMap fun v => leBytes n v.toNat

theorem length_flatMap_const {α : Type} {f : α → List Byte} {k : Nat} (hf : ∀ a, (f a).length = k) (l : List α) :
    (l.flatMap f).length = k * l.length := by
  rw [List.length_flatMap, List.map_congr_left fun a _ => hf a, List.map_const', List.sum_replicate, smul_eq_mul, Nat.mul_comm]

theorem length_wordBytes {w : Nat} (n : Nat) (vs : List (BitVec w)) : (wordBytes n vs).length = n * vs.length :=
  length_flatMap_const (fun _ => length_leBytes _ _) vs

theorem ofNat_numAt_wordBytes {w n : Nat} (hw : w = 8 * n) {vs : List (BitVec w)} {i : Nat} (hi : i < vs.length) :
    BitVec.ofNat w (numAt (wordBytes n vs) (n * i) n) = vs[i] := by
  have h := numAt_flatMap (f := fun v : BitVec w => leBytes n v.toNat) (fun _ => length_leBytes _ _) hi (o := 0) (n := n) (by omega)
  rw [Nat.add_zero] at h
  rw [wordBytes, h, ofNat_numAt_leBytes hw]

/-! ### Registers under a live-in mask, and latches -/

theorem length_liveBytes {w : Nat} (regs : List (BitVec w)) (mask : Word) (lo : Nat) :
    (liveBytes regs mask lo).length = w / 8 * regs.length := by
  rw [liveBytes, length_flatMap_const (k := w / 8) (fun _ => length_leBytes _ _), List.length_zipIdx]

theorem ofNat_numAt_liveBytes {w n : Nat} (hw : w = 8 * n) {regs : List (BitVec w)} (mask : Word) (lo : Nat) {i : Nat} (hi : i < regs.length) :
    BitVec.ofNat w (numAt (liveBytes regs mask lo) (n * i) n) = if mask.getLsbD (lo + i) then regs[i] else 0 := by
  have hn : w / 8 = n := by omega
  have h := numAt_flatMap (f := fun p : BitVec w × Nat => leBytes n (if mask.getLsbD (lo + p.2) then p.1.toNat else 0))
    (fun _ => length_leBytes _ _) (l := regs.zipIdx) (i := i) (by simpa using hi) (o := 0) (n := n) (by omega)
  rw [Nat.add_zero] at h
  rw [liveBytes, hn, h, List.getElem_zipIdx, Nat.zero_add]
  cases mask.getLsbD (lo + i) with
  | true => exact ofNat_numAt_leBytes hw _
  | false =>
    simp only [Bool.false_eq_true, if_false]
    rw [numAt_leBytes _ (by omega)]; simp

@[simp] theorem Latch.length_bytes (l : Latch) : l.bytes.length = 1032 := by
  simp only [Latch.bytes, List.length_append, length_leBytes]
  rw [length_flatMap_const (k := 4) (fun _ => length_leBytes _ _)]; simp

/-- R381: a latch is read back as it was. -/
theorem Latch.ofBytes_bytes (l : Latch) : Latch.ofBytes l.bytes = l := by
  have hheader : BitVec.ofNat 64 (numAt l.bytes 0 8) = l.header := by
    rw [Latch.bytes, numAt_append_left (by simp)]
    exact ofNat_numAt_leBytes (n := 8) rfl l.header
  have hbody : (Vector.ofFn fun i : Fin 256 => BitVec.ofNat 32 (numAt l.bytes (8 + 4 * i.val) 4)) = l.body := by
    refine Vector.ext fun i hi => ?_
    rw [Vector.getElem_ofFn, Latch.bytes, numAt_leBytes_append_right _ _ _ (by omega), Nat.add_sub_cancel_left]
    exact (ofNat_numAt_wordBytes (n := 4) rfl (by simpa using hi)).trans (by simp)
  rw [Latch.ofBytes, hheader, hbody]

@[simp] theorem Tile.length_message (t : Tile) (lcore : Nat) : (t.message lcore).length = 528 := by
  simp only [Tile.message, List.length_append, length_leBytes]
  rw [length_flatMap_const (k := 8) (fun _ => length_leBytes _ _)]; simp

/-! ### The blocks of a context (R381) -/

/-- A field of the repeat context at the region entry, 0 without one. -/
def Thread.repField (t : Thread) (f : RepCtx → Nat) : Nat := (t.region.rep.map f).getD 0

/-- The words before the registers. -/
def State.contextHead (s : State) (t : Thread) : List Byte :=
  leBytes 8 (1 + flag t.ctx.swap * 2 ^ 16 + flag t.troupe.isSome * 2 ^ 17 + (match t.id with | .thread _ k => k | _ => 0) * 2 ^ 24) ++
  leBytes 8 (t.tpos + ((s.troupeOf t).map (·.width)).getD 0 * 2 ^ 8 + ((s.troupeOf t).map (·.skew)).getD 0 * 2 ^ 16 + t.lid % 65536 * 2 ^ 32) ++
  leBytes 8 t.region.entry.toNat ++ leBytes 8 t.region.mask.toNat ++ leBytes 8 t.fcsr.toNat ++
  leBytes 8 (t.repField (·.body.toNat)) ++ leBytes 8 (t.repField fun c => c.pass % 2 ^ 32 + (c.insns.length - 1) * 2 ^ 32) ++
  leBytes 8 (t.repField (·.remaining)) ++ leBytes 8 (t.repField (·.desc.toNat)) ++ leBytes 8 (injOf t.id).toNat ++ List.replicate 48 0

/-- The logical core of a thread in its launch. -/
def State.lcoreOf (s : State) (t : Thread) : Nat := match s.launchOf t, t.id.core? with | some l, some c => l.lcore c | _, _ => 0

/-- The blocks that make a context: head, x, v, f, p, e, c0, c1, b0, b1, the fill of b1, the arrival queues, and a word of zeros. -/
def State.contextBlocks (s : State) (t : Thread) : List (List Byte) :=
  [s.contextHead t, liveBytes t.x.toList (liveMask t.region.mask) 0, liveBytes t.v.toList t.region.mask 32, wordBytes 4 t.f.toList,
    t.predBytes, wordBytes 8 t.e.toList, t.region.c0.message (s.lcoreOf t), t.region.c1.message (s.lcoreOf t), t.region.b0.bytes,
    t.region.b1.bytes, leBytes 8 (if decide (t.region.fill = .full) then 2 else 0),
    t.arrivals.toList.flatMap fun q => leBytes 8 q.length ++ (List.range 4).flatMap fun i => leBytes 8 (q.getD i 0).toNat, leBytes 8 0]

theorem append_eq_flatten (a b c d e f g h i j k l m : List Byte) :
    a ++ b ++ c ++ d ++ e ++ f ++ g ++ h ++ i ++ j ++ k ++ l ++ m = [a, b, c, d, e, f, g, h, i, j, k, l, m].flatten := by simp

theorem State.contextBytes_eq (s : State) (t : Thread) : s.contextBytes t = (s.contextBlocks t).flatten :=
  append_eq_flatten (s.contextHead t) _ _ _ _ _ _ _ _ _ _ _ _

@[simp] theorem State.length_contextHead (s : State) (t : Thread) : (s.contextHead t).length = 128 := by
  simp [State.contextHead]

@[simp] theorem Thread.length_predBytes (t : Thread) : t.predBytes.length = 32 := by
  rw [Thread.predBytes, length_flatMap_const (k := 4) (fun _ => length_leBytes _ _)]; simp

theorem length_queueBytes (q : List Word) :
    (leBytes 8 q.length ++ (List.range 4).flatMap fun i => leBytes 8 (q.getD i 0).toNat).length = 40 := by
  rw [List.length_append, length_flatMap_const (k := 8) (fun _ => length_leBytes _ _)]; simp

/-- How long the blocks are. -/
theorem State.length_contextBlocks (s : State) (t : Thread) :
    (s.contextBlocks t).map List.length = [128, 256, 1024, 64, 32, 64, 528, 528, 1032, 1032, 8, 160, 8] := by
  simp only [State.contextBlocks, List.map_cons, List.map_nil, State.length_contextHead, length_liveBytes, length_wordBytes,
    Thread.length_predBytes, Tile.length_message, Latch.length_bytes, length_leBytes, Vector.length_toList,
    length_flatMap_const length_queueBytes]

/-- A piece inside the i-th block. -/
theorem State.take_drop_context (s : State) (t : Thread) {i : Nat} (hi : i < (s.contextBlocks t).length) {o n : Nat}
    (h : o + n ≤ (s.contextBlocks t)[i].length) {a : Nat}
    (ha : (([128, 256, 1024, 64, 32, 64, 528, 528, 1032, 1032, 8, 160, 8] : List Nat).take i).sum + o = a) :
    ((s.contextBytes t).drop a).take n = ((s.contextBlocks t)[i].drop o).take n := by
  rw [State.contextBytes_eq, ← take_drop_flatten hi h, blockStart, List.map_take, State.length_contextBlocks, ha]

/-- A number inside the i-th block. -/
theorem State.numAt_context (s : State) (t : Thread) {i : Nat} (hi : i < (s.contextBlocks t).length) {o n : Nat}
    (h : o + n ≤ (s.contextBlocks t)[i].length) {a : Nat}
    (ha : (([128, 256, 1024, 64, 32, 64, 528, 528, 1032, 1032, 8, 160, 8] : List Nat).take i).sum + o = a) :
    numAt (s.contextBytes t) a n = numAt (s.contextBlocks t)[i] o n :=
  congrArg ofBytes (s.take_drop_context t hi h ha)

/-- R381: 4,864 bytes. -/
theorem State.length_contextBytes (s : State) (t : Thread) : (s.contextBytes t).length = 4864 := by
  rw [State.contextBytes_eq, List.length_flatten, State.length_contextBlocks]; rfl

/-! ### What is read of each block -/

theorem append_assoc_head (a b c d e f g h i j k : List Byte) :
    a ++ b ++ c ++ d ++ e ++ f ++ g ++ h ++ i ++ j ++ k = a ++ (b ++ (c ++ (d ++ (e ++ (f ++ (g ++ (h ++ (i ++ (j ++ k))))))))) := by
  simp only [List.append_assoc]

/-- The words of the head that a reload reads. -/
theorem State.contextHead_fields (s : State) (t : Thread) : numAt (s.contextHead t) 16 8 = t.region.entry.toNat ∧
    numAt (s.contextHead t) 24 8 = t.region.mask.toNat ∧ numAt (s.contextHead t) 32 8 = t.fcsr.toNat ∧
    numAt (s.contextHead t) 40 8 = t.repField (·.body.toNat) % 2 ^ 64 ∧
    numAt (s.contextHead t) 48 8 = t.repField (fun c => c.pass % 2 ^ 32 + (c.insns.length - 1) * 2 ^ 32) % 2 ^ 64 ∧
    numAt (s.contextHead t) 56 8 = t.repField (·.remaining) % 2 ^ 64 ∧ numAt (s.contextHead t) 64 8 = t.repField (·.desc.toNat) % 2 ^ 64 := by
  have hentry := t.region.entry.isLt
  have hmask := t.region.mask.isLt
  have hfcsr := t.fcsr.isLt
  rw [State.contextHead, append_assoc_head]
  simp (disch := decide) only [numAt_leBytes_append_right, numAt_leBytes_append_left, Nat.reduceSub, Nat.pow_zero, Nat.div_one, Nat.reducePow]
  exact ⟨Nat.mod_eq_of_lt hentry, Nat.mod_eq_of_lt hmask, Nat.mod_eq_of_lt hfcsr, trivial, trivial, trivial, trivial⟩

section
variable (s : State) (t : Thread)

theorem State.numAt_context_head {o n : Nat} (h : o + n ≤ 128) : numAt (s.contextBytes t) o n = numAt (s.contextHead t) o n :=
  s.numAt_context t (i := 0) (by simp [State.contextBlocks]) (by simpa [State.contextBlocks] using h) (Nat.zero_add o)

theorem State.context_x (i : Fin 32) : BitVec.ofNat 64 (numAt (s.contextBytes t) (128 + 8 * i.val) 8) =
    if (liveMask t.region.mask).getLsbD i then t.x[i] else 0 := by
  have hi := i.isLt
  rw [s.numAt_context t (i := 1) (o := 8 * i.val) (a := 128 + 8 * i.val) (by simp [State.contextBlocks]) (by simp [State.contextBlocks, length_liveBytes]; omega) rfl]
  refine (ofNat_numAt_liveBytes (n := 8) rfl _ _ (by simp)).trans ?_
  simp

theorem State.context_v (i : Fin 32) : BitVec.ofNat 256 (numAt (s.contextBytes t) (384 + 32 * i.val) 32) =
    if t.region.mask.getLsbD (32 + i) then t.v[i] else 0 := by
  have hi := i.isLt
  rw [s.numAt_context t (i := 2) (o := 32 * i.val) (a := 384 + 32 * i.val) (by simp [State.contextBlocks]) (by simp [State.contextBlocks, length_liveBytes]; omega) rfl]
  refine (ofNat_numAt_liveBytes (n := 32) rfl _ _ (by simp)).trans ?_
  simp

theorem State.context_f (i : Fin 16) : BitVec.ofNat 32 (numAt (s.contextBytes t) (1408 + 4 * i.val) 4) = t.f[i] := by
  have hi := i.isLt
  rw [s.numAt_context t (i := 3) (o := 4 * i.val) (a := 1408 + 4 * i.val) (by simp [State.contextBlocks]) (by simp [State.contextBlocks, length_wordBytes]; omega) rfl]
  exact (ofNat_numAt_wordBytes (n := 4) rfl (by simp)).trans (by simp)

theorem State.context_p (i : Fin 8) : BitVec.ofNat 32 (numAt (s.contextBytes t) (1472 + 4 * i.val) 4) = t.pred (BitVec.ofNat 3 i) := by
  have hi := i.isLt
  rw [s.numAt_context t (i := 4) (o := 4 * i.val) (a := 1472 + 4 * i.val) (by simp [State.contextBlocks]) (by simp [State.contextBlocks]; omega) rfl]
  have h := numAt_flatMap (f := fun i => leBytes 4 (t.pred (BitVec.ofNat 3 i)).toNat) (fun _ => length_leBytes _ _) (l := List.range 8)
    (i := i.val) (by simp) (o := 0) (n := 4) (by omega)
  rw [List.getElem_range] at h
  exact (congrArg _ h).trans (ofNat_numAt_leBytes (n := 4) rfl _)

theorem State.context_e (i : Fin 8) : BitVec.ofNat 64 (numAt (s.contextBytes t) (1504 + 8 * i.val) 8) = t.e[i] := by
  have hi := i.isLt
  rw [s.numAt_context t (i := 5) (o := 8 * i.val) (a := 1504 + 8 * i.val) (by simp [State.contextBlocks]) (by simp [State.contextBlocks, length_wordBytes]; omega) rfl]
  exact (ofNat_numAt_wordBytes (n := 8) rfl (by simp)).trans (by simp)

theorem State.context_b0 : Latch.ofBytes (((s.contextBytes t).drop 2624).take 1032) = t.region.b0 := by
  rw [s.take_drop_context t (i := 8) (o := 0) (a := 2624) (by simp [State.contextBlocks]) (by simp [State.contextBlocks]) rfl, List.drop_zero,
    List.take_of_length_le (by simp [State.contextBlocks])]
  exact Latch.ofBytes_bytes _

end

/-! ### A reload (R35, R37, R204, R382) -/

/-- R49, R227: of the x registers, the live-in mask names no x0 and no port register. -/
theorem getLsbD_liveMask_x (mask : Word) (i : Fin 32) :
    (liveMask mask).getLsbD i = (mask.getLsbD i && decide (1 ≤ i.val ∧ i.val < 28)) := by
  have hbits : ∀ i : Fin 32, (~~~0xF0000001#64).getLsbD i = decide (1 ≤ i.val ∧ i.val < 28) := by decide
  rw [liveMask, BitVec.getLsbD_and, hbits]

theorem getLsbD_liveMask_v (mask : Word) (i : Fin 32) : (liveMask mask).getLsbD (32 + i) = mask.getLsbD (32 + i) := by
  have hbits : ∀ i : Fin 32, (~~~0xF0000001#64).getLsbD (32 + i) = true := by decide
  rw [liveMask, BitVec.getLsbD_and, hbits, Bool.and_true]

/-- R204: the repeat context that a context holds. -/
theorem savedRep_none (s : State) {t : Thread} (h : t.region.rep = none) (body : List (W32 × Nat)) :
    savedRep (s.contextBytes t) body = none := by
  obtain ⟨-, -, -, hstart, -⟩ := s.contextHead_fields t
  have hzero : numAt (s.contextBytes t) 40 8 = 0 := by
    rw [s.numAt_context_head t (by decide), hstart, Thread.repField, h]; rfl
  simp only [savedRep, hzero, if_true]

/-- The words of a repeat context in a save area. -/
theorem State.context_rep (s : State) {t : Thread} {c : RepCtx} (h : t.region.rep = some c) (hlen : c.insns.length ≤ 16)
    (hpass : c.pass < 2 ^ 32) (hremaining : c.remaining < 2 ^ 64) : numAt (s.contextBytes t) 40 8 = c.body.toNat ∧
    numAt (s.contextBytes t) 48 8 = c.pass + (c.insns.length - 1) * 2 ^ 32 ∧ numAt (s.contextBytes t) 56 8 = c.remaining ∧
    numAt (s.contextBytes t) 64 8 = c.desc.toNat := by
  obtain ⟨-, -, -, hstart, hpasses, hleft, hdesc⟩ := s.contextHead_fields t
  have hfield (f : RepCtx → Nat) : t.repField f = f c := by rw [Thread.repField, h]; rfl
  simp only [hfield] at hstart hpasses hleft hdesc
  have hbody := c.body.isLt
  have hdescLt := c.desc.isLt
  refine ⟨?_, ?_, ?_, ?_⟩
  · rw [s.numAt_context_head t (by decide), hstart, Nat.mod_eq_of_lt hbody]
  · rw [s.numAt_context_head t (by decide), hpasses, Nat.mod_eq_of_lt hpass]
    omega
  · rw [s.numAt_context_head t (by decide), hleft, Nat.mod_eq_of_lt hremaining]
  · rw [s.numAt_context_head t (by decide), hdesc, Nat.mod_eq_of_lt hdescLt]

theorem savedRep_some (s : State) {t : Thread} {c : RepCtx} (h : t.region.rep = some c) (hbody : c.body ≠ 0) (hlen : c.insns.length ≤ 16)
    (hpass : c.pass < 2 ^ 32) (hremaining : c.remaining < 2 ^ 64) (body : List (W32 × Nat)) :
    ∃ k, savedRep (s.contextBytes t) body = some { c with insns := body, pos := k } := by
  obtain ⟨hstart, hpasses, hleft, hdesc⟩ := s.context_rep h hlen hpass hremaining
  have hne : c.body.toNat ≠ 0 := fun h0 => hbody (BitVec.eq_of_toNat_eq h0)
  have hlow : numAt (s.contextBytes t) 48 4 = c.pass := by rw [numAt_low, hpasses]; omega
  simp only [savedRep, hstart, hne, if_false, hdesc, hlow, hleft, BitVec.ofNat_toNat, BitVec.setWidth_eq]
  exact ⟨_, rfl⟩

/-- What a reload takes from the bytes of a save area. -/
theorem Thread.reload_fields (u : Thread) (m : List Byte) (body : List (W32 × Nat)) :
    (u.reload m body).pc = BitVec.ofNat 64 (numAt m 16 8) ∧ (u.reload m body).region.entry = BitVec.ofNat 64 (numAt m 16 8) ∧
    (u.reload m body).region.mask = BitVec.ofNat 64 (numAt m 24 8) ∧ (u.reload m body).fcsr = BitVec.ofNat 64 (numAt m 32 8) &&& 0x7f ∧
    (∀ i : Fin 32, (u.reload m body).x[i] =
      if (liveMask (BitVec.ofNat 64 (numAt m 24 8))).getLsbD i then BitVec.ofNat 64 (numAt m (128 + 8 * i.val) 8) else 0) ∧
    (∀ i : Fin 32, (u.reload m body).v[i] =
      if (liveMask (BitVec.ofNat 64 (numAt m 24 8))).getLsbD (32 + i) then BitVec.ofNat 256 (numAt m (384 + 32 * i.val) 32) else 0) ∧
    (∀ i : Fin 16, (u.reload m body).f[i] = BitVec.ofNat 32 (numAt m (1408 + 4 * i.val) 4)) ∧
    (∀ i : Fin 8, (u.reload m body).p[i] = if i.val = 0 then 0 else BitVec.ofNat 32 (numAt m (1472 + 4 * i.val) 4)) ∧
    (∀ i : Fin 8, (u.reload m body).e[i] = BitVec.ofNat 64 (numAt m (1504 + 8 * i.val) 8)) ∧
    (u.reload m body).dc = Vector.replicate 4 0 ∧ (u.reload m body).b0 = Latch.ofBytes ((m.drop 2624).take 1032) ∧
    (u.reload m body).pend = [] ∧ (u.reload m body).rep = savedRep m body := by
  refine ⟨rfl, rfl, rfl, rfl, fun i => ?_, fun i => ?_, fun i => ?_, fun i => ?_, fun i => ?_, rfl, rfl, rfl, rfl⟩ <;>
    simp only [Thread.reload, Fin.getElem_fin, Vector.getElem_ofFn]

theorem vector_eq_of_fin {α : Type} {n : Nat} {v w : Vector α n} (h : ∀ i : Fin n, v[i] = w[i]) : v = w :=
  Vector.ext fun i hi => h ⟨i, hi⟩

/-- Settles O49: the context's bytes, and what a reload reads of them. -/
theorem contextsLoadBack : Obligations.ContextsLoadBack := by
  intro s t u body
  obtain ⟨hentry, hmask, hfcsr, -⟩ := s.contextHead_fields t
  rw [← s.numAt_context_head t (by decide)] at hentry hmask hfcsr
  have hword {o : Nat} {v : Word} (h : numAt (s.contextBytes t) o 8 = v.toNat) : BitVec.ofNat 64 (numAt (s.contextBytes t) o 8) = v := by
    rw [h, BitVec.ofNat_toNat, BitVec.setWidth_eq]
  obtain ⟨wpc, wentry, wmask, wfcsr, wx, wv, wf, wp, we, wdc, wb0, wpend, wrep⟩ := u.reload_fields (s.contextBytes t) body
  have hp0 := s.context_p t 0
  refine ⟨s.length_contextBytes t, wpc.trans (hword hentry), wentry.trans (hword hentry), wmask.trans (hword hmask),
    wfcsr.trans (by rw [hword hfcsr]), fun i => ?_, fun i => ?_, ?_, fun i hi => ?_, rfl, ?_, wdc, wb0.trans (s.context_b0 t), wpend, ?_,
    fun hrep => wrep.trans (savedRep_none s hrep body), fun c hrep hbody hinsns hlen hpass hremaining => ⟨?_, ?_⟩⟩
  · rw [wx, hword hmask, s.context_x t i, getLsbD_liveMask_x]
    simp only [Bool.and_eq_true, decide_eq_true_eq]
    grind
  · rw [wv, hword hmask, s.context_v t i, getLsbD_liveMask_v]
    exact ite_eq_left_iff.mpr fun h => (if_neg h).symm
  · exact vector_eq_of_fin fun i => (wf i).trans (s.context_f t i)
  · have hne : BitVec.ofNat 3 i ≠ 0 := fun h0 => hi (by simpa using congrArg BitVec.toNat h0)
    rw [wp, if_neg hi, s.context_p t i, Thread.pred, if_neg hne]
    simp
  · exact vector_eq_of_fin fun i => (we i).trans (s.context_e t i)
  · have hall : BitVec.ofNat 32 (numAt (s.contextBytes t) 1472 4) = BitVec.allOnes 32 := hp0
    have hlt := numAt_lt (s.contextBytes t) 1472 4
    have hnat := congrArg BitVec.toNat hall
    rwa [BitVec.toNat_ofNat, Nat.mod_eq_of_lt (by omega), BitVec.toNat_allOnes] at hnat
  · obtain ⟨-, hpasses, -, -⟩ := s.context_rep hrep hlen hpass hremaining
    have hpos : c.insns.length ≠ 0 := fun h0 => hinsns (List.length_eq_zero_iff.mp h0)
    rw [hpasses, fieldN]
    omega
  · obtain ⟨k, hk⟩ := savedRep_some s hrep hbody hlen hpass hremaining body
    exact ⟨k, wrep.trans hk⟩

end Sys2Proof.Machine
end

section
/-! SUPPORT. A completion record that crosses the end of a page (R365). -/

namespace Sys2Proof.Machine

open Sys2Proof.Claim

/-- A launch of no tasks whose completion record begins 16 bytes before the end of a page, in an address space that has this page
alone. -/
def emptyAtPageEnd : Launch :=
  { placedLaunch with info := { placedRec with tasks := 0, crec := 0x010000000000FFF0 }, stage := .queued, fcode := 5 }

/-- The launch is ready, and the record's first page is in the TLB of the queue's station: a page of SRAM that may be written. -/
def pageEnd : State :=
  { State.reset with
    launches := [emptyAtPageEnd]
    mc := { ModuleRegs.fresh with sroot := ModuleRegs.fresh.sroot.set 0 (0x400000100000, true) }
    tlb := [(.die 0 0, ⟨0, 0, 1, 0x40000000000D⟩)] }

/-- The record's first byte may be written. -/
theorem pageEnd_recordAt : RecordAt pageEnd 0 0x010000000000FFF0 0x40000000FFF0 := by
  have hhit : pageEnd.xlat (queueReq 0) 0x010000000000FFF0 .write = .hit 0x40000000FFF0 := by decide +kernel
  refine ⟨?_, by decide, by decide⟩
  simp only [State.queueKey, State.xlatNow, hhit]
  rfl

/-- No channel is charged. -/
theorem pageEnd_paid : State.payAll 0 (pageEnd.queueCharges 0 0x010000000000FFF0 32) pageEnd = some pageEnd := by
  have hcharges : pageEnd.queueCharges 0 0x010000000000FFF0 32 = [] := by decide +kernel
  rw [hcharges]; rfl

/-- The second page has no leaf, and no byte is written. -/
theorem pageEnd_byte : ∀ u, exec (.doneEmpty 1) pageEnd = .next u → Memory.read u.mem 0x400000010008 = 0 := by
  rintro u ⟨⟩; decide +kernel

theorem pageEnd_expected : Memory.read (pageEnd.pokeBytes 0x40000000FFF0 (recordOf emptyAtPageEnd 1 pageEnd.clk)).mem 0x400000010008 = 5 := by
  decide +kernel

/-- Refutes O46: a record is written only where every page that it meets may be written, and the statement asks for its first byte
alone. -/
theorem not_launchesComplete : ¬ Obligations.LaunchesComplete := by
  rintro ⟨hempty, -⟩
  obtain ⟨-, hdone⟩ := hempty pageEnd 1 emptyAtPageEnd 0x40000000FFF0 rfl rfl rfl (by decide +kernel) (by decide +kernel)
  obtain ⟨u, hu, hmem, -⟩ := hdone pageEnd pageEnd_paid pageEnd_recordAt
  have hbyte := pageEnd_byte u hu
  rw [hmem, pageEnd_expected] at hbyte
  exact absurd hbyte (by decide)

end Sys2Proof.Machine
end

section
/-! SUPPORT. Placement of launches (R358, R359). -/

namespace Sys2Proof.Machine

open Sys2Proof.Claim

/-! ### The head of the ready launches (R358) -/

/-- The better of a launch held so far and another. -/
def State.better (s : State) (acc : Option Launch) (l : Launch) : Option Launch :=
  match acc with | some a => if s.before l a then some l else some a | none => some l

/-- R358: a launch that is not considered before another has no higher priority. -/
theorem State.priority_le_of_before_eq_false {s : State} {a b : Launch} (h : s.before a b = false) : s.priority a ≤ s.priority b := by
  simp only [State.before, Bool.or_eq_false_iff, decide_eq_false_iff_not] at h
  exact Nat.not_lt.mp h.1

theorem State.priority_le_of_before {s : State} {a b : Launch} (h : s.before a b = true) : s.priority b ≤ s.priority a := by
  simp only [State.before, Bool.or_eq_true, Bool.and_eq_true, decide_eq_true_eq] at h
  omega

/-- What the fold over the ready launches finds is one of them, or what it began with, and no launch has a higher priority. -/
theorem State.foldl_better {s : State} {ls : List Launch} : ∀ {acc : Option Launch} {l : Launch}, ls.foldl s.better acc = some l →
    (l ∈ ls ∨ acc = some l) ∧ (∀ q ∈ ls, s.priority q ≤ s.priority l) ∧ ∀ a, acc = some a → s.priority a ≤ s.priority l := by
  induction ls with
  | nil => rintro acc l rfl; exact ⟨.inr rfl, by simp, fun a ha => by cases ha; exact le_rfl⟩
  | cons q ls ih =>
    intro acc l h
    obtain ⟨hmem, hbest, hacc⟩ := ih h
    cases acc with
    | none =>
      refine ⟨.inl ?_, List.forall_mem_cons.mpr ⟨hacc q rfl, hbest⟩, fun a ha => by cases ha⟩
      exact hmem.elim (List.mem_cons_of_mem _) fun hq => by cases hq; exact List.mem_cons_self
    | some a =>
      cases hbefore : s.before q a with
      | true =>
        have hstep : s.better (some a) q = some q := if_pos hbefore
        rw [hstep] at hmem hacc
        refine ⟨.inl (hmem.elim (List.mem_cons_of_mem _) fun hq => by cases hq; exact List.mem_cons_self),
          List.forall_mem_cons.mpr ⟨hacc q rfl, hbest⟩, fun a' ha => ?_⟩
        cases ha
        exact (State.priority_le_of_before hbefore).trans (hacc q rfl)
      | false =>
        have hstep : s.better (some a) q = some a := if_neg (by simp [hbefore])
        rw [hstep] at hmem hacc
        refine ⟨hmem.imp_left (List.mem_cons_of_mem _), List.forall_mem_cons.mpr ⟨?_, hbest⟩, hacc⟩
        exact (State.priority_le_of_before_eq_false hbefore).trans (hacc a rfl)

/-- R358: the head is a ready launch of highest priority. -/
theorem State.headLaunch_spec {s : State} {l : Launch} (h : s.headLaunch = some l) :
    l ∈ s.launches ∧ l.stage = .queued ∧ l.info.tasks ≠ 0 ∧ s.isReady l.info = true ∧
    ∀ q ∈ s.launches, q.stage = .queued → q.info.tasks ≠ 0 → s.isReady q.info = true → s.priority q ≤ s.priority l := by
  obtain ⟨hmem, hbest, -⟩ := State.foldl_better (s := s) (acc := none) h
  have hl := hmem.resolve_right (by simp)
  simp only [List.mem_filter, Bool.and_eq_true, decide_eq_true_eq] at hl hbest
  obtain ⟨hin, ⟨hq, ht⟩, hr⟩ := hl
  exact ⟨hin, hq, ht, hr, fun q hq hqueued htasks hready => hbest q ⟨hq, ⟨hqueued, htasks⟩, hready⟩⟩

/-! ### The scan for a position (R359) -/

/-- R359: the positions of a launch, row by row. -/
def positions (r : LaunchRec) : List (Nat × Nat) := (List.range (81 - r.dh)).flatMap fun i => (List.range (129 - r.dw)).map fun j => (i, j)

theorem mem_positions {r : LaunchRec} {p : Nat × Nat} : p ∈ positions r ↔ p.1 + r.dh ≤ 80 ∧ p.2 + r.dw ≤ 128 := by
  obtain ⟨i, j⟩ := p
  simp only [positions, List.mem_flatMap, List.mem_range, List.mem_map, Prod.mk.injEq]
  constructor
  · rintro ⟨i, hi, j, hj, rfl, rfl⟩; omega
  · rintro ⟨hi, hj⟩; exact ⟨i, by omega, j, by omega, rfl, rfl⟩

/-- The order of the scan. -/
def scanBefore (p q : Nat × Nat) : Prop := p.1 < q.1 ∨ (p.1 = q.1 ∧ p.2 < q.2)

theorem positions_pairwise (r : LaunchRec) : (positions r).Pairwise scanBefore := by
  rw [positions, List.pairwise_flatMap]
  refine ⟨fun i _ => ?_, ?_⟩
  · rw [List.pairwise_map]
    exact List.pairwise_lt_range.imp fun h => .inr ⟨rfl, h⟩
  · refine List.pairwise_lt_range.imp fun {i j} h p hp q hq => .inl ?_
    obtain ⟨_, -, rfl⟩ := List.mem_map.mp hp
    obtain ⟨_, -, rfl⟩ := List.mem_map.mp hq
    exact h

theorem State.findPlace_eq_none {s : State} {r : LaunchRec} : ∀ {ps : List (Nat × Nat)}, (∀ p ∈ ps, s.fitsAt r p.1 p.2 = none) →
    s.findPlace r ps = none
  | [], _ => rfl
  | (cr, cc) :: ps, h => by
    rw [State.findPlace, h (cr, cc) List.mem_cons_self]
    exact State.findPlace_eq_none fun p hp => h p (List.mem_cons_of_mem _ hp)

/-- R359: the scan ends at the first position where the launch fits. -/
theorem State.findPlace_eq_some {s : State} {r : LaunchRec} {p : Nat × Nat} {o : Nat} {pads : List (Nat × Nat)} {sets : List (CoreId × List Nat)}
    (hfit : s.fitsAt r p.1 p.2 = some (o, pads, sets)) : ∀ {ps : List (Nat × Nat)}, ps.Pairwise scanBefore → p ∈ ps →
    (∀ q ∈ ps, scanBefore q p → s.fitsAt r q.1 q.2 = none) → s.findPlace r ps = some (p.1, p.2, o, pads, sets)
  | [], _, hp, _ => by cases hp
  | (cr, cc) :: ps, hsorted, hp, hnone => by
    obtain ⟨hfirst, hrest⟩ := List.pairwise_cons.mp hsorted
    rcases List.mem_cons.mp hp with rfl | hp
    · rw [State.findPlace, hfit]
    · rw [State.findPlace, hnone (cr, cc) List.mem_cons_self (hfirst p hp)]
      exact State.findPlace_eq_some hfit hrest hp fun q hq => hnone q (List.mem_cons_of_mem _ hq)

theorem exec_launchPlacement {s : State} {l : Launch} (hl : s.headLaunch = some l) : exec .launchPlacement s = .next
    (if !s.streamsFree l.info then s
      else match s.findPlace l.info (positions l.info) with
        | some (cr, cc, o, pads, sets) =>
          s.mapLaunch l.info.lid fun l => { l with stage := .placed, crow := cr, ccol := cc, tcmOff := o, spOffs := pads, sets }
        | none => s) := by
  show execLaunchPlacement s = _
  simp only [execLaunchPlacement, hl]
  rfl

/-- R359: a stream range that meets a placed launch's is not free. -/
theorem State.streamsFree_eq_false {s : State} {r : LaunchRec} (h : ∃ q ∈ s.placed, q.info.nmcount ≠ 0 ∧ r.nmcount ≠ 0 ∧
    q.info.nmbase < r.nmbase + r.nmcount ∧ r.nmbase < q.info.nmbase + q.info.nmcount) : s.streamsFree r = false := by
  obtain ⟨q, hq, hqn, hrn, hlo, hhi⟩ := h
  rw [State.streamsFree, List.all_eq_false]
  exact ⟨q, hq, by simp [hqn, hrn]; omega⟩

/-! ### Where a launch fits (R359) -/

/-- A condition on the multiples of a step that leave room below a bound, as a search through them sees it. -/
theorem find?_multiples {p : Nat → Bool} {step n bound : Nat} (hstep : 0 < step) (hn : n ≤ bound) :
    (∀ o, (List.range ((bound - n) / step + 1)).find? (fun i => p (step * i)) = some o →
      (step * o % step = 0 ∧ step * o + n ≤ bound ∧ p (step * o) = true) ∧
      ∀ q < step * o, ¬(q % step = 0 ∧ q + n ≤ bound ∧ p q = true)) ∧
    (((List.range ((bound - n) / step + 1)).find? fun i => p (step * i)).isSome = true ↔ ∃ q, q % step = 0 ∧ q + n ≤ bound ∧ p q = true) := by
  have hroom (i : Nat) : i < (bound - n) / step + 1 ↔ step * i + n ≤ bound := by
    rw [Nat.lt_succ_iff, Nat.le_div_iff_mul_le hstep, Nat.mul_comm]; omega
  refine ⟨fun o ho => ⟨⟨Nat.mul_mod_right _ _, ?_, by simpa using List.find?_some ho⟩, fun q hq ⟨hmult, hfits, hp⟩ => ?_⟩, ?_⟩
  · exact (hroom o).mp (List.mem_range.mp (List.mem_of_find?_eq_some ho))
  · obtain ⟨i, rfl⟩ := Nat.dvd_of_mod_eq_zero hmult
    have hi : i < o := Nat.lt_of_mul_lt_mul_left hq
    have hfalse := eq_false_of_lt_of_find? List.pairwise_lt_range ho (List.mem_range.mpr ((hroom i).mpr hfits)) hi
    exact absurd (hp.symm.trans hfalse) (by decide)
  · rw [List.find?_isSome]
    constructor
    · rintro ⟨i, hi, hp⟩
      exact ⟨step * i, Nat.mul_mod_right _ _, (hroom i).mp (List.mem_range.mp hi), hp⟩
    · rintro ⟨q, hmult, hfits, hp⟩
      obtain ⟨i, rfl⟩ := Nat.dvd_of_mod_eq_zero hmult
      exact ⟨i, List.mem_range.mpr ((hroom i).mpr hfits), hp⟩

theorem rangeFree_iff (o n : Nat) (held : List (Nat × Nat)) : rangeFree o n held = true ↔ Beside o n held := by
  simp [rangeFree, Beside]

/-- The search for a common TCM offset. -/
def State.tcmSearch (s : State) (r : LaunchRec) (cr cc : Nat) : Option Nat :=
  (List.range ((393216 - r.tc * r.tcml * 256) / 256 + 1)).find? fun o =>
    rangeFree (256 * o) (r.tc * r.tcml * 256) ((rectCores cr cc r.dh r.dw).flatMap s.tcmHeld).dedup

/-- The search for an offset in a cluster's scratchpad. -/
def State.padSearch (s : State) (r : LaunchRec) (k : Nat) : Option Nat :=
  (List.range ((1048576 - r.spb) / 4096 + 1)).find? fun o => rangeFree (4096 * o) r.spb (s.padHeld k)

theorem tcmAt_iff (s : State) (r : LaunchRec) (cr cc o : Nat) : TcmAt s r cr cc o ↔ o % 256 = 0 ∧ o + r.tc * r.tcml * 256 ≤ 393216 ∧
    rangeFree o (r.tc * r.tcml * 256) ((rectCores cr cc r.dh r.dw).flatMap s.tcmHeld).dedup = true := by
  rw [rangeFree_iff]
  simp only [TcmAt, Beside, List.mem_dedup, List.mem_flatMap]
  constructor
  · rintro ⟨h, hfits, hfree⟩
    exact ⟨h, hfits, fun e ⟨c, hc, he⟩ => hfree c hc e he⟩
  · rintro ⟨h, hfits, hfree⟩
    exact ⟨h, hfits, fun c hc e he => hfree e ⟨c, hc, he⟩⟩

theorem padAt_iff (s : State) (r : LaunchRec) (k o : Nat) :
    PadAt s r k o ↔ o % 4096 = 0 ∧ o + r.spb ≤ 1048576 ∧ rangeFree o r.spb (s.padHeld k) = true := by
  rw [rangeFree_iff]

/-- R359: the barrier slots that a launch takes, counted as the statement counts them. -/
theorem slotsAt_eq (r : LaunchRec) (cr cc : Nat) (block : Nat × Nat) : slotsAt r cr cc block = reservedAt r cr cc block := by
  have hflag : flag (decide (r.fbid ≠ 0)) = if r.fbid = 0 then 0 else 1 := by by_cases h : r.fbid = 0 <;> simp [h, flag]
  simp only [slotsAt, reservedAt, blockOf, List.isEmpty_iff, List.card_toFinset, hflag]
  rfl

/-- R359: thread sets, matrix units and barrier slots, as the model tests them. -/
def State.roomAt (s : State) (r : LaunchRec) (cr cc : Nat) : Bool :=
  ((rectCores cr cc r.dh r.dw).all fun c => decide (r.tc ≤ ((List.range 4).filter fun k => s.setFree c k).length)) &&
  decide (r.acc = 0 ∨ s.placed.all fun l => decide (l.info.acc = 0) || (rectCores cr cc r.dh r.dw).all fun c => (lookup? c l.sets).isNone) &&
  s.barrierSlots r cr cc

theorem State.roomAt_iff (s : State) (r : LaunchRec) (cr cc : Nat) : s.roomAt r cr cc = true ↔ RoomAt s r cr cc := by
  simp only [State.roomAt, State.barrierSlots, RoomAt, blockOf, Bool.and_eq_true, List.all_eq_true, decide_eq_true_eq, List.mem_dedup, List.mem_map,
    Bool.or_eq_true, Option.isNone_iff_eq_none, forall_exists_index, and_imp, forall_apply_eq_imp_iff₂, slotsAt_eq, or_iff_not_imp_left, and_assoc]

/-- A scratchpad offset for every cluster. -/
def State.padsAt (s : State) (r : LaunchRec) (cr cc : Nat) : List (Option (Nat × Nat)) :=
  (rectClusters cr cc r.dh r.dw).map fun k => (s.padSearch r k).map fun o => (k, 4096 * o)

/-- R359: the lowest free thread sets of each core. -/
def State.setsAt (s : State) (r : LaunchRec) (cr cc : Nat) : List (CoreId × List Nat) :=
  (rectCores cr cc r.dh r.dw).map fun c => (c, ((List.range 4).filter fun k => s.setFree c k).take r.tc)

/-- R359: what the test of a position answers. -/
theorem State.fitsAt_eq (s : State) (r : LaunchRec) (cr cc : Nat) : s.fitsAt r cr cc = (s.tcmSearch r cr cc).bind fun o =>
    if s.roomAt r cr cc && (s.padsAt r cr cc).all Option.isSome then
      some (256 * o, (s.padsAt r cr cc).filterMap id, s.setsAt r cr cc) else none := by
  have hcond (a b c d : Bool) : (a && b && c && d) = ((a && c && d) && b) := by cases b <;> simp
  have h : s.fitsAt r cr cc = match s.tcmSearch r cr cc with
    | some o => if ((rectCores cr cc r.dh r.dw).all fun c => decide (r.tc ≤ ((List.range 4).filter fun k => s.setFree c k).length)) &&
        (s.padsAt r cr cc).all Option.isSome && decide (r.acc = 0 ∨ s.placed.all fun l => decide (l.info.acc = 0) ||
          (rectCores cr cc r.dh r.dw).all fun c => (lookup? c l.sets).isNone) && s.barrierSlots r cr cc then
        some (256 * o, (s.padsAt r cr cc).filterMap id, s.setsAt r cr cc) else none
    | none => none := rfl
  rw [h, hcond]
  cases s.tcmSearch r cr cc <;> rfl

/-- R359: where a launch fits. -/
theorem State.fitsAt_isSome {s : State} {r : LaunchRec} (cr cc : Nat) (htcm : r.tc * r.tcml * 256 ≤ 393216) (hspb : r.spb ≤ 1048576) :
    (s.fitsAt r cr cc).isSome = true ↔ RoomAt s r cr cc ∧ (∃ o, TcmAt s r cr cc o) ∧ ∀ k ∈ rectClusters cr cc r.dh r.dw, ∃ o, PadAt s r k o := by
  have hpads : (s.padsAt r cr cc).all Option.isSome = true ↔ ∀ k ∈ rectClusters cr cc r.dh r.dw, ∃ o, PadAt s r k o := by
    simp only [State.padsAt, List.all_eq_true, List.forall_mem_map, Option.isSome_map, padAt_iff]
    exact forall₂_congr fun k _ => (find?_multiples (p := fun o => rangeFree o r.spb (s.padHeld k)) (by decide) hspb).2
  have hoff : (s.tcmSearch r cr cc).isSome = true ↔ ∃ o, TcmAt s r cr cc o := by
    simp only [tcmAt_iff]
    exact (find?_multiples (p := fun o => rangeFree o _ _) (by decide) htcm).2
  rw [← hpads, ← hoff, ← State.roomAt_iff, State.fitsAt_eq]
  cases s.tcmSearch r cr cc <;> cases s.roomAt r cr cc <;> cases (s.padsAt r cr cc).all Option.isSome <;> simp

/-- Answers for every element of a list stand in the list's order. -/
theorem map_fst_filterMap_of_isSome {α β : Type} {f : α → Option β} : ∀ {ks : List α},
    ((ks.map fun k => (f k).map fun b => (k, b)).all Option.isSome) = true →
    ((ks.map fun k => (f k).map fun b => (k, b)).filterMap id).map (·.1) = ks
  | [], _ => rfl
  | k :: ks, h => by
    obtain ⟨hk, hks⟩ := Bool.and_eq_true_iff.mp h
    obtain ⟨b, hb⟩ := Option.isSome_iff_exists.mp (by simpa using hk)
    rw [List.map_cons, hb, Option.map_some, List.filterMap_cons_some (f := id) (b := (k, b)) rfl, List.map_cons, map_fst_filterMap_of_isSome hks]

theorem State.padsAt_eq (s : State) (r : LaunchRec) (cr cc : Nat) : s.padsAt r cr cc =
    (rectClusters cr cc r.dh r.dw).map fun k => ((s.padSearch r k).map (4096 * ·)).map fun b => (k, b) := by
  simp only [State.padsAt, Option.map_map]; rfl

/-- R359: a launch takes the lowest offsets and thread sets. -/
theorem State.fitsAt_lowest {s : State} {r : LaunchRec} {cr cc o : Nat} {pads : List (Nat × Nat)} {sets : List (CoreId × List Nat)}
    (htcm : r.tc * r.tcml * 256 ≤ 393216) (hspb : r.spb ≤ 1048576) (hfit : s.fitsAt r cr cc = some (o, pads, sets)) :
    (TcmAt s r cr cc o ∧ ∀ q < o, ¬ TcmAt s r cr cc q) ∧
    (pads.map (·.1) = rectClusters cr cc r.dh r.dw ∧ ∀ e ∈ pads, PadAt s r e.1 e.2 ∧ ∀ q < e.2, ¬ PadAt s r e.1 q) ∧
    sets = s.setsAt r cr cc := by
  rw [State.fitsAt_eq, Option.bind_eq_some_iff] at hfit
  obtain ⟨i, hi, hfit⟩ := hfit
  obtain ⟨hroom, hfit⟩ := Option.ite_none_right_eq_some.mp hfit
  obtain ⟨-, hall⟩ := Bool.and_eq_true_iff.mp hroom
  cases hfit
  simp only [tcmAt_iff, padAt_iff]
  refine ⟨(find?_multiples (p := fun o => rangeFree o _ _) (by decide) htcm).1 i hi, ⟨?_, fun e he => ?_⟩, trivial⟩
  · rw [State.padsAt_eq] at hall ⊢
    exact map_fst_filterMap_of_isSome hall
  · obtain ⟨k, -, hk⟩ : ∃ k ∈ rectClusters cr cc r.dh r.dw, (s.padSearch r k).map (fun o => (k, 4096 * o)) = some e := by
      simpa [State.padsAt] using he
    obtain ⟨j, hj, rfl⟩ := Option.map_eq_some_iff.mp hk
    exact (find?_multiples (p := fun o => rangeFree o r.spb (s.padHeld k)) (by decide) hspb).1 j hj

/-- R358, R359: launches are placed. -/
theorem launchesArePlaced : Claim.LaunchesArePlaced := by
  refine ⟨fun s l cr cc o pads sets hl hfree hrow hcol hfit hnone => ?_, fun s l hl hnone => ?_, fun s l => State.headLaunch_spec,
    fun s l hl hmeets => ?_, fun s r cr cc htcm hspb => ⟨State.fitsAt_isSome cr cc htcm hspb, fun o pads sets => State.fitsAt_lowest htcm hspb⟩⟩
  · have hplace := State.findPlace_eq_some (p := (cr, cc)) hfit (positions_pairwise l.info) (mem_positions.mpr ⟨hrow, hcol⟩)
      fun q hq hbefore => hnone q.1 q.2 (mem_positions.mp hq).1 (mem_positions.mp hq).2 hbefore
    rw [exec_launchPlacement hl, hfree, hplace]; rfl
  · rw [exec_launchPlacement hl, State.findPlace_eq_none fun p hp => hnone p.1 p.2 (mem_positions.mp hp).1 (mem_positions.mp hp).2]
    exact congrArg _ (ite_self s)
  · rw [exec_launchPlacement hl, State.streamsFree_eq_false hmeets]; rfl

end Sys2Proof.Machine
end

section
/-! SUPPORT. Releases of launches (R13 to R15, R360). -/

namespace Sys2Proof.Machine

open Sys2Proof.Claim

/-! ### Reservations (R15) -/

/-- A byte of a cleared range reads zero, another as before. -/
theorem Memory.read_clear_from (a n x : Nat) : ∀ {lo : Nat} (m : List Host.Cell), Memory.wfFrom lo m = true →
    Memory.read (Memory.clear m a n) x = if a ≤ x ∧ x < a + n then unlisted else Memory.read m x
  | _, [], _ => by simp [Memory.clear, Memory.read]
  | lo, (k, b) :: r, w => by
    have ih := Memory.read_clear_from a n x r (by simp only [Memory.wfFrom, Bool.and_eq_true] at w; exact w.2)
    simp only [Memory.wfFrom, Bool.and_eq_true, decide_eq_true_eq] at w
    obtain ⟨⟨hlo, hb⟩, hr⟩ := w
    have hbelow : x < k → Memory.read r x = unlisted := fun hx => Memory.read_below r hr (by omega)
    unfold Memory.clear at ih ⊢
    by_cases hdrop : a ≤ k ∧ k < a + n
    · rw [List.filter_cons_of_neg (by simpa using hdrop), ih, Memory.read]
      grind
    · rw [List.filter_cons_of_pos (by simp; omega), Memory.read, Memory.read, ih]
      grind

theorem Memory.read_clear {m : List Host.Cell} (w : Memory.wf m = true) (a n x : Nat) :
    Memory.read (Memory.clear m a n) x = if a ≤ x ∧ x < a + n then 0 else Memory.read m x :=
  Memory.read_clear_from a n x m w

/-- R15: what one holder's part of a range becomes. -/
def State.wipeHeld (key n slot : Nat) (s : State) (e : Nat × Nat × Nat) : State :=
  let lo := max e.1 key
  let hi := min (e.1 + e.2.1) (key + n)
  if e.2.2 ≠ slot ∧ lo < hi then s.wipe lo (hi - lo) else s

theorem State.takeRange_eq (s : State) (key n slot : Nat) : s.takeRange key n slot =
    { s.holders.foldl (State.wipeHeld key n slot) s with holders := (key, n, slot) :: trimHolders key n s.holders } := rfl

/-- R15: a byte of the range that a holder of another slot has. -/
def Foreign (key n slot k : Nat) (e : Nat × Nat × Nat) : Prop := key ≤ k ∧ k < key + n ∧ e.2.2 ≠ slot ∧ e.1 ≤ k ∧ k < e.1 + e.2.1

theorem State.wipeHeld_read {s : State} (w : Memory.wf s.mem = true) (key n slot : Nat) (e : Nat × Nat × Nat) (k : Nat) :
    Memory.wf (State.wipeHeld key n slot s e).mem = true ∧
    (Foreign key n slot k e → Memory.read (State.wipeHeld key n slot s e).mem k = 0) ∧
    (¬ Foreign key n slot k e → Memory.read (State.wipeHeld key n slot s e).mem k = Memory.read s.mem k) := by
  unfold State.wipeHeld Foreign
  dsimp only
  split
  · next h =>
    refine ⟨Memory.wf_clear w _ _, fun hin => ?_, fun hout => ?_⟩
    · exact (Memory.read_clear w _ _ k).trans (if_pos (by omega))
    · exact (Memory.read_clear w _ _ k).trans (if_neg (by omega))
  · next h => exact ⟨w, fun hin => by omega, fun _ => rfl⟩

theorem State.foldl_wipeHeld_read (key n slot k : Nat) (es : List (Nat × Nat × Nat)) : ∀ {s : State}, Memory.wf s.mem = true →
    ((∃ e ∈ es, Foreign key n slot k e) ∨ Memory.read s.mem k = 0 → Memory.read (es.foldl (State.wipeHeld key n slot) s).mem k = 0) ∧
    ((∀ e ∈ es, ¬ Foreign key n slot k e) → Memory.read (es.foldl (State.wipeHeld key n slot) s).mem k = Memory.read s.mem k) := by
  induction es with
  | nil => exact fun _ => ⟨fun h => h.resolve_left (by simp), fun _ => rfl⟩
  | cons e es ih =>
    intro s w
    obtain ⟨hw, hzero, hkeep⟩ := State.wipeHeld_read w key n slot e k
    obtain ⟨hall, hnone⟩ := ih hw
    refine ⟨fun h => hall ?_, fun h => ?_⟩
    · by_cases he : Foreign key n slot k e
      · exact .inr (hzero he)
      · rcases h with ⟨e', he', hf⟩ | h0
        · rcases List.mem_cons.mp he' with rfl | he'
          · exact absurd hf he
          · exact .inl ⟨e', he', hf⟩
        · exact .inr ((hkeep he).trans h0)
    · obtain ⟨he, hes⟩ := List.forall_mem_cons.mp h
      exact (hnone hes).trans (hkeep he)

/-- R15, R360: a reservation passes to a slot. -/
theorem takeRange_reads (s : State) (key n slot : Nat) (w : Memory.wf s.mem = true) :
    (∀ k, key ≤ k → k < key + n → (∃ e ∈ s.holders, e.2.2 ≠ slot ∧ e.1 ≤ k ∧ k < e.1 + e.2.1) → Memory.read (s.takeRange key n slot).mem k = 0) ∧
    (∀ k, ¬ (key ≤ k ∧ k < key + n ∧ ∃ e ∈ s.holders, e.2.2 ≠ slot ∧ e.1 ≤ k ∧ k < e.1 + e.2.1) →
      Memory.read (s.takeRange key n slot).mem k = Memory.read s.mem k) ∧
    (s.takeRange key n slot).holders.head? = some (key, n, slot) := by
  refine ⟨fun k hlo hhi ⟨e, he, hf⟩ => ?_, fun k hout => ?_, rfl⟩
  · exact (State.foldl_wipeHeld_read key n slot k s.holders w).1 (.inl ⟨e, he, hlo, hhi, hf⟩)
  · exact (State.foldl_wipeHeld_read key n slot k s.holders w).2 fun e he ⟨hlo, hhi, hf⟩ => hout ⟨hlo, hhi, e, he, hf⟩

/-! ### What every release keeps (R360) -/

/-- The network, and each launch's stage and start. -/
def SameLaunches (s u : State) : Prop :=
  u.net = s.net ∧ ∀ k, (u.launch? k).map (fun l => (l.stage, l.tstart)) = (s.launch? k).map fun l => (l.stage, l.tstart)

theorem SameLaunches.refl (s : State) : SameLaunches s s := ⟨rfl, fun _ => rfl⟩

theorem SameLaunches.trans {s u v : State} (h : SameLaunches s u) (h' : SameLaunches u v) : SameLaunches s v :=
  ⟨h'.1.trans h.1, fun k => (h'.2 k).trans (h.2 k)⟩

theorem SameLaunches.of_eq {s u : State} (hnet : u.net = s.net) (hlaunches : u.launches = s.launches) : SameLaunches s u :=
  ⟨hnet, fun k => by rw [State.launch?_congr hlaunches]⟩

theorem SameLaunches.mapLaunch (s : State) (lid : Nat) {f : Launch → Launch} (hinfo : ∀ l, (f l).info = l.info)
    (hstage : ∀ l, ((f l).stage, (f l).tstart) = (l.stage, l.tstart)) : SameLaunches s (s.mapLaunch lid f) := by
  refine ⟨rfl, fun k => ?_⟩
  rw [State.launch?_mapLaunch s lid k hinfo]
  cases s.launch? k with
  | none => rfl
  | some l => rw [Option.map_some, Option.map_some, Option.map_some]; split <;> simp [hstage]

theorem SameLaunches.foldl {α : Type} {f : State → α → State} (hf : ∀ s a, SameLaunches s (f s a)) :
    ∀ (as : List α) (s : State), SameLaunches s (as.foldl f s)
  | [], s => .refl s
  | a :: as, s => (hf s a).trans (SameLaunches.foldl hf as _)

theorem State.returnSaved_same (s : State) (h : HartId) : SameLaunches s (s.returnSaved h) := by
  unfold State.returnSaved
  split
  · exact .refl s
  · split
    · exact .of_eq (State.mapHart_net _ _ _) (State.mapHart_launches _ _ _)
    · exact .refl s

theorem State.exitHart_same (s : State) (h : HartId) : SameLaunches s (s.exitHart h) :=
  SameLaunches.trans (.of_eq (State.mapHart_net s h _) (State.mapHart_launches s h _)) (State.returnSaved_same _ h)

theorem State.takeTask_same (s : State) (l : Launch) (t : Thread) (first : Bool) : SameLaunches s (s.takeTask l t first).2 := by
  unfold State.takeTask
  split
  · exact .refl s
  · exact .mapLaunch s _ (fun _ => rfl) fun _ => rfl

theorem State.nextTask_same (s : State) (h : HartId) (first : Bool) : SameLaunches s (s.nextTask h first) := by
  unfold State.nextTask
  dsimp only
  split
  · exact State.exitHart_same s h
  · next l _ =>
    have htake := s.takeTask_same l (s.hart h) first
    split
    · next i s' hs => rw [hs] at htake; exact htake.trans (.of_eq (State.mapHart_net s' h _) (State.mapHart_launches s' h _))
    · next s' hs => rw [hs] at htake; exact htake.trans (State.exitHart_same s' h)

/-- R360: the thread set, its argument block written, before it takes its first task. -/
def State.armed (l : Launch) (s : State) (id : HartId) (h : Nat) : State :=
  let s := s.setApart id
  let s := s.mapHart id fun _ => { Thread.fresh id with
    lid := l.info.lid, h, space := l.info.slot, state := .running, ctx := { (s.hart id).ctx with scode := 0, swap := false, asker := none, asked := false } }
  match id.core? with
  | some c => s.pokeBytes (tcmKey c (l.tcmOff + h * l.tcmlBytes)) l.argBytes
  | none => s

theorem State.releaseThread_eq (l : Launch) (s : State) (id : HartId) (h : Nat) :
    State.releaseThread l s id h = (State.armed l s id h).nextTask id true := rfl

theorem State.setApart_same (s : State) (id : HartId) : SameLaunches s (s.setApart id) := by
  unfold State.setApart
  dsimp only
  split <;> exact .of_eq rfl rfl

theorem State.armed_same (l : Launch) (s : State) (id : HartId) (h : Nat) : SameLaunches s (State.armed l s id h) := by
  refine (s.setApart_same id).trans ?_
  unfold State.armed
  dsimp only
  split <;> exact .of_eq (State.mapHart_net _ _ _) (State.mapHart_launches _ _ _)

theorem State.releaseThread_same (l : Launch) (s : State) (id : HartId) (h : Nat) : SameLaunches s (State.releaseThread l s id h) :=
  (State.armed_same l s id h).trans (State.nextTask_same _ id true)

/-! ### Released threads (R13, R14) -/

/-- The thread sets of a launch in the order of their release: core, thread set, and number of the thread on its core. -/
def Launch.jobs (l : Launch) : List (CoreId × Nat × Nat) := l.sets.flatMap fun e => e.2.zipIdx.map fun p => (e.1, p.1, p.2)

/-- The release of one thread. -/
def releaseJob (l : Launch) (s : State) (e : CoreId × Nat × Nat) : State := State.releaseThread l s (.thread e.1 e.2.1) e.2.2

/-- The launch as it runs. -/
def Launch.started (l : Launch) (clk : BitVec 56) : Launch :=
  { l with stage := .running, tstart := clk, ranges := splitRanges l.info.tasks l.threads 0 l.dieThreads }

theorem Launch.foldl_jobs (l : Launch) (s : State) : l.jobs.foldl (releaseJob l) s = l.sets.foldl (fun s e =>
    e.2.zipIdx.foldl (fun s p => State.releaseThread l s (.thread e.1 p.1) p.2) s) s := by
  rw [Launch.jobs, List.foldl_flatMap]
  simp only [List.foldl_map]
  rfl

theorem exec_launchRelease {s : State} {lid : Nat} {l : Launch} (hl : s.launch? lid = some l) (hstage : l.stage = .placed) :
    exec (.launchRelease lid) s = .next (l.jobs.foldl (releaseJob l)
      ((s.prepare l).mapLaunch lid fun q => q.started (s.prepare l).clk)) := by
  rw [Launch.foldl_jobs]
  show execLaunchRelease lid s = _
  simp only [execLaunchRelease, hl, hstage, if_true]
  rfl

theorem releaseJob_same (l : Launch) (s : State) (e : CoreId × Nat × Nat) : SameLaunches s (releaseJob l s e) :=
  State.releaseThread_same l s _ _

/-- What a thread of a DET launch is after its release: at its first task, or free when there is none. -/
def StartsTask (l : Launch) (c : CoreId) (h : Nat) (t : Thread) : Prop :=
  (l.info.tc * l.lcore c + h < l.info.tasks → t.task = l.info.tc * l.lcore c + h ∧ t.pc = l.info.entry ∧ t.lid = l.info.lid ∧
    t.space = l.info.slot ∧ t.state = .running ∧ t.arrivals = Vector.replicate 4 []) ∧
  (l.info.tasks ≤ l.info.tc * l.lcore c + h → t.state = .free)

/-- Nothing is saved. -/
def NothingSaved (s : State) : Prop := s.evicted = [] ∧ ∀ k, (s.hart k).state ≠ .saved

theorem NothingSaved.of_one {s u : State} {x : HartId} (h : NothingSaved s) (hev : u.evicted = []) (hothers : ∀ id, id ≠ x → u.hart id = s.hart id)
    (hx : (u.hart x).state ≠ .saved) : NothingSaved u := by
  refine ⟨hev, fun k => ?_⟩
  by_cases hk : k = x
  · rw [hk]; exact hx
  · rw [hothers k hk]; exact h.2 k

/-- A hart that has no saved context to return to ends free. -/
theorem State.exitHart_of_nothing {s : State} (h : HartId) (hev : s.evicted = []) : s.exitHart h = s.mapHart h Thread.exit := by
  have hev' : (s.mapHart h Thread.exit).evicted = [] := (State.mapHart_evicted _ _ _).trans hev
  unfold State.exitHart State.returnSaved
  rw [hev']
  split <;> rfl

/-- A thread before its first task in a DET launch takes the one of its own number, or exits. -/
theorem State.nextTask_first {s : State} {id : HartId} {c : CoreId} {k : Nat} {l' : Launch} (hid : id = .thread c k)
    (hl : s.launchOf (s.hart id) = some l') (hdet : l'.info.det = true) (hev : s.evicted = []) : s.nextTask id true =
      if l'.info.tc * l'.lcore c + (s.hart id).h < l'.info.tasks then
        s.mapHart id fun t => t.begin l' (l'.info.tc * l'.lcore c + (s.hart id).h)
      else s.mapHart id Thread.exit := by
  have hlogical : l'.logical (s.hart id) = l'.info.tc * l'.lcore c + (s.hart id).h := by
    simp only [Launch.logical, State.hart_id, hid]; rfl
  unfold State.nextTask
  simp only [hl, State.takeTask, hdet, if_true, hlogical]
  by_cases hlt : l'.info.tc * l'.lcore c + (s.hart id).h < l'.info.tasks
  · simp only [hlt, if_true]
  · simp only [hlt, if_false, State.exitHart_of_nothing id hev]

section
variable {l l' : Launch} {s : State} {c : CoreId} {k h : Nat}

theorem State.setApart_of_not_saved {id : HartId} (hns : (s.hart id).state ≠ .saved) : s.setApart id = s := if_neg hns

/-- What arming leaves of the state: all but the thread, and the memory. -/
theorem State.armed_spec (hns : NothingSaved s) : (State.armed l s (.thread c k) h).evicted = [] ∧
    (State.armed l s (.thread c k) h).launches = s.launches ∧
    (∀ id, id ≠ .thread c k → (State.armed l s (.thread c k) h).hart id = s.hart id) ∧
    ∃ ctx, (State.armed l s (.thread c k) h).hart (.thread c k) =
      { Thread.fresh (.thread c k) with lid := l.info.lid, h, space := l.info.slot, state := .running, ctx } := by
  unfold State.armed
  dsimp only [HartId.core?]
  rw [State.setApart_of_not_saved (hns.2 _)]
  refine ⟨(State.mapHart_evicted _ _ _).trans hns.1, State.mapHart_launches _ _ _, fun id hid => ?_, ?_⟩
  · exact State.hart_mapHart_ne (f := fun _ => _) rfl hid
  · exact ⟨_, State.hart_mapHart_same (f := fun _ => _) rfl⟩

/-- R13, R14, R360: a thread of a DET launch is released. -/
theorem State.releaseThread_det (hns : NothingSaved s) (hl : s.launch? l.info.lid = some l') (hinfo : l'.info = l.info)
    (hcore : l'.lcore c = l.lcore c) (hdet : l.info.det = true) :
    NothingSaved (State.releaseThread l s (.thread c k) h) ∧ (State.releaseThread l s (.thread c k) h).launches = s.launches ∧
    (∀ id, id ≠ .thread c k → (State.releaseThread l s (.thread c k) h).hart id = s.hart id) ∧
    StartsTask l c h ((State.releaseThread l s (.thread c k) h).hart (.thread c k)) := by
  obtain ⟨hev, hlaunches, hothers, ctx, hself⟩ := State.armed_spec (l := l) (c := c) (k := k) (h := h) hns
  have hl' : (State.armed l s (.thread c k) h).launchOf ((State.armed l s (.thread c k) h).hart (.thread c k)) = some l' := by
    rw [State.launchOf, hself, State.launch?_congr hlaunches]; exact hl
  have hh : ((State.armed l s (.thread c k) h).hart (.thread c k)).h = h := by rw [hself]
  rw [State.releaseThread_eq, State.nextTask_first rfl hl' (by rw [hinfo]; exact hdet) hev, hh, hcore, hinfo]
  by_cases hlt : l.info.tc * l.lcore c + h < l.info.tasks
  · rw [if_pos hlt]
    have hkept {id : HartId} (hid : id ≠ .thread c k) : (State.mapHart (State.armed l s (.thread c k) h) (.thread c k) fun t =>
        t.begin l' (l.info.tc * l.lcore c + h)).hart id = s.hart id := by
      rw [State.hart_mapHart_ne (by simp [Thread.begin, Thread.fresh]) hid, hothers id hid]
    have hbegun : StartsTask l c h ((State.mapHart (State.armed l s (.thread c k) h) (.thread c k) fun t =>
        t.begin l' (l.info.tc * l.lcore c + h)).hart (.thread c k)) := by
      rw [State.hart_mapHart_same (by simp [Thread.begin, Thread.fresh]), hself]
      exact ⟨fun _ => ⟨rfl, congrArg LaunchRec.entry hinfo, rfl, rfl, rfl, rfl⟩, fun hge => absurd hlt (Nat.not_lt.mpr hge)⟩
    refine ⟨hns.of_one ((State.mapHart_evicted _ _ _).trans hev) (fun _ => hkept) ?_, (State.mapHart_launches _ _ _).trans hlaunches,
      fun _ => hkept, hbegun⟩
    obtain ⟨-, -, -, -, hrunning, -⟩ := hbegun.1 hlt
    simp [hrunning]
  · rw [if_neg hlt]
    have hkept {id : HartId} (hid : id ≠ .thread c k) :
        (State.mapHart (State.armed l s (.thread c k) h) (.thread c k) Thread.exit).hart id = s.hart id := by
      rw [State.hart_mapHart_ne (by simp [Thread.exit, Thread.fresh]) hid, hothers id hid]
    have hfree : ((State.mapHart (State.armed l s (.thread c k) h) (.thread c k) Thread.exit).hart (.thread c k)).state = .free := by
      rw [State.hart_mapHart_same (by simp [Thread.exit, Thread.fresh])]; rfl
    exact ⟨hns.of_one ((State.mapHart_evicted _ _ _).trans hev) (fun _ => hkept) (by simp [hfree]),
      (State.mapHart_launches _ _ _).trans hlaunches, fun _ => hkept, fun h => absurd h hlt, fun _ => hfree⟩

end

/-- The thread set of a release. -/
def jobHart (e : CoreId × Nat × Nat) : HartId := .thread e.1 e.2.1

/-- Releases of distinct thread sets, one after the other: each of the threads is as its own release left it. -/
theorem foldl_releaseJob {l l' : Launch} (hinfo : l'.info = l.info) (hcore : ∀ c, l'.lcore c = l.lcore c) (hdet : l.info.det = true) :
    ∀ {js : List (CoreId × Nat × Nat)} {s : State}, NothingSaved s → s.launch? l.info.lid = some l' → (js.map jobHart).Nodup →
      (∀ id, id ∉ js.map jobHart → (js.foldl (releaseJob l) s).hart id = s.hart id) ∧
      ∀ e ∈ js, StartsTask l e.1 e.2.2 ((js.foldl (releaseJob l) s).hart (jobHart e))
  | [], _, _, _, _ => ⟨fun _ _ => rfl, by simp⟩
  | e :: js, s, hns, hl, hnodup => by
    obtain ⟨hnot, hrest⟩ := List.nodup_cons.mp hnodup
    obtain ⟨hns', hlaunches, hothers, hself⟩ := State.releaseThread_det (k := e.2.1) (h := e.2.2) hns hl hinfo (hcore e.1) hdet
    obtain ⟨hkeep, hdone⟩ := foldl_releaseJob hinfo hcore hdet (s := releaseJob l s e) hns' ((State.launch?_congr hlaunches _).trans hl) hrest
    refine ⟨fun id hid => ?_, List.forall_mem_cons.mpr ⟨?_, hdone⟩⟩
    · obtain ⟨hne, hid⟩ := not_or.mp (mt List.mem_cons.mpr hid)
      exact (hkeep id hid).trans (hothers id hne)
    · have hend := hkeep (jobHart e) hnot
      rw [List.foldl_cons, hend]; exact hself

/-! ### Preparation (R360) -/

/-- Preparation changes memory, its holders and the units' streams. -/
def OnlyPrepared (s u : State) : Prop := u = { s with mem := u.mem, ecc := u.ecc, holders := u.holders, units := u.units }

theorem OnlyPrepared.refl (s : State) : OnlyPrepared s s := rfl

theorem OnlyPrepared.trans {s u v : State} (h : OnlyPrepared s u) (h' : OnlyPrepared u v) : OnlyPrepared s v := by
  unfold OnlyPrepared at *; rw [h', h]

theorem OnlyPrepared.foldl {α : Type} {f : State → α → State} (hf : ∀ s a, OnlyPrepared s (f s a)) :
    ∀ (as : List α) (s : State), OnlyPrepared s (as.foldl f s)
  | [], s => .refl s
  | a :: as, s => (hf s a).trans (OnlyPrepared.foldl hf as _)

theorem State.wipeHeld_prepared (key n slot : Nat) (s : State) (e : Nat × Nat × Nat) : OnlyPrepared s (State.wipeHeld key n slot s e) := by
  unfold State.wipeHeld
  dsimp only
  split <;> rfl

theorem State.takeRange_prepared (s : State) (key n slot : Nat) : OnlyPrepared s (s.takeRange key n slot) := by
  rw [State.takeRange_eq]
  exact (OnlyPrepared.foldl (State.wipeHeld_prepared key n slot) s.holders s).trans rfl

theorem State.prepare_prepared (s : State) (l : Launch) : OnlyPrepared s (s.prepare l) := by
  unfold State.prepare
  dsimp only
  refine OnlyPrepared.trans (OnlyPrepared.trans ?_ (OnlyPrepared.foldl (fun s c => s.takeRange_prepared _ _ _) _ _))
    (OnlyPrepared.foldl (fun s e => ?_) _ _)
  · rfl
  · split
    · exact .refl s
    · exact s.takeRange_prepared _ _ _

/-! ### A launch is released (R360) -/

theorem Launch.mem_jobs {l : Launch} {c : CoreId} {ks : List Nat} {h k : Nat} (hks : (c, ks) ∈ l.sets) (hk : ks[h]? = some k) :
    (c, k, h) ∈ l.jobs := by
  refine List.mem_flatMap.mpr ⟨(c, ks), hks, List.mem_map.mpr ⟨(k, h), ?_, rfl⟩⟩
  exact List.mem_zipIdx_iff_getElem?.mpr hk

theorem Launch.jobs_nodup {l : Launch} (h : (l.sets.flatMap fun e => e.2.map fun k => (e.1, k)).Nodup) : (l.jobs.map jobHart).Nodup := by
  have hmap : l.jobs.map jobHart = (l.sets.flatMap fun e => e.2.map fun k => (e.1, k)).map fun p => HartId.thread p.1 p.2 := by
    simp only [Launch.jobs, List.map_flatMap, List.map_map]
    refine List.flatMap_congr fun e _ => ?_
    conv_rhs => rw [← List.zipIdx_map_fst 0 e.2, List.map_map]
    rfl
  rw [hmap]
  exact h.map fun p q hpq => by cases p; cases q; simpa using hpq

/-- A hart by name is a listed one, or as at reset. -/
theorem State.hart_cases (s : State) (k : HartId) : s.hart k ∈ s.harts ∨ s.hart k = Thread.fresh k := by
  unfold State.hart
  split
  · exact .inl List.mem_cons_self
  · cases hf : s.parked.find? fun t => t.id = k with
    | none => exact .inr rfl
    | some t => exact .inl (List.mem_cons_of_mem _ (List.mem_of_find?_eq_some hf))

/-- The state in which the threads of a launch are released. -/
def State.opened (s : State) (l : Launch) (lid : Nat) : State := (s.prepare l).mapLaunch lid fun q => q.started (s.prepare l).clk

theorem State.prepare_launches (s : State) (l : Launch) : (s.prepare l).launches = s.launches := by rw [s.prepare_prepared l]
theorem State.prepare_net (s : State) (l : Launch) : (s.prepare l).net = s.net := by rw [s.prepare_prepared l]
theorem State.prepare_clk (s : State) (l : Launch) : (s.prepare l).clk = s.clk := by rw [s.prepare_prepared l]
theorem State.prepare_evicted (s : State) (l : Launch) : (s.prepare l).evicted = s.evicted := by rw [s.prepare_prepared l]
theorem State.hart_prepare (s : State) (l : Launch) (k : HartId) : (s.prepare l).hart k = s.hart k := by rw [s.prepare_prepared l]; rfl

theorem State.launch?_opened {s : State} {lid : Nat} {l : Launch} (hl : s.launch? lid = some l) :
    (s.opened l lid).launch? lid = some (l.started s.clk) := by
  rw [State.opened, State.launch?_mapLaunch _ _ _ (f := fun q => q.started _) (fun _ => rfl), State.launch?_congr (s.prepare_launches l), hl, State.prepare_clk]
  exact congrArg some (if_pos (State.launch?_lid hl))

theorem State.opened_nothingSaved {s : State} (l : Launch) (lid : Nat) (hev : s.evicted = []) (hns : ∀ t ∈ s.harts, t.state ≠ .saved) :
    NothingSaved (s.opened l lid) := by
  refine ⟨(s.prepare_evicted l).trans hev, fun k => ?_⟩
  have hhart : (s.opened l lid).hart k = s.hart k := (State.hart_mapLaunch _ _ _ k).trans (s.hart_prepare l k)
  rw [hhart]
  rcases s.hart_cases k with hin | hfresh
  · exact hns _ hin
  · rw [hfresh]; simp [Thread.fresh]

/-- R360: releases. -/
theorem launchesAreReleased : Claim.LaunchesAreReleased := by
  refine ⟨fun s lid l hl hstage => ⟨_, exec_launchRelease hl hstage, ?_, ?_, fun c ks h k hdet hev hns hks hk hnodup => ?_⟩, takeRange_reads⟩
  · refine ((SameLaunches.foldl (releaseJob_same l) l.jobs (s.opened l lid)).2 lid).trans ?_
    rw [State.launch?_opened hl]
    rfl
  · exact (SameLaunches.foldl (releaseJob_same l) l.jobs (s.opened l lid)).1.trans (s.prepare_net l)
  · obtain rfl := State.launch?_lid hl
    exact (foldl_releaseJob (l' := l.started s.clk) rfl (fun _ => rfl) hdet (s.opened_nothingSaved l _ hev hns) (State.launch?_opened hl) (Launch.jobs_nodup hnodup)).2
      _ (Launch.mem_jobs hks hk)

/-- Settles O45: placement, and release. -/
theorem launchesArePlacedAndReleased : Obligations.LaunchesArePlacedAndReleased := ⟨launchesArePlaced, launchesAreReleased⟩

end Sys2Proof.Machine
end

section
/-! SUPPORT. Troupes: TRP.FORM, the forming of a troupe, members that leave, TRP.SPLIT, TRP.POS and TRP.WIDTH (R18 to R24,
R206 to R208). -/

namespace Sys2Proof.Machine

open Sys2Proof.Claim

/-! ### The operands of TRP.FORM (R19, R206) -/

/-- Operands do not depend on the next pc or on a jump taken. -/
theorem take_with_npc {s : State} {t t' : Thread} {r : BitVec 5} {x : Word} (h : take s t r = some (x, t')) (n : Word) (b : Bool) :
    take s { t with npc := n, taken := b } r = some (x, { t' with npc := n, taken := b }) := by
  have hwriters : s.writers { t with npc := n, taken := b } (.x r) = s.writers t (.x r) := rfl
  unfold take at h ⊢
  rw [hwriters]
  split at h
  · next h0 => cases h; exact if_pos h0
  · next h0 =>
    split at h
    · cases h
    · next hw =>
      rw [if_neg h0, if_neg hw]
      split at h
      · next p hp =>
        split at h
        · cases h
        · next w ws hq => cases h; simp [hp, hq]
      · next hp => cases h; simp [hp]

/-- R18, R19: a width and skew that a thread of a launch may form a troupe with, and its run. -/
def FormLegal (l : Launch) (c : CoreId) (t : Thread) (w k : Word) : Prop :=
  t.troupe = none ∧ (1 ≤ w.toNat ∧ w.toNat ≤ 64 ∧ k.toNat ≤ 4) ∧ (runOf l c w.toNat (if k.toNat = 0 then 2 else k.toNat)).fits l = true

theorem check_passes {ok : Bool} (code : BitVec 8) (s : State) (h : ok = true) : check ok code 0 s = .ok () s := by
  rw [check_run, if_pos h]

theorem check_fails {ok : Bool} (code : BitVec 8) (s : State) (h : ok = false) : check ok code 0 s = .error (.trap code 0) s := by
  rw [check_run, if_neg (by simp [h])]

/-- What TRP.FORM checks of a width and a skew that it has read. -/
def formChecks (w k : Word) : M Run := do
  let s ← get
  let t := s.focus
  check t.troupe.isNone ILLEGAL
  check (1 ≤ w.toNat && w.toNat ≤ 64 && k.toNat ≤ 4) ILLEGAL
  match s.launchOf t, t.id.core? with
  | some l, some c => do
    let r := runOf l c w.toNat (if k = 0 then 2 else k.toNat)
    check (r.fits l) ILLEGAL
    return r
  | _, _ => trap ILLEGAL

/-- The checks of a thread of a launch. -/
theorem formChecks_run {s : State} {w k : Word} {l : Launch} {c : CoreId} (hl : s.launchOf s.focus = some l) (hc : s.focus.id.core? = some c) :
    (FormLegal l c s.focus w k → formChecks w k s = .ok (runOf l c w.toNat (if k.toNat = 0 then 2 else k.toNat)) s) ∧
    (¬ FormLegal l c s.focus w k → formChecks w k s = .error (.trap ILLEGAL 0) s) := by
  have hzero : (k = 0) = (k.toNat = 0) := propext ⟨fun h => by rw [h]; rfl, fun h => BitVec.eq_of_toNat_eq h⟩
  have hrun : formChecks w k s = (do
      check s.focus.troupe.isNone ILLEGAL
      check (1 ≤ w.toNat && w.toNat ≤ 64 && k.toNat ≤ 4) ILLEGAL
      check ((runOf l c w.toNat (if k.toNat = 0 then 2 else k.toNat)).fits l) ILLEGAL
      return runOf l c w.toNat (if k.toNat = 0 then 2 else k.toNat) : M Run) s := by
    simp only [formChecks, M.bind_run, M.get_run, hl, hc, hzero]
  have hrange : (1 ≤ w.toNat && w.toNat ≤ 64 && k.toNat ≤ 4 : Bool) = true ↔ 1 ≤ w.toNat ∧ w.toNat ≤ 64 ∧ k.toNat ≤ 4 := by simp [and_assoc]
  rw [hrun]
  refine ⟨fun ⟨hnone, hin, hfits⟩ => ?_, fun hnot => ?_⟩
  · exact (M.bind_ok (check_passes _ _ (Option.isNone_iff_eq_none.mpr hnone))).trans
      ((M.bind_ok (check_passes _ _ (hrange.mpr hin))).trans ((M.bind_ok (check_passes _ _ hfits)).trans rfl))
  · by_cases hnone : s.focus.troupe = none
    · refine (M.bind_ok (check_passes _ _ (Option.isNone_iff_eq_none.mpr hnone))).trans ?_
      by_cases hin : 1 ≤ w.toNat ∧ w.toNat ≤ 64 ∧ k.toNat ≤ 4
      · refine (M.bind_ok (check_passes _ _ (hrange.mpr hin))).trans (M.bind_error (check_fails _ _ ?_))
        exact Bool.eq_false_iff.mpr fun hfits => hnot ⟨hnone, hin, hfits⟩
      · exact M.bind_error (check_fails _ _ (Bool.eq_false_iff.mpr (mt hrange.mp hin)))
    · exact M.bind_error (check_fails _ _ (Bool.eq_false_iff.mpr (mt Option.isNone_iff_eq_none.mp hnone)))

section
variable {s : State} {t t₁ t₂ : Thread} {a b : BitVec 5} {w k : Word} {l : Launch} {c : CoreId}

/-- TRP.FORM reads its operands and checks them. -/
theorem formArgs_run (hports : PortsOk { s with focus := t } [a, b]) (hw : take s t a = some (w, t₁)) (hk : take s t₁ b = some (k, t₂))
    (hl : s.launchOf t = some l) (hc : t.id.core? = some c) :
    (FormLegal l c t w k →
      formArgs a b { s with focus := t } = .ok (runOf l c w.toNat (if k.toNat = 0 then 2 else k.toNat)) { s with focus := t₂ }) ∧
    (¬ FormLegal l c t w k → formArgs a b { s with focus := t } = .error (.trap ILLEGAL 0) { s with focus := t₂ }) := by
  have hread : formArgs a b { s with focus := t } = formChecks w k { s with focus := t₂ } :=
    (M.bind_ok (checkPorts_ok hports)).trans ((M.bind_ok (readX_of_take hw)).trans ((M.bind_ok (readX_of_take hk)).trans rfl))
  have h₂ : t₂ = { t with arrivals := t₂.arrivals } := by
    have h₁ := take_frame hw
    have h₂ := take_frame hk
    rw [h₁] at h₂; exact h₂
  have hlegal : FormLegal l c t₂ w k ↔ FormLegal l c t w k := by rw [h₂]; exact Iff.rfl
  rw [hread, ← hlegal]
  exact formChecks_run (s := { s with focus := t₂ }) (by rw [h₂]; exact hl) (by rw [h₂]; exact hc)

end

/-! ### TRP.FORM (R18, R19, R206) -/

/-- A core is taken or not whatever its thread has read. -/
theorem coreTaken_focus {s : State} {t : Thread} (hid : t.id = s.focus.id) :
    ({ s with focus := t } : State).coreTaken t = s.coreTaken s.focus := by
  simp only [State.coreTaken, State.harts, List.any_cons, hid]
  simp only [decide_true, decide_false, ne_eq, not_true_eq_false, Bool.and_false, Bool.false_and, Bool.false_or]
  rfl

/-- TRP.FORM's effect. -/
def formTroupe (a b : BitVec 5) : M Unit := do
  let r ← formArgs a b
  let s ← get
  await (!s.coreTaken s.focus) .formBlocked
  waitFor (.form r.width r.skew)

theorem exec_trpForm (s : State) (g : Guard) (a b : BitVec 5) {hs : List HartId}
    (h : hs = match s.formRun g a b with | some r => s.conflicts r s.focus.id | none => []) : exec (.trpForm g a b) s = .next
      (if hs.isEmpty then s.scalar .core g (formTroupe a b) else (hs.foldl (fun s h => s.onHart h fun s => s.raise ILLEGAL 0) s).raise ILLEGAL 0) := by
  rw [h]; rfl

/-- R18, R19, R206: TRP.FORM. -/
theorem trpForms (s : State) (g : Guard) (a b : BitVec 5) (w k : Word) (t₁ t₂ : Thread) (l : Launch) (c : CoreId) (hen : Enabled s .core g)
    (hports : PortsOk s [a, b]) (hw : take s (start s 4) a = some (w, t₁)) (hk : take s t₁ b = some (k, t₂)) (hl : s.launchOf s.focus = some l)
    (hc : s.focus.id.core? = some c) (r : Run) (hr : r = runOf l c w.toNat (if k.toNat = 0 then 2 else k.toNat)) :
    (¬ FormLegal l c s.focus w k → s.formRun g a b = none → exec (.trpForm g a b) s = .next (s.raise 0x01 0)) ∧
    (FormLegal l c s.focus w k → s.coreTaken s.focus = true → exec (.trpForm g a b) s = .next (s.stall .formBlocked)) ∧
    (FormLegal l c s.focus w k → s.coreTaken s.focus = false → s.conflicts r s.focus.id ≠ [] →
      exec (.trpForm g a b) s = .next (((s.conflicts r s.focus.id).foldl (fun s h => s.onHart h fun s => s.raise 0x01 0) s).raise 0x01 0)) ∧
    (FormLegal l c s.focus w k → s.coreTaken s.focus = false → (∀ h, h ∉ s.conflicts r s.focus.id) →
      exec (.trpForm g a b) s = .next (s.stall (.form r.width r.skew))) := by
  obtain ⟨hok, hbad⟩ := formArgs_run (s := s) (t := start s 4) hports hw hk hl hc
  obtain ⟨hok', -⟩ := formArgs_run (s := s) (t := s.focus) hports (take_with_npc hw s.focus.npc s.focus.taken)
    (take_with_npc hk s.focus.npc s.focus.taken) hl hc
  have hid : t₂.id = s.focus.id := by rw [take_frame hk, take_frame hw]; rfl
  have hformRun (hlegal : FormLegal l c s.focus w k) (hfree : s.coreTaken s.focus = false) : s.formRun g a b = some r := by
    have hargs : formArgs a b s = .ok r _ := (hok' hlegal).trans (by rw [hr])
    simp only [State.formRun, hen.1, hen.2, hfree, hargs, Bool.not_false, Bool.and_self, if_true]
  refine ⟨fun hnot hnone => ?_, fun hlegal htaken => ?_, fun hlegal hfree hconf => ?_, fun hlegal hfree hconf => ?_⟩
  · rw [exec_trpForm s g a b (hs := []) (by rw [hnone])]
    exact congrArg _ (State.scalar_trap hen rfl (M.bind_error (hbad hnot)))
  · rw [exec_trpForm s g a b (hs := []) (by simp [State.formRun, htaken])]
    refine congrArg _ (State.scalar_wait (s' := { s with focus := t₂ }) hen rfl ((M.bind_ok (hok hlegal)).trans ((M.bind_ok (M.get_run _)).trans (M.bind_error ?_))))
    rw [await_run, coreTaken_focus hid, htaken]; rfl
  · rw [exec_trpForm s g a b (by rw [hformRun hlegal hfree]), if_neg (by simpa using hconf)]
    rfl
  · have hnil : s.conflicts r s.focus.id = [] := List.eq_nil_iff_forall_not_mem.mpr hconf
    rw [exec_trpForm s g a b (hs := []) (by rw [hformRun hlegal hfree]; exact hnil.symm), hr]
    refine congrArg _ (State.scalar_wait (s' := { s with focus := t₂ }) hen rfl ((M.bind_ok (hok hlegal)).trans ((M.bind_ok (M.get_run _)).trans ((M.bind_ok (a := ()) ?_).trans rfl))))
    rw [await_run, coreTaken_focus hid, hfree]; rfl

/-! ### What an operand's read leaves unchanged -/

/-- At most the issuing hart has changed, which keeps its name. -/
def OnlyHart (s u : State) : Prop := u = { s with focus := u.focus } ∧ u.focus.id = s.focus.id

theorem OnlyHart.refl (s : State) : OnlyHart s s := ⟨rfl, rfl⟩

theorem OnlyHart.trans {s u v : State} (h : OnlyHart s u) (h' : OnlyHart u v) : OnlyHart s v := by
  obtain ⟨hu, hid⟩ := h
  obtain ⟨hv, hid'⟩ := h'
  refine ⟨?_, hid'.trans hid⟩
  rw [hv, hu]

/-- An effect that changes at most the issuing hart where it runs to its end. -/
def HartEffect {α : Type} (m : M α) : Prop := ∀ s a u, m s = .ok a u → OnlyHart s u

theorem HartEffect.bind {α β : Type} {m : M α} {f : α → M β} (hm : HartEffect m) (hf : ∀ a, HartEffect (f a)) : HartEffect (m >>= f) := by
  intro s b v h
  rw [M.bind_run] at h
  cases hs : m s with
  | ok a u => rw [hs] at h; exact (hm s a u hs).trans (hf a u b v h)
  | error e u => rw [hs] at h; cases h

theorem HartEffect.pure {α : Type} (a : α) : HartEffect (pure a : M α) := by
  rintro s b u ⟨⟩; exact .refl s

theorem HartEffect.get : HartEffect (get : M State) := by
  rintro s b u ⟨⟩; exact .refl s

theorem HartEffect.error {α : Type} {m : M α} (h : ∀ s, ∃ e, m s = .error e s) : HartEffect m := by
  intro s a u hs
  obtain ⟨e, he⟩ := h s
  rw [he] at hs; cases hs

theorem HartEffect.check (ok : Bool) (code : BitVec 8) (a : Word) : HartEffect (check ok code a) := by
  intro s b u h
  rw [check_run] at h
  split at h <;> cases h
  exact .refl s

theorem HartEffect.await (ok : Bool) (w : Wait) : HartEffect (await ok w) := by
  intro s b u h
  rw [await_run] at h
  split at h <;> cases h
  exact .refl s

theorem HartEffect.setFocus {f : Thread → Thread} (hf : ∀ t, (f t).id = t.id) : HartEffect (setFocus f) := by
  rintro s b u ⟨⟩; exact ⟨rfl, hf _⟩

theorem HartEffect.focus : HartEffect focus := by
  rintro s b u ⟨⟩; exact .refl s

theorem HartEffect.scoreboard (r : Reg) : HartEffect (scoreboard r) := by
  refine HartEffect.get.bind fun s => ?_
  dsimp only
  split
  · exact .error fun s => ⟨_, rfl⟩
  · exact .await _ _

theorem HartEffect.popPort (p : Fin 4) : HartEffect (popPort p) := by
  refine HartEffect.focus.bind fun t => ?_
  split
  · exact .error fun s => ⟨_, rfl⟩
  · refine HartEffect.bind ?_ fun _ => .pure _
    exact .setFocus fun _ => rfl

theorem HartEffect.readX (r : BitVec 5) : HartEffect (readX r) := by
  refine HartEffect.focus.bind fun t => ?_
  split
  · exact .pure _
  · refine (HartEffect.scoreboard _).bind fun _ => ?_
    split
    · exact .popPort _
    · exact .pure _

theorem HartEffect.checkPorts (rs : List (BitVec 5)) : HartEffect (checkPorts rs) := HartEffect.get.bind fun _ => .check _ _ _

theorem HartEffect.formArgs (a b : BitVec 5) : HartEffect (formArgs a b) := by
  refine (HartEffect.checkPorts _).bind fun _ => (HartEffect.readX a).bind fun w => (HartEffect.readX b).bind fun k => HartEffect.get.bind fun s =>
    (HartEffect.check _ _ _).bind fun _ => (HartEffect.check _ _ _).bind fun _ => ?_
  split
  · exact (HartEffect.check _ _ _).bind fun _ => .pure _
  · exact .error fun s => ⟨_, rfl⟩

/-! ### A troupe forms (R18, R206) -/

/-- A member's TRP.FORM takes its operands. -/
def State.takeForm (s : State) : State :=
  match decode32 s.focus.iword with
  | some (.trpForm _ a b) => match formArgs a b s with | .ok _ s' => s' | .error _ _ => s
  | _ => s

theorem State.takeForm_onlyHart (s : State) : OnlyHart s s.takeForm := by
  unfold State.takeForm
  split
  · split
    · next h => exact HartEffect.formArgs _ _ _ _ _ h
    · exact .refl s
  · exact .refl s

/-- What joining does to the issuing hart. -/
def State.joinFocus (i k : Nat) (s : State) : State :=
  ((s.takeForm.mapFocus fun t => { t with npc := t.pc + 4 }).retire { s.focus with troupe := none } 4 .no false).mapFocus fun t =>
    { t with troupe := some i, tpos := k, slotNo := 0, entrySlot := 0, marks := t.marks.map Mark.outside, deaf := false }

theorem joinTroupe_eq (i : Nat) (s : State) (h : HartId) (k : Nat) : joinTroupe i s h k = s.onHart h (State.joinFocus i k) := rfl

/-- A member of a new troupe. -/
def JoinedAs (i k : Nat) (t : Thread) : Prop := t.troupe = some i ∧ t.tpos = k ∧ t.slotNo = 0 ∧ t.wait = none

theorem State.joinFocus_spec (i k : Nat) (s : State) :
    JoinedAs i k (s.joinFocus i k).focus ∧ (s.joinFocus i k).focus.id = s.focus.id ∧ (s.joinFocus i k).parked = s.parked := by
  obtain ⟨hframe, hid⟩ := s.takeForm_onlyHart
  unfold State.joinFocus State.retire
  simp only [State.slotDone, State.moveRegion]
  rw [State.countIssue_frame]
  refine ⟨⟨rfl, rfl, rfl, rfl⟩, ?_, ?_⟩
  · simp [State.mapFocus, hid]
  · rw [hframe]; rfl

/-- An effect on a hart that changes it alone. -/
theorem State.hart_onHart {s : State} {h : HartId} {f : State → State} (hid : (f (s.focusOn h)).focus.id = h)
    (hparked : (f (s.focusOn h)).parked = (s.focusOn h).parked) :
    (s.onHart h f).hart h = (f (s.focusOn h)).focus ∧ ∀ k, k ≠ h → (s.onHart h f).hart k = s.hart k := by
  unfold State.onHart
  refine ⟨?_, fun k hk => ?_⟩
  · rw [State.hart_focusOn, State.hart_of_focus hid]
  · rw [State.hart_focusOn, State.hart_of_parked (by rw [hid]; exact Ne.symm hk), hparked, ← State.hart_focusOn s h k,
      State.hart_of_parked (s := s.focusOn h) (by simpa using Ne.symm hk)]

theorem joinTroupe_spec (i : Nat) (s : State) (h : HartId) (k : Nat) :
    JoinedAs i k ((joinTroupe i s h k).hart h) ∧ ∀ id, id ≠ h → (joinTroupe i s h k).hart id = s.hart id := by
  obtain ⟨hjoined, hid, hparked⟩ := State.joinFocus_spec i k (s.focusOn h)
  obtain ⟨hself, hothers⟩ := State.hart_onHart (s := s) (h := h) (f := State.joinFocus i k) (hid.trans (by simp)) hparked
  rw [joinTroupe_eq]
  exact ⟨by rw [hself]; exact hjoined, hothers⟩

/-- Members join one after the other, each at its position. -/
theorem foldl_joinTroupe (i : Nat) : ∀ {hs : List HartId} {s : State} {n : Nat}, hs.Nodup →
    (∀ id, id ∉ hs → ((hs.zipIdx n).foldl (fun s (e : HartId × Nat) => joinTroupe i s e.1 e.2) s).hart id = s.hart id) ∧
    ∀ k id, hs[k]? = some id → JoinedAs i (n + k) (((hs.zipIdx n).foldl (fun s (e : HartId × Nat) => joinTroupe i s e.1 e.2) s).hart id)
  | [], s, n, _ => ⟨fun _ _ => rfl, by simp⟩
  | h :: hs, s, n, hnodup => by
    obtain ⟨hnot, hrest⟩ := List.nodup_cons.mp hnodup
    obtain ⟨hjoined, hothers⟩ := joinTroupe_spec i s h n
    obtain ⟨hkeep, hdone⟩ := foldl_joinTroupe i (s := joinTroupe i s h n) (n := n + 1) hrest
    rw [List.zipIdx_cons, List.foldl_cons]
    refine ⟨fun id hid => ?_, fun k id hk => ?_⟩
    · obtain ⟨hne, hid⟩ := not_or.mp (mt List.mem_cons.mpr hid)
      exact (hkeep id hid).trans (hothers id hne)
    · cases k with
      | zero => cases hk; rw [hkeep h hnot]; exact hjoined
      | succ k =>
        have := hdone k id (by simpa using hk)
        rwa [Nat.add_assoc, Nat.add_comm 1 k] at this

/-- The state in which a troupe has formed. -/
def State.formed (s : State) (r : Run) (hs : List HartId) : State :=
  let s' := hs.zipIdx.foldl (fun s' (e : HartId × Nat) => joinTroupe s.nextId s' e.1 e.2) s
  { s' with
    nextId := s.nextId + 1
    troupes := insertKey s.nextId ⟨(coreAt r.grow r.gcol).die, (coreAt r.grow r.gcol).row, (coreAt r.grow r.gcol).col, r.width, r.skew,
      hs.map some, [], none, none, []⟩ s'.troupes }

theorem exec_troupeFormed {s : State} {h : HartId} {r : Run} {hs : List HartId} (hrun : s.waitingRun (s.hart h) = some r)
    (hharts : s.runHarts r 0 r.width = some hs) : exec (.troupeFormed h) s = .next (s.formed r hs) := by
  show execTroupeFormed h s = _
  simp only [execTroupeFormed, hrun, hharts]
  rfl

theorem troupesForm : Claim.TroupesForm := by
  refine ⟨fun s g a b w k t₁ t₂ l c hen hports hw hk hl hc => ?_, fun s h r hs hrun hharts hnodup => ?_⟩
  · have hlegal : FormLegal l c s.focus w k ↔ s.focus.troupe = none ∧ 1 ≤ w.toNat ∧ w.toNat ≤ 64 ∧ k.toNat ≤ 4 ∧
        4 * l.ccol + w.toNat * ((c.gcol - 4 * l.ccol) / w.toNat) + w.toNat ≤ 4 * (l.ccol + l.info.dw) ∧
        (4 * l.ccol + w.toNat * ((c.gcol - 4 * l.ccol) / w.toNat)) / 64 =
          (4 * l.ccol + w.toNat * ((c.gcol - 4 * l.ccol) / w.toNat) + w.toNat - 1) / 64 := by
      simp only [FormLegal, Run.fits, Bool.and_eq_true, decide_eq_true_eq, and_assoc]
      rfl
    have h := trpForms s g a b w k t₁ t₂ l c hen hports hw hk hl hc _ rfl
    simp only [hlegal] at h
    exact h
  · obtain ⟨-, hjoined⟩ := foldl_joinTroupe s.nextId (s := s) (n := 0) hnodup
    refine ⟨_, _, exec_troupeFormed hrun hharts, lookup?_insertKey_same _ _ _, rfl, rfl, rfl, rfl, rfl, rfl, fun k id hk => ?_⟩
    have := hjoined k id hk
    rwa [Nat.zero_add] at this

/-! ### Members leave (R23, R24) -/

theorem lookup?_eraseKey_same {κ α : Type} [DecidableEq κ] (k : κ) : ∀ m : List (κ × α), lookup? k (eraseKey k m) = none
  | [] => rfl
  | (k', a) :: r => by
    have ih := lookup?_eraseKey_same k r
    unfold eraseKey at ih ⊢
    by_cases hk : k' = k
    · rw [List.filter_cons_of_neg (by simpa using hk)]; exact ih
    · rw [List.filter_cons_of_pos (by simpa using hk), lookup?, if_neg hk]; exact ih

section
variable {s : State} {h : HartId} {i : Nat} {tr : Troupe}

/-- R24: the leader leaves, or the last member: the troupe dissolves. -/
theorem State.leaveTroupe_dissolves (hi : (s.hart h).troupe = some i) (htr : lookup? i s.troupes = some tr)
    (hend : (s.hart h).tpos = 0 ∨ ∀ m ∈ tr.members.set (s.hart h).tpos none, m = none) :
    s.leaveTroupe h = { s.mapHarts (fun t => t.troupe = some i) Thread.leave with troupes := eraseKey i s.troupes } := by
  have hcond : (s.hart h).tpos = 0 ∨ (tr.members.set (s.hart h).tpos none).all Option.isNone = true := by
    refine hend.imp_right fun hall => ?_
    rw [List.all_eq_true]
    exact fun m hm => by rw [hall m hm]; rfl
  simp only [State.leaveTroupe, hi, htr]
  exact if_pos hcond

/-- R23: another member leaves: the ring is broken from its slot on. -/
theorem State.leaveTroupe_breaks (hi : (s.hart h).troupe = some i) (htr : lookup? i s.troupes = some tr) (hpos : (s.hart h).tpos ≠ 0)
    (hmore : ∃ m ∈ tr.members.set (s.hart h).tpos none, m ≠ none) : s.leaveTroupe h =
      { s.mapHart h Thread.leave with troupes := insertKey i { tr with
        members := tr.members.set (s.hart h).tpos none, broken := tr.breakAt (s.hart h).slotNo } s.troupes } := by
  have hcond : ¬((s.hart h).tpos = 0 ∨ (tr.members.set (s.hart h).tpos none).all Option.isNone = true) := by
    rintro (h0 | hall)
    · exact hpos h0
    · obtain ⟨m, hm, hne⟩ := hmore
      exact hne (Option.isNone_iff_eq_none.mp (List.all_eq_true.mp hall m hm))
  simp only [State.leaveTroupe, hi, htr]
  exact if_neg hcond

end

theorem membersLeave : Claim.MembersLeave := by
  intro s h i tr hi htr
  refine ⟨s.leaveTroupe_mem h, s.leaveTroupe_launches h, s.leaveTroupe_net h, fun hend => ?_, fun hpos hmore => ?_⟩
  · rw [State.leaveTroupe_dissolves hi htr hend]
    refine ⟨lookup?_eraseKey_same _ _, fun k => ?_⟩
    have hmap := State.hart_mapHarts (s := s) (p := fun t => t.troupe = some i) (f := Thread.leave) (fun _ => rfl) (k := k) (by simp [Thread.fresh])
    refine Eq.trans ?_ (hmap.trans ?_)
    · rfl
    · simp only [decide_eq_true_iff]; rfl
  · rw [State.leaveTroupe_breaks hi htr hpos hmore]
    refine ⟨lookup?_insertKey_same _ _ _, ?_, fun k hk => ?_⟩
    · exact State.hart_mapHart_same (by simp)
    · exact State.hart_mapHart_ne (by simp) hk

/-! ### TRP.POS and TRP.WIDTH (R208) -/

/-- The fields of TRINFO that they read. -/
theorem State.trinfo_fields (s : State) (t : Thread) (hsmall : ∀ tr, s.troupeOf t = some tr → tr.width < 256 ∧ tr.skew < 256 ∧ t.tpos < 256) :
    BitVec.ofNat 64 (fieldN (s.trinfo t).toNat 0 7) = (match s.troupeOf t with | some _ => BitVec.ofNat 64 (t.tpos % 128) | none => 0) ∧
    BitVec.ofNat 64 (fieldN (s.trinfo t).toNat 8 7) = (match s.troupeOf t with | some tr => BitVec.ofNat 64 (tr.width % 128) | none => 0) := by
  unfold State.trinfo
  cases htr : s.troupeOf t with
  | none => exact ⟨by simp [fieldN], by simp [fieldN]⟩
  | some tr =>
    obtain ⟨hwidth, hskew, hpos⟩ := hsmall tr htr
    have hbroken : flag (tr.brokenAt t.slotNo) ≤ 1 := by cases tr.brokenAt t.slotNo <;> simp [flag]
    have hfirst : flag (decide (t.tpos = 0)) ≤ 1 := by cases decide (t.tpos = 0) <;> simp [flag]
    have hlt : flag (tr.brokenAt t.slotNo) * 2 ^ 26 + flag (decide (t.tpos = 0)) * 2 ^ 25 + 2 ^ 24 + tr.skew * 2 ^ 16 + tr.width * 2 ^ 8 + t.tpos <
        2 ^ 64 := by omega
    dsimp only
    rw [BitVec.toNat_ofNat, Nat.mod_eq_of_lt hlt, fieldN, fieldN]
    refine ⟨congrArg _ ?_, congrArg _ ?_⟩ <;> omega

/-- An instruction that writes what it reads of the state to x[d]. -/
theorem writes_completes {s : State} {g : Guard} {d : BitVec 5} {t : Thread} {f : State → Word} (hen : Enabled s .core g) (hports : PortsOk s [d])
    (hgive : give s (start s 4) d (f { s with focus := start s 4 }) = some t) :
    s.scalar .core g (do checkPorts [d]; let s ← get; writeX d (f s)) = retired s t 4 .no :=
  State.scalar_completes hen rfl ((M.bind_ok (s := { s with focus := start s 4 }) (checkPorts_ok hports)).trans
    ((M.bind_ok (M.get_run _)).trans (writeX_of_give hgive)))

theorem trpReads (s : State) (g : Guard) (d : BitVec 5) (t : Thread) (hen : Enabled s .core g) (hports : PortsOk s [d]) :
    (give s (start s 4) d (match s.troupeOf s.focus with | some _ => BitVec.ofNat 64 (s.focus.tpos % 128) | none => 0) = some t →
      (∀ tr, s.troupeOf s.focus = some tr → tr.width < 256 ∧ tr.skew < 256 ∧ s.focus.tpos < 256) → Completes (.trpPos g d) s t 4) ∧
    (give s (start s 4) d (match s.troupeOf s.focus with | some tr => BitVec.ofNat 64 (tr.width % 128) | none => 0) = some t →
      (∀ tr, s.troupeOf s.focus = some tr → tr.width < 256 ∧ tr.skew < 256 ∧ s.focus.tpos < 256) → Completes (.trpWidth g d) s t 4) := by
  refine ⟨fun hgive hsmall => ?_, fun hgive hsmall => ?_⟩
  · rw [← (s.trinfo_fields s.focus hsmall).1] at hgive
    exact congrArg _ (writes_completes (f := fun s => BitVec.ofNat 64 (fieldN (s.trinfo s.focus).toNat 0 7)) hen hports hgive)
  · rw [← (s.trinfo_fields s.focus hsmall).2] at hgive
    exact congrArg _ (writes_completes (f := fun s => BitVec.ofNat 64 (fieldN (s.trinfo s.focus).toNat 8 7)) hen hports hgive)

/-! ### TRP.SPLIT (R24, R207) -/

theorem splitTroupe_alone {s : State} (h : s.focus.troupe = none) : splitTroupe s = .ok () s := by
  simp only [splitTroupe, M.bind_run, M.get_run, h]
  rfl

/-- The leader's TRP.SPLIT, which no member has passed, marks its slot. -/
theorem splitTroupe_leader {s : State} {i : Nat} {tr : Troupe} (hi : s.focus.troupe = some i) (htr : lookup? i s.troupes = some tr)
    (hfirst : ∀ u ∈ s.parked, u.troupe = some i → u.slotNo ≤ s.focus.slotNo) : splitTroupe s =
      .ok () { s with troupes := insertKey i { tr with splitAt := some s.focus.slotNo } s.troupes } := by
  have htroupe : s.troupeOf s.focus = some tr := by rw [State.troupeOf, hi]; exact htr
  have hnone : (s.harts.filter fun u => decide (u.troupe = some i) && decide (s.focus.slotNo < u.slotNo)) = [] := by
    rw [List.filter_eq_nil_iff]
    intro u hu
    simp only [Bool.and_eq_true, decide_eq_true_iff, not_and, not_lt]
    rcases List.mem_cons.mp hu with rfl | hu
    · exact fun _ => le_rfl
    · exact hfirst u hu
  refine (M.bind_ok (M.get_run s)).trans ?_
  simp only [hi, htroupe]
  show (set ((s.harts.filter fun u => decide (u.troupe = some i) && decide (s.focus.slotNo < u.slotNo)).foldl (fun s u => s.splitOff u.id)
    { s with troupes := insertKey i { tr with splitAt := some s.focus.slotNo } s.troupes }) : M PUnit) s = _
  rw [hnone]
  rfl

/-- R24: a thread that splits off goes on alone; the troupe keeps its stream and its split. -/
theorem State.splitOff_focus {s : State} {h : HartId} {i : Nat} {tr : Troupe} (hf : s.focus.id = h) (hi : s.focus.troupe = some i)
    (htr : lookup? i s.troupes = some tr) : (s.splitOff h).focus = s.focus.leave ∧
      ∀ tr', lookup? i (s.splitOff h).troupes = some tr' → tr'.splitAt = tr.splitAt ∧ tr'.stream = tr.stream := by
  have hmap : (s.mapHart h Thread.leave).focus = s.focus.leave := by rw [State.mapHart_focus_id hf (by simpa using hf)]; rfl
  simp only [State.splitOff, State.hart_of_focus hf, hi, htr]
  refine ⟨hmap, fun tr' htr' => ?_⟩
  split at htr'
  · rw [lookup?_eraseKey_same] at htr'; cases htr'
  · rw [lookup?_insertKey_same] at htr'; cases htr'; exact ⟨rfl, rfl⟩

section
variable {s : State} {before : Thread} {i len : Nat} {tr : Troupe}

/-- The slot of the leader of a troupe that splits at this slot. -/
theorem State.slotDone_leader (hbefore : before.troupe = some i) (hi : s.focus.troupe = some i) (htr : lookup? i s.troupes = some tr)
    (hpos : s.focus.tpos = 0) (hsplit : tr.splitAt = some s.focus.slotNo) : s.slotDone before len =
      State.splitOff (State.mapFocus { s with troupes := insertKey i { tr with
        stream := tr.stream ++ [⟨before.pc, s.focus.iword, len, s.focus.pc, s.focus.taken, if before.rep.isNone then s.focus.rep else none⟩] } s.troupes }
        fun t => { t with slotNo := t.slotNo + 1 }) s.focus.id := by
  have htroupe : s.troupeOf s.focus = some tr := by rw [State.troupeOf, hi]; exact htr
  simp only [State.slotDone, hbefore, htroupe]
  rw [if_pos hpos]
  exact if_pos hsplit

/-- The leader leaves there, and the stream has one slot more. -/
theorem State.slotDone_split (hbefore : before.troupe = some i) (hi : s.focus.troupe = some i) (htr : lookup? i s.troupes = some tr)
    (hpos : s.focus.tpos = 0) (hsplit : tr.splitAt = some s.focus.slotNo) :
    (s.slotDone before len).focus.troupe = none ∧ (s.slotDone before len).focus.pc = s.focus.pc ∧
      ∀ tr', lookup? i (s.slotDone before len).troupes = some tr' → tr'.splitAt = tr.splitAt ∧ tr'.stream.length = tr.stream.length + 1 := by
  rw [State.slotDone_leader hbefore hi htr hpos hsplit]
  obtain ⟨hfocus, htroupes⟩ := State.splitOff_focus (i := i) (h := s.focus.id) (s := State.mapFocus { s with troupes := insertKey i { tr with
    stream := tr.stream ++ [⟨before.pc, s.focus.iword, len, s.focus.pc, s.focus.taken, if before.rep.isNone then s.focus.rep else none⟩] } s.troupes }
    fun t => { t with slotNo := t.slotNo + 1 }) rfl hi (lookup?_insertKey_same _ _ _)
  refine ⟨congrArg Thread.troupe hfocus, (congrArg Thread.pc hfocus).trans rfl, fun tr' htr' => ?_⟩
  obtain ⟨hsplit', hstream⟩ := htroupes tr' htr'
  exact ⟨hsplit', by rw [hstream]; simp⟩

end

/-- A pending load's result changes registers, queues and what is pending. -/
theorem Thread.commit_frame (t : Thread) (q : Pending) : t.commit q = { t with
    x := (t.commit q).x, f := (t.commit q).f, v := (t.commit q).v, outputs := (t.commit q).outputs, pend := (t.commit q).pend } := by
  unfold Thread.commit Thread.setX
  repeat' split
  all_goals rfl

theorem Thread.foldl_commit_frame (qs : List Pending) : ∀ t : Thread, qs.foldl Thread.commit t = { t with
    x := (qs.foldl Thread.commit t).x, f := (qs.foldl Thread.commit t).f, v := (qs.foldl Thread.commit t).v,
    outputs := (qs.foldl Thread.commit t).outputs, pend := (qs.foldl Thread.commit t).pend } := by
  induction qs with
  | nil => exact fun _ => rfl
  | cons q qs ih => intro t; rw [List.foldl_cons, ih, t.commit_frame q]

theorem Thread.age_frame (t : Thread) : t.age = { t with x := t.age.x, f := t.age.f, v := t.age.v, outputs := t.age.outputs, pend := t.age.pend } :=
  Thread.foldl_commit_frame _ _

/-- The leader that splits its troupe goes on alone after its slot. -/
theorem retired_split {s : State} {i : Nat} {tr : Troupe} (hi : s.focus.troupe = some i) (hpos : s.focus.tpos = 0) (hrep : s.focus.rep = none)
    (u : State) (hu : u = State.retire { s with
      focus := start s 4, troupes := insertKey i { tr with splitAt := some s.focus.slotNo } s.troupes } s.focus 4 .no true) :
    u.focus.troupe = none ∧ u.focus.pc = s.focus.pc + 4 ∧
      ∀ tr', lookup? i u.troupes = some tr' → tr'.splitAt = some s.focus.slotNo ∧ tr'.stream.length = tr.stream.length + 1 := by
  subst hu
  simp only [State.retire, State.moveRegion, hrep, Thread.advance]
  rw [State.countIssue_frame]
  have hage := ({ start s 4 with pc := (start s 4).npc } : Thread).age_frame
  obtain ⟨htroupe, hpc, hstream⟩ := State.slotDone_split (before := s.focus) (i := i) (len := 4)
    (s := State.mapFocus { s with focus := start s 4, troupes := insertKey i { tr with splitAt := some s.focus.slotNo } s.troupes }
      fun t => { ({ t with pc := t.npc } : Thread).age with wait := none, part := none, cycles := t.cycles + 1 })
    hi (by simp only [State.mapFocus]; rw [hage]; exact hi) (lookup?_insertKey_same _ _ _)
    (by simp only [State.mapFocus]; rw [hage]; exact hpos) (by simp only [State.mapFocus]; rw [hage]; rfl)
  refine ⟨htroupe, hpc.trans ?_, hstream⟩
  simp only [State.mapFocus]
  rw [hage]
  rfl

theorem troupeReadsAndSplit : Claim.TroupeReadsAndSplit := by
  refine ⟨trpReads, fun s g hen hnone => ?_, fun s g i tr hen hi htr hfirst hpos hrep => ?_⟩
  · exact congrArg _ (State.scalar_completes hen rfl (splitTroupe_alone hnone))
  · have hexec : exec (.trpSplit g) s = .next (State.retire { s with
        focus := start s 4, troupes := insertKey i { tr with splitAt := some s.focus.slotNo } s.troupes } s.focus 4 .no true) :=
      congrArg _ (State.scalar_ok hen rfl (splitTroupe_leader (s := { s with focus := start s 4 }) hi htr hfirst))
    exact ⟨_, hexec, retired_split hi hpos hrep _ rfl⟩

/-- Settles O7: troupes form, members leave, and TRP.POS, TRP.WIDTH and TRP.SPLIT. -/
theorem troupes : Obligations.Troupes := ⟨troupesForm, membersLeave, troupeReadsAndSplit⟩

end Sys2Proof.Machine
end

section
/-! SUPPORT. Barriers complete and supersteps end (R26 to R31, R43, R118). -/

namespace Sys2Proof.Machine

open Sys2Proof.Claim

/-! ### What an arrival covers (R27, R28, R31) -/

theorem Launch.readsAhead_iff (l : Launch) (superstep : Nat) (a : Word) : l.readsAhead superstep a = true ↔ Ahead l superstep a := by
  simp only [Launch.readsAhead, Ahead, Bool.and_eq_true, decide_eq_true_eq, and_assoc]
  have hdiv : a.toNat / 2 ^ 48 ≠ 0 ↔ 2 ^ 48 ≤ a.toNat := by omega
  rw [hdiv]

/-- An access that does not read ahead is not left out. -/
theorem ahead_eq_false {l : Launch} {ends : Bool} {superstep : Nat} {a : Word} (h : ends = false ∨ ¬ Ahead l superstep a) :
    (ends && l.readsAhead superstep a) = false := by
  rw [Bool.and_eq_false_iff, Bool.eq_false_iff (b := l.readsAhead superstep a), Ne, Launch.readsAhead_iff]
  exact h

/-- An access of a hart from before an arrival that is not covered. -/
def OpenAt (l : Launch) (ends : Bool) (h : HartId) (upto : Nat) (r : Req) : Bool :=
  r.isOf h && decide (r.grp < upto) && !r.covered && !(decide (r.cls ≠ .held) && (ends && l.readsAhead r.superstep r.addr))

/-- What the model's test of an arrival says, part by part. -/
theorem State.coveredBelow_parts {s : State} {l : Launch} {ends : Bool} {h : HartId} {upto : Nat} (hc : s.coveredBelow l ends h upto = true) :
    (∀ r ∈ s.buffered h ++ s.net, OpenAt l ends h upto r = false) ∧ (∀ d ∈ s.strided, ∀ r ∈ d.rest, OpenAt l ends h upto r = false) ∧
    (∀ c ∈ s.copies, (decide (c.hart = h) && decide (c.id < upto) && decide (c.done < c.len) &&
      !(c.data.isNone && (ends && l.readsAhead c.superstep c.src))) = false) ∧
    (∀ b ∈ s.blds, (decide (b.hart = h) && decide (b.id < upto) && !(ends && l.readsAhead b.superstep b.addr)) = false) ∧
    (∀ u ∈ s.units, ∀ st ∈ u.2.streams, ∀ b ∈ st.2.due, (decide (b.src = .hart h) && decide (b.grp < upto)) = false) := by
  unfold State.coveredBelow at hc
  iterate 5 rw [Bool.and_eq_true_iff] at hc
  obtain ⟨⟨⟨⟨⟨hnet, hstrided⟩, hcopies⟩, hblds⟩, hunits⟩, -⟩ := hc
  rw [Bool.not_eq_true', List.any_eq_false] at hnet hstrided hcopies hblds hunits
  refine ⟨fun r hr => Bool.eq_false_iff.mpr (hnet r hr), fun d hd r hr => ?_, fun c hc => Bool.eq_false_iff.mpr (hcopies c hc),
    fun b hb => Bool.eq_false_iff.mpr (hblds b hb), fun u hu st hst b hb => ?_⟩
  · exact Bool.eq_false_iff.mpr (List.any_eq_false.mp (Bool.eq_false_iff.mpr (hstrided d hd)) r hr)
  · have hstreams := List.any_eq_false.mp (Bool.eq_false_iff.mpr (hunits u hu)) st hst
    exact Bool.eq_false_iff.mpr (List.any_eq_false.mp (Bool.eq_false_iff.mpr hstreams) b hb)

/-- A request that is not open is covered, unless it reads ahead. -/
theorem not_open {l : Launch} {ends : Bool} {h : HartId} {upto : Nat} {r : Req} (hopen : OpenAt l ends h upto r = false) (hsrc : r.src = .hart h)
    (hgrp : r.grp < upto) (hin : r.cls = .held ∨ ends = false ∨ ¬ Ahead l r.superstep r.addr) :
    r.phase ≠ .sent ∧ r.phase ≠ .atHome ∧ ∀ c a, r.phase ≠ .refused c a := by
  have hout : (decide (r.cls ≠ .held) && (ends && l.readsAhead r.superstep r.addr)) = false := by
    rcases hin with hheld | hin
    · simp [hheld]
    · rw [ahead_eq_false hin, Bool.and_false]
  have hcovered : r.covered = true := by
    simp only [OpenAt, Req.isOf, hsrc, hgrp, hout, decide_true, Bool.true_and, Bool.not_false, Bool.and_true, Bool.not_eq_false'] at hopen
    exact hopen
  have hnot := mt r.covered_eq_false_iff.mpr (by rw [hcovered]; decide)
  simpa only [not_or, not_exists] using hnot

theorem arrivalsCoverEarlierAccesses : Claim.ArrivalsCoverEarlierAccesses := by
  intro s l ends h upto hc
  obtain ⟨hnet, hstrided, hcopies, hblds, hunits⟩ := State.coveredBelow_parts hc
  refine ⟨fun r hr hsrc hgrp hin => ?_, fun c hc hhart hid hin => ?_, fun b hb hhart hin => ?_, fun u hu st hst a ha hsrc => ?_⟩
  · refine not_open ?_ hsrc hgrp hin
    rcases List.mem_append.mp hr with hr | hr
    · exact hnet r hr
    · obtain ⟨d, hd, hr⟩ := List.mem_flatMap.mp hr
      exact hstrided d hd r hr
  · have hout : (c.data.isNone && (ends && l.readsAhead c.superstep c.src)) = false := by
      rcases hin with hdata | hin
      · simp [hdata]
      · rw [ahead_eq_false hin, Bool.and_false]
    have := hcopies c hc
    simpa [hhart, hid, hout] using this
  · have := hblds b hb
    simpa [hhart, ahead_eq_false hin] using this
  · have hdue : a.block ∈ st.2.due := by simp [Stream.due, ha]
    have := hunits u hu st hst _ hdue
    simpa [hsrc] using this

/-! ### Barriers complete (R26, R27, R30) -/

theorem Launch.endLevel_eq_three (l : Launch) {level : Nat} (h : level ≤ 3) : level = l.endLevel ↔ level = 3 ∧ l.info.fbid = 0 := by
  unfold Launch.endLevel
  split <;> omega

section
variable {s : State} {lid level group : Nat} {l : Launch}

/-- What completes a barrier below level 4 whose members have all arrived. -/
theorem exec_barrierComplete_ready (hl : s.launch? lid = some l) (hhas : l.hasLevel level = true) (hle : level ≤ 3)
    (hopen : l.closing = true → level ≠ l.endLevel) (hready : s.barrierReady l level (if level ≤ 2 then group else 0) = true) :
    exec (.barrierComplete lid level group) s = .next (if l.info.det && decide (level = l.endLevel) then
      s.mapLaunch lid fun l => { l with closing := true } else s.passBarrier l level (if level ≤ 2 then group else 0)) := by
  have hclosing : (l.closing && decide (level = l.endLevel)) = false := by
    cases hcl : l.closing with
    | false => rfl
    | true => simp [hopen hcl]
  have h4 : level ≠ 4 := by omega
  show execBarrierComplete lid level group s = _
  simp only [execBarrierComplete, hl, hhas, hclosing, hready, h4, decide_false, Bool.and_false, Bool.not_true, Bool.false_eq_true, if_false, if_true]

/-- R27: every member has arrived, and its arrival is covered. -/
theorem State.barrierReady_of_arrived (hne : s.groupOf l level group ≠ []) (harrived : ∀ t ∈ s.groupOf l level group,
    ∃ upto, t.arrival level = .arrived upto ∧ s.coveredBelow l (decide (level = l.endLevel)) t.id upto = true) :
    s.barrierReady l level group = true := by
  obtain ⟨t, ht⟩ := List.exists_mem_of_ne_nil _ hne
  obtain ⟨upto, ha, -⟩ := harrived t ht
  simp only [State.barrierReady, Bool.and_eq_true, Bool.or_eq_true, List.all_eq_true, List.any_eq_true, Bool.not_eq_true', List.isEmpty_eq_false_iff,
    decide_eq_true_eq]
  refine ⟨⟨hne, fun t ht => ?_⟩, .inr ⟨t, ht, by rw [ha]; exact Arrival.noConfusion⟩⟩
  obtain ⟨upto, ha, hcovered⟩ := harrived t ht
  simp only [State.arrivedAt, ha]
  exact hcovered

end

theorem barriersComplete : Claim.BarriersComplete := by
  intro s lid level group l hl hlo hhi hhas hdet hclosing hgroup members hne harrived
  have hend := l.endLevel_eq_three hhi
  have hgroup' : (if level ≤ 2 then group else 0) = group := by
    split
    · rfl
    · exact (hgroup (by omega)).symm
  have hready : s.barrierReady l level group = true := by
    refine State.barrierReady_of_arrived hne fun t ht => ?_
    simp only [hend]
    exact harrived t ht
  rw [exec_barrierComplete_ready hl hhas hhi (fun hcl heq => hclosing hcl (hend.mp heq).1 (hend.mp heq).2) (by rw [hgroup']; exact hready), hgroup',
    if_neg]
  · rfl
  · simp only [Bool.and_eq_true, decide_eq_true_eq, hend]
    exact fun ⟨hd, h3, hfb⟩ => hdet hd h3 hfb

/-! ### Supersteps end (R30, R118) -/

theorem supersteps_close {s : State} {lid : Nat} {l : Launch} (hl : s.launch? lid = some l) (hdet : l.info.det = true) (hfb : l.info.fbid = 0)
    (hopen : l.closing = false) (hne : s.groupOf l 3 0 ≠ [])
    (harrived : ∀ t ∈ s.groupOf l 3 0, ∃ upto, t.arrival 3 = .arrived upto ∧ s.coveredBelow l true t.id upto = true) :
    exec (.barrierComplete lid 3 0) s = .next (s.mapLaunch lid fun l => { l with closing := true }) := by
  have hend : 3 = l.endLevel := (l.endLevel_eq_three le_rfl).mpr ⟨rfl, hfb⟩
  have hready : s.barrierReady l 3 0 = true := State.barrierReady_of_arrived hne (by simpa only [← hend, decide_true] using harrived)
  rw [exec_barrierComplete_ready hl (by simp [Launch.hasLevel]) le_rfl (fun hcl => by rw [hopen] at hcl; cases hcl) hready]
  simp [hdet, ← hend]

theorem exec_barrierComplete_closed {s : State} {lid level : Nat} {l : Launch} (hl : s.launch? lid = some l) (hlevel : level = l.endLevel)
    (hclosing : l.closing = true) (hdue : s.heldDue l = []) (hblocks : s.blocksBusy lid = false) :
    exec (.barrierComplete lid level 0) s = .next (s.endStep l) := by
  have hhas : l.hasLevel level = true := by
    rw [hlevel, Launch.endLevel]
    split <;> simp_all [Launch.hasLevel]
  have hclosed : s.closed l = true := by simp [State.closed, hdue, State.launch?_lid hl, hblocks]
  show execBarrierComplete lid level 0 s = _
  simp only [execBarrierComplete, hl, hhas, hclosing, hclosed, ← hlevel, decide_true, Bool.and_self, Bool.not_true, Bool.false_eq_true, if_false, if_true]

theorem superstepsEnd : Claim.SuperstepsEnd := by
  intro s lid l hl hdet
  refine ⟨fun hfb hopen hne harrived => supersteps_close hl hdet hfb hopen hne harrived, fun hclosing hdue hblocks => ?_⟩
  have hlevel : (if l.info.fbid = 0 then 3 else 4) = l.endLevel := by
    unfold Launch.endLevel
    split <;> simp_all
  rw [exec_barrierComplete_closed hl hlevel hclosing hdue hblocks, hlevel, ← State.launch?_lid hl]
  rfl

/-- Settles O14: barriers complete, what arrivals cover, and the end of supersteps. -/
theorem barriersCloseAndSuperstepsEnd : Obligations.BarriersCloseAndSuperstepsEnd :=
  ⟨barriersComplete, arrivalsCoverEarlierAccesses, superstepsEnd⟩

end Sys2Proof.Machine
end

section
/-! SUPPORT. Requests of an instruction (R102, R106 to R108, R119, R123, R210 to R212): a hart whose operands have been taken sends
what the statements' `sent` says, and the accesses that the network and the core's buffers hold do not depend on these operands. -/

namespace Sys2Proof.Machine

open Sys2Proof.Claim

/-! ### What an instruction's operands change of its hart -/

/-- A hart that differs from another at most in what an instruction's operands change: the next pc, the port queues and the pending
loads. -/
def OperandsOnly (t₀ t : Thread) : Prop :=
  t = { t₀ with npc := t.npc, taken := t.taken, arrivals := t.arrivals, outputs := t.outputs, pend := t.pend }

theorem operands_start (s : State) (len : Nat) : OperandsOnly s.focus (start s len) := rfl

theorem OperandsOnly.trans {t₀ t t' : Thread} (h : OperandsOnly t₀ t) (h' : OperandsOnly t t') : OperandsOnly t₀ t' := by
  unfold OperandsOnly at h h' ⊢
  rw [h', h]

theorem operands_take {s : State} {t t' : Thread} {r : BitVec 5} {x : Word} (h : take s t r = some (x, t')) : OperandsOnly t t' := by
  have hframe := take_frame h
  unfold OperandsOnly
  rw [hframe]

theorem operands_claim {s : State} {t t' : Thread} {r : BitVec 5} (h : claim s t r = some t') : OperandsOnly t t' := by
  unfold claim at h
  split at h
  · cases h; rfl
  · split at h
    · cases h
    · split at h
      · cases h; rfl
      · dsimp only at h
        split at h <;> cases h
        rfl

section
variable {t₀ t : Thread} (h : OperandsOnly t₀ t)
include h

theorem OperandsOnly.id_eq : t.id = t₀.id := by rw [h]
theorem OperandsOnly.lid_eq : t.lid = t₀.lid := by rw [h]
theorem OperandsOnly.space_eq : t.space = t₀.space := by rw [h]
theorem OperandsOnly.acquires_eq : t.acquires = t₀.acquires := by rw [h]
theorem OperandsOnly.heldIdx_eq : t.heldIdx = t₀.heldIdx := by rw [h]
theorem OperandsOnly.counter_eq (c : BitVec 2) : t.counter c = t₀.counter c := by rw [h]; rfl

theorem OperandsOnly.released_eq (s : State) : ({ s with focus := t } : State).released t = s.released t₀ := by rw [h]; rfl

end

/-- The destination that the statements claim for a load is claimed. -/
theorem claimX_of_claim {s : State} {t t' : Thread} {d : BitVec 5} (h : claim s t d = some t') :
    claimX d { s with focus := t } = .ok () { s with focus := t' } := by
  unfold claim at h
  split at h
  · next h0 => cases h; subst h0; rfl
  · next h0 =>
    split at h
    · cases h
    · next hw =>
      have hclear : State.writers { s with focus := t } t (.x d) = [] := not_not.mp hw
      simp only [claimX, if_neg h0, M.bind_run, focus_run, scoreboard_clear (s := { s with focus := t }) hclear]
      split at h
      · next hp => cases h; simp only [hp]; rfl
      · next p hp =>
        simp only [hp]
        dsimp only at h
        split at h
        · next hroom =>
          cases h
          rcases hroom with hdue | hroom
          · have hnone : (t.pend.filter fun q => q.dest = .inl d) = [] := List.map_eq_nil_iff.mp hdue
            simp only [flushPort, M.bind_run, focus_run, hnone]
            simp [State.mapFocus, Thread.cancel]
          · rw [List.length_map] at hroom
            exact flushPort_room hroom
        · cases h

/-! ### Accesses do not depend on the issuing hart's operands -/

theorem State.reqKey?_focus (s : State) (t : Thread) (r : Req) : ({ s with focus := t } : State).reqKey? r = s.reqKey? r := by
  unfold State.reqKey?
  rw [State.keyAt?_focus]

theorem State.routerOf_focus (s : State) (t : Thread) : ({ s with focus := t } : State).routerOf = s.routerOf := by
  funext r
  unfold State.routerOf
  rw [State.reqKey?_focus]
  rfl

theorem State.spans_focus (s : State) (t : Thread) : ({ s with focus := t } : State).spans = s.spans := by
  funext src lid space physical a n
  unfold State.spans
  simp only [State.keyAt?_focus]

theorem State.reqSpans_focus (s : State) (t : Thread) : ({ s with focus := t } : State).reqSpans = s.reqSpans := by
  funext r
  unfold State.reqSpans
  simp only [State.reqKey_focus, State.spans_focus]
  rfl

theorem State.copySpans_focus (s : State) (t : Thread) : ({ s with focus := t } : State).copySpans = s.copySpans := by
  funext c
  unfold State.copySpans
  simp only [State.spans_focus]

theorem State.keyFor?_focus (s : State) (t u : Thread) (a : Word) : ({ s with focus := t } : State).keyFor? u a = s.keyFor? u a := by
  unfold State.keyFor?
  rw [State.keyAt?_focus]

theorem State.clsOf_focus (s : State) (t u : Thread) (a : Word) (forced holdable : Bool) :
    ({ s with focus := t } : State).clsOf u a forced holdable = s.clsOf u a forced holdable := by
  unfold State.clsOf
  rw [State.keyFor?_focus]
  rfl

theorem State.permitsFree_focus (s : State) (t : Thread) : ({ s with focus := t } : State).permitsFree = s.permitsFree := by
  funext h reqs
  unfold State.permitsFree
  rw [State.routerOf_focus]
  rfl

theorem State.oversized_focus (s : State) (t : Thread) : ({ s with focus := t } : State).oversized = s.oversized := by
  funext h m reqs
  unfold State.oversized
  rw [State.routerOf_focus]

theorem State.forward_focus (s : State) (t : Thread) : ({ s with focus := t } : State).forward = s.forward := by
  funext h key n
  unfold State.forward State.forwardByte
  simp only [State.reqSpans_focus, State.reqKey_focus]
  rfl

section
variable {s : State} {t : Thread} (ht : OperandsOnly s.focus t)
include ht

theorem State.bldSpans_operands : ({ s with focus := t } : State).bldSpans = s.bldSpans := by
  funext b
  have hlid : (({ s with focus := t } : State).hart b.hart).lid = (s.hart b.hart).lid ∧
      (({ s with focus := t } : State).hart b.hart).space = (s.hart b.hart).space := by
    unfold State.hart
    rw [ht.id_eq]
    split
    · exact ⟨ht.lid_eq, ht.space_eq⟩
    · exact ⟨rfl, rfl⟩
  unfold State.bldSpans
  rw [hlid.1, hlid.2, State.spans_focus]

theorem State.unsent_operands : ({ s with focus := t } : State).unsent = s.unsent := by
  funext h grp runs
  unfold State.unsent State.asyncBusy
  rw [State.reqSpans_focus, State.copySpans_focus, State.bldSpans_operands ht]
  rfl

theorem State.inOrder_operands : ({ s with focus := t } : State).inOrder = s.inOrder := by
  funext h reqs
  unfold State.inOrder
  rw [State.reqSpans_focus, State.unsent_operands ht]

/-- The requests that an instruction makes after its operands are those of the statements. -/
theorem State.mkReqs_operands (m : Manner) (asks : List (Word × Body)) :
    ({ s with focus := t } : State).mkReqs m (asks.map fun a => ⟨a.1, a.2⟩) = requests s m asks := by
  unfold State.mkReqs requests
  rw [List.zipIdx_map, List.map_map]
  refine List.map_congr_left fun a _ => ?_
  rw [ht]
  simp only [Function.comp, Prod.map, request, State.clsOf_focus]
  rfl

end

/-! ### Sending (R102, R106, R107, R119) -/

theorem requests_length (s : State) (m : Manner) (asks : List (Word × Body)) : (requests s m asks).length = asks.length := by
  simp [requests]

theorem requests_held (s : State) (m : Manner) (asks : List (Word × Body)) :
    ((requests s m asks).filter fun r => decide (r.cls = .held)).length = heldOf s m asks := by
  have hpair : (asks.zipIdx).map Prod.fst = asks := List.zipIdx_map_fst 0 asks
  rw [requests, heldOf, ← List.countP_eq_length_filter, List.countP_map]
  conv_rhs => rw [← hpair, List.countP_map]
  rfl

theorem inOrder_of_ordersKept {s : State} {m : Manner} {asks : List (Word × Body)} (h : OrdersKept s m asks) :
    ((m.buffered && hasBuffer s.focus.id) || s.inOrder s.focus.id (requests s m asks)) = true := by
  rcases h with ⟨hbuffered, hbuffer⟩ | hall
  · simp [hbuffered, hbuffer]
  · rw [Bool.or_eq_true]
    refine Or.inr (List.all_eq_true.mpr fun r hr => ?_)
    have := hall r hr
    by_cases hord : r.cls = .ordered <;> by_cases hwrites : r.body.writes = true <;> simp_all

theorem countUp_run {s : State} {c : BitVec 2} (h : s.focus.counter c ≠ 63) :
    countUp c s = .ok () (s.mapFocus fun t => t.setCounter c (t.counter c + 1)) := by
  simp only [countUp, M.bind_run, focus_run, await_run, h, ne_eq, not_false_eq_true, decide_true, if_true, setFocus_run]

theorem State.enter_focus (s : State) (h : HartId) (buffered : Bool) (r : Req) : (s.enter h buffered r).focus = s.focus := by
  unfold State.enter State.inject
  split
  · rfl
  · split <;> rfl

/-- The statements name the sending hart by the state that its requests enter one after another. -/
theorem foldl_enter_focus {h : HartId} (buffered : Bool) (rs : List Req) : ∀ {s : State}, s.focus.id = h →
    rs.foldl (fun s r => s.enter s.focus.id buffered r) s = rs.foldl (fun s r => s.enter h buffered r) s := by
  induction rs with
  | nil => exact fun _ => rfl
  | cons r rs ih =>
    intro s hid
    rw [List.foldl_cons, List.foldl_cons, hid, ih (by rw [State.enter_focus, hid])]

/-- A hart that may send its instruction's requests sends them. -/
theorem send_run {s : State} {t : Thread} {m : Manner} {asks : List (Word × Body)} (ht : OperandsOnly s.focus t) (hmay : MaySend s m asks) :
    send m (asks.map fun a => ⟨a.1, a.2⟩) none { s with focus := t } = .ok () (sent s t m asks) := by
  obtain ⟨hindex, hcount, hroom⟩ := hmay
  have hid : t.id = s.focus.id := ht.id_eq
  have hcounter : ∀ c, m.dc = some c → countUp c { s with focus := t } = .ok () { s with focus := t.setCounter c (t.counter c + 1) } :=
    fun c hdc => countUp_run (s := { s with focus := t }) (by rw [show t.counter c = _ from ht.counter_eq c]; exact hcount c hdc)
  have hheld : t.heldIdx + heldOf s m asks ≤ 4194304 := ht.heldIdx_eq ▸ hindex
  unfold send sent booked
  simp only [M.bind_run, M.get_run, State.mkReqs_operands ht, requests_held, requests_length, check_run, hheld, decide_true, if_true,
    Option.isSome_none, Bool.false_eq_true, if_false, hid, State.oversized_focus, State.permitsFree_focus, State.inOrder_operands ht]
  by_cases hover : s.oversized s.focus.id m (requests s m asks) = true
  · simp only [hover, if_true]
    cases hdc : m.dc with
    | none => rfl
    | some c => simp only [M.bind_run, hcounter c hdc]; rfl
  · obtain ⟨hpermits, hbuffer, horder⟩ := hroom.resolve_left hover
    have hgo : (s.permitsFree s.focus.id (requests s m asks) && ({ s with focus := t } : State).bufferRoom s.focus.id m.buffered asks.length &&
        ((m.buffered && hasBuffer s.focus.id) || s.inOrder s.focus.id (requests s m asks))) = true := by
      rw [inOrder_of_ordersKept horder, Bool.and_true, hpermits, Bool.true_and]
      exact hbuffer
    simp only [if_neg hover]
    rw [foldl_enter_focus (h := s.focus.id) m.buffered _ (by cases m.dc <;> exact hid)]
    cases hdc : m.dc with
    | none => simp only [M.bind_run, setFocus_run, M.modify_run, await_run, hgo, if_true]; rfl
    | some c => simp only [M.bind_run, hcounter c hdc, setFocus_run, M.modify_run, await_run, hgo, if_true]; rfl

end Sys2Proof.Machine
end

section
/-! SUPPORT. Remote scalar accesses (R102, R106, R108, R119, R123, R210 to R212): what they send, when releases and permits let them go
on, their classes, and the traps of bad addresses (R91, R105). -/

namespace Sys2Proof.Machine

open Sys2Proof.Claim

/-! ### Addresses (R91, R105, R139) -/

theorem offset_eq_effective (x : Word) (i : BitVec 7) (n : Nat) : offset x i n = effective x i n := by
  unfold offset effective BitVec.signExtend
  rw [BitVec.ofInt_add, BitVec.ofInt_mul, BitVec.ofInt_natCast, BitVec.ofInt_natCast, BitVec.ofNat_toNat, BitVec.setWidth_eq]

section
variable {s : State} {t : Thread} (ht : OperandsOnly s.focus t)
include ht

theorem placeRange_run (ea : Word) (n : Nat) (write : Bool) :
    placeRange ea n write { s with focus := t } =
      if rangeOk s.focus.id (s.launchOf s.focus) ea n write then .ok (placeOf s.focus.id (s.launchOf s.focus) ea) { s with focus := t }
      else .error (.trap ACCESS ea) { s with focus := t } := by
  have hlaunch : ({ s with focus := t } : State).launchOf t = s.launchOf s.focus := by
    unfold State.launchOf
    rw [ht.lid_eq]
    rfl
  simp only [placeRange, M.bind_run, M.get_run, check_run, hlaunch, show t.id = s.focus.id from ht.id_eq]
  cases rangeOk s.focus.id (s.launchOf s.focus) ea n write <;> rfl

theorem openGate_run (hopen : s.focus.acquires = []) : openGate { s with focus := t } = .ok () { s with focus := t } := by
  simp only [openGate, M.bind_run, focus_run, await_run, show t.acquires = [] from ht.acquires_eq.trans hopen, List.isEmpty_nil, if_true]

end

theorem aligned_run (ea : Word) (n : Nat) (s : State) :
    aligned ea n s = if ea.toNat % n = 0 then .ok () s else .error (.trap MISALIGN ea) s := by
  simp only [aligned, check_run, decide_eq_true_eq]

/-- An access whose address is good goes on with its place. -/
theorem inRange_run {α : Type} {s : State} {t : Thread} {ea : Word} {n : Nat} {write : Bool} (ht : OperandsOnly s.focus t)
    (hin : InRange s ea n n write) (k : Place → M α) :
    (do openGate; let p ← placeRange ea n write; aligned ea n; k p : M α) { s with focus := t } =
      k (placeOf s.focus.id (s.launchOf s.focus) ea) { s with focus := t } := by
  obtain ⟨hopen, hrange, halign⟩ := hin
  refine (M.bind_ok (openGate_run ht hopen)).trans ?_
  refine (M.bind_ok ((placeRange_run ht ea n write).trans (if_pos hrange))).trans ?_
  exact M.bind_ok ((aligned_run ea n _).trans (if_pos halign))

/-! ### Remote loads and stores -/

theorem loadRemote_run {s : State} {t : Thread} {ea : Word} {n : Nat} {dest : Dest} {c : BitVec 2} (ht : OperandsOnly s.focus t)
    (hhome : NotForwarded s ea n) (hmay : MaySend s (asLoad c) [(ea, .load n dest)]) :
    loadRemote ea n dest c { s with focus := t } = .ok () (sent s t (asLoad c) [(ea, .load n dest)]) := by
  have hkey : ({ s with focus := t } : State).keyFor? t ea = s.keyFor? s.focus ea := by
    rw [State.keyFor?_focus, ht]
    rfl
  have hsend := send_run ht hmay
  simp only [loadRemote, M.bind_run, M.get_run, hkey, show t.id = s.focus.id from ht.id_eq, State.forward_focus]
  cases hk : s.keyFor? s.focus ea with
  | none => exact hsend
  | some key => simp only [hhome key (by simp [hk])]; exact hsend

theorem loadX_remote {s : State} {t t' : Thread} {signed : Bool} {d : BitVec 5} {ea : Word} {n : Nat} {c : BitVec 2}
    (ht : OperandsOnly s.focus t) (hclaim : claim s t d = some t') (hin : InRange s ea n n false) (hremote : IsRemote s ea)
    (hhome : NotForwarded s ea n) (hmay : MaySend s (asLoad c) [(ea, .load n (.x d signed))]) :
    loadX signed d ea n c { s with focus := t } = .ok () (sent s t' (asLoad c) [(ea, .load n (.x d signed))]) := by
  have hrest := loadRemote_run (ht.trans (operands_claim hclaim)) hhome hmay
  refine (inRange_run ht hin _).trans ((M.bind_ok (claimX_of_claim hclaim)).trans ?_)
  cases hplace : placeOf s.focus.id (s.launchOf s.focus) ea with
  | loc key => exact absurd hplace (hremote key)
  | _ => exact hrest

theorem storeBytes_remote {s : State} {t : Thread} {release : Bool} {ea : Word} {bs : List Byte} {c : BitVec 2}
    (ht : OperandsOnly s.focus t) (hin : InRange s ea bs.length bs.length true) (hremote : IsRemote s ea)
    (hreleased : release = true → s.released s.focus = true) (hmay : MaySend s (asStore c release) [(ea, .store (bs.map some))]) :
    storeBytes release ea bs c { s with focus := t } = .ok () (sent s t (asStore c release) [(ea, .store (bs.map some))]) := by
  have hsend := send_run ht hmay
  have hrest : (match placeOf s.focus.id (s.launchOf s.focus) ea with
      | .loc key => writeLocal key (bs.map some)
      | _ => send (storeManner c release) [⟨ea, .store (bs.map some)⟩]) { s with focus := t } =
      .ok () (sent s t (asStore c release) [(ea, .store (bs.map some))]) := by
    cases hplace : placeOf s.focus.id (s.launchOf s.focus) ea with
    | loc key => exact absurd hplace (hremote key)
    | _ => exact hsend
  refine (inRange_run ht hin _).trans ?_
  cases release with
  | false => exact hrest
  | true =>
    refine (M.bind_ok (?_ : waitReleased { s with focus := t } = .ok () { s with focus := t })).trans hrest
    simp only [waitReleased, M.bind_run, M.get_run, await_run, ht.released_eq s, hreleased rfl, if_true]

/-- A bad address traps before anything else of the access, with itself as the fault address. -/
theorem badAddress_run {s : State} {t : Thread} {ea : Word} {n : Nat} {write : Bool} (ht : OperandsOnly s.focus t) (hopen : s.focus.acquires = [])
    (k : Place → M Unit) :
    (rangeOk s.focus.id (s.launchOf s.focus) ea n write = false →
      (do openGate; let p ← placeRange ea n write; aligned ea n; k p : M Unit) { s with focus := t } = .error (.trap ACCESS ea) { s with focus := t }) ∧
    (rangeOk s.focus.id (s.launchOf s.focus) ea n write = true → ea.toNat % n ≠ 0 →
      (do openGate; let p ← placeRange ea n write; aligned ea n; k p : M Unit) { s with focus := t } = .error (.trap MISALIGN ea) { s with focus := t }) := by
  constructor
  · intro hrange
    exact (M.bind_ok (openGate_run ht hopen)).trans (M.bind_error ((placeRange_run ht ea n write).trans (if_neg (by simp [hrange]))))
  · intro hrange halign
    exact (M.bind_ok (openGate_run ht hopen)).trans ((M.bind_ok ((placeRange_run ht ea n write).trans (if_pos hrange))).trans
      (M.bind_error ((aligned_run ea n _).trans (if_neg halign))))

/-! ### Instructions -/

/-- A 16-bit instruction whose effect changes more than the hart. -/
theorem State.compact_ok {s s' : State} {av : Avail} {m : M Unit} {cl : Closing} (ha : av.allows s.focus.id = true)
    (hm : m { s with focus := start s 2 } = .ok () s') : s.compact av m cl = s'.retire s.focus 2 cl true := by
  unfold State.compact; exact State.issue_ok ha rfl hm

theorem exec_load {e : (Guard → BitVec 5 → BitVec 5 → BitVec 7 → BitVec 2 → BitVec 2 → Instr) × Bool} (he : e ∈ loadOps)
    (g : Guard) (d a : BitVec 5) (i : BitVec 7) (sz c : BitVec 2) (s : State) :
    exec (e.1 g d a i sz c) s = .next (s.scalar .engine g (loadInt e.2 d a i (2 ^ sz.toNat) c)) := by
  simp only [loadOps, List.mem_cons, List.not_mem_nil, or_false] at he
  rcases he with rfl | rfl <;> rfl

theorem exec_store {e : (Guard → BitVec 5 → BitVec 5 → BitVec 7 → BitVec 2 → BitVec 2 → Instr) × Bool} (he : e ∈ storeOps)
    (g : Guard) (d a : BitVec 5) (i : BitVec 7) (sz c : BitVec 2) (s : State) :
    exec (e.1 g d a i sz c) s = .next (s.scalar .engine g (storeInt e.2 d a i (2 ^ sz.toNat) c)) := by
  simp only [storeOps, List.mem_cons, List.not_mem_nil, or_false] at he
  rcases he with rfl | rfl <;> rfl

theorem exec_halfLoad {e : (BitVec 5 → BitVec 5 → Instr) × Nat} (he : e ∈ halfLoads) (d a : BitVec 5) (s : State) :
    exec (e.1 d a) s = .next (s.compact .engine (loadInt true d a 0 e.2 0)) := by
  simp only [halfLoads, List.mem_cons, List.not_mem_nil, or_false] at he
  rcases he with rfl | rfl <;> rfl

theorem exec_halfStore {e : (BitVec 5 → BitVec 5 → Instr) × Nat} (he : e ∈ halfStores) (d a : BitVec 5) (s : State) :
    exec (e.1 d a) s = .next (s.compact .engine (storeInt false d a 0 e.2 0)) := by
  simp only [halfStores, List.mem_cons, List.not_mem_nil, or_false] at he
  rcases he with rfl | rfl <;> rfl

theorem effective_zero (x : Word) (n : Nat) : effective x 0 n = x := by
  simp [effective]

section
variable {s : State} {t t₁ t₂ : Thread} {d a : BitVec 5} {i : BitVec 7} {n : Nat} {c : BitVec 2} {x y : Word}
  (ht : OperandsOnly s.focus t) (hports : PortsOk s [a, d]) (hx : take s t a = some (x, t₁))
include ht hports hx

/-- The operands of a load come first. -/
theorem loadInt_operands (signed : Bool) :
    loadInt signed d a i n c { s with focus := t } = loadX signed d (effective x i n) n c { s with focus := t₁ } := by
  rw [← offset_eq_effective]
  refine (M.bind_ok (checkPorts_ok ?_)).trans (M.bind_ok (readX_of_take hx))
  rw [ht]
  exact hports

/-- The operands of a store come first. -/
theorem storeInt_operands (release : Bool) (hy : take s t₁ d = some (y, t₂)) :
    storeInt release d a i n c { s with focus := t } = storeBytes release (effective x i n) (leBytes n y.toNat) c { s with focus := t₂ } := by
  rw [← offset_eq_effective]
  refine (M.bind_ok (checkPorts_ok ?_)).trans ((M.bind_ok (readX_of_take hx)).trans (M.bind_ok (readX_of_take hy)))
  rw [ht]
  exact hports

theorem loadInt_remote {signed : Bool} (hclaim : claim s t₁ d = some t₂) (hin : InRange s (effective x i n) n n false)
    (hremote : IsRemote s (effective x i n)) (hhome : NotForwarded s (effective x i n) n)
    (hmay : MaySend s (asLoad c) [(effective x i n, .load n (.x d signed))]) :
    loadInt signed d a i n c { s with focus := t } = .ok () (sent s t₂ (asLoad c) [(effective x i n, .load n (.x d signed))]) :=
  (loadInt_operands ht hports hx signed).trans (loadX_remote (ht.trans (operands_take hx)) hclaim hin hremote hhome hmay)

theorem storeInt_remote {release : Bool} (hy : take s t₁ d = some (y, t₂)) (hin : InRange s (effective x i n) n n true)
    (hremote : IsRemote s (effective x i n)) (hreleased : release = true → s.released s.focus = true)
    (hmay : MaySend s (asStore c release) [(effective x i n, .store ((leBytes n y.toNat).map some))]) :
    storeInt release d a i n c { s with focus := t } =
      .ok () (sent s t₂ (asStore c release) [(effective x i n, .store ((leBytes n y.toNat).map some))]) := by
  refine (storeInt_operands ht hports hx release hy).trans
    (storeBytes_remote ((ht.trans (operands_take hx)).trans (operands_take hy)) ?_ hremote hreleased hmay)
  rwa [length_leBytes]

end

/-- R102, R106, R108, R119, R210 to R212: remote scalar loads and stores send their requests. -/
theorem remoteAccessesSendRequests : Claim.RemoteAccessesSendRequests := by
  refine ⟨fun e he s g d a i sz c x t₁ t₂ hen hports hx hclaim hin hremote hhome hmay => ?_,
    fun e he s g d a i sz c x y t₁ t₂ hen hports hx hy hin hremote hreleased hmay => ?_,
    fun e he s d a x t₁ t₂ hports hx hclaim hin hremote hhome hmay => ?_,
    fun e he s d a x y t₁ t₂ hports hx hy hin hremote hmay => ?_⟩
  · exact (exec_load he ..).trans (congrArg _ (State.scalar_ok hen rfl
      (loadInt_remote (operands_start s 4) hports hx hclaim hin hremote hhome hmay)))
  · exact (exec_store he ..).trans (congrArg _ (State.scalar_ok hen rfl
      (storeInt_remote (operands_start s 4) hports hx hy hin hremote hreleased hmay)))
  · have hrun := loadInt_remote (i := 0) (n := e.2) (c := 0) (signed := true) (operands_start s 2) hports hx hclaim
    rw [effective_zero] at hrun
    exact (exec_halfLoad he ..).trans (congrArg _ (State.compact_ok (Avail.engine_allows _) (hrun hin hremote hhome hmay)))
  · have hrun := storeInt_remote (i := 0) (n := e.2) (c := 0) (release := false) (operands_start s 2) hports hx hy
    rw [effective_zero] at hrun
    exact (exec_halfStore he ..).trans (congrArg _ (State.compact_ok (Avail.engine_allows _) (hrun hin hremote (by simp) hmay)))

/-- R91, R105: what a bad address does to a scalar load or store. -/
theorem badAddressesTrap : Claim.BadAddressesTrap := by
  intro e he s g d a i sz c x t₁ hen hports hopen hx hdata n ea
  rcases List.mem_append.mp he with hload | hstore
  · obtain ⟨e₀, hmem, rfl⟩ := List.mem_map.mp hload
    have hrun (signed : Bool) := loadInt_operands (i := i) (n := n) (c := c) (operands_start s 4) hports hx signed
    obtain ⟨haccess, hmisalign⟩ := badAddress_run (s := s) (ea := ea) (n := n) (write := false) ((operands_start s 4).trans (operands_take hx)) hopen _
    have hexec := exec_load hmem g d a i sz c s
    exact ⟨fun hrange => hexec.trans (congrArg _ (State.scalar_trap hen rfl ((hrun e₀.2).trans (haccess hrange)))),
      fun hrange halign => hexec.trans (congrArg _ (State.scalar_trap hen rfl ((hrun e₀.2).trans (hmisalign hrange halign))))⟩
  · obtain ⟨e₀, hmem, rfl⟩ := List.mem_map.mp hstore
    obtain ⟨⟨y, t₂⟩, hy⟩ := hdata rfl
    have hrun (release : Bool) := storeInt_operands (i := i) (n := n) (c := c) (operands_start s 4) hports hx release hy
    obtain ⟨haccess, hmisalign⟩ := badAddress_run (s := s) (ea := ea) (n := (leBytes n y.toNat).length) (write := true)
      (((operands_start s 4).trans (operands_take hx)).trans (operands_take hy)) hopen _
    have hlen : (leBytes n y.toNat).length = n := length_leBytes n y.toNat
    have hexec := exec_store hmem g d a i sz c s
    exact ⟨fun hrange => hexec.trans (congrArg _ (State.scalar_trap hen rfl ((hrun e₀.2).trans (haccess (hlen.symm ▸ hrange))))),
      fun hrange halign => hexec.trans (congrArg _ (State.scalar_trap hen rfl ((hrun e₀.2).trans (hmisalign (hlen.symm ▸ hrange) (hlen.symm ▸ halign)))))⟩

end Sys2Proof.Machine
end

section
/-! SUPPORT. When releases and permits let accesses go on, home routers, and the classes of accesses (R31, R106, R108, R123). -/

namespace Sys2Proof.Machine

open Sys2Proof.Claim

/-! ### Releases and permits (R106, R123) -/

theorem State.released_iff (s : State) (t : Thread) : s.released t = true ↔ t.unack = 0 ∧
    ∀ r ∈ s.net, r.src = .hart t.id → r.body.returns = true →
      r.cls = .held ∧ r.phase ≠ .sent ∧ r.phase ≠ .atHome ∧ ∀ c a, r.phase ≠ .refused c a := by
  have hcovered (r : Req) : r.covered = true ↔ r.phase ≠ .sent ∧ r.phase ≠ .atHome ∧ ∀ c a, r.phase ≠ .refused c a := by
    rw [← Bool.not_eq_false, Req.covered_eq_false_iff]
    simp only [not_or, not_exists, ne_eq]
  unfold State.released
  rw [Bool.and_eq_true, decide_eq_true_eq, List.all_eq_true]
  refine and_congr_right fun _ => forall₂_congr fun r _ => ?_
  rw [Bool.or_eq_true, Bool.not_eq_true', Bool.and_eq_false_iff, Bool.and_eq_true, decide_eq_true_eq, hcovered, Req.isOf, decide_eq_false_iff_not,
    ← Bool.not_eq_true]
  tauto

theorem State.permitsFree_iff (s : State) {h : HartId} (reqs : List Req) (hlimited : limited h = true) :
    s.permitsFree h reqs = true ↔ (s.permitted h).length + reqs.length ≤ 16 ∧
      ∀ r ∈ reqs, ∀ k, s.routerOf r = some k → (s.permitted h ++ reqs).countP (fun q => decide (s.routerOf q = some k)) ≤ 4 := by
  simp only [State.permitsFree, hlimited, Bool.not_true, Bool.false_or, Bool.and_eq_true, decide_eq_true_eq, List.length_append, List.all_eq_true,
    Bool.or_eq_true, Option.isNone_iff_eq_none, List.countP_eq_length_filter]
  refine and_congr_right fun _ => forall₂_congr fun r _ => ?_
  cases hr : s.routerOf r with
  | none => simp
  | some k => simp

/-! ### Home routers (R106) -/

theorem State.homeRouter_tcm (s : State) (c : CoreId) (_hrow : c.row < 80) (_hcol : c.col < 64) :
    s.homeRouter (.tcm c) = c.die * 256 + (8 * (c.row / 8) + c.col / 8) := by
  simp only [State.homeRouter, Home.router, Home.port]
  omega

theorem State.homeRouter_slice (s : State) {d sl : Nat} (_hsl : sl < 16) : s.homeRouter (.slice d sl) = d * 256 + (80 + sl / 2) := by
  simp only [State.homeRouter, Home.router, Home.port]
  omega

theorem State.homeRouter_channel (s : State) (ch : Nat) : s.homeRouter (.channel ch) = stackDie (ch / 32) * 256 + (88 + ch / 32 % 2) := by
  simp only [State.homeRouter, Home.router, Home.port]
  omega

theorem State.homeRouter_remote {s : State} {dev p : Nat} (hp : s.exitPort dev = some p) : s.homeRouter (.remote dev) = (32 + p / 32) * 256 + 88 := by
  simp only [State.homeRouter, hp, Option.getD_some, Nat.reducePow]

theorem stackDie_lt {k : Nat} (hk : k < 32) : stackDie k < 32 := by
  unfold stackDie
  split <;> omega

/-- A die has two stacks. -/
theorem stackDie_pair_inj {k k' : Nat} (h : stackDie k = stackDie k') (hparity : k % 2 = k' % 2) : k = k' := by
  unfold stackDie at h
  split at h <;> split at h <;> omega

theorem homeRouters_nodup (s : State) {c : CoreId} {d sl ch dev p : Nat} (hrow : c.row < 80) (hcol : c.col < 64) (_hdie : c.die < 32) (_hd : d < 32)
    (hsl : sl < 16) (hch : ch < 1024) (hp : s.exitPort dev = some p) :
    [s.homeRouter (.tcm c), s.homeRouter (.slice d sl), s.homeRouter (.channel ch), s.homeRouter (.remote dev)].Nodup := by
  have hstack : stackDie (ch / 32) < 32 := stackDie_lt (by omega)
  rw [s.homeRouter_tcm c hrow hcol, s.homeRouter_slice hsl, s.homeRouter_channel, State.homeRouter_remote hp]
  simp only [List.nodup_cons, List.mem_cons, List.not_mem_nil, or_false, not_or, not_false_eq_true, List.nodup_nil, and_true]
  omega

/-- R106, R123: when a release goes on, when permits are free, and which homes share a router. -/
theorem releasesAndPermitsAreRight : Claim.ReleasesAndPermitsAreRight := by
  refine ⟨State.released_iff, fun s h reqs hlimited => s.permitsFree_iff reqs hlimited, ?_, ?_, ?_, ?_, ?_⟩
  · intro s c c' hdie hdie' hrow hrow' hcol hcol'
    rw [s.homeRouter_tcm c hrow hcol, s.homeRouter_tcm c' hrow' hcol']
    omega
  · intro s d sl d' sl' hd hd' hsl hsl'
    rw [s.homeRouter_slice hsl, s.homeRouter_slice hsl']
    omega
  · intro s ch ch' hch hch'
    rw [s.homeRouter_channel, s.homeRouter_channel]
    exact ⟨fun h => stackDie_pair_inj (by omega) (by omega), fun h => by rw [h]⟩
  · intro s dev dev' p p' hp hp'
    rw [State.homeRouter_remote hp, State.homeRouter_remote hp']
    omega
  · intro s c d sl ch dev p hdie hrow hcol hd hsl hch hp
    exact homeRouters_nodup s hrow hcol hdie hd hsl hch hp

/-! ### Classes (R31, R108) -/

theorem State.clsOf_own (s : State) (t : Thread) {a : Word} (forced holdable : Bool) (ha : a.toNat < 2 ^ 48) :
    s.clsOf t a forced holdable = if forced then .ordered else .bulk := by
  unfold State.clsOf
  rw [if_pos (Nat.div_eq_of_lt ha)]

theorem State.clsOf_held (s : State) {t : Thread} {a : Word} {forced holdable : Bool} (ha : 2 ^ 48 ≤ a.toNat) (hdet : s.isDet t = true)
    (hhold : holdable = true) : s.clsOf t a forced holdable = .held := by
  unfold State.clsOf
  rw [if_neg (by omega), if_pos (by simp [hdet, hhold])]

/-- What cannot be held is ordered when it is forced, else by its home. -/
theorem State.clsOf_free (s : State) {t : Thread} {a : Word} (forced : Bool) {holdable : Bool} (ha : 2 ^ 48 ≤ a.toNat)
    (hfree : s.isDet t = false ∨ holdable = false) :
    s.clsOf t a forced holdable = if forced then .ordered else match t.id with
      | .overlay _ => .bulk
      | _ => if ((s.keyFor? t a).bind dieOfKey) = some t.id.die then .ordered else .bulk := by
  unfold State.clsOf
  exact (if_neg (by omega)).trans (if_neg (by rcases hfree with h | h <;> simp [h]))

/-- R31, R108: the class of an access. -/
theorem accessClasses : Claim.AccessClasses := by
  intro s t a forced holdable
  refine ⟨s.clsOf_own t forced holdable, s.clsOf_held, ?_, ?_, ?_⟩
  · rintro ha hfree rfl
    exact s.clsOf_free true ha hfree
  · rintro ha hfree rfl hoverlay
    rw [s.clsOf_free false ha hfree]
    cases hid : t.id with
    | overlay ch => exact absurd hid (hoverlay ch)
    | _ => rfl
  · rintro rfl ⟨ch, hid⟩
    rcases Nat.lt_or_ge a.toNat (2 ^ 48) with ha | ha
    · exact s.clsOf_own t false holdable ha
    · rw [s.clsOf_free false ha (.inl (by simp [State.isDet, hid]))]
      simp [hid]

/-- Settles O9: remote loads and stores send their requests; releases, permits and classes; bad addresses trap. -/
theorem remoteAccesses : Obligations.RemoteAccesses :=
  ⟨remoteAccessesSendRequests, releasesAndPermitsAreRight, accessClasses, badAddressesTrap⟩

end Sys2Proof.Machine
end

section
/-! SUPPORT. Fabric groups count their arrivals (R364, R392). -/

namespace Sys2Proof.Machine

open Sys2Proof.Claim

/-! ### An arrival leaves for FBHOME (R364) -/

section
variable {s : State} {lid : Nat} {l : Launch} (hl : s.launch? lid = some l)
include hl

/-- A ready level-4 barrier of a fabric group sends its arrival. -/
theorem exec_barrierComplete_fabric (hfb : l.info.fbid ≠ 0) (hclosing : l.closing = false) (hsent : l.fbSent = false)
    (hready : s.barrierReady l 4 0 = true) : exec (.barrierComplete lid 4 0) s = .next (s.sendArrival l) := by
  have hhas : l.hasLevel 4 = true := by simp [Launch.hasLevel, hfb]
  show execBarrierComplete lid 4 0 s = _
  simp [execBarrierComplete, hl, hhas, hclosing, hsent, hready]

theorem State.sendArrival_far (hhome : l.info.fbhome ≠ Config.deviceId.toNat) :
    (s.exitPort l.info.fbhome = none → s.sendArrival l = s) ∧
    (∀ p, s.exitPort l.info.fbhome = some p → s.sendArrival l =
      ((s.stamp (injDispatch l.arrivalDie)).2.mapLaunch lid fun l => { l with fbSent := true, fbVia := some p })) := by
  refine ⟨fun hport => ?_, fun p hport => ?_⟩
  · simp only [State.sendArrival, if_neg hhome, hport]
  · simp only [State.sendArrival, if_neg hhome, hport, State.launch?_lid hl]

/-- What the acknowledgement of an arrival does (R364). -/
theorem exec_fbAck (hsent : l.fbSent = true) :
    (l.fbAcked = true → exec (.fbAck lid) s = .next (s.groupAcked l s.clk)) ∧
    (l.fbAcked = false → l.info.fbhome = Config.deviceId.toNat → exec (.fbAck lid) s = .next s) ∧
    (l.fbAcked = false → l.info.fbhome ≠ Config.deviceId.toNat →
      exec (.fbAck lid) s = .next (if Config.fbRefused s.nextId = true then { s with nextId := s.nextId + 1 }.abortWith lid 0x0B 0
        else { s with nextId := s.nextId + 1 }.groupAcked l (Config.remoteTime s.nextId))) := by
  refine ⟨fun hacked => ?_, fun hacked hhome => ?_, fun hacked hhome => ?_⟩ <;> show execFbAck lid s = _
  · simp [execFbAck, hl, hsent, hacked]
  · simp [execFbAck, hl, hsent, hacked, hhome]
  · simp [execFbAck, hl, hsent, hacked, hhome]

end

/-! ### FBHOME counts (R364, R392) -/

theorem exec_fbArrival {s : State} (dev fbid fbn occ count : Nat) (hports : s.mc.fports ≠ 0) :
    exec (.fbArrival dev fbid fbn occ count) s =
      .next ((({ s with nextId := s.nextId + 1 }.receiveTime injQueue (Config.remoteTime s.nextId)).countArrival dev fbid fbn occ count).2) :=
  congrArg _ (if_neg hports)

section
variable {s : State} {dev fbid fbn occ count : Nat}

theorem State.countArrival_first (hnone : s.fbRounds.find? (fun q => decide (q.fbid = fbid) && decide (q.occ = occ)) = none)
    (hroom : s.fbRounds.length < 4096) (hcount : count < fbn) :
    (s.countArrival dev fbid fbn occ count).2 = { s with fbRounds := s.fbRounds ++ [⟨fbid, occ, fbn, count, [dev]⟩] } := by
  simp only [State.countArrival, hnone, if_neg (Nat.not_le.mpr hroom), if_neg (Nat.not_le.mpr hcount)]

variable {q : FbRound} (hround : s.fbRounds.find? (fun q => decide (q.fbid = fbid) && decide (q.occ = occ)) = some q) (hfbn : q.fbn = fbn)
include hround hfbn

theorem State.countArrival_next (hcount : q.got + count < fbn) :
    (s.countArrival dev fbid fbn occ count).2 = { s with
      fbRounds := s.fbRounds.map fun p => if (decide (p.fbid = fbid) && decide (p.occ = occ)) = true then { q with got := q.got + count, devs := q.devs ++ [dev] } else p } := by
  simp only [State.countArrival, hround, hfbn, ne_eq, not_true_eq_false, if_false, if_neg (Nat.not_le.mpr hcount)]

theorem State.countArrival_last (hcount : fbn ≤ q.got + count) (hother : Config.deviceId.toNat ∉ q.devs ++ [dev]) :
    (s.countArrival dev fbid fbn occ count).2 = { s with
      fbRounds := s.fbRounds.filter fun p => !(decide (p.fbid = fbid) && decide (p.occ = occ)) } := by
  simp only [State.countArrival, hround, hfbn, ne_eq, not_true_eq_false, if_false, if_pos hcount, if_neg hother]

end

/-- R364, R392: a fabric group's arrivals. -/
theorem fabricGroups : Claim.FabricGroups := by
  refine ⟨?_, ?_, ?_, ?_⟩
  · intro s lid l hl hfb hclosing hsent hready hhome
    obtain ⟨hshut, hopen⟩ := State.sendArrival_far hl hhome
    rw [exec_barrierComplete_fabric hl hfb hclosing hsent hready]
    exact ⟨fun hport => congrArg _ (hshut hport), fun p hport => congrArg _ (hopen p hport)⟩
  · intro s dev fbid fbn occ count heard hports hnone hroom hcount
    rw [exec_fbArrival dev fbid fbn occ count hports]
    exact congrArg _ (State.countArrival_first (s := heard) hnone hroom hcount)
  · intro s dev fbid fbn occ count q heard hports hround hfbn
    rw [exec_fbArrival dev fbid fbn occ count hports]
    exact ⟨fun hcount => congrArg _ (State.countArrival_next (s := heard) hround hfbn hcount),
      fun hcount hother => congrArg _ (State.countArrival_last (s := heard) hround hfbn hcount hother)⟩
  · intro s lid l hl hsent
    have hacked := exec_fbAck hl hsent
    obtain rfl := State.launch?_lid hl
    exact hacked

end Sys2Proof.Machine
end

section
/-! SUPPORT. Held accesses are accepted by their homes (R31, R118, R122). -/

namespace Sys2Proof.Machine

open Sys2Proof.Claim

/-! ### Requests by tag -/

theorem State.req?_id {s : State} {id : Nat} {r : Req} (h : s.req? id = some r) : r.id = id := by
  simpa using List.find?_some h

theorem State.req?_mem {s : State} {id : Nat} {r : Req} (h : s.req? id = some r) : r ∈ s.net := List.mem_of_find?_eq_some h

/-- A replaced request is the one that its tag names. -/
theorem State.req?_putReq {s : State} {r r' : Req} (hr : s.req? r'.id = some r) :
    (s.putReq r').req? r'.id = some r' := by
  have hfind : s.net.find? ((fun q => decide (q.id = r'.id)) ∘ fun q => if q.id = r'.id then r' else q) = some r := by
    rw [← hr]
    refine congrArg (List.find? · s.net) ?_
    funext q
    by_cases hq : q.id = r'.id <;> simp [hq]
  have hid := State.req?_id hr
  simp only [State.req?, State.putReq, List.find?_map, hfind, Option.map_some, hid, if_true]

theorem State.req?_drop (s : State) (id : Nat) : (s.drop id).req? id = none := by
  simp [State.req?, State.drop, List.find?_eq_none]

/-! ### What an acknowledgement changes (R102, R122, R123) -/

/-- A state that differs from another at most in its harts. -/
def OnlyHarts (s u : State) : Prop := u = { s with focus := u.focus, parked := u.parked }

theorem OnlyHarts.refl (s : State) : OnlyHarts s s := rfl

theorem OnlyHarts.trans {s u v : State} (h : OnlyHarts s u) (h' : OnlyHarts u v) : OnlyHarts s v := by
  unfold OnlyHarts at h h' ⊢
  rw [h', h]

theorem State.onlyHarts_mapHart (s : State) (h : HartId) (f : Thread → Thread) : OnlyHarts s (s.mapHart h f) := s.setHart_frame _

theorem State.onlyHarts_acknowledge (s : State) (r : Req) : OnlyHarts s (s.acknowledge r) := by
  unfold State.acknowledge
  split
  · refine OnlyHarts.trans ?_ (State.onlyHarts_mapHart _ _ _)
    split
    · split
      · exact OnlyHarts.refl s
      · exact State.onlyHarts_mapHart _ _ _
    · exact OnlyHarts.refl s
  · exact OnlyHarts.refl s

/-- The hart of an acknowledged request before its store and acquire are counted off. -/
def State.counted (s : State) (h : HartId) (r : Req) : State :=
  match r.dc with
  | some c => if s.groupCounts r then s else s.countDown h c
  | none => s

theorem State.acknowledge_hart {s : State} {r : Req} {h : HartId} (hsrc : r.src = .hart h) :
    (s.acknowledge r).hart h = { (s.counted h r).hart h with
      unack := if r.counted then ((s.counted h r).hart h).unack - 1 else ((s.counted h r).hart h).unack
      acquires := if r.acquire then ((s.counted h r).hart h).acquires.filter fun n => n ≠ r.grp else ((s.counted h r).hart h).acquires } := by
  simp only [State.acknowledge, hsrc]
  exact State.hart_mapHart_same (s := s.counted h r) (State.hart_id _ h)

theorem State.hart_countDown (s : State) (h : HartId) (c : BitVec 2) :
    (s.countDown h c).hart h = ((s.hart h).countDown c).settle s.nextId :=
  State.hart_mapHart_same (s.hart_id h)

theorem Thread.counter_setCounter (t : Thread) (c : BitVec 2) (n : BitVec 6) : (t.setCounter c n).counter c = n := by
  simp only [Thread.counter, Thread.setCounter]
  simp [Array.getD, c.isLt]

theorem State.counted_unack (s : State) (h : HartId) (r : Req) : ((s.counted h r).hart h).unack = (s.hart h).unack := by
  unfold State.counted
  split
  · split
    · rfl
    · rw [State.hart_countDown]
      rfl
  · rfl

theorem State.counted_counter {s : State} {h : HartId} {r : Req} {c : BitVec 2} (hdc : r.dc = some c) (hlast : s.groupCounts r = false)
    (hcount : (s.hart h).counter c ≠ 0) :
    ((s.counted h r).hart h).counter c = (s.hart h).counter c - 1 ∧ ((s.counted h r).hart h).latch = true := by
  have hhart : (s.counted h r).hart h = ((s.hart h).countDown c).settle s.nextId := by
    simp only [State.counted, hdc, hlast, Bool.false_eq_true, if_false, State.hart_countDown]
  rw [hhart]
  refine ⟨?_, rfl⟩
  refine (Thread.counter_setCounter ..).trans (if_neg hcount)

/-! ### Times that an injector hears (R111) -/

theorem timeMax_eq_laterTime (a b : BitVec 56) : timeMax a b = laterTime a b := by
  simp only [timeMax, timeLt, laterTime, Bool.and_eq_true, decide_eq_true_eq]

theorem State.injector_receiveTime (s : State) (i : BitVec 18) (time : BitVec 56) :
    ((s.receiveTime i time).injector i).g = laterTime (s.injector i).g time := by
  simp only [State.injector, State.receiveTime, lookupD, lookup?_insertKey_same, Option.getD_some, timeMax_eq_laterTime]

/-! ### Acceptance (R118) -/

/-- What an accepted access has become. -/
def State.accepted (s : State) (r : Req) (key : Nat) (spill : Bool) : Req :=
  { s.translated r key with phase := .accepted spill, dc := none, dcn := r.dc, counted := false, acquire := false }

section
variable {s : State} {r r₀ : Req} {key : Nat} {spill : Bool} {time : BitVec 56}

theorem State.accept_req (hr : s.req? r.id = some r₀) : (s.accept r key spill time).req? r.id = some (s.accepted r key spill) := by
  unfold State.accept
  split
  · rw [s.onlyHarts_acknowledge r]
    exact State.req?_putReq (s := ({ s with focus := _, parked := _ } : State).receiveTime _ time) (r' := s.accepted r key spill) hr
  · exact State.req?_putReq (r' := s.accepted r key spill) hr

theorem State.accept_mem : (s.accept r key spill time).mem = s.mem := by
  unfold State.accept
  split
  · exact State.acknowledge_mem s r
  · rfl

theorem State.accept_hart {h : HartId} (hsrc : r.src = .hart h) : (s.accept r key spill time).hart h = (s.acknowledge r).hart h := by
  unfold State.accept
  simp only [hsrc]
  rfl

theorem State.accept_injector {h : HartId} (hsrc : r.src = .hart h) :
    ((s.accept r key spill time).injector (injOf h)).g = laterTime (s.injector (injOf h)).g time := by
  have hinj : (s.acknowledge r).injector (injOf h) = s.injector (injOf h) := by
    rw [s.onlyHarts_acknowledge r]
    rfl
  unfold State.accept
  simp only [hsrc]
  rw [← hinj]
  exact State.injector_receiveTime _ _ _

end

/-- A module's window changes only what an access asks for. -/
theorem State.reduced_frame (s : State) (r : Req) (key : Nat) : s.reduced r key = { r with body := (s.reduced r key).body } := by
  unfold State.reduced
  split
  · dsimp only
    split
    · split <;> rfl
    · rfl
  · rfl

section
variable {s : State} {id key : Nat} {r : Req} (hr : s.req? id = some r) (hheld : r.cls = .held) (hsent : r.phase = .sent)
  (hkey : s.resolve r = .hit key) (hopen : s.excludedIn r key = false)
include hr hheld hsent hkey hopen

theorem exec_holdAccept_far (hfar : 2 ^ 50 ≤ key) :
    (s.exitPort (remoteParts key).1 = none → exec (.holdAccept id) s = .next s) ∧
    (∀ p, s.exitPort (remoteParts key).1 = some p → Config.remoteStatus (remoteParts key).1 (remoteParts key).2 s.nextId = 0 →
      exec (.holdAccept id) s = .next ({ s with nextId := s.nextId + 1 }.accept { s.reduced r key with via := some p } key false
        (Config.remoteTime s.nextId))) := by
  have hfault (n : Nat) (h : n = 0) : remoteFault n = none := by rw [h]; rfl
  show (_ → execHoldAccept id s = _) ∧ (∀ p, _ → _ → execHoldAccept id s = _)
  unfold execHoldAccept
  split
  · next q hq =>
    obtain rfl : q = r := Option.some.inj (hq.symm.trans hr)
    split
    · split
      · next hmiss => cases hmiss.symm.trans hkey
      · next hfail => cases hfail.symm.trans hkey
      · next k hk =>
        obtain rfl : k = key := Xlat.hit.inj (hk.symm.trans hkey)
        split
        · next hshut => rw [hopen] at hshut; cases hshut
        · split
          next dev pa hparts =>
          rw [hparts]
          exact ⟨fun hport => by simp only [hport], fun p hport hstatus => by simp only [hport, hfault _ hstatus]⟩
    · next hno => exact absurd ⟨hheld, hsent⟩ hno
  · next hno => rw [hr] at hno; cases hno

theorem exec_holdAccept_here (hnear : key < 2 ^ 50) (hroom : s.holdQueue (homeOf key) r < 4096) :
    exec (.holdAccept id) s = .next (s.accept r key false s.clk) := by
  show execHoldAccept id s = _
  unfold execHoldAccept
  split
  · next q hq =>
    obtain rfl : q = r := Option.some.inj (hq.symm.trans hr)
    split
    · split
      · next hmiss => cases hmiss.symm.trans hkey
      · next hfail => cases hfail.symm.trans hkey
      · next k hk =>
        obtain rfl : k = key := Xlat.hit.inj (hk.symm.trans hkey)
        split
        · next hshut => rw [hopen] at hshut; cases hshut
        · split
          · next hfar => exact absurd hnear (Nat.not_lt.mpr hfar)
          · exact congrArg _ (if_pos hroom)
    · next hno => exact absurd ⟨hheld, hsent⟩ hno
  · next hno => rw [hr] at hno; cases hno

end

/-- R31, R118, R122: homes accept held accesses. -/
theorem heldAccessesAreAccepted : Claim.HeldAccessesAreAccepted := by
  refine ⟨?_, ?_⟩
  · rintro s id r key dev p hr hheld hsent hkey hfar rfl hopen
    obtain ⟨hshut, hthrough⟩ := exec_holdAccept_far hr hheld hsent hkey hopen hfar
    refine ⟨hshut, fun hport hstatus => ⟨_, hthrough p hport hstatus, ?_, State.accept_mem, fun h hsrc => ?_⟩⟩
    · obtain rfl := State.req?_id hr
      rw [s.reduced_frame r key]
      exact State.accept_req (s := { s with nextId := s.nextId + 1 }) (r := { r with body := _, via := some p }) hr
    · refine State.accept_injector (s := { s with nextId := s.nextId + 1 }) ?_
      rw [s.reduced_frame r key]
      exact hsrc
  · intro s id r key hr hheld hsent hkey hnear hopen hroom
    refine ⟨_, exec_holdAccept_here hr hheld hsent hkey hopen hnear hroom, ?_, State.accept_mem, fun h c hsrc hdc hlast hcount => ?_,
      fun h hsrc hcounted => ?_, fun h hsrc => State.accept_injector hsrc⟩
    · obtain rfl := State.req?_id hr
      exact State.accept_req hr
    · rw [State.accept_hart hsrc, State.acknowledge_hart hsrc]
      exact State.counted_counter hdc hlast hcount
    · rw [State.accept_hart hsrc, State.acknowledge_hart hsrc]
      simp only [hcounted, if_true, State.counted_unack]

end Sys2Proof.Machine
end

section
/-! SUPPORT. What the accesses of a held access change of the state: charges, reads, node commands and blocks (R114, R290, R334, R403). -/

namespace Sys2Proof.Machine

open Sys2Proof.Claim

/-! ### Charges (R403) -/

theorem ChUnit.charge_nstate {queue : List (Nat × Nat)} {slot n : Nat} : ∀ {fuel : Nat} {u v : ChUnit},
    ChUnit.charge queue slot n fuel u = some v → v.nstate = u.nstate
  | fuel + 1, u, v, h => by
    unfold ChUnit.charge at h
    dsimp only at h
    split at h
    · cases h; rfl
    · split at h
      · cases h
      · exact ChUnit.charge_nstate (u := u.newRound _) h

theorem State.unit_setUnit_same (s : State) (ch : Nat) (u : ChUnit) : (s.setUnit ch u).unit ch = u := by
  simp only [State.unit, State.setUnit, lookupD, lookup?_insertKey_same, Option.getD_some]

theorem State.unit_setUnit_ne (s : State) {ch k : Nat} (u : ChUnit) (hk : k ≠ ch) : (s.setUnit ch u).unit k = s.unit k := by
  simp only [State.unit, State.setUnit, lookupD, lookup?_insertKey_ne hk]

/-- Charges leave the states of the units. -/
theorem State.payAll_nstate {slot : Nat} (ch : Nat) : ∀ {cs : List (Nat × Nat)} {s v : State}, State.payAll slot cs s = some v →
    (v.unit ch).nstate = (s.unit ch).nstate
  | [], _, _, h => by cases h; rfl
  | c :: cs, s, v, h => by
    obtain ⟨w, hw, hv⟩ := Option.bind_eq_some_iff.mp h
    obtain ⟨u, hu, rfl⟩ := Option.map_eq_some_iff.mp hw
    rw [State.payAll_nstate ch hv]
    by_cases hch : ch = c.1
    · rw [hch, State.unit_setUnit_same, ChUnit.charge_nstate hu]
    · rw [State.unit_setUnit_ne _ _ hch]

/-! ### Reads without ECC errors (R389) -/

theorem State.eccRead_clean {s : State} (h : s.ecc = []) (key n : Nat) : s.eccRead key n = (false, s) := by
  simp only [State.eccRead, h, List.filter_nil, List.any_nil, List.foldl_nil]
  rw [← h]

theorem State.readBy_clean {s : State} (h : s.ecc = []) (src : Src) (key n : Nat) : s.readBy src key n = (s.peek key n, s) := by
  unfold State.readBy State.readFor
  cases src <;> simp only [State.eccRead_clean h, Bool.false_eq_true, if_false]

theorem State.eccReads_clean {s : State} (h : s.ecc = []) (runs : List (Nat × Nat)) :
    runs.foldl (fun (x : Bool × State) k => (x.1 || (x.2.eccRead k.1 k.2).1, (x.2.eccRead k.1 k.2).2)) (false, s) = (false, s) := by
  induction runs with
  | nil => rfl
  | cons k runs ih => rw [List.foldl_cons, State.eccRead_clean h]; exact ih

/-! ### Atomics and latches (R218, R341) -/

theorem State.amoAt_fst (s : State) (key : Nat) (op : BitVec 3) (n : Nat) (y cmp : Word) : (s.amoAt key op n y cmp).1 = s.peek key n := by
  unfold State.amoAt
  dsimp only
  split <;> rfl

theorem State.amoAt_frame (s : State) (key : Nat) (op : BitVec 3) (n : Nat) (y cmp : Word) :
    (s.amoAt key op n y cmp).2 = { s with mem := (s.amoAt key op n y cmp).2.mem, ecc := (s.amoAt key op n y cmp).2.ecc } := by
  unfold State.amoAt
  dsimp only
  split <;> rfl

theorem State.onlyHarts_latchAt (s : State) (key len : Nat) : OnlyHarts s (s.latchAt key len) := by
  unfold State.latchAt
  split <;> rfl

theorem State.hart_mapHarts_latch {s : State} {p : Thread → Bool} {h : HartId} (hp : p (Thread.fresh h) = false) :
    (s.mapHarts p fun t => { t with latch := true }).hart h =
      { s.hart h with latch := ((s.mapHarts p fun t => { t with latch := true }).hart h).latch } := by
  rw [State.hart_mapHarts (f := fun t => { t with latch := true }) (fun _ => rfl) hp]
  split <;> rfl

/-- A store's latch is all of a hart that it changes. -/
theorem State.hart_latchAt (s : State) (key len : Nat) (h : HartId) :
    (s.latchAt key len).hart h = { s.hart h with latch := ((s.latchAt key len).hart h).latch } := by
  unfold State.latchAt
  split
  · exact State.hart_mapHarts_latch (by simp [Thread.fresh])
  · rfl

/-! ### Node commands (R290, R291) -/

/-- What a node command may change: bytes, translations, and what walks count. -/
def NodeEffect (s u : State) : Prop :=
  u = { s with mem := u.mem, ecc := u.ecc, tlb := u.tlb, mc := u.mc, injectors := u.injectors }

theorem NodeEffect.refl (s : State) : NodeEffect s s := rfl

theorem NodeEffect.trans {s u v : State} (h : NodeEffect s u) (h' : NodeEffect u v) : NodeEffect s v := by
  unfold NodeEffect at h h' ⊢
  rw [h', h]

theorem NodeEffect.hart_eq {s u : State} (h : NodeEffect s u) (k : HartId) : u.hart k = s.hart k := by
  rw [h]
  rfl

theorem nodeEffect_foldl {α β : Type} {proj : β → State} {f : β → α → β} (hf : ∀ x a, NodeEffect (proj x) (proj (f x a))) (l : List α) :
    ∀ x, NodeEffect (proj x) (proj (l.foldl f x)) := by
  induction l with
  | nil => exact fun x => NodeEffect.refl _
  | cons a l ih => exact fun x => (hf x a).trans (ih (f x a))

theorem State.nodeEffect_eccRead (s : State) (key n : Nat) : NodeEffect s (s.eccRead key n).2 := by
  refine NodeEffect.trans (u := { s with ecc := _ }) rfl (nodeEffect_foldl (proj := id) (fun x e => ?_) _ _)
  dsimp only [id]
  split <;> rfl

theorem State.nodeEffect_walkRead (s : State) (st : Station) (slot va : Nat) : NodeEffect s (s.walkRead st slot va).2 := by
  unfold State.walkRead
  refine nodeEffect_foldl (proj := Prod.snd) (fun x a => ?_) (s.walkPath slot va) (false, s)
  exact NodeEffect.trans (u := x.2.receiveTime (injStation st) x.2.clk) rfl (State.nodeEffect_eccRead _ a 8)

theorem State.nodeEffect_fillTlb (s : State) (st : Station) (slot va : Nat) : NodeEffect s (s.fillTlb st slot va) := by
  unfold State.fillTlb
  split <;> rfl

theorem State.nodeEffect_xlatVia (s : State) (st : Station) (slot a : Nat) (need : Need) : NodeEffect s (s.xlatVia st slot a need).2 := by
  unfold State.xlatVia
  split
  · rfl
  · split
    · exact (State.nodeEffect_walkRead s st slot _).trans (State.nodeEffect_fillTlb _ _ _ _)
    · rfl

theorem State.nodeEffect_locate (s : State) (slot base key i : Nat) : NodeEffect s (s.locate slot base key i).2 := by
  have h := s.nodeEffect_xlatVia (homeOf key).station slot ((base + 512 * i) % 2 ^ 64) .node
  unfold State.locate
  split <;> next heq => rw [heq] at h; exact h

theorem State.nodeEffect_pokeBytes (s : State) (key : Nat) (bs : List Byte) : NodeEffect s (s.pokeBytes key bs) := rfl

theorem State.nodeEffect_putNode (s : State) (key : Nat) (n : Node) : NodeEffect s (s.putNode key n) := s.nodeEffect_pokeBytes key _

theorem State.nodeEffect_putPool (s : State) (key : Nat) (p : Pool) : NodeEffect s (s.putPool key p) := s.nodeEffect_pokeBytes _ _

theorem State.nodeEffect_formatNodes (base pageVa pageKey lo : Nat) : ∀ (n next : Nat) (s : State),
    NodeEffect s (s.formatNodes base pageVa pageKey lo next n)
  | 0, _, s => NodeEffect.refl s
  | n + 1, _, s => by
    unfold State.formatNodes
    exact (s.nodeEffect_putNode _ _).trans (State.nodeEffect_formatNodes base pageVa pageKey lo n _ _)

theorem State.nodeEffect_freeNode (s : State) (poolKey : Nat) (p : Pool) (key i : Nat) (n : Node) :
    NodeEffect s (s.freeNode poolKey p key i n) :=
  (s.nodeEffect_putNode key _).trans (State.nodeEffect_putPool _ poolKey _)

theorem State.nodeEffect_recycle (s : State) (poolKey : Nat) (p : Pool) (key i : Nat) (n : Node) :
    NodeEffect s (s.recycle poolKey p key i n).2 := by
  unfold State.recycle
  split
  · rfl
  · rfl
  · split
    · rfl
    · exact s.nodeEffect_freeNode poolKey p key i n
  · exact s.nodeEffect_freeNode poolKey p key i n

theorem State.nodeEffect_allocNode (s : State) (slot base poolKey : Nat) (p : Pool) (parent : Nat) :
    NodeEffect s (s.allocNode slot base poolKey p parent).2.2 := by
  have h := s.nodeEffect_locate slot base poolKey p.freehead
  unfold State.allocNode
  dsimp only
  split
  · rfl
  · split
    · rfl
    · split
      · next heq => rw [heq] at h; exact h
      · next heq =>
        rw [heq] at h
        split
        · exact h
        · exact h.trans ((State.nodeEffect_putNode _ _ _).trans (State.nodeEffect_putPool _ _ _))

theorem State.nodeEffect_initPage (s : State) (base poolKey : Nat) (p : Pool) (page : Option (Nat × Nat × Nat)) :
    NodeEffect s (s.initPage base poolKey p page).2 := by
  unfold State.initPage
  split
  · dsimp only
    split
    · rfl
    · split
      · rfl
      · split
        · rfl
        · exact (State.nodeEffect_formatNodes _ _ _ _ _ _ _).trans (State.nodeEffect_putPool _ _ _)
  · rfl

theorem State.nodeEffect_statNode (s : State) (slot base poolKey : Nat) (p : Pool) (a : Nat) :
    NodeEffect s (s.statNode slot base poolKey p a).2.2 := by
  have h := s.nodeEffect_locate slot base poolKey (a % 2 ^ 32)
  unfold State.statNode
  dsimp only
  split
  · rfl
  · split <;> next heq => rw [heq] at h; exact h

theorem State.nodeEffect_namedNode (s : State) (op : NodeOp) (slot base poolKey : Nat) (p : Pool) (a b : Nat) (block : List Byte) (lid task : Nat) :
    NodeEffect s (s.namedNode op slot base poolKey p a b block lid task).2.2 := by
  have h := s.nodeEffect_locate slot base poolKey (a % 2 ^ 32)
  unfold State.namedNode
  dsimp only
  split
  · rfl
  · split
    · next heq => rw [heq] at h; exact h
    · next key u heq =>
      rw [heq] at h
      have hput (o : NodeOut) : NodeEffect u (match o.node with | some n' => u.putNode key n' | none => u) := by
        cases o.node with
        | none => exact NodeEffect.refl u
        | some n' => exact u.nodeEffect_putNode key n'
      split
      · exact h
      · split
        · exact h
        · split
          · exact h.trans (hput _)
          · exact h.trans (hput _)
          · exact h.trans (hput _)
          · exact h.trans (hput _)
          · exact h.trans (State.nodeEffect_recycle _ _ _ _ _ _)

/-- A node command touches no hart and no request. -/
theorem State.nodeEffect_nodeApply (s : State) (op : NodeOp) (slot base poolKey a b : Nat) (block : List Byte) (lid task : Nat)
    (page : Option (Nat × Nat × Nat)) : NodeEffect s (s.nodeApply op slot base poolKey a b block lid task page).2.2 := by
  unfold State.nodeApply
  dsimp only
  split
  · split
    · rfl
    · exact s.nodeEffect_allocNode slot base poolKey _ a
  · split
    · rfl
    · exact s.nodeEffect_initPage base poolKey _ page
  · exact s.nodeEffect_statNode slot base poolKey _ a
  · exact s.nodeEffect_namedNode _ slot base poolKey _ a b block lid task

/-! ### Blocks and stream resets (R320, R334) -/

/-- What a channel's unit may change as it takes a block or a reset: its streams, and words that it sends. -/
def UnitEffect (ch : Nat) (s u : State) : Prop :=
  u.focus = s.focus ∧ u.parked = s.parked ∧ ∃ sent, u.net = s.net ++ sent ∧ ∀ q ∈ sent, q.src = .unit ch

theorem UnitEffect.refl (ch : Nat) (s : State) : UnitEffect ch s s := ⟨rfl, rfl, [], by simp, by simp⟩

theorem UnitEffect.trans {ch : Nat} {s u v : State} (h : UnitEffect ch s u) (h' : UnitEffect ch u v) : UnitEffect ch s v := by
  obtain ⟨hfocus, hparked, sent, hnet, hsent⟩ := h
  obtain ⟨hfocus', hparked', sent', hnet', hsent'⟩ := h'
  refine ⟨hfocus'.trans hfocus, hparked'.trans hparked, sent ++ sent', by rw [hnet', hnet, List.append_assoc], fun q hq => ?_⟩
  exact (List.mem_append.mp hq).elim (hsent q) (hsent' q)

theorem State.unitEffect_setStream (s : State) (ch k : Nat) (st : Stream) : UnitEffect ch s (s.setStream ch k st) :=
  ⟨rfl, rfl, [], by simp [State.setStream, State.setUnit], by simp⟩

theorem State.unitEffect_sendWord (s : State) (ch : Nat) (b : Block) (status fail : Nat) (lost : Bool) :
    UnitEffect ch s (s.sendWord ch b status fail lost).2 := by
  unfold State.sendWord
  split
  · exact ⟨rfl, rfl, [{ b.wordReq ch s.nextId status fail lost with stamp := _ }], rfl, by simp [Block.wordReq]⟩
  · exact UnitEffect.refl ch s

theorem State.unitEffect_discardWaiting (s : State) (ch k : Nat) : UnitEffect ch s (s.discardWaiting ch k) := by
  have hfold (bs : List Block) : ∀ u : State, UnitEffect ch u (bs.foldl (fun s b => (s.sendWord ch b 3 0xFF true).2) u) := by
    induction bs with
    | nil => exact UnitEffect.refl ch
    | cons b bs ih => exact fun u => (u.unitEffect_sendWord ch b 3 0xFF true).trans (ih _)
  exact (s.unitEffect_setStream ch k _).trans (hfold _ _)

theorem State.unitEffect_haltStream (s : State) (ch k : Nat) : UnitEffect ch s (s.haltStream ch k) :=
  (s.unitEffect_setStream ch k _).trans (State.unitEffect_discardWaiting _ ch k)

theorem State.unitEffect_startBlock (s : State) (ch k : Nat) : UnitEffect ch s (s.startBlock ch k) := by
  unfold State.startBlock
  dsimp only
  split
  · exact UnitEffect.refl ch s
  · split
    · exact UnitEffect.refl ch s
    · split
      · exact s.unitEffect_setStream ch k _
      · exact (s.unitEffect_setStream ch k _).trans (State.unitEffect_haltStream _ ch k)

theorem State.unitEffect_blockArrive (s : State) (ch : Nat) (b : Block) : UnitEffect ch s (s.blockArrive ch b) := by
  have hreject (status : Nat) : UnitEffect ch s
      (let (ok, u) := s.sendWord ch b status 0xFF; if ok then u else u.haltStream ch b.stream) := by
    have hword := s.unitEffect_sendWord ch b status 0xFF false
    dsimp only
    split
    · exact hword
    · exact hword.trans (State.unitEffect_haltStream _ ch b.stream)
  unfold State.blockArrive
  dsimp only
  split
  · exact hreject 3
  · split
    · exact hreject 7
    · split
      · exact hreject 10
      · split
        · exact hreject 7
        · exact (s.unitEffect_setStream ch b.stream _).trans (State.unitEffect_startBlock _ ch b.stream)

theorem State.unitEffect_streamReset (s : State) (ch k : Nat) (seq : BitVec 32) : UnitEffect ch s (s.streamReset ch k seq) :=
  (s.unitEffect_discardWaiting ch k).trans (State.unitEffect_setStream _ ch k _)

end Sys2Proof.Machine
end

section
/-! SUPPORT. Held accesses are applied in logical order (R114, R118, R218, R290, R334, R403). -/

namespace Sys2Proof.Machine

open Sys2Proof.Claim

/-! ### An applied access without a result leaves the network -/

theorem State.forget_frame (s : State) (r : Req) : s.forget r = { s with net := (s.drop r.id).net, copies := (s.forget r).copies } := by
  unfold State.forget
  dsimp only
  split <;> rfl

theorem State.finish_req (s : State) (r : Req) : (s.finish r).req? r.id = none := by
  unfold State.finish
  rw [State.forget_frame]
  exact State.req?_drop _ _

/-- Finishing a request changes harts, the request's copy and the network, from which it takes the request. -/
theorem State.finish_frame (s : State) (r : Req) : s.finish r = { s with
    focus := (s.finish r).focus, parked := (s.finish r).parked, net := s.net.filter fun q => q.id ≠ r.id, copies := (s.finish r).copies } := by
  have hharts := s.onlyHarts_acknowledge r
  unfold State.finish
  rw [State.forget_frame, hharts]
  rfl

theorem State.finish_hart {s : State} {r : Req} {h : HartId} (hsrc : r.src = .hart h) (hdc : r.dc = none) (hacquire : r.acquire = false)
    (hcounted : r.counted = false) : (s.finish r).hart h = s.hart h := by
  have hack := State.acknowledge_hart (s := s) hsrc
  simp only [State.counted, hdc, hacquire, hcounted, Bool.false_eq_true, if_false] at hack
  unfold State.finish
  rw [State.forget_frame]
  exact hack

/-- When no other request of an instruction is left, none waits for it. -/
theorem State.gathered_nil {s : State} {r : Req} (h : ∀ q ∈ s.net, q.src = r.src → q.grp = r.grp → q.id = r.id) : s.gathered r = [] := by
  rw [State.gathered, List.filterMap_eq_nil_iff]
  intro q hq
  rw [if_neg]
  rintro ⟨hsrc, hgrp, hid⟩
  exact hid (h q hq hsrc hgrp)

theorem State.alone_of_groupAlive {s : State} {r : Req} (h : s.groupAlive r = false) : ∀ q ∈ s.net, q.src = r.src → q.grp = r.grp → q.id = r.id := by
  intro q hq hsrc hgrp
  unfold State.groupAlive at h
  rw [Bool.or_eq_false_iff, Bool.or_eq_false_iff] at h
  have := List.any_eq_false.mp h.1.1 q hq
  simpa [hsrc, hgrp] using this

theorem Thread.room_of_zero (t : Thread) {ws : List (BitVec 5 × Word)} (h : ∀ w ∈ ws, w.1 = 0) : t.room ws = true := by
  unfold Thread.room
  refine List.all_eq_true.mpr fun w hw => ?_
  simp [h w hw]

/-- The reply of a request that returns no value to a listening hart ends it. -/
theorem State.replied_finishes {s : State} {r : Req} {h : HartId} {data : List Byte} (hsrc : r.src = .hart h) (hret : r.body.returns = false)
    (hlist : (s.hart h).listens = true) (hwords : ∀ w ∈ r.body.words data, w.1 = 0) (hothers : s.gathered r = []) :
    s.replied r data = (s.mapHart h fun t => t.deliver r.body data).finish r := by
  unfold State.replied
  simp [hsrc, hret, hlist, hothers, Thread.room_of_zero _ hwords]

/-- What settles a held access: it stays when it has a result, else its reply ends it. -/
theorem State.settleHeld_performed {s : State} {r : Req} {h : HartId} {data : List Byte} {time : BitVec 56} (hr : s.req? r.id = some r)
    (hphase : r.phase = .performed data time) (hsrc : r.src = .hart h) (hlist : (s.hart h).listens = true) :
    s.settleHeld r.id = if r.body.returns then s else s.replied r data := by
  unfold State.settleHeld
  simp only [hr, hphase, hsrc, hlist, Bool.and_true]

theorem State.settleHeld_cases (s : State) (id : Nat) :
    (s.settleHeld id = s ∧ ∀ r d t, s.req? id = some r → r.phase = .performed d t → r.body.returns = true) ∨
    (∃ r d, s.req? id = some r ∧ s.settleHeld id = s.replied r d) ∨ ∃ r, r.id = id ∧ s.settleHeld id = s.forget r := by
  unfold State.settleHeld
  split
  · next r hr =>
    split
    · next d t h hperf hsrc =>
      split
      · next hstays =>
        refine .inl ⟨rfl, fun r' _ _ hr' _ => ?_⟩
        obtain rfl := Option.some.inj (hr'.symm.trans hr)
        exact (Bool.and_eq_true_iff.mp hstays).1
      · exact .inr (.inl ⟨r, d, hr, rfl⟩)
    · exact .inr (.inr ⟨r, State.req?_id hr, rfl⟩)
    · next hhart hother =>
      refine .inl ⟨rfl, fun r' d t hr' hperf => ?_⟩
      obtain rfl := Option.some.inj (hr'.symm.trans hr)
      exact absurd hperf (hhart d t)
  · next hno => exact .inl ⟨rfl, fun r _ _ hr _ => by rw [hno] at hr; cases hr⟩

/-- What a reply leaves of its request is performed no longer. -/
theorem State.replied_not_performed {s : State} {r q : Req} {d data : List Byte} {time : BitVec 56} (hr : s.req? r.id = some r)
    (hq : (s.replied r d).req? r.id = some q) : q.phase ≠ .performed data time := by
  unfold State.replied at hq
  split at hq
  · dsimp only at hq
    split at hq
    · rw [State.req?_putReq (r' := { r with phase := .gathered d }) hr] at hq
      cases hq
      simp
    · split at hq
      · rw [State.finish_req] at hq
        cases hq
      · split at hq
        · rw [State.finish_req] at hq
          cases hq
        · rw [State.req?_putReq (r' := { r with phase := .pushing d }) hr] at hq
          cases hq
          simp
  · rw [State.req?_drop] at hq
    cases hq

/-- A request that is still performed after it has been settled was left as it was, and returns a value. -/
theorem State.performed_of_settled {s : State} {id : Nat} {q : Req} {data : List Byte} {time : BitVec 56}
    (hq : (s.settleHeld id).req? id = some q) (hphase : q.phase = .performed data time) :
    s.settleHeld id = s ∧ q.body.returns = true := by
  rcases s.settleHeld_cases id with ⟨hsame, hreturns⟩ | ⟨r, d, hr, hreplied⟩ | ⟨r, rfl, hforget⟩
  · exact ⟨hsame, hreturns q data time (hsame ▸ hq) hphase⟩
  · obtain rfl := State.req?_id hr
    rw [hreplied] at hq
    exact absurd hphase (State.replied_not_performed hr hq)
  · rw [hforget, State.forget_frame] at hq
    exact absurd ((State.req?_drop s r.id).symm.trans hq) (by simp)

/-! ### Applying (R118) -/

theorem exec_holdApply {s : State} {lid : Nat} {l : Launch} {r : Req} (hl : s.launch? lid = some l)
    (hcame : l.closing = true ∨ (l.info.fbid ≠ 0 ∧ (l.info.fbid, l.sstep) ∈ s.fbCloses)) (hleast : leastHeld (s.heldDue l) = some r) :
    exec (.holdApply lid) s = .next (s.applyNext r) := by
  have hclose : s.closeCame l = true := by
    unfold State.closeCame
    rcases hcame with h | h <;> simp [h]
  show execHoldApply lid s = _
  simp only [execHoldApply, hl, hclose, if_true, hleast]

theorem leastHeld_mem {rs : List Req} : ∀ {r : Req}, leastHeld rs = some r → r ∈ rs := by
  induction rs with
  | nil => intro r h; cases h
  | cons q rs ih =>
    intro r h
    simp only [leastHeld] at h
    split at h
    · next q' hq' =>
      split at h
      · exact List.mem_cons_of_mem _ (ih (hq'.trans h))
      · exact Option.some.inj h ▸ List.mem_cons_self
    · exact Option.some.inj h ▸ List.mem_cons_self

theorem State.heldHere_of_due {s : State} {l : Launch} {r : Req} (h : leastHeld (s.heldDue l) = some r) : r.heldHere = true := by
  have := (List.mem_filter.mp (leastHeld_mem h)).2
  exact (Bool.and_eq_true_iff.mp (Bool.and_eq_true_iff.mp this).1).1

section
variable {s v : State} {r : Req} {key : Nat}

/-- A held access that finds no charges, a block that holds its words, or a restore that will overwrite them, waits. -/
theorem State.applyHeld_waits (h : State.payAll (s.slotOf r) (s.heldCharges r key) s = none ∨ (r.body.writes = true ∧ s.heldBack r key = true) ∨
    s.restoringAt r.lid key r.body.len = true) : s.applyHeld r key = s := by
  unfold State.applyHeld
  split
  · rfl
  · next hfree =>
    have hnone := h.resolve_right fun hbusy => hfree (by rcases hbusy with ⟨hw, hb⟩ | hb <;> simp [*])
    simp only [hnone]

/-- A held access that finds its charges and no block that holds its words acts, unless it stays held. -/
theorem State.applyHeld_acts (hpaid : State.payAll (s.slotOf r) (s.heldCharges r key) s = some v)
    (hback : r.body.writes = true → s.heldBack r key = false) (hrestore : s.restoringAt r.lid key r.body.len = false) :
    s.applyHeld r key = if (((v.heldAct r key).req? r.id).map Req.heldHere).getD false then s else v.heldAct r key := by
  have hfree : ((r.body.writes && s.heldBack r key) || s.restoringAt r.lid key r.body.len) = false := by
    rw [hrestore, Bool.or_false]
    by_cases hw : r.body.writes = true
    · rw [hback hw, Bool.and_false]
    · simp [hw]
  unfold State.applyHeld
  simp only [hfree, Bool.false_eq_true, if_false, hpaid]

variable (hkey : s.reqKey? r = some key)
include hkey

theorem State.applyNext_key : s.reqKey r = key := by
  rw [State.reqKey, hkey, Option.getD_some]

theorem State.applyNext_stays (hr : s.req? r.id = some r) (hheld : r.heldHere = true) (hsame : s.applyHeld r key = s) : s.applyNext r = s := by
  unfold State.applyNext
  simp [State.applyNext_key hkey, hsame, hr, hheld]

/-- What an access that has been applied leaves: it is settled, and the bytes that its superstep kept are forgotten. -/
theorem State.applyNext_acts {u : State} (hact : s.applyHeld r key = u) (hdone : ((u.req? r.id).map Req.heldHere).getD false = false) :
    ∃ f, s.applyNext r = (u.settleHeld r.id).mapLaunch r.lid f := by
  unfold State.applyNext
  simp [State.applyNext_key hkey, hact, hdone]

end

end Sys2Proof.Machine
end

section
/-! SUPPORT. What an applied held access leaves (R114, R118, R218, R290, R334, R403). -/

namespace Sys2Proof.Machine

open Sys2Proof.Claim

/-! ### What each access does -/

theorem State.performed_hart {s : State} {r : Req} {h : HartId} (hsrc : r.src = .hart h) (data : List Byte) :
    s.performed r data = s.putReq { r with phase := .performed data s.clk } := by
  simp only [State.performed, State.performedAt, hsrc]

/-- A state in which an access has been performed: its requests are those before it and words that units have sent, and of its hart
at most the event latch has changed. -/
def Performs (s b : State) (h : HartId) : Prop :=
  (∃ sent, b.net = s.net ++ sent ∧ ∀ q ∈ sent, q.src ≠ .hart h) ∧ b.hart h = { s.hart h with latch := (b.hart h).latch }

theorem Performs.listens {s b : State} {h : HartId} (hb : Performs s b h) (hlist : (s.hart h).listens = true) : (b.hart h).listens = true := by
  rw [hb.2]
  exact hlist

theorem Performs.of_latchAt (s b : State) (h : HartId) (key len : Nat) (hnet : b.net = s.net) (hhart : b.hart h = s.hart h) :
    Performs s (b.latchAt key len) h := by
  refine ⟨⟨[], ?_, by simp⟩, ?_⟩
  · rw [b.onlyHarts_latchAt key len, List.append_nil]
    exact hnet
  · rw [b.hart_latchAt key len, hhart]

theorem Performs.of_unitEffect {s v b : State} {h : HartId} {ch : Nat} (hnet : v.net = s.net) (hhart : v.hart h = s.hart h) (hb : UnitEffect ch v b) :
    Performs s b h := by
  obtain ⟨hfocus, hparked, sent, hsent, hsrc⟩ := hb
  refine ⟨⟨sent, by rw [hsent, hnet], fun q hq => by rw [hsrc q hq]; simp⟩, ?_⟩
  rw [State.hart_congr hfocus hparked, hhart]

section
variable {s : State} {r : Req} {key : Nat} (hnear : key < 2 ^ 50)
include hnear

theorem State.heldAct_store {bytes : List (Option Byte)} (hbody : r.body = .store bytes) (hglobal : 2 ^ 48 ≤ r.addr.toNat)
    (hpage : onPage key = false) (hswap : s.swappedAt r.lid key bytes.length = none) :
    s.heldAct r key = ((s.poke key bytes).latchAt key bytes.length).performed r [] := by
  have hfar : ¬ r.addr.toNat / 2 ^ 48 = 0 := by omega
  unfold State.heldAct State.performData
  simp only [if_neg (Nat.not_le.mpr hnear), hbody, hpage, hswap, Option.isSome_none, Bool.false_eq_true, if_false, Bool.or_false, if_neg hfar]

theorem State.heldAct_amo {op : BitVec 3} {n : Nat} {y cmp : Word} {d : BitVec 5} (hbody : r.body = .amo op n y cmp d) (hclean : s.ecc = []) (h : HartId) :
    ∃ b, s.heldAct r key = b.performed r (s.peek key n) ∧ b.mem = (s.amoAt key op n y cmp).2.mem ∧ b.clk = s.clk ∧ Performs s b h := by
  have hframe := s.amoAt_frame key op n y cmp
  have hhart : (s.amoAt key op n y cmp).2.hart h = s.hart h := by
    rw [hframe]
    rfl
  have hnet : (s.amoAt key op n y cmp).2.net = s.net := by rw [hframe]
  have hclk : (s.amoAt key op n y cmp).2.clk = s.clk := by rw [hframe]
  have hact : s.heldAct r key = (if (amoNew op n (BitVec.ofNat 64 (ofBytes (s.peek key n))) y cmp).isSome then
      (s.amoAt key op n y cmp).2.latchAt key n else (s.amoAt key op n y cmp).2).performed r (s.peek key n) := by
    unfold State.heldAct State.performData
    simp only [if_neg (Nat.not_le.mpr hnear), hbody, State.readBy_clean hclean, State.amoAt_fst]
  have hlatch := (s.amoAt key op n y cmp).2.onlyHarts_latchAt key n
  refine ⟨_, hact, ?_, ?_, ?_⟩
  · split
    · rw [hlatch]
    · rfl
  · split
    · rw [hlatch]
      exact hclk
    · exact hclk
  · split
    · exact Performs.of_latchAt s _ h key n hnet hhart
    · exact ⟨⟨[], by rw [hnet, List.append_nil], by simp⟩, by rw [hhart]⟩

theorem State.heldAct_node {op : NodeOp} {a b : Word} {block : List Byte} {d d2 : BitVec 5} (hbody : r.body = .node op a b block d d2)
    (harrives : WalkArrives s r key) : s.heldAct r key = s.nodeDone r key := by
  have hshut : ((s.nodeMiss r key).bind fun va => s.walkShut (homeOf key).station r.space va) = none :=
    Option.bind_eq_none_iff.mpr harrives
  unfold State.heldAct
  simp only [if_neg (Nat.not_le.mpr hnear), hbody]
  unfold State.nodeAct
  rw [hshut]

/-- A node command whose walk reads through an excluded input is lost. -/
theorem State.heldAct_node_lost {op : NodeOp} {a b : Word} {block : List Byte} {d d2 : BitVec 5} (hbody : r.body = .node op a b block d d2)
    (hlost : ¬ WalkArrives s r key) : (s.heldAct r key).req? r.id = none := by
  obtain ⟨detail, hshut⟩ : ∃ detail, ((s.nodeMiss r key).bind fun va => s.walkShut (homeOf key).station r.space va) = some detail := by
    rw [← Option.ne_none_iff_exists']
    exact fun hnone => hlost (Option.bind_eq_none_iff.mp hnone)
  unfold State.heldAct
  simp only [if_neg (Nat.not_le.mpr hnear), hbody]
  unfold State.nodeAct
  rw [hshut]
  show ((s.drop r.id).reportSystem 6 0 0 0 detail).req? r.id = none
  unfold State.reportSystem State.req?
  rw [State.report_net]
  exact s.req?_drop r.id

omit hnear in
theorem State.page_of_node {op : NodeOp} {a b : Word} {block : List Byte} {d d2 : BitVec 5} (hbody : r.body = .node op a b block d d2)
    (hpage : op = .ninit → r.page ≠ none) : (r.page.orElse fun _ => s.pageFor r) = r.page := by
  cases hp : r.page with
  | some p => rfl
  | none =>
    show s.pageFor r = none
    unfold State.pageFor
    simp only [hbody]
    cases op with
    | ninit => exact absurd hp (hpage rfl)
    | _ => rfl

theorem State.nodeDone_run {op : NodeOp} {a b : Word} {block : List Byte} {d d2 : BitVec 5} (hbody : r.body = .node op a b block d d2)
    (hclean : s.ecc = []) :
    let page := r.page.orElse fun _ => s.pageFor r
    let done := s.nodeApply op r.space r.addr.toNat key a.toNat b.toNat block r.lid r.task page
    s.nodeDone r key = done.2.2.performed { r with page := page } (leBytes 8 done.1 ++ leBytes 8 done.2.1) := by
  intro page done
  have hresult : s.nodeResult { r with page := page } key = (false, leBytes 8 done.1 ++ leBytes 8 done.2.1, done.2.2) := by
    unfold State.nodeResult
    simp only [hbody, State.eccReads_clean hclean]
    rfl
  unfold State.nodeDone
  rw [if_neg (Nat.not_le.mpr hnear)]
  simp only [show s.nodeResult { r with page := r.page.orElse fun _ => s.pageFor r } key = _ from hresult, Bool.false_eq_true, if_false]
  rfl

theorem State.heldAct_unit {ch : Nat} (hch : homeOf key = .channel ch) (hrun : (s.unit ch).nstate = .running) :
    (∀ ovl k seq bytes, r.body = .block ovl k seq bytes →
      s.heldAct r key = (s.blockArrive ch ⟨r.src, r.grp, r.lid, r.space, ovl, k, seq, bytes⟩).performed r []) ∧
    (∀ k seq, r.body = .nmrst k seq → s.heldAct r key = (s.streamReset ch k seq).performed r []) := by
  refine ⟨fun ovl k seq bytes hbody => ?_, fun k seq hbody => ?_⟩ <;>
  simp only [State.heldAct, State.performUnit, if_neg (Nat.not_le.mpr hnear), hbody, channelOfKey, hch, hrun, ne_eq, not_true_eq_false, if_false, Req.block?]

theorem State.heldAct_unit_stopped {ch : Nat} (hch : homeOf key = .channel ch) (hstop : (s.unit ch).nstate ≠ .running)
    (hbody : (∃ ovl k seq bytes, r.body = .block ovl k seq bytes) ∨ ∃ k seq, r.body = .nmrst k seq) : s.heldAct r key = s := by
  rcases hbody with ⟨ovl, k, seq, bytes, hbody⟩ | ⟨k, seq, hbody⟩ <;>
  simp only [State.heldAct, State.performUnit, if_neg (Nat.not_le.mpr hnear), hbody, channelOfKey, hch, ne_eq, hstop, not_false_eq_true, if_true]

end

end Sys2Proof.Machine
end

section
/-! SUPPORT. Held accesses are applied: the statement (R114, R118, R218, R290, R334, R403). -/

namespace Sys2Proof.Machine

open Sys2Proof.Claim

/-- A held access of a listening hart, the only one of its instruction, that is due. -/
structure Due (s : State) (r : Req) (h : HartId) (key : Nat) : Prop where
  req : s.req? r.id = some r
  held : r.heldHere = true
  keyed : s.reqKey? r = some key
  near : key < 2 ^ 50
  src : r.src = .hart h
  alone : s.groupAlive r = false
  dc : r.dc = none
  acquire : r.acquire = false
  counted : r.counted = false
  listens : (s.hart h).listens = true

section
variable {s b : State} {r : Req} {h : HartId} {key : Nat} {data : List Byte} (hdue : Due s r h key) (hb : Performs s b h)
include hdue hb

/-- A performed access stands in the network with its data. -/
theorem Due.req_performed : (b.performed r data).req? r.id = some { r with phase := .performed data b.clk } := by
  obtain ⟨⟨sent, hnet, -⟩, -⟩ := hb
  have hreq : b.req? r.id = some r := by
    unfold State.req?
    rw [hnet, List.find?_append, show s.net.find? _ = _ from hdue.req, Option.some_or]
  rw [State.performed_hart hdue.src]
  exact State.req?_putReq (r' := { r with phase := .performed data b.clk }) hreq

variable (hact : s.applyHeld r key = b.performed r data)
include hact

/-- An access with a result keeps it. -/
theorem Due.keeps (hret : r.body.returns = true) : ∃ f, s.applyNext r = (b.performed r data).mapLaunch r.lid f := by
  have hreq := hdue.req_performed hb (data := data)
  obtain ⟨f, hf⟩ := State.applyNext_acts hdue.keyed hact (by rw [hreq]; simp [Req.heldHere])
  have hlist : ((b.performed r data).hart h).listens = true := by
    rw [State.performed_hart hdue.src]
    exact hb.listens hdue.listens
  rw [State.settleHeld_performed (r := { r with phase := .performed data b.clk }) hreq rfl hdue.src hlist, if_pos hret] at hf
  exact ⟨f, hf⟩

/-- An access without a result is gone. -/
theorem Due.leaves (hret : r.body.returns = false) (hwords : ∀ w ∈ r.body.words data, w.1 = 0) :
    ∃ u, s.applyNext r = u ∧ u.mem = b.mem ∧ u.units = b.units ∧ u.req? r.id = none ∧ (∀ q ∈ u.net, q ∈ b.net) ∧
      ((∀ t : Thread, t.deliver r.body data = t) → u.hart h = b.hart h) := by
  have hreq := hdue.req_performed hb (data := data)
  obtain ⟨f, hf⟩ := State.applyNext_acts hdue.keyed hact (by rw [hreq]; simp [Req.heldHere])
  have hperf := State.performed_hart (s := b) hdue.src data
  have hlist : ((b.performed r data).hart h).listens = true := by
    rw [hperf]
    exact hb.listens hdue.listens
  have hothers : (b.performed r data).gathered { r with phase := .performed data b.clk } = [] := by
    refine State.gathered_nil fun q hq hsrc hgrp => ?_
    rw [hperf] at hq
    obtain ⟨q₀, hq₀, rfl⟩ := List.mem_map.mp hq
    obtain ⟨⟨sent, hnet, hsent⟩, -⟩ := hb
    by_cases hid : q₀.id = r.id
    · simp only [hid, if_true]
    · simp only [hid, if_false] at hsrc hgrp ⊢
      rw [hnet] at hq₀
      rcases List.mem_append.mp hq₀ with hq₀ | hq₀
      · exact hid (State.alone_of_groupAlive hdue.alone q₀ hq₀ hsrc hgrp)
      · exact absurd (hsrc.trans hdue.src) (hsent q₀ hq₀)
  rw [State.settleHeld_performed (r := { r with phase := .performed data b.clk }) hreq rfl hdue.src hlist, if_neg (by simp [hret]),
    State.replied_finishes (r := { r with phase := .performed data b.clk }) hdue.src hret hlist hwords hothers] at hf
  have hharts := State.onlyHarts_mapHart (b.performed r data) h fun t => t.deliver r.body data
  refine ⟨_, hf, ?_, ?_, ?_, ?_, fun hdeliver => ?_⟩
  · rw [State.mapLaunch_mem, State.finish_mem, State.mapHart_mem, hperf]
    rfl
  · rw [State.mapLaunch_units, State.finish_frame, hharts, hperf]
    rfl
  · exact State.finish_req _ { r with phase := .performed data b.clk }
  · intro q hq
    rw [State.mapLaunch_net, State.finish_frame, hharts, hperf] at hq
    obtain ⟨hq, hid⟩ := List.mem_filter.mp hq
    obtain ⟨q₀, hq₀, rfl⟩ := List.mem_map.mp hq
    by_cases heq : q₀.id = r.id
    · simp [heq] at hid
    · simpa [heq] using hq₀
  · rw [State.hart_mapLaunch, State.finish_hart (r := { r with phase := .performed data b.clk }) hdue.src hdue.dc hdue.acquire hdue.counted,
      State.hart_mapHart_same (by rw [hdeliver]; exact State.hart_id _ h), hdeliver, hperf]
    rfl

end

/-- An atomic's bytes do not depend on the units. -/
theorem State.amoAt_mem_units (s : State) (units : List (Nat × ChUnit)) (key : Nat) (op : BitVec 3) (n : Nat) (y cmp : Word) :
    (({ s with units := units } : State).amoAt key op n y cmp).2.mem = (s.amoAt key op n y cmp).2.mem := by
  have hpeek : ({ s with units := units } : State).peek key n = s.peek key n := rfl
  unfold State.amoAt
  simp only [hpeek]
  cases amoNew op n (BitVec.ofNat 64 (ofBytes (s.peek key n))) y cmp <;> rfl

section
variable {s v : State} {r : Req} {h : HartId} {key : Nat} (hdue : Due s r h key) (hpaid : State.payAll (s.slotOf r) (s.heldCharges r key) s = some v)
  (hback : r.body.writes = true → s.heldBack r key = false) (hrestore : s.restoringAt r.lid key r.body.len = false) (hclean : s.ecc = [])
include hdue hpaid

omit hdue in
/-- Charges change only the shares of channels. -/
theorem State.payAll_keeps : v.net = s.net ∧ v.mem = s.mem ∧ v.ecc = s.ecc ∧ v.clk = s.clk ∧ (∀ k, v.hart k = s.hart k) := by
  rw [State.payAll_units hpaid]
  exact ⟨rfl, rfl, rfl, rfl, fun _ => rfl⟩

include hback hrestore

theorem Due.acts {b : State} {data : List Byte} (hact : v.heldAct r key = b.performed r data) (hb : Performs s b h) :
    s.applyHeld r key = b.performed r data := by
  rw [State.applyHeld_acts hpaid hback hrestore, hact, hdue.req_performed hb]
  simp [Req.heldHere]

/-- A store's bytes are in memory, and it is gone (R31). -/
theorem Due.store {bytes : List (Option Byte)} (hbody : r.body = .store bytes) (hglobal : 2 ^ 48 ≤ r.addr.toNat) (hpage : onPage key = false)
    (hswap : s.swappedAt r.lid key bytes.length = none) :
    (s.applyNext r).mem = (s.poke key bytes).mem ∧ (s.applyNext r).req? r.id = none ∧
      (s.applyNext r).hart h = { s.hart h with latch := ((s.applyNext r).hart h).latch } := by
  obtain ⟨hnet, hmem, -, -, hhart⟩ := State.payAll_keeps hpaid
  have hb : Performs s ((v.poke key bytes).latchAt key bytes.length) h := Performs.of_latchAt _ _ _ _ _ hnet (hhart h)
  have hswap' : v.swappedAt r.lid key bytes.length = none := by
    rw [State.payAll_units hpaid]
    exact hswap
  have hact := hdue.acts hpaid hback hrestore (State.heldAct_store hdue.near hbody hglobal hpage hswap') hb
  obtain ⟨u, hu, humem, -, hreq, -, huhart⟩ := hdue.leaves hb hact (by rw [hbody]; rfl) (by rw [hbody]; simp [Body.words])
  rw [hu, humem, huhart (by rw [hbody]; exact fun _ => rfl)]
  refine ⟨?_, hreq, hb.2⟩
  rw [State.onlyHarts_latchAt, State.poke_mem, State.poke_mem, hmem]

include hclean

/-- An atomic reads and writes its word, and keeps its result when it has one (R218). -/
theorem Due.amo {op : BitVec 3} {n : Nat} {y cmp : Word} {d : BitVec 5} (hbody : r.body = .amo op n y cmp d) :
    (s.applyNext r).mem = (s.amoAt key op n y cmp).2.mem ∧
    (s.applyNext r).req? r.id = if d = 0 then none else some { r with phase := .performed (s.peek key n) s.clk } := by
  obtain ⟨hnet, hmem, hecc, hclk, hhart⟩ := State.payAll_keeps hpaid
  obtain ⟨b, hact, hbmem, hbclk, ⟨sent, hsent, hsrc⟩, hlatch⟩ := State.heldAct_amo (s := v) hdue.near hbody (hecc.trans hclean) h
  have hb : Performs s b h := ⟨⟨sent, by rw [hsent, hnet], hsrc⟩, by rw [hlatch, hhart]⟩
  have hsame : (v.amoAt key op n y cmp).2.mem = (s.amoAt key op n y cmp).2.mem ∧ v.peek key n = s.peek key n := by
    rw [State.payAll_units hpaid]
    exact ⟨State.amoAt_mem_units s _ key op n y cmp, rfl⟩
  have hact' := hdue.acts hpaid hback hrestore hact hb
  by_cases hd : d = 0
  · obtain ⟨u, hu, humem, -, hreq, -, -⟩ := hdue.leaves hb hact' (by simp [hbody, Body.returns, hd]) (by simp [hbody, Body.words, hd])
    rw [hu, humem, hbmem, if_pos hd]
    exact ⟨hsame.1, hreq⟩
  · obtain ⟨f, hf⟩ := hdue.keeps hb hact' (by rw [hbody]; exact decide_eq_true hd)
    have hreq := hdue.req_performed hb (data := v.peek key n)
    rw [hf, if_neg hd, ← hsame.1, ← hsame.2, ← hclk, ← hbclk, ← hbmem]
    refine ⟨?_, hreq⟩
    rw [State.mapLaunch_mem, State.performed_hart hdue.src]
    rfl

/-- A node command is performed whole, and its two words are kept (R290). -/
theorem Due.node {op : NodeOp} {a b : Word} {block : List Byte} {d d2 : BitVec 5} (hbody : r.body = .node op a b block d d2)
    (hpage : op = .ninit → r.page ≠ none) (harrives : WalkArrives v r key) :
    let done := v.nodeApply op r.space r.addr.toNat key a.toNat b.toNat block r.lid r.task r.page
    (s.applyNext r).mem = done.2.2.mem ∧
      (s.applyNext r).req? r.id = some { r with phase := .performed (leBytes 8 done.1 ++ leBytes 8 done.2.1) s.clk } := by
  intro done
  obtain ⟨hnet, -, hecc, hclk, hhart⟩ := State.payAll_keeps hpaid
  have heffect : NodeEffect v done.2.2 := v.nodeEffect_nodeApply ..
  have hsame : (r.page.orElse fun _ => v.pageFor r) = r.page := State.page_of_node hbody hpage
  have hact : v.heldAct r key = done.2.2.performed r (leBytes 8 done.1 ++ leBytes 8 done.2.1) := by
    rw [State.heldAct_node hdue.near hbody harrives, State.nodeDone_run hdue.near hbody (hecc.trans hclean), hsame]
  have hb : Performs s done.2.2 h := by
    refine ⟨⟨[], ?_, by simp⟩, ?_⟩
    · rw [heffect, List.append_nil]
      exact hnet
    · rw [heffect.hart_eq, hhart]
  have hdclk : done.2.2.clk = s.clk := by
    rw [heffect]
    exact hclk
  obtain ⟨f, hf⟩ := hdue.keeps hb (hdue.acts hpaid hback hrestore hact hb) (by rw [hbody]; rfl)
  have hreq := hdue.req_performed hb (data := leBytes 8 done.1 ++ leBytes 8 done.2.1)
  rw [hf, ← hdclk]
  refine ⟨?_, hreq⟩
  rw [State.mapLaunch_mem, State.performed_hart hdue.src]
  rfl

omit hclean

/-- A block or a stream reset meets its stream, and is gone (R320, R334). -/
theorem Due.unit {ch : Nat} {b : State} (hact : v.heldAct r key = b.performed r []) (hunit : UnitEffect ch v b)
    (hbody : (∃ ovl k seq bytes, r.body = .block ovl k seq bytes) ∨ ∃ k seq, r.body = .nmrst k seq) :
    (s.applyNext r).req? r.id = none ∧ (s.applyNext r).units = b.units ∧ ∀ q ∈ (s.applyNext r).net, q ∈ b.net := by
  obtain ⟨hnet, -, -, -, hhart⟩ := State.payAll_keeps hpaid
  have hb : Performs s b h := Performs.of_unitEffect hnet (hhart h) hunit
  have hplain : r.body.returns = false ∧ r.body.words [] = [] := by
    rcases hbody with ⟨ovl, k, seq, bytes, hbody⟩ | ⟨k, seq, hbody⟩ <;> rw [hbody] <;> exact ⟨rfl, rfl⟩
  obtain ⟨u, hu, -, hunits, hreq, hnets, -⟩ := hdue.leaves hb (hdue.acts hpaid hback hrestore hact hb) hplain.1 (by simp [hplain.2])
  rw [hu]
  exact ⟨hreq, hunits, hnets⟩

/-- An access that a unit does not take yet stays as it is. -/
theorem Due.untaken (hact : v.heldAct r key = v) : s.applyNext r = s := by
  refine State.applyNext_stays hdue.keyed hdue.req hdue.held ?_
  have hreq : v.req? r.id = some r := by
    rw [State.payAll_units hpaid]
    exact hdue.req
  rw [State.applyHeld_acts hpaid hback hrestore, hact, hreq]
  exact if_pos hdue.held

end

/-! ### Results stay off their registers (R32, R118) -/

/-- A held access stays, or acts once it has found its charges. -/
theorem State.applyHeld_cases (s : State) (r : Req) (key : Nat) : s.applyHeld r key = s ∨
    ∃ v, State.payAll (s.slotOf r) (s.heldCharges r key) s = some v ∧ s.applyHeld r key = v.heldAct r key ∧
      (((v.heldAct r key).req? r.id).map Req.heldHere).getD false = false := by
  unfold State.applyHeld
  split
  · exact .inl rfl
  · split
    · next v hv =>
      dsimp only
      split
      · exact .inl rfl
      · next hdone => exact .inr ⟨v, hv, rfl, Bool.eq_false_iff.mpr hdone⟩
    · exact .inl rfl

/-- What an access with a result has done to its hart when it stands performed. -/
theorem Due.heldAct_hart {s v : State} {r q : Req} {h : HartId} {key : Nat} (hdue : Due s r h key)
    (hpaid : State.payAll (s.slotOf r) (s.heldCharges r key) s = some v) (hclean : s.ecc = []) (hret : r.body.returns = true)
    (hq : (v.heldAct r key).req? r.id = some q) :
    (v.heldAct r key).hart h = { s.hart h with latch := ((v.heldAct r key).hart h).latch } := by
  obtain ⟨-, -, hecc, -, hhart⟩ := State.payAll_keeps hpaid
  have hnear := hdue.near
  have huntaken (hact : v.heldAct r key = v) : (v.heldAct r key).hart h = { s.hart h with latch := ((v.heldAct r key).hart h).latch } := by
    rw [hact, hhart]
  cases hbody : r.body with
  | load n d => exact huntaken (by simp only [State.heldAct, if_neg (Nat.not_le.mpr hnear), hbody])
  | loadAt offs d => exact huntaken (by simp only [State.heldAct, if_neg (Nat.not_le.mpr hnear), hbody])
  | amo op n y cmp d =>
    obtain ⟨b, hact, -, -, -, hlatch⟩ := State.heldAct_amo (s := v) hnear hbody (hecc.trans hclean) h
    rw [hact, State.performed_hart hdue.src]
    exact hlatch.trans (by rw [hhart]; rfl)
  | node op a b block d d2 =>
    by_cases harrives : WalkArrives v r key
    · rw [State.heldAct_node hnear hbody harrives, State.nodeDone_run hnear hbody (hecc.trans hclean), State.performed_hart (by exact hdue.src)]
      have heffect := (v.nodeEffect_nodeApply op r.space r.addr.toNat key a.toNat b.toNat block r.lid r.task (r.page.orElse fun _ => v.pageFor r)).hart_eq h
      exact (heffect.trans (hhart h)).trans (by rw [← hhart h, ← heffect]; rfl)
    · rw [State.heldAct_node_lost hnear hbody harrives] at hq
      cases hq
  | store bytes => rw [hbody] at hret; cases hret
  | _ => rw [hbody] at hret; cases hret

/-- An applied access that keeps its result changes nothing of its hart but the event latch. -/
theorem Due.result {s : State} {r : Req} {h : HartId} {key : Nat} (hdue : Due s r h key) (hclean : s.ecc = []) {data : List Byte}
    (hq : (s.applyNext r).req? r.id = some { r with phase := .performed data s.clk }) :
    (s.applyNext r).hart h = { s.hart h with latch := ((s.applyNext r).hart h).latch } := by
  rcases s.applyHeld_cases r key with hsame | ⟨v, hpaid, hact, hdone⟩
  · rw [State.applyNext_stays hdue.keyed hdue.req hdue.held hsame]
  · obtain ⟨f, hf⟩ := State.applyNext_acts hdue.keyed hact hdone
    rw [hf] at hq ⊢
    obtain ⟨hsettled, hret⟩ := State.performed_of_settled (s := v.heldAct r key) hq rfl
    rw [hsettled] at hq ⊢
    rw [State.hart_mapLaunch]
    exact hdue.heldAct_hart hpaid hclean hret hq

/-- R114, R118, R218, R290, R334, R364, R403: held accesses are applied. -/
theorem heldAccessesAreApplied : Claim.HeldAccessesAreApplied := by
  intro s lid l r h key hl hcame hleast hsrc hphase hkey hnear hreq halone hdc hacquire hcounted hlist hclean hglobal result paid
  have hdue : Due s r h key := ⟨hreq, State.heldHere_of_due hleast, hkey, hnear, hsrc, halone, hdc, hacquire, hcounted, hlist⟩
  have hexec := exec_holdApply hl hcame hleast
  refine ⟨fun u data hu hq => ?_, fun hwaits => ?_, fun v hpaid hback hrestore => ⟨?_, ?_, ?_, ?_⟩⟩
  · obtain rfl := Host.Outcome.next.inj (hexec.symm.trans hu)
    exact hdue.result hclean hq
  · rw [hexec, State.applyNext_stays hkey hreq hdue.held (State.applyHeld_waits hwaits)]
  · intro bytes hbody hpage hswap
    exact ⟨_, hexec, hdue.store hpaid hback hrestore hbody hglobal hpage hswap⟩
  · intro op n y cmp d hbody
    exact ⟨_, hexec, hdue.amo hpaid hback hrestore hclean hbody⟩
  · intro op a b block d d2 hbody hpage harrives
    exact ⟨_, hexec, hdue.node hpaid hback hrestore hclean hbody hpage harrives⟩
  · intro ch hch
    have hstate := State.payAll_nstate ch hpaid
    refine ⟨fun hstop hbody => ?_, fun ovl k seq bytes hbody hrun => ?_, fun k seq hbody hrun => ?_⟩
    · rw [hexec, hdue.untaken hpaid hback hrestore (State.heldAct_unit_stopped hnear hch (by rwa [hstate]) hbody)]
    · have hact := (State.heldAct_unit hnear hch (hstate.trans hrun)).1 ovl k seq bytes hbody
      exact ⟨_, hexec, hdue.unit hpaid hback hrestore hact (State.unitEffect_blockArrive ..) (.inl ⟨ovl, k, seq, bytes, hbody⟩)⟩
    · have hact := (State.heldAct_unit hnear hch (hstate.trans hrun)).2 k seq hbody
      obtain ⟨hgone, hunits, -⟩ := hdue.unit hpaid hback hrestore hact (State.unitEffect_streamReset ..) (.inr ⟨k, seq, hbody⟩)
      exact ⟨_, hexec, hgone, hunits⟩

/-- Settles O37: held accesses are accepted and applied; fabric groups count their arrivals. -/
theorem heldAccessesAndFabricGroups : Obligations.HeldAccessesAndFabricGroups :=
  ⟨heldAccessesAreAccepted, heldAccessesAreApplied, fabricGroups⟩

end Sys2Proof.Machine
end

section
/-! SUPPORT. Residue dot products are the true sums brought into range (R72 to R75). -/

namespace Sys2Proof.Machine

open Sys2Proof.Claim

/-- The residues of a sum with a product, channel by channel. -/
theorem resOf_add_mul (v x y : Int) :
    (⟨((resOf v).c127 + (resOf x).c127 * (resOf y).c127) % 127, ((resOf v).c128 + (resOf x).c128 * (resOf y).c128) % 128,
      ((resOf v).c129 + (resOf x).c129 * (resOf y).c129) % 129⟩ : Res) = resOf (v + x * y) := by
  have channel (m : Nat) (hm : 0 < m) :
      ((v % m).toNat + (x % m).toNat * (y % m).toNat) % m = ((v + x * y) % m).toNat := by
    have hnonneg (z : Int) : 0 ≤ z % m := Int.emod_nonneg _ (by omega)
    zify
    rw [Int.toNat_of_nonneg (hnonneg v), Int.toNat_of_nonneg (hnonneg x), Int.toNat_of_nonneg (hnonneg y),
      Int.toNat_of_nonneg (hnonneg _), Int.add_emod, Int.emod_emod, ← Int.mul_emod, ← Int.add_emod]
  simp only [resOf, Res.mk.injEq]
  exact ⟨channel 127 (by decide), channel 128 (by decide), channel 129 (by decide)⟩

/-- The residues of a true sum of products. -/
theorem foldl_residues (xs : List (Int × Int)) : ∀ v : Int,
    (xs.map fun p => (resOf p.1, resOf p.2)).foldl (fun (t : Res) (p : Res × Res) =>
      (⟨(t.c127 + p.1.c127 * p.2.c127) % 127, (t.c128 + p.1.c128 * p.2.c128) % 128, (t.c129 + p.1.c129 * p.2.c129) % 129⟩ : Res)) (resOf v) =
    resOf (v + (xs.map fun p => p.1 * p.2).sum) := by
  induction xs with
  | nil => simp
  | cons p xs ih =>
    intro v
    rw [List.map_cons, List.foldl_cons, resOf_add_mul, ih, List.map_cons, List.sum_cons, Int.add_assoc]

/-- R73: the remainder theorem gives an integer back, brought into range. -/
theorem signedCrt_resOf (v : Int) : signedCrt (resOf v) = wrapped v := by
  have hcrt : (crt (resOf v).c127 (resOf v).c128 (resOf v).c129 : Int) = v % 2097024 := by
    simp only [crt, resOf]
    omega
  simp only [signedCrt, wrapped]
  split <;> omega

theorem dot_eq_wrapped (xs : List (Int × Int)) :
    dot (xs.map fun p => (resOf p.1, resOf p.2)) = wrapped (xs.map fun p => p.1 * p.2).sum := by
  have hsum := foldl_residues xs 0
  rw [Int.zero_add] at hsum
  rw [← signedCrt_resOf, ← hsum]
  rfl

/-- Settles O22: the fold of the residues is the residues of the sum, from which the remainder theorem gives the sum in range. -/
theorem dotProductsAreExact : Obligations.DotProductsAreExact := by
  intro xs
  refine ⟨dot_eq_wrapped xs, fun hlo hhi => ?_⟩
  rw [dot_eq_wrapped, wrapped]
  omega

end Sys2Proof.Machine
end

section
/-! SUPPORT. Alignment of sums: rne_shift and align_add (R77, R78). -/

namespace Sys2Proof.Machine

open Sys2Proof.Claim

/-! ### rne_shift (R78) -/

/-- Between 0 and 40, rne_shift of v by its quotient and remainder. -/
theorem rneShift_eq (v : Int) {k : Nat} (hk : 1 ≤ k) (hk' : k ≤ 39) : rneShift v k =
    if 2 ^ k < 2 * (v % 2 ^ k) then v / 2 ^ k + 1
    else if 2 * (v % 2 ^ k) = 2 ^ k then (if v / 2 ^ k % 2 = 0 then v / 2 ^ k else v / 2 ^ k + 1) else v / 2 ^ k := by
  rw [rneShift, if_neg (by omega), if_neg (by omega)]

/-- Rounded to a multiple of d, no multiple is nearer, and one as near is met by an even quotient: the rounding leaves at most d / 2, and
just d / 2 only where the result is even. -/
theorem nearest_of_half {v q d : Int} (hhalf : 2 * |v - q * d| ≤ d) (heven : 2 * |v - q * d| = d → q % 2 = 0) (hd : 0 < d) (n : Int) :
    |v - q * d| ≤ |v - n * d| ∧ (|v - q * d| = |v - n * d| → n ≠ q → q % 2 = 0) := by
  by_cases hn : n = q
  · subst hn; exact ⟨le_rfl, fun _ h => absurd rfl h⟩
  · have hgap : d ≤ |v - n * d| + |v - q * d| := by
      have h₁ : d ≤ |n - q| * d := le_mul_of_one_le_left hd.le (Int.one_le_abs (by omega))
      have h₂ : |n - q| * d = |(v - q * d) - (v - n * d)| := by
        rw [← abs_of_pos hd, ← abs_mul, abs_of_pos hd]; congr 1; ring
      have h₃ := abs_sub (v - q * d) (v - n * d)
      omega
    exact ⟨by omega, fun h _ => heven (by omega)⟩

theorem rneShift_half (v : Int) {k : Nat} (hk : 1 ≤ k) (hk' : k ≤ 39) :
    2 * |v - rneShift v k * 2 ^ k| ≤ 2 ^ k ∧ (2 * |v - rneShift v k * 2 ^ k| = 2 ^ k → rneShift v k % 2 = 0) := by
  rw [rneShift_eq v hk hk']
  have hd : (0 : Int) < 2 ^ k := by positivity
  have hv := Int.mul_ediv_add_emod v (2 ^ k)
  have hr := Int.emod_nonneg v hd.ne'
  have hr' := Int.emod_lt_of_pos v hd
  generalize v / 2 ^ k = q at *
  generalize v % 2 ^ k = r at *
  generalize (2 : Int) ^ k = d at *
  have hdown : v - q * d = r := by rw [← hv]; ring
  have hup : v - (q + 1) * d = r - d := by rw [← hv]; ring
  split_ifs with hbig htie hpar
  · rw [hup, abs_of_neg (by omega)]; omega
  · rw [hdown, abs_of_nonneg hr]; omega
  · rw [hup, abs_of_neg (by omega)]; omega
  · rw [hdown, abs_of_nonneg hr]; omega

/-- R78: rne_shift is nearest even. -/
theorem rneShiftIsNearestEven : Claim.RneShiftIsNearestEven := by
  intro v k
  refine ⟨rfl, fun hk => ?_, fun hk hk' n => ?_⟩
  · rw [rneShift, if_neg (by omega), if_pos hk]
  · obtain ⟨hhalf, heven⟩ := rneShift_half v hk hk'
    exact nearest_of_half hhalf heven (by positivity) n

/-! ### align_add (R77) -/

/-- R77: a sum limited to 36 bits. -/
theorem clampSum_toInt (v : Int) : (clampSum v).1.toInt = max (-(2 ^ 35)) (min (2 ^ 35 - 1) v) := by
  rw [clampSum, BitVec.toInt_ofInt, Int.bmod_eq_of_le (by omega) (by omega)]

theorem clampSum_limited (v : Int) : (clampSum v).2 = true ↔ v < -(2 ^ 35) ∨ 2 ^ 35 ≤ v := by
  simp only [clampSum, Bool.or_eq_true, decide_eq_true_eq]
  omega

theorem Tile.putSums_nan (t : Tile) (e : BitVec 16) (vs : List Int) : (t.putSums e vs).nan = t.nan := by rw [Tile.putSums]

section
variable (t : Tile) (e : BitVec 16) {vs : List Int} (hlen : vs.length = 64)
include hlen

/-- A sum of a tile that has new sums. -/
theorem Tile.putSums_sum {n : Nat} (hn : n < 64) :
    ((t.putSums e vs).sums.toArray.getD n 0).toInt = max (-(2 ^ 35)) (min (2 ^ 35 - 1) (vs.getD n 0)) := by
  rw [← clampSum_toInt]
  simp [Tile.putSums, hn, hlen]

theorem Tile.putSums_sat : (t.putSums e vs).sat = true ↔ t.sat = true ∨ ∃ i < 64, vs.getD i 0 < -(2 ^ 35) ∨ 2 ^ 35 ≤ vs.getD i 0 := by
  simp only [Tile.putSums, Bool.or_eq_true, List.any_map, List.any_eq_true, Function.comp, clampSum_limited, List.mem_iff_getElem]
  refine or_congr_right ⟨?_, ?_⟩
  · rintro ⟨-, ⟨i, hi, rfl⟩, hlim⟩
    exact ⟨i, hlen ▸ hi, by simpa [hi] using hlim⟩
  · rintro ⟨i, hi, hlim⟩
    have hi : i < vs.length := hlen ▸ hi
    exact ⟨_, ⟨i, hi, rfl⟩, by simpa [hi] using hlim⟩

end

@[simp] theorem Tile.length_values (t : Tile) : t.values.length = 64 := by simp [Tile.values]

theorem Tile.values_getD (t : Tile) (n : Nat) : t.values.getD n 0 = (t.sums.toArray.getD n 0).toInt := by
  by_cases hn : n < 64 <;> simp [Tile.values, hn]

/-- The sums that align_add gives a tile before they are limited (R77). -/
def alignedSum (t : Tile) (xs : List Int) (e : BitVec 16) (i : Nat) : Int :=
  let exp := if t.empty = true ∨ t.exp.toInt < e.toInt then e else t.exp
  if t.empty then xs.getD i 0
  else rneShift (t.sums.toArray.getD i 0).toInt (exp.toInt - t.exp.toInt).toNat + rneShift (xs.getD i 0) (exp.toInt - e.toInt).toNat

/-- R77: align_add puts the aligned sums at the larger exponent. -/
theorem Tile.alignAdd_eq (t : Tile) {xs : List Int} (e : BitVec 16) (hnan : t.nan = false) (hlen : xs.length = 64) :
    ∃ vs : List Int, vs.length = 64 ∧ (∀ i < 64, vs.getD i 0 = alignedSum t xs e i) ∧
      t.alignAdd xs e false = t.putSums (if t.empty = true ∨ t.exp.toInt < e.toInt then e else t.exp) vs := by
  simp only [Tile.alignAdd, hnan, alignedSum]
  by_cases hempty : t.empty = true
  · exact ⟨xs, hlen, fun i _ => by simp [hempty], by simp [hempty]⟩
  · have hget (f : Int × Int → Int) (i : Nat) (hi : i < 64) :
        ((t.values.zip xs).map f).getD i 0 = f ((t.sums.toArray.getD i 0).toInt, xs.getD i 0) := by
      rw [← t.values_getD]
      simp [hi, hlen]
    by_cases hlt : t.exp.toInt < e.toInt
    · refine ⟨(t.values.zip xs).map fun p => rneShift p.1 (e.toInt - t.exp.toInt).toNat + p.2, by simp [hlen], fun i hi => ?_,
        by simp [hempty, hlt]⟩
      rw [hget _ i hi]
      simp [hempty, hlt, rneShift]
    · refine ⟨(t.values.zip xs).map fun p => p.1 + rneShift p.2 (t.exp.toInt - e.toInt).toNat, by simp [hlen], fun i hi => ?_,
        by simp [hempty, hlt]⟩
      rw [hget _ i hi]
      simp [hempty, hlt, rneShift]

/-- R77: align_add. -/
theorem alignAddRule : Claim.AlignAddRule := by
  intro t xs e n hn hlen
  refine ⟨fun hnan b => by simp [Tile.alignAdd, hnan], fun hnan => by simp [Tile.alignAdd, hnan], fun hnan => ?_⟩
  intro r exp sum
  obtain ⟨vs, hvs, hsums, heq⟩ := t.alignAdd_eq e hnan hlen
  have hr : r = t.putSums exp vs := heq
  have hsum (i : Nat) : alignedSum t xs e i = sum i := rfl
  clear_value r
  subst hr
  refine ⟨rfl, rfl, (t.putSums_nan exp vs).trans hnan, ?_, ?_⟩
  · exact (t.putSums_sum exp hvs hn).trans (congrArg (fun v => max (-(2 ^ 35)) (min (2 ^ 35 - 1) v)) (hsums n hn))
  · refine (t.putSums_sat exp hvs).trans (or_congr_right (exists_congr fun i => and_congr_right fun hi => ?_))
    rw [hsums i hi, hsum]

/-- Settles O23: rne_shift by its quotient and remainder, align_add by the sums that it limits. -/
theorem sumsAreAligned : Obligations.SumsAreAligned := ⟨rneShiftIsNearestEven, alignAddRule⟩

end Sys2Proof.Machine
end

section
/-! SUPPORT. The keys of encodings order the numbers of their format (R67, R88). -/

namespace Sys2Proof.Machine

open Sys2Proof.Claim

/-! ### Magnitudes (R67) -/

/-- What the formats have in common: a fraction and an exponent field, and a least exponent that is not positive. -/
theorem format_fields {f : Fmt} (hf : f ∈ formats) : 1 ≤ f.p ∧ 1 ≤ f.eb ∧ leastExp f ≤ 0 := by
  simp only [formats, List.mem_cons, List.not_mem_nil, or_false] at hf
  rcases hf with rfl | rfl | rfl <;> simp [Fmt.f32, Fmt.f16, Fmt.bf16, leastExp, Fmt.emin, Fmt.bias]

theorem magOf_subnormal {f : Fmt} {b : Nat} (hb : b < 2 ^ (f.p - 1)) : magOf f b = b := if_pos hb

theorem magOf_normal {f : Fmt} {q r : Nat} (hq : 1 ≤ q) (hr : r < 2 ^ (f.p - 1)) :
    magOf f (2 ^ (f.p - 1) * q + r) = (2 ^ (f.p - 1) + r) * 2 ^ (q - 1) := by
  have hle : 2 ^ (f.p - 1) * 1 ≤ 2 ^ (f.p - 1) * q := Nat.mul_le_mul_left _ hq
  rw [magOf, if_neg (by omega), Nat.mul_add_mod, Nat.mod_eq_of_lt hr, Nat.mul_add_div (by positivity), Nat.div_eq_of_lt hr, Nat.add_zero]

/-- A greater encoding has a greater magnitude. -/
theorem magOf_strictMono (f : Fmt) : StrictMono (magOf f) := by
  refine strictMono_nat_of_lt_succ fun b => ?_
  have hP : 0 < 2 ^ (f.p - 1) := by positivity
  rcases Nat.lt_trichotomy (b + 1) (2 ^ (f.p - 1)) with hlt | heq | hgt
  · rw [magOf_subnormal (by omega), magOf_subnormal hlt]; omega
  · have hnext := magOf_normal (f := f) (q := 1) (r := 0) le_rfl hP
    rw [Nat.mul_one, Nat.add_zero, ← heq] at hnext
    rw [magOf_subnormal (by omega), hnext]
    omega
  · obtain ⟨q, r, hq, hr, rfl⟩ : ∃ q r, 1 ≤ q ∧ r < 2 ^ (f.p - 1) ∧ b = 2 ^ (f.p - 1) * q + r :=
      ⟨b / 2 ^ (f.p - 1), b % 2 ^ (f.p - 1), Nat.div_pos (by omega) hP, Nat.mod_lt _ hP, (Nat.div_add_mod _ _).symm⟩
    have hpow : 0 < 2 ^ (q - 1) := by positivity
    rw [magOf_normal hq hr]
    by_cases hlast : r + 1 < 2 ^ (f.p - 1)
    · rw [Nat.add_assoc, magOf_normal hq hlast]
      exact Nat.mul_lt_mul_of_pos_right (by omega) hpow
    · have hnext := magOf_normal (f := f) (q := q + 1) (r := 0) (by omega) hP
      rw [show 2 ^ (f.p - 1) * q + r + 1 = 2 ^ (f.p - 1) * (q + 1) + 0 by rw [Nat.mul_add]; omega, hnext,
        show q + 1 - 1 = (q - 1) + 1 by omega, Nat.pow_succ, Nat.mul_comm (2 ^ (q - 1)) 2, ← Nat.mul_assoc]
      exact Nat.mul_lt_mul_of_pos_right (by omega) hpow

theorem magOf_zero (f : Fmt) : magOf f 0 = 0 := magOf_subnormal (by positivity)

/-! ### Encodings by sign and magnitude (R67) -/

/-- The value `v` is a number of sign `neg` whose encoding without its sign is `u`. -/
def Encodes (f : Fmt) (neg : Bool) (u : Nat) : FVal → Prop
  | .nan _ => False
  | .inf n => n = neg ∧ u = f.infBits false
  | .zero n => n = neg ∧ u = 0
  | .fin n m e => n = neg ∧ 0 < u ∧ u < f.infBits false ∧ leastExp f ≤ e ∧ m * 2 ^ (e - leastExp f).toNat = magOf f u

/-- The sign of an encoding. -/
def signBit (f : Fmt) (x : Nat) : Bool := decide (fieldN x (f.width - 1) 1 = 1)
/-- An encoding without its sign. -/
def unsignedBits (f : Fmt) (x : Nat) : Nat := x % 2 ^ (f.width - 1)

theorem infBits_false (f : Fmt) : f.infBits false = 2 ^ (f.p - 1) * (2 ^ f.eb - 1) := by
  simp [Fmt.infBits, flag, Nat.mul_comm]

/-- R67: a number's value by its sign and its encoding without it. -/
theorem encodes_val {f : Fmt} (hf : f ∈ formats) {x : Nat} (hnan : (f.val x).isNan = false) :
    Encodes f (signBit f x) (unsignedBits f x) (f.val x) := by
  obtain ⟨hp, heb, -⟩ := format_fields hf
  have hwidth : 2 ^ (f.width - 1) = 2 ^ (f.p - 1) * 2 ^ f.eb := by
    rw [← Nat.pow_add]; congr 1; unfold Fmt.width; omega
  have hfrac : fieldN x 0 (f.p - 1) = unsignedBits f x % 2 ^ (f.p - 1) := by
    simp [fieldN, unsignedBits, hwidth]
  have hex : fieldN x (f.p - 1) f.eb = unsignedBits f x / 2 ^ (f.p - 1) := by
    rw [fieldN, unsignedBits, hwidth, Nat.mod_mul_right_div_self]
  have hP : 0 < 2 ^ (f.p - 1) := by positivity
  have hr := Nat.mod_lt (unsignedBits f x) hP
  have hsplit := Nat.div_add_mod (unsignedBits f x) (2 ^ (f.p - 1))
  have hq : unsignedBits f x / 2 ^ (f.p - 1) < 2 ^ f.eb := by rw [← hex]; exact Nat.mod_lt _ (by positivity)
  have hE : 2 ≤ 2 ^ f.eb := Nat.le_self_pow (by omega) 2
  unfold Fmt.val at hnan ⊢
  simp only [hfrac, hex] at hnan ⊢
  generalize unsignedBits f x = u at *
  generalize hqdef : u / 2 ^ (f.p - 1) = q at *
  generalize u % 2 ^ (f.p - 1) = r at *
  have hbelow : q ≠ 2 ^ f.eb - 1 → u < f.infBits false := by
    intro hne
    have : 2 ^ (f.p - 1) * (q + 1) ≤ 2 ^ (f.p - 1) * (2 ^ f.eb - 1) := Nat.mul_le_mul_left _ (by omega)
    rw [Nat.mul_add] at this
    rw [infBits_false]
    omega
  by_cases hmax : q = 2 ^ f.eb - 1
  · rw [if_pos hmax] at hnan ⊢
    by_cases hr0 : r = 0
    · rw [if_pos hr0]
      exact ⟨rfl, by rw [infBits_false, ← hsplit, hmax, hr0, Nat.add_zero]⟩
    · rw [if_neg hr0] at hnan
      cases hnan
  · rw [if_neg hmax]
    by_cases hq0 : q = 0
    · rw [if_pos hq0]
      rw [hq0, Nat.mul_zero, Nat.zero_add] at hsplit
      by_cases hr0 : r = 0
      · rw [if_pos hr0]
        exact ⟨rfl, by rw [← hsplit, hr0]⟩
      · rw [if_neg hr0]
        refine ⟨rfl, by omega, hbelow hmax, le_rfl, ?_⟩
        rw [← hsplit, magOf_subnormal hr, leastExp, Int.sub_self]
        exact Nat.mul_one r
    · rw [if_neg hq0]
      have hle : 2 ^ (f.p - 1) * 1 ≤ 2 ^ (f.p - 1) * q := Nat.mul_le_mul_left _ (by omega)
      have hexp : (q : Int) - f.bias - f.p + 1 - leastExp f = ((q - 1 : Nat) : Int) := by
        unfold leastExp Fmt.emin; omega
      refine ⟨rfl, by omega, hbelow hmax, by omega, ?_⟩
      rw [hexp, Int.toNat_natCast, ← hsplit, magOf_normal (by omega) hr]

/-! ### Order (R84, R88) -/

/-- The place of an encoding among its format's numbers: -0 comes just below +0. -/
def ordinal (neg : Bool) (u : Nat) : Int := if neg then -1 - (u : Int) else u

/-- A sum of multiples of powers of two in units of a lower power. -/
theorem alignSum_units (z z' : Int) {e e' l : Int} (hl : l ≤ e) (hl' : l ≤ e') :
    (alignSum (z, e) (z', e')).1 * 2 ^ (min e e' - l).toNat = z * 2 ^ (e - l).toNat + z' * 2 ^ (e' - l).toNat := by
  simp only [alignSum]
  rw [Int.add_mul, Int.mul_assoc, Int.mul_assoc, ← pow_add, ← pow_add]
  congr 3 <;> omega

theorem alignSum_neg_iff (z z' : Int) {e e' l : Int} (hl : l ≤ e) (hl' : l ≤ e') :
    (alignSum (z, e) (-z', e')).1 < 0 ↔ z * 2 ^ (e - l).toNat < z' * 2 ^ (e' - l).toNat := by
  have hpos : (0 : Int) < 2 ^ (min e e' - l).toNat := by positivity
  have hunits := alignSum_units z (-z') hl hl'
  rw [← mul_lt_mul_iff_of_pos_right hpos, hunits, Int.zero_mul, Int.neg_mul]
  omega

/-- A finite value as a signed number of least subnormals, with the exponent that its `signed` has. -/
theorem Encodes.units {f : Fmt} {neg : Bool} {u : Nat} {v : FVal} (h : Encodes f neg u v) (hfin : v.isInf = false) (hl : leastExp f ≤ 0) :
    leastExp f ≤ v.signed.2 ∧ v.signed.1 * 2 ^ (v.signed.2 - leastExp f).toNat = signed neg (magOf f u) := by
  cases v with
  | nan g => exact h.elim
  | inf n => cases hfin
  | zero n =>
    obtain ⟨rfl, rfl⟩ := h
    refine ⟨hl, ?_⟩
    cases n <;> simp [FVal.signed, signed, magOf_zero]
  | fin n m e =>
    obtain ⟨rfl, -, -, hle, hmag⟩ := h
    refine ⟨hle, ?_⟩
    rw [← hmag]
    cases n <;> simp [FVal.signed, signed]

theorem FVal.signed_negate (v : FVal) : v.negate.signed = (-v.signed.1, v.signed.2) := by
  cases v with
  | fin n m e => cases n <;> simp [FVal.negate, FVal.signed]
  | _ => rfl

/-- Signed magnitudes are in the order of the ordinals, but for the two zeros. -/
theorem signed_magOf_lt_iff {f : Fmt} {n n' : Bool} {u u' : Nat} (h : ¬ (u = 0 ∧ u' = 0)) :
    signed n (magOf f u) < signed n' (magOf f u') ↔ ordinal n u < ordinal n' u' := by
  have hmono := magOf_strictMono f
  have hzero := magOf_zero f
  have hlt := hmono.lt_iff_lt (a := u) (b := u')
  have hgt := hmono.lt_iff_lt (a := u') (b := u)
  have hpos := hmono.lt_iff_lt (a := 0) (b := u)
  have hpos' := hmono.lt_iff_lt (a := 0) (b := u')
  cases n <;> cases n' <;> simp only [signed, ordinal, if_true, Bool.false_eq_true, if_false] <;> omega

section
variable {f : Fmt} {n n' : Bool} {u u' : Nat} {v v' : FVal}

/-- The infinities lie beyond the finite numbers: on the left of the order. -/
theorem Encodes.inf_lt (s : Bool) (h' : Encodes f n' u' v') (hpos : 0 < f.infBits false) :
    (FVal.inf s).lt true v' = true ↔ ordinal s (f.infBits false) < ordinal n' u' := by
  cases v' with
  | nan g => exact h'.elim
  | inf s' =>
    obtain ⟨rfl, rfl⟩ := h'
    cases s <;> cases s' <;> simp [FVal.lt, ordinal] <;> omega
  | zero s' =>
    obtain ⟨rfl, rfl⟩ := h'
    cases s <;> cases s' <;> simp [FVal.lt, ordinal] <;> omega
  | fin s' m' e' =>
    obtain ⟨rfl, -, hu', -⟩ := h'
    cases s <;> cases s' <;> simp [FVal.lt, ordinal] <;> omega

/-- The infinities on the right of the order of a finite number. -/
theorem Encodes.lt_inf (s' : Bool) (h : Encodes f n u v) (hfin : v.isInf = false) (hpos : 0 < f.infBits false) :
    v.lt true (.inf s') = true ↔ ordinal n u < ordinal s' (f.infBits false) := by
  cases v with
  | nan g => exact h.elim
  | inf s => cases hfin
  | zero s =>
    obtain ⟨rfl, rfl⟩ := h
    cases s <;> cases s' <;> simp [FVal.lt, ordinal] <;> omega
  | fin s m e =>
    obtain ⟨rfl, -, hu, -⟩ := h
    cases s <;> cases s' <;> simp [FVal.lt, ordinal] <;> omega

/-- Finite numbers that are not both zero, by their units. -/
theorem Encodes.alignSum_lt (h : Encodes f n u v) (h' : Encodes f n' u' v') (hfin : v.isInf = false) (hfin' : v'.isInf = false)
    (hl : leastExp f ≤ 0) (hz : ¬ (u = 0 ∧ u' = 0)) :
    decide ((alignSum v.signed v'.negate.signed).1 < 0) = true ↔ ordinal n u < ordinal n' u' := by
  obtain ⟨hle, hunits⟩ := h.units hfin hl
  obtain ⟨hle', hunits'⟩ := h'.units hfin' hl
  rw [decide_eq_true_iff, FVal.signed_negate, ← signed_magOf_lt_iff (f := f) hz, ← hunits, ← hunits']
  exact alignSum_neg_iff _ _ hle hle'

/-- R84, R88: the order of values, -0 below +0, is that of their ordinals. -/
theorem Encodes.lt_iff (h : Encodes f n u v) (h' : Encodes f n' u' v') (hl : leastExp f ≤ 0) (hpos : 0 < f.infBits false) :
    v.lt true v' = true ↔ ordinal n u < ordinal n' u' := by
  cases hv : v with
  | nan g => subst hv; exact h.elim
  | inf s =>
    subst hv
    obtain ⟨rfl, rfl⟩ := h
    exact h'.inf_lt s hpos
  | zero s =>
    subst hv
    cases v' with
    | nan g => exact h'.elim
    | inf s' => obtain ⟨rfl, rfl⟩ := h'; exact h.lt_inf s' rfl hpos
    | zero s' =>
      obtain ⟨⟨rfl, rfl⟩, rfl, rfl⟩ := And.intro h h'
      cases s <;> cases s' <;> simp [FVal.lt, ordinal]
    | fin s' m' e' => exact h.alignSum_lt h' rfl rfl hl (by obtain ⟨-, hu, -⟩ := h'; omega)
  | fin s m e =>
    subst hv
    have hu : ¬ u = 0 := by obtain ⟨-, hu, -⟩ := h; omega
    cases v' with
    | nan g => exact h'.elim
    | inf s' => obtain ⟨rfl, rfl⟩ := h'; exact h.lt_inf s' rfl hpos
    | zero s' => exact h.alignSum_lt h' rfl rfl hl (by omega)
    | fin s' m' e' => exact h.alignSum_lt h' rfl rfl hl (by omega)

end

/-- The key of an encoding that is no NaN. -/
theorem key_of_number {f : Fmt} {x : Nat} (hnan : (f.val x).isNan = false) :
    f.key x = if fieldN x (f.width - 1) 1 = 0 then x + 2 ^ (f.width - 1) else 2 ^ f.width - 1 - x := by
  unfold Fmt.key
  cases hv : f.val x with
  | nan g => rw [hv] at hnan; cases hnan
  | _ => rfl

/-- R88: a number's key is its ordinal above the middle of the keys. -/
theorem key_eq_ordinal {f : Fmt} (hf : f ∈ formats) {x : Nat} (hx : x < 2 ^ f.width) (hnan : (f.val x).isNan = false) :
    (f.key x : Int) = (2 ^ (f.width - 1) : Nat) + ordinal (signBit f x) (unsignedBits f x) := by
  obtain ⟨hp, -, -⟩ := format_fields hf
  have hhalf : 2 ^ f.width = 2 ^ (f.width - 1) * 2 := by
    rw [← Nat.pow_succ]; congr 1; unfold Fmt.width; omega
  have hsign : fieldN x (f.width - 1) 1 = x / 2 ^ (f.width - 1) := by
    rw [fieldN, Nat.pow_one, Nat.mod_eq_of_lt (Nat.div_lt_of_lt_mul (by omega))]
  have hsplit := Nat.div_add_mod x (2 ^ (f.width - 1))
  have hquot : x / 2 ^ (f.width - 1) < 2 := Nat.div_lt_of_lt_mul (by omega)
  rw [key_of_number hnan, signBit, hsign, unsignedBits, hhalf]
  rw [hhalf] at hx
  generalize 2 ^ (f.width - 1) = half at *
  generalize x / half = q at *
  interval_cases q <;> simp [ordinal] <;> omega

/-- Settles O18: a number's key is its ordinal up to a constant, and the ordinals are in the order of the values. -/
theorem keysOrderNumbers : Obligations.KeysOrderNumbers := by
  intro f hf x y hx hy hnx hny
  obtain ⟨-, heb, hl⟩ := format_fields hf
  have hpos : 0 < f.infBits false := by
    have hE : 2 ≤ 2 ^ f.eb := Nat.le_self_pow (by omega) 2
    rw [infBits_false]
    exact Nat.mul_pos (by positivity) (by omega)
  have hkx := key_eq_ordinal hf hx hnx
  have hky := key_eq_ordinal hf hy hny
  rw [(encodes_val hf hnx).lt_iff (encodes_val hf hny) hl hpos]
  omega

end Sys2Proof.Machine
end

section
/-! SUPPORT. The f and v registers at issue (R51, R53, R61, R102): what their reads and writes do to a hart whose operands have been
taken, and how flags gather (R82). -/

namespace Sys2Proof.Machine

open Sys2Proof.Claim

section
variable {s : State} {t : Thread} (ht : OperandsOnly s.focus t)
include ht

theorem OperandsOnly.fcsr_eq : t.fcsr = s.focus.fcsr := by rw [ht]

theorem State.writers_operands (r : Reg) : ({ s with focus := t } : State).writers t r = s.writers s.focus r := by
  unfold State.writers Req.ofThread
  rw [ht.id_eq, ht.lid_eq]

/-- Named ports that are there, after operands have been taken. -/
theorem checkPorts_run {rs : List (BitVec 5)} (hports : PortsOk s rs) :
    checkPorts rs { s with focus := t } = .ok () { s with focus := t } := by
  refine checkPorts_ok ?_
  rw [ht]
  exact hports

theorem scoreboard_run {r : Reg} (hclear : Clear s r) : scoreboard r { s with focus := t } = .ok () { s with focus := t } :=
  scoreboard_clear ((State.writers_operands ht r).trans hclear)

theorem readF_run {a : BitVec 4} (hclear : Clear s (.f a)) : readF a { s with focus := t } = .ok (fBits s a) { s with focus := t } := by
  simp only [readF, M.bind_run, scoreboard_run ht hclear, focus_run, fBits]
  rw [ht]
  rfl

theorem readV_run {a : BitVec 5} (hclear : Clear s (.v a)) : readV a { s with focus := t } = .ok (vBits s a) { s with focus := t } := by
  simp only [readV, M.bind_run, scoreboard_run ht hclear, focus_run, vBits]
  rw [ht]
  rfl

theorem roundingMode_run : roundingMode { s with focus := t } = .ok (rmOf s.focus.fcsr) { s with focus := t } := by
  simp only [roundingMode, M.bind_run, focus_run, M.pure_run, OperandsOnly.fcsr_eq ht]

/-- A write of an f register is the statements', before its flags are raised. -/
theorem writeF_run {d : BitVec 4} (hclear : Clear s (.f d)) (w : W32) :
    writeF d w { s with focus := t } = .ok () { s with focus := putF t d w .none } := by
  simp only [writeF, M.bind_run, scoreboard_run ht hclear, setFocus_run]
  simp [State.mapFocus, Thread.cancel, putF, FFlags.none, FFlags.bits, flag]

/-- A write of a v register is the statements', before its flags are raised. -/
theorem writeV_run {d : BitVec 5} (hclear : Clear s (.v d)) (w : VReg) :
    writeV d w { s with focus := t } = .ok () { s with focus := putV t d w .none } := by
  simp only [writeV, M.bind_run, scoreboard_run ht hclear, setFocus_run]
  simp [State.mapFocus, Thread.cancel, putV, FFlags.none, FFlags.bits, flag]

/-- An f register's write with its flags. -/
theorem writeF_raiseFlags_run {d : BitVec 4} (hclear : Clear s (.f d)) (w : W32) (fl : FFlags) :
    (do writeF d w; raiseFlags fl : M Unit) { s with focus := t } = .ok () { s with focus := putF t d w fl } := by
  refine (M.bind_ok (writeF_run ht hclear w)).trans ?_
  simp [raiseFlags, State.mapFocus, Thread.raiseFlags, putF, FFlags.none, FFlags.bits, flag]

/-- A v register's write with its flags. -/
theorem writeV_raiseFlags_run {d : BitVec 5} (hclear : Clear s (.v d)) (w : VReg) (fl : FFlags) :
    (do writeV d w; raiseFlags fl : M Unit) { s with focus := t } = .ok () { s with focus := putV t d w fl } := by
  refine (M.bind_ok (writeV_run ht hclear w)).trans ?_
  simp [raiseFlags, State.mapFocus, Thread.raiseFlags, putV, FFlags.none, FFlags.bits, flag]

end

/-! ### Flags (R61, R82) -/

theorem FFlags.none_or (a : FFlags) : FFlags.none.or a = a := by simp [FFlags.none, FFlags.or]

theorem unionFlags_cons (a : FFlags) (l : List FFlags) : unionFlags (a :: l) = a.or (unionFlags l) := by simp [unionFlags, FFlags.or]

theorem foldl_or_eq (l : List FFlags) : ∀ a : FFlags, l.foldl FFlags.or a = a.or (unionFlags l) := by
  induction l with
  | nil => intro a; simp [unionFlags, FFlags.or]
  | cons b l ih => intro a; rw [List.foldl_cons, ih, unionFlags_cons]; simp [FFlags.or, Bool.or_assoc]

/-- R82: flags gathered one by one are the union. -/
theorem foldl_or_none {α : Type} (l : List α) (f : α → FFlags) : l.foldl (fun fl i => fl.or (f i)) .none = unionFlags (l.map f) := by
  rw [← FFlags.none_or (unionFlags _), ← foldl_or_eq, List.foldl_map]

/-- Flags that one of several operations raises are the union. -/
theorem unionFlags_invalid {α : Type} (l : List α) (p : α → Bool) :
    unionFlags (l.map fun i => if p i then FFlags.invalid else FFlags.none) = if l.any p then FFlags.invalid else .none := by
  induction l with
  | nil => rfl
  | cons x l ih =>
    rw [List.map_cons, unionFlags_cons, ih, List.any_cons]
    cases p x <;> cases l.any p <;> rfl

end Sys2Proof.Machine
end

section
/-! SUPPORT. Float moves, conversions and compares (R86, R88, R193, R231 to R233). -/

namespace Sys2Proof.Machine

open Sys2Proof.Claim

/-! ### Moves and conversions (R231, R232) -/

/-- The effect of an instruction that moves f[a] to an x register. -/
theorem moveToX_run {s : State} {t : Thread} {a : BitVec 4} {d : BitVec 5} (f : W32 → Word) (hports : PortsOk s [d]) (hclear : Clear s (.f a))
    (hgive : give s (start s 4) d (f (fBits s a)) = some t) :
    (do checkPorts [d]; let x ← readF a; writeX d (f x) : M Unit) { s with focus := start s 4 } = .ok () { s with focus := t } :=
  (M.bind_ok (checkPorts_run (operands_start s 4) hports)).trans
    ((M.bind_ok (readF_run (operands_start s 4) hclear)).trans (writeX_of_give hgive))

/-- R232: the class of a number is the statement's. -/
theorem classOf_eq {s : State} {a : BitVec 4} {k : Nat} (h : match fVal s a with
     | .inf true => k = 0 | .fin true m _ => k = (if m < 2 ^ 23 then 2 else 1) | .zero true => k = 3 | .zero false => k = 4
     | .fin false m _ => k = (if m < 2 ^ 23 then 5 else 6) | .inf false => k = 7 | .nan true => k = 8 | .nan false => k = 9) :
    classOf (fBits s a) = k := by
  unfold classOf
  rw [show valF (fBits s a) = fVal s a from rfl]
  cases hv : fVal s a with
  | nan g => rw [hv] at h; cases g <;> exact h.symm
  | inf n => rw [hv] at h; cases n <;> exact h.symm
  | zero n => rw [hv] at h; cases n <;> exact h.symm
  | fin n m e => rw [hv] at h; cases n <;> exact h.symm

/-- R86, R88, R231, R232: moves and conversions. -/
theorem floatMovesAndConversions : Claim.FloatMovesAndConversions := by
  refine ⟨fun s g d a t hen hports hclear hgive => ?_, fun s g d a x t hen hports hx hclear => ⟨?_, ?_⟩,
    fun s g d a t hen hports hclear hgive => ?_, fun s g d a t hen hports hclear hgive => ?_,
    fun s g d a t k hen hports hclear hk hgive => ?_⟩
  · exact congrArg _ (State.scalar_completes hen rfl (moveToX_run (fun x => x.setWidth 64) hports hclear hgive))
  · refine congrArg _ (State.scalar_completes hen rfl ?_)
    exact (M.bind_ok (checkPorts_run (operands_start s 4) hports)).trans
      ((M.bind_ok (readX_of_take hx)).trans (writeF_run ((operands_start s 4).trans (operands_take hx)) hclear _))
  · have hround : (if x = 0 then (0, FFlags.none) else Fmt.f32.round (rmOf s.focus.fcsr) (decide (x.toInt < 0)) x.toInt.natAbs 0) =
        Fmt.f32.ofInt (rmOf s.focus.fcsr) x.toInt 0 false := by
      have hzero : x.toInt = 0 ↔ x = 0 := by rw [← BitVec.toInt_inj]; rfl
      simp only [Fmt.ofInt, hzero]
      rfl
    rw [hround]
    refine congrArg _ (State.scalar_completes hen rfl ?_)
    exact (M.bind_ok (checkPorts_run (operands_start s 4) hports)).trans ((M.bind_ok (readX_of_take hx)).trans
      ((M.bind_ok (roundingMode_run ((operands_start s 4).trans (operands_take hx)))).trans
        (writeF_raiseFlags_run ((operands_start s 4).trans (operands_take hx)) hclear _ _)))
  · refine congrArg _ (State.scalar_completes hen rfl ?_)
    exact (M.bind_ok (checkPorts_run (operands_start s 4) hports)).trans
      ((M.bind_ok (readF_run (operands_start s 4) hclear)).trans ((M.bind_ok (roundingMode_run (operands_start s 4))).trans
        (M.bind_ok (writeX_of_give hgive))))
  · exact congrArg _ (State.scalar_completes hen rfl (moveToX_run (fun x => BitVec.ofNat 64 (Fmt.f32.key x.toNat)) hports hclear hgive))
  · rw [← classOf_eq hk] at hgive
    exact congrArg _ (State.scalar_completes hen rfl (moveToX_run (fun x => BitVec.ofNat 64 (2 ^ classOf x)) hports hclear hgive))

/-! ### Compares (R193, R233) -/

/-- The four modes of a compare. -/
theorem bitVec2_cases (m : BitVec 2) : m = 0 ∨ m = 1 ∨ m = 2 ∨ m = 3 := by revert m; decide

theorem combine_eq (mode : BitVec 2) (c : Bool) (x y : W32) : combine mode c x y =
    let m : W32 := if c then 0xFFFFFFFF else 0
    if mode = 0 then (m, ~~~ m) else if mode = 1 then (x &&& m, y ||| ~~~ m) else (x ||| m, y &&& ~~~ m) := by
  rcases bitVec2_cases mode with rfl | rfl | rfl | rfl <;> cases c <;> rfl

/-- A scalar compare writes its predicates (R193). -/
theorem writePreds_run (mode : BitVec 2) (c : Bool) (pd pe : BitVec 3) (s : State) (t : Thread) :
    writePreds mode c pd pe { s with focus := t } = .ok () { s with focus := compared t mode c pd pe } := by
  simp only [writePreds, readP, writeP, M.bind_run, focus_run, M.pure_run, setFocus_run, combine_eq]
  rfl

/-- The eight codes of a condition. -/
theorem bitVec3_cases (c : BitVec 3) : c = 0 ∨ c = 1 ∨ c = 2 ∨ c = 3 ∨ c = 4 ∨ c = 5 ∨ c = 6 ∨ c = 7 := by revert c; decide

theorem floatCond_eq (c : BitVec 3) (x y : FVal) : floatCond c.toNat x y = floatHolds c x y := by
  rcases bitVec3_cases c with rfl | rfl | rfl | rfl | rfl | rfl | rfl | rfl <;> rfl

theorem condInvalid_flags (c : BitVec 3) (x y : FVal) :
    (if condInvalid c.toNat x y then FFlags.invalid else .none) = compareFlags c x y := by
  rcases bitVec3_cases c with rfl | rfl | rfl | rfl | rfl | rfl | rfl | rfl <;> rfl

/-- R193, R233: FCMP. -/
theorem floatCompares : Claim.FloatCompares := by
  intro s g m d a b e c hen ha hb _
  rw [← floatCond_eq, ← condInvalid_flags]
  refine congrArg _ (State.scalar_completes hen rfl ?_)
  exact (M.bind_ok (readF_run (operands_start s 4) ha)).trans ((M.bind_ok (readF_run (operands_start s 4) hb)).trans
    (M.bind_ok (writePreds_run m _ d e s (start s 4))))

/-- Settles O17: each instruction's operands and result by the rules of its registers. -/
theorem floatMovesAndCompares : Obligations.FloatMovesAndCompares := ⟨floatMovesAndConversions, floatCompares⟩

end Sys2Proof.Machine
end

section
/-! SUPPORT. Lanes of vector registers (R52, R53, R134, R234): what their replacement writes and keeps, and how a vector instruction
completes. -/

namespace Sys2Proof.Machine

open Sys2Proof.Claim

/-! ### Lanes and bits replaced -/

theorem getLsbD_setLane {w k j : Nat} (v : VReg) (x : BitVec w) (hj : j < 256) :
    (setLane w v k x).getLsbD j = if w * k ≤ j ∧ j < w * k + w then x.getLsbD (j - w * k) else v.getLsbD j := by
  simp only [setLane, BitVec.getLsbD_or, BitVec.getLsbD_and, BitVec.getLsbD_not, BitVec.getLsbD_shiftLeft, BitVec.getLsbD_setWidth,
    BitVec.getLsbD_allOnes, hj, decide_true, Bool.true_and]
  by_cases hlo : j < w * k
  · simp [hlo]
  · by_cases hhi : j < w * k + w
    · simp [hlo, hhi, show j - w * k < 256 by omega, show j - w * k < w by omega, show w * k ≤ j by omega]
    · simp [hhi, show ¬ j - w * k < w by omega, BitVec.getLsbD_of_ge x (j - w * k) (by omega)]

/-- A lane after a lane was replaced. -/
theorem extractLsb'_setLane {w k i : Nat} (v : VReg) (x : BitVec w) (hk : w * (k + 1) ≤ 256) (hi : w * (i + 1) ≤ 256) :
    (setLane w v k x).extractLsb' (w * i) w = if i = k then x else v.extractLsb' (w * i) w := by
  rw [Nat.mul_add] at hk hi
  refine BitVec.eq_of_getLsbD_eq fun b hb => ?_
  rw [BitVec.getLsbD_extractLsb', getLsbD_setLane v x (by omega)]
  rcases Nat.lt_trichotomy i k with hlt | rfl | hgt
  · have : w * (i + 1) ≤ w * k := Nat.mul_le_mul_left _ hlt
    rw [Nat.mul_add] at this
    rw [if_neg (by omega), if_neg (by omega), BitVec.getLsbD_extractLsb']
  · rw [if_pos (by omega), if_pos rfl, Nat.add_sub_cancel_left]
    simp [hb]
  · have : w * (k + 1) ≤ w * i := Nat.mul_le_mul_left _ hgt
    rw [Nat.mul_add] at this
    rw [if_neg (by omega), if_neg (by omega), BitVec.getLsbD_extractLsb']

theorem mapLanes_succ (w n : Nat) (mask : W32) (old : VReg) (f : Nat → BitVec w) : mapLanes w (n + 1) mask old f =
    if bit mask n then setLane w (mapLanes w n mask old f) n (f n) else mapLanes w n mask old f := by
  simp [mapLanes, List.range_succ]

/-- The lanes that are written, and those that are kept. -/
theorem extractLsb'_mapLanes {w i : Nat} (mask : W32) (old : VReg) (f : Nat → BitVec w) (hi : w * (i + 1) ≤ 256) : ∀ {n : Nat}, w * n ≤ 256 →
    (mapLanes w n mask old f).extractLsb' (w * i) w = if i < n ∧ bit mask i = true then f i else old.extractLsb' (w * i) w := by
  intro n
  induction n with
  | zero => simp [mapLanes]
  | succ n ih =>
    intro hn
    have ih := ih (by rw [Nat.mul_add] at hn; omega)
    rw [mapLanes_succ]
    by_cases hbit : bit mask n = true
    · rw [if_pos hbit, extractLsb'_setLane _ _ hn hi, ih]
      by_cases heq : i = n
      · subst heq; simp [hbit]
      · simp [heq, show i < n + 1 ↔ i < n by omega]
    · rw [if_neg hbit, ih]
      by_cases heq : i = n
      · subst heq; simp [hbit]
      · simp [show i < n + 1 ↔ i < n by omega]

/-- The bits above the lanes are kept. -/
theorem getLsbD_mapLanes_above {w j : Nat} (mask : W32) (old : VReg) (f : Nat → BitVec w) : ∀ {n : Nat}, w * n ≤ j →
    (mapLanes w n mask old f).getLsbD j = old.getLsbD j := by
  intro n
  induction n with
  | zero => simp [mapLanes]
  | succ n ih =>
    intro hn
    rw [Nat.mul_add] at hn
    have ih := ih (by omega)
    rw [mapLanes_succ]
    split
    · by_cases hj : j < 256
      · rw [getLsbD_setLane _ _ hj, if_neg (by omega), ih]
      · rw [BitVec.getLsbD_of_ge _ _ (by omega), BitVec.getLsbD_of_ge _ _ (by omega)]
    · exact ih

theorem getLsbD_setBit {p : W32} {i j : Nat} (b : Bool) (hi : i < 32) (hj : j < 32) :
    (setBit p i b).getLsbD j = if j = i then b else p.getLsbD j := by
  have hone : (1#32 <<< i).getLsbD j = decide (j = i) := by
    rw [BitVec.getLsbD_shiftLeft, BitVec.getLsbD_one]
    by_cases h : j = i
    · simp [h, hi]
    · simp [h]; omega
  cases b
  · simp only [setBit, Bool.false_eq_true, if_false, BitVec.getLsbD_and, BitVec.getLsbD_not, hone, hj]
    by_cases h : j = i <;> simp [h]
  · simp only [setBit, if_true, BitVec.getLsbD_or, hone]
    by_cases h : j = i <;> simp [h]

/-- The bits of a predicate that are written, and those that are kept. -/
theorem getLsbD_foldl_setBit {j : Nat} (mask p : W32) (c : Nat → Bool) (hj : j < 32) : ∀ {n : Nat}, n ≤ 32 →
    ((List.range n).foldl (fun p i => if bit mask i then setBit p i (c i) else p) p).getLsbD j =
      if j < n ∧ bit mask j = true then c j else p.getLsbD j := by
  intro n
  induction n with
  | zero => simp
  | succ n ih =>
    intro hn
    have ih := ih (by omega)
    rw [List.range_succ, List.foldl_append, List.foldl_cons, List.foldl_nil]
    by_cases hbit : bit mask n = true
    · rw [if_pos hbit, getLsbD_setBit _ (by omega) hj, ih]
      by_cases heq : j = n
      · subst heq; simp [hbit]
      · simp [heq, show j < n + 1 ↔ j < n by omega]
    · rw [if_neg hbit, ih]
      by_cases heq : j = n
      · subst heq; simp [hbit]
      · simp [show j < n + 1 ↔ j < n by omega]

/-! ### Vector instructions at issue (R134) -/

/-- The lanes that a vector instruction of n lanes acts in. -/
def laneMask (s : State) (g : Guard) (n : Nat) : W32 := s.focus.guard g &&& BitVec.ofNat 32 (2 ^ n - 1)

section
variable {s : State} {g : Guard} {n : Nat}

theorem bit_laneMask {i : Nat} (hn : n ≤ 32) (hi : i < n) : bit (laneMask s g n) i = (s.focus.guard g).getLsbD i := by
  simp [bit, laneMask, BitVec.getLsbD_ofNat, Nat.testBit_two_pow_sub_one, hi, show i < 32 by omega]

/-- A vector instruction of which a lane is enabled and whose effect runs to its end completes. -/
theorem State.vector_completes {t : Thread} {m : W32 → M Unit} (hn : n ≤ 32) (hen : LanesEnabled s g n)
    (hm : m (laneMask s g n) { s with focus := start s 4 } = .ok () { s with focus := t }) : s.vector g n m = retired s t 4 .no := by
  obtain ⟨hcore, i, hi, hbit⟩ := hen
  have hmask : (laneMask s g n != 0) = true := by
    rw [bne_iff_ne]
    intro hzero
    rw [← bit_laneMask hn hi, hzero] at hbit
    simp [bit] at hbit
  show s.issue .core 4 noPre (laneMask s g n != 0) .no (m (laneMask s g n)) = _
  rw [hmask]
  exact State.issue_ok hcore rfl hm

/-- The lanes that a vector instruction replaces. -/
theorem lanes_mapLanes {w : Nat} (old : VReg) (f : Nat → BitVec w) (hn : n ≤ 32) (hw : w * n ≤ 256) :
    Claim.Lanes s g w n old (mapLanes w n (laneMask s g n) old f) f := by
  refine ⟨fun i hi => ?_, fun k hk => getLsbD_mapLanes_above _ old f hk⟩
  rw [extractLsb'_mapLanes _ _ _ ((Nat.mul_le_mul_left w hi).trans hw) hw, bit_laneMask hn hi]
  simp [hi]

theorem onLanes_eq (hn : n ≤ 32) : (List.range n).filter (fun i => bit (laneMask s g n) i) = onLanes s g n :=
  List.filter_congr fun _ hi => bit_laneMask hn (List.mem_range.mp hi)

/-- The lanes and the flags of an operation in every enabled lane (R82). -/
theorem lanes_mapLanesF {w : Nat} (old : VReg) (f : Nat → Nat × FFlags) (hn : n ≤ 32) (hw : w * n ≤ 256) :
    Claim.Lanes s g w n old (mapLanesF w n (laneMask s g n) old f).1 (fun i => BitVec.ofNat w (f i).1) ∧
    (mapLanesF w n (laneMask s g n) old f).2 = unionFlags ((onLanes s g n).map fun i => (f i).2) := by
  refine ⟨lanes_mapLanes old _ hn hw, ?_⟩
  rw [← foldl_or_none, ← onLanes_eq hn, List.foldl_filter]
  rfl

end

/-! ### Types of lanes (R52, R165) -/

theorem fmtOf_eq_formatOf (t : BitVec 2) : fmtOf t = formatOf t.toNat := by
  rcases bitVec2_cases t with rfl | rfl | rfl | rfl <;> rfl

theorem fltLanes_le (t : BitVec 2) : fltLanes t ≤ 32 := by unfold fltLanes; split <;> decide

theorem intLanes_pos (t : BitVec 2) : 0 < intLanes t := by
  rcases bitVec2_cases t with rfl | rfl | rfl | rfl <;> decide

theorem intLanes_le (t : BitVec 2) : intLanes t ≤ 32 := Nat.div_le_self _ _

theorem fmtOf_width_mul_fltLanes (t : BitVec 2) : (fmtOf t).width * fltLanes t = 256 := by
  rcases bitVec2_cases t with rfl | rfl | rfl | rfl <;> rfl

theorem intWidth_mul_intLanes (t : BitVec 2) : intWidth t * intLanes t = 256 := by
  rcases bitVec2_cases t with rfl | rfl | rfl | rfl <;> rfl

end Sys2Proof.Machine
end

section
/-! SUPPORT. Vector float operations (R81, R82, R88, R236, R241, R244). -/

namespace Sys2Proof.Machine

open Sys2Proof.Claim

/-- The VFLT operations on the values of three registers are the shared form. -/
theorem exec_vflt {e : (Guard → BitVec 5 → BitVec 5 → BitVec 5 → BitVec 2 → Instr) × (Fmt → RM → FVal → FVal → FVal → Nat × FFlags)}
    (he : e ∈ vfltOps) (g : Guard) (d a b : BitVec 5) (t : BitVec 2) (s : State) :
    exec (e.1 g d a b t) s = .next (s.vector g (fltLanes t) (vflt e.2 t d a b)) := by
  simp only [vfltOps, List.mem_cons, List.not_mem_nil, or_false] at he
  rcases he with rfl | rfl | rfl | rfl | rfl | rfl | rfl <;> rfl

/-- The VFLT operations of one source are the shared form. -/
theorem exec_vfltUnary {e : (Guard → BitVec 5 → BitVec 5 → BitVec 2 → Instr) × (Fmt → RM → FVal → Nat × FFlags)}
    (he : e ∈ vfltUnaryOps) (g : Guard) (d a : BitVec 5) (t : BitVec 2) (s : State) :
    exec (e.1 g d a t) s = .next (s.vector g (fltLanes t) (vflt (fun f rm x _ _ => e.2 f rm x) t d a a)) := by
  simp only [vfltUnaryOps, List.mem_cons, List.not_mem_nil, or_false] at he
  rcases he with rfl | rfl | rfl <;> rfl

/-- A VFLT operation writes its results in the enabled lanes and sets the union of their flags. -/
theorem vflt_completes (op : Fmt → RM → FVal → FVal → FVal → Nat × FFlags) {s : State} {g : Guard} {d a b : BitVec 5} {t : BitVec 2}
    (hen : LanesEnabled s g (fLanes t)) (ha : Clear s (.v a)) (hb : Clear s (.v b)) (hd : Clear s (.v d)) :
    let f := formatOf t.toNat
    let at' (r : BitVec 5) (i : Nat) : FVal := f.val ((vBits s r).extractLsb' (f.width * i) f.width).toNat
    let res (i : Nat) : Nat × FFlags := op f (rmOf s.focus.fcsr) (at' a i) (at' b i) (at' d i)
    ∃ r, s.vector g (fltLanes t) (vflt op t d a b) =
        retired s (putV (start s 4) d r (unionFlags ((onLanes s g (fLanes t)).map fun i => (res i).2))) 4 .no ∧
      Claim.Lanes s g f.width (fLanes t) (vBits s d) r fun i => BitVec.ofNat f.width (res i).1 := by
  rw [← fmtOf_eq_formatOf]
  intro f at' res
  have hn := fltLanes_le t
  obtain ⟨hlanes, hflags⟩ := lanes_mapLanesF (s := s) (g := g) (vBits s d) res hn (fmtOf_width_mul_fltLanes t).le
  refine ⟨_, State.vector_completes hn hen ?_, hlanes⟩
  rw [show fLanes t = fltLanes t from rfl, ← hflags]
  exact (M.bind_ok (readV_run (operands_start s 4) ha)).trans ((M.bind_ok (readV_run (operands_start s 4) hb)).trans
    ((M.bind_ok (readV_run (operands_start s 4) hd)).trans ((M.bind_ok (roundingMode_run (operands_start s 4))).trans
      (writeV_raiseFlags_run (operands_start s 4) hd _ _))))

/-- Settles O20: each instruction is a replacement of lanes by a function of its operands' lanes, with the union of their flags. -/
theorem vectorFloatLanes : Obligations.VectorFloatLanes := by
  refine ⟨fun e he s g d a b t hen ha hb hd => ?_, fun e he s g d a t hen ha hd => ?_, fun s g d a t hen ha hd => ?_,
    ?_, fun s g d a t hen ha hd => ?_⟩
  · obtain ⟨r, hret, hlanes⟩ := vflt_completes e.2 hen ha hb hd
    exact ⟨r, (exec_vflt he ..).trans (congrArg _ hret), hlanes⟩
  · obtain ⟨r, hret, hlanes⟩ := vflt_completes (fun f rm x _ _ => e.2 f rm x) hen ha ha hd
    exact ⟨r, (exec_vfltUnary he ..).trans (congrArg _ hret), hlanes⟩
  · rw [← fmtOf_eq_formatOf]
    intro f
    refine ⟨_, congrArg _ (State.vector_completes (fltLanes_le t) hen ?_), lanes_mapLanes (vBits s d) _ (fltLanes_le t) (fmtOf_width_mul_fltLanes t).le⟩
    exact (M.bind_ok (readV_run (operands_start s 4) ha)).trans ((M.bind_ok (readV_run (operands_start s 4) hd)).trans
      (writeV_run (operands_start s 4) hd _))
  · intro s g d a u t n hen ha hd
    rw [← fmtOf_eq_formatOf t, ← fmtOf_eq_formatOf u]
    intro src dst res
    have hn : n ≤ 32 := (min_le_left _ _).trans (fltLanes_le t)
    have hw : dst.width * n ≤ 256 := (Nat.mul_le_mul_left _ (min_le_right _ _)).trans (fmtOf_width_mul_fltLanes u).le
    obtain ⟨hlanes, hflags⟩ := lanes_mapLanesF (s := s) (g := g) (vBits s d) res hn hw
    refine ⟨_, congrArg _ (State.vector_completes hn hen ?_), hlanes⟩
    rw [← hflags]
    exact (M.bind_ok (readV_run (operands_start s 4) ha)).trans ((M.bind_ok (readV_run (operands_start s 4) hd)).trans
      ((M.bind_ok (roundingMode_run (operands_start s 4))).trans (writeV_raiseFlags_run (operands_start s 4) hd _ _)))
  · rw [← fmtOf_eq_formatOf]
    intro f res
    refine ⟨_, congrArg _ (State.vector_completes (fltLanes_le t) hen ?_), lanes_mapLanes (vBits s d) _ (fltLanes_le t) (fmtOf_width_mul_fltLanes t).le⟩
    exact (M.bind_ok (readF_run (operands_start s 4) ha)).trans ((M.bind_ok (readV_run (operands_start s 4) hd)).trans
      ((M.bind_ok (roundingMode_run (operands_start s 4))).trans (writeV_raiseFlags_run (operands_start s 4) hd _ _)))

end Sys2Proof.Machine
end

section
/-! SUPPORT. Vector compares, lane selects and reductions (R85, R192, R233, R237, R242, R243). -/

namespace Sys2Proof.Machine

open Sys2Proof.Claim

/-! ### Compares (R192, R233, R237) -/

/-- R192: an integer condition. -/
theorem intCond_eq {w : Nat} (c : BitVec 3) (x y : BitVec w) : intCond c x y = condHolds c x y := by
  rcases bitVec3_cases c with rfl | rfl | rfl | rfl | rfl | rfl | rfl | rfl
  · simp [intCond, condHolds, beq_eq_decide]
  · simp [intCond, condHolds, bne, beq_eq_decide]
  · rfl
  · simp [intCond, condHolds, BitVec.slt, ← decide_not]
  · rfl
  · simp [intCond, condHolds, BitVec.ult, ← decide_not]
  · simp [intCond, condHolds, bne, beq_eq_decide]
  · simp [intCond, condHolds, beq_eq_decide]

/-- The predicate of which the enabled lanes' bits are replaced (R237). -/
def laneBits (s : State) (g : Guard) (n : Nat) (p : W32) (c : Nat → Bool) : W32 :=
  (List.range n).foldl (fun p i => if bit (laneMask s g n) i then setBit p i (c i) else p) p

theorem getLsbD_laneBits {s : State} {g : Guard} {n i : Nat} (p : W32) (c : Nat → Bool) (hn : n ≤ 32) (hi : i < 32) :
    (laneBits s g n p c).getLsbD i = if i < n ∧ (s.focus.guard g).getLsbD i = true then c i else p.getLsbD i := by
  rw [laneBits, getLsbD_foldl_setBit _ _ _ hi hn]
  by_cases h : i < n
  · rw [bit_laneMask hn h]
  · simp [h]

/-- A vector compare writes the enabled lanes' bits of its two predicates. -/
theorem writeLaneBits_run (s : State) (g : Guard) (n : Nat) (d e : BitVec 3) (c : Nat → Bool) :
    writeLaneBits n (laneMask s g n) d e c { s with focus := start s 4 } = .ok ()
      { s with focus := withP (withP (start s 4) d (laneBits s g n (s.focus.pred d) c)) e (laneBits s g n (s.focus.pred e) fun i => !c i) } := rfl

/-- R192, R233, R237: vector compares. -/
theorem vectorComparesWriteBits : Claim.VectorComparesWriteBits := by
  refine ⟨fun s g t d a b e c hen ha hb => ?_, fun s g t d a b e c hen ha hb _ => ?_⟩
  · intro w holds
    refine ⟨_, _, congrArg _ (State.vector_completes (intLanes_le t) hen ?_),
      fun i hi => getLsbD_laneBits _ holds (intLanes_le t) hi, fun i hi => getLsbD_laneBits _ (fun i => !holds i) (intLanes_le t) hi⟩
    refine (M.bind_ok (readV_run (operands_start s 4) ha)).trans ((M.bind_ok (readV_run (operands_start s 4) hb)).trans ?_)
    simp only [intCond_eq]
    exact writeLaneBits_run s g (intLanes t) d e holds
  · rw [← fmtOf_eq_formatOf]
    intro f at' fl
    have hflags : fl = if (List.range (fltLanes t)).any (fun i => bit (laneMask s g (fltLanes t)) i && condInvalid c.toNat (at' a i) (at' b i))
        then .invalid else .none := by
      simp only [fl, ← condInvalid_flags]
      rw [unionFlags_invalid, show fLanes t = fltLanes t from rfl, ← onLanes_eq (fltLanes_le t), List.any_filter]
    refine ⟨_, _, congrArg _ (State.vector_completes (fltLanes_le t) hen ?_),
      fun i hi => getLsbD_laneBits _ (fun i => floatHolds c (at' a i) (at' b i)) (fltLanes_le t) hi,
      fun i hi => getLsbD_laneBits _ (fun i => !floatHolds c (at' a i) (at' b i)) (fltLanes_le t) hi⟩
    rw [hflags]
    refine (M.bind_ok (readV_run (operands_start s 4) ha)).trans ((M.bind_ok (readV_run (operands_start s 4) hb)).trans ?_)
    simp only [floatCond_eq]
    exact M.bind_ok (writeLaneBits_run s g (fltLanes t) d e fun i => floatHolds c (at' a i) (at' b i))

/-! ### Selected lanes (R242) -/

theorem bit_laneMask_mod (s : State) (g : Guard) (t : BitVec 2) (k : Word) :
    bit (laneMask s g (intLanes t)) (k.toNat % intLanes t) = (s.focus.guard g).getLsbD (k.toNat % iLanes t) :=
  bit_laneMask (intLanes_le t) (Nat.mod_lt _ (intLanes_pos t))

/-! ### Reductions (R85, R243) -/

theorem reduceLanes_eq (f : Fmt) (rm : RM) (op : FVal → FVal → Nat × FFlags) (l : List Nat) : reduceLanes f rm op l = reduceBy f rm op l := by
  rcases l with _ | ⟨x, _ | ⟨y, l⟩⟩ <;> rfl

/-- R85, R243: a reduction writes what the enabled lanes reduce to and raises its flags. -/
theorem vred_completes (op : Fmt → RM → FVal → FVal → Nat × FFlags) {s : State} {g : Guard} {d : BitVec 4} {a : BitVec 5} {t : BitVec 2}
    (hen : LanesEnabled s g (fLanes t)) (ha : Clear s (.v a)) (hd : Clear s (.f d)) :
    let f := formatOf t.toNat
    let lanes := (onLanes s g (fLanes t)).map fun i => ((vBits s a).extractLsb' (f.width * i) f.width).toNat
    let r := reduceBy f (rmOf s.focus.fcsr) (op f (rmOf s.focus.fcsr)) lanes
    s.vector g (fltLanes t) (vred op t d a) = retired s (putF (start s 4) d (asF32 f r.1) r.2) 4 .no := by
  rw [← fmtOf_eq_formatOf]
  intro f lanes r
  have hr : r = reduceLanes f (rmOf s.focus.fcsr) (op f (rmOf s.focus.fcsr))
      (((List.range (fltLanes t)).filter fun i => bit (laneMask s g (fltLanes t)) i).map fun i => (lane f.width (vBits s a) i).toNat) := by
    rw [reduceLanes_eq, onLanes_eq (fltLanes_le t)]
    rfl
  rw [hr]
  refine State.vector_completes (fltLanes_le t) hen ?_
  exact (M.bind_ok (readV_run (operands_start s 4) ha)).trans ((M.bind_ok (roundingMode_run (operands_start s 4))).trans
    (writeF_raiseFlags_run (operands_start s 4) hd _ _))

/-- R85, R242, R243: lane selects and reductions. -/
theorem vectorSelectsAndReductions : Claim.VectorSelectsAndReductions := by
  refine ⟨fun s g d a b t k t₁ hen hb ha hk => ?_, fun s g d a b t k t₁ hen hb hk => ?_, fun e he s g d a t hen ha hd => ?_⟩
  · intro l
    have ht₁ := (operands_start s 4).trans (operands_take hk)
    have hbit := bit_laneMask_mod s g t k
    refine ⟨fun hoff => congrArg _ (State.vector_completes (intLanes_le t) hen ?_),
      fun t₂ hon hd hgive => congrArg _ (State.vector_completes (intLanes_le t) hen ?_)⟩ <;>
    refine (M.bind_ok (checkPorts_run (operands_start s 4) hb)).trans
      ((M.bind_ok (readV_run (operands_start s 4) ha)).trans ((M.bind_ok (readX_of_take hk)).trans ?_))
    · exact congrFun (if_neg (by rw [hbit, hoff]; decide)) _
    · exact (congrFun (if_pos (hbit.trans hon)) _).trans ((M.bind_ok (checkPorts_run ht₁ hd)).trans (writeX_of_give hgive))
  · intro l
    have ht₁ := (operands_start s 4).trans (operands_take hk)
    have hbit := bit_laneMask_mod s g t k
    refine ⟨fun hoff => congrArg _ (State.vector_completes (intLanes_le t) hen ?_), fun x t₂ hon ha hx hd =>
      ⟨setLane (intWidth t) (vBits s d) l (x.setWidth (intWidth t)), congrArg _ (State.vector_completes (intLanes_le t) hen ?_), fun i hi => ?_⟩⟩
    · refine (M.bind_ok (checkPorts_run (operands_start s 4) hb)).trans ((M.bind_ok (readX_of_take hk)).trans ?_)
      exact congrFun (if_neg (by rw [hbit, hoff]; decide)) _
    · have ht₂ := ht₁.trans (operands_take hx)
      refine (M.bind_ok (checkPorts_run (operands_start s 4) hb)).trans ((M.bind_ok (readX_of_take hk)).trans ?_)
      exact (congrFun (if_pos (hbit.trans hon)) _).trans ((M.bind_ok (checkPorts_run ht₁ ha)).trans ((M.bind_ok (readX_of_take hx)).trans
        ((M.bind_ok (readV_run ht₂ hd)).trans (writeV_run ht₂ hd _))))
    · have hw := (intWidth_mul_intLanes t).le
      have hl : l < intLanes t := Nat.mod_lt _ (intLanes_pos t)
      rw [BitVec.ofNat_toNat]
      exact extractLsb'_setLane _ _ ((Nat.mul_le_mul_left _ hl).trans hw) ((Nat.mul_le_mul_left _ hi).trans hw)
  · simp only [List.mem_cons, List.not_mem_nil, or_false] at he
    rcases he with rfl | rfl
    · exact congrArg _ (vred_completes Fmt.add hen ha hd)
    · exact congrArg _ (vred_completes (fun f rm => f.minMax rm true) hen ha hd)

/-- Settles O21: compares by the bits of their predicates, selects by their lane, reductions by the enabled lanes. -/
theorem vectorComparesAndSelects : Obligations.VectorComparesAndSelects := ⟨vectorComparesWriteBits, vectorSelectsAndReductions⟩

end Sys2Proof.Machine
end

section
/-! SUPPORT. Local accesses at issue (R92, R119, R389): what is read and written where nothing under way touches the bytes; blocks
that are written in place or leave as packets (R105, R252). -/

namespace Sys2Proof.Machine

open Sys2Proof.Claim

/-! ### Quiet bytes (R119, R389) -/

theorem shareWord_mono {key n k m a b : Nat} (hlo : key ≤ k) (hhi : k + m ≤ key + n) (h : shareWord k m a b = true) :
    shareWord key n a b = true := by
  simp only [shareWord, Bool.and_eq_true, decide_eq_true_eq] at h ⊢
  omega

theorem spansMeet_mono {key n k m : Nat} (ys : List (Nat × Nat)) (hlo : key ≤ k) (hhi : k + m ≤ key + n)
    (h : spansMeet [(k, m)] ys = true) : spansMeet [(key, n)] ys = true := by
  simp only [spansMeet, List.any_cons, List.any_nil, Bool.or_false, List.any_eq_true] at h ⊢
  obtain ⟨y, hy, hshare⟩ := h
  exact ⟨y, hy, shareWord_mono hlo hhi hshare⟩

theorem asyncBusy_mono {s : State} {h : HartId} {before key n k m : Nat} (hlo : key ≤ k) (hhi : k + m ≤ key + n)
    (hbusy : s.asyncBusy h before [(k, m)] = true) : s.asyncBusy h before [(key, n)] = true := by
  simp only [State.asyncBusy, Bool.or_eq_true, List.any_eq_true, Bool.and_eq_true] at hbusy ⊢
  refine hbusy.imp ?_ ?_
  · rintro ⟨c, hc, hof, hmeet⟩
    exact ⟨c, hc, hof, spansMeet_mono _ hlo hhi hmeet⟩
  · rintro ⟨b, hb, hof, hmeet⟩
    exact ⟨b, hb, hof, spansMeet_mono _ hlo hhi hmeet⟩

/-- Part of quiet bytes is quiet. -/
theorem quiet_part {s : State} {key n k m : Nat} (h : Quiet s key n) (hlo : key ≤ k) (hhi : k + m ≤ key + n) : Quiet s k m := by
  obtain ⟨hunder, hasync, hecc⟩ := h
  refine ⟨fun r hr => ?_, ?_, fun e he => ?_⟩
  · exact Bool.eq_false_iff.mpr fun hmeet => Bool.eq_false_iff.mp (hunder r hr) (spansMeet_mono _ hlo hhi hmeet)
  · exact Bool.eq_false_iff.mpr fun hbusy => Bool.eq_false_iff.mp hasync (asyncBusy_mono hlo hhi hbusy)
  · exact Bool.eq_false_iff.mpr fun hshare => Bool.eq_false_iff.mp (hecc e he) (shareWord_mono hlo hhi hshare)

/-- A hart that runs in the same launch and address space under the same name. -/
def SameHart (t₀ t : Thread) : Prop := t.id = t₀.id ∧ t.lid = t₀.lid ∧ t.space = t₀.space

theorem OperandsOnly.sameHart {t₀ t : Thread} (h : OperandsOnly t₀ t) : SameHart t₀ t := ⟨h.id_eq, h.lid_eq, h.space_eq⟩

section
variable {s : State} {t : Thread} (ht : SameHart s.focus t)
include ht

theorem State.bldSpans_sameHart : ({ s with focus := t } : State).bldSpans = s.bldSpans := by
  obtain ⟨hid, hlid, hspace⟩ := ht
  funext b
  have hhart : (({ s with focus := t } : State).hart b.hart).lid = (s.hart b.hart).lid ∧
      (({ s with focus := t } : State).hart b.hart).space = (s.hart b.hart).space := by
    unfold State.hart
    rw [hid]
    split
    · exact ⟨hlid, hspace⟩
    · exact ⟨rfl, rfl⟩
  obtain ⟨hl, hs⟩ := hhart
  unfold State.bldSpans
  rw [hl, hs, State.spans_focus]

/-- What is quiet does not depend on what the issuing hart computes. -/
theorem quiet_sameHart {key n : Nat} (h : Quiet s key n) : Quiet { s with focus := t } key n := by
  obtain ⟨hunder, hasync, hecc⟩ := h
  have hid : t.id = s.focus.id := ht.1
  refine ⟨fun r hr => ?_, ?_, hecc⟩
  · rw [State.reqSpans_focus]
    rw [show ({ s with focus := t } : State).focus.id = s.focus.id from hid] at hr
    exact hunder r hr
  · unfold State.asyncBusy at hasync ⊢
    rw [State.copySpans_focus, State.bldSpans_sameHart ht]
    rw [show ({ s with focus := t } : State).focus.id = s.focus.id from hid]
    exact hasync

end

section
variable {s : State} {key n : Nat} (hq : Quiet s key n)
include hq

theorem State.forward_quiet : s.forward s.focus.id key n = .home := by
  obtain ⟨hunder, -, -⟩ := hq
  have hnone : (s.underway s.focus.id).filter (fun r => r.body.writes && spansMeet [(key, n)] (s.reqSpans r)) = [] := by
    rw [List.filter_eq_nil_iff]
    intro r hr
    simp [hunder r hr]
  unfold State.forward
  simp only [hnone, List.isEmpty_nil, if_true]

theorem State.ownBusy_quiet : s.ownBusy key n = false := by
  obtain ⟨hunder, -, -⟩ := hq
  unfold State.ownBusy
  rw [List.any_eq_false]
  intro r hr
  simp [hunder r hr]

theorem State.eccRead_quiet : s.eccRead key n = (false, s) := by
  obtain ⟨-, -, hecc⟩ := hq
  have hsingle : s.ecc.filter (fun e => shareWord key n e.1 8 && !e.2) = [] := by
    rw [List.filter_eq_nil_iff]
    intro e he
    simp [hecc e he]
  have hkept : s.ecc.filter (fun e => !(shareWord key n e.1 8 && !e.2)) = s.ecc := by
    rw [List.filter_eq_self]
    intro e he
    simp [hecc e he]
  have hbad : s.ecc.any (fun e => shareWord key n e.1 8 && e.2) = false := by
    rw [List.any_eq_false]
    intro e he
    simp [hecc e he]
  simp only [State.eccRead, hsingle, hkept, hbad, List.foldl_nil]

/-- A quiet local read gives the bytes in memory. -/
theorem readLocal_quiet : readLocal key n s = .ok (s.peek key n) s := by
  simp only [readLocal, M.bind_run, M.get_run, State.forward_quiet hq, State.ownBusy_quiet hq, State.readFor, State.eccRead_quiet hq,
    await_run, Bool.not_false, if_true, M.set_run, M.pure_run, Bool.false_eq_true, if_false]

theorem orderLocal_quiet : orderLocal key n s = .ok () s := by
  obtain ⟨hunder, hasync, -⟩ := hq
  have hnone : (s.underway s.focus.id).any (fun r => r.isOf s.focus.id && spansMeet [(key, n)] (s.reqSpans r)) = false := by
    rw [List.any_eq_false]
    intro r hr
    simp [hunder r hr]
  simp only [orderLocal, M.bind_run, M.get_run, await_run, hnone, hasync, Bool.not_false, Bool.and_true, if_true]

end

theorem State.keepOld_of_focus (s : State) (t : Thread) (lid superstep key n : Nat) :
    ({ s with focus := t } : State).keepOld lid superstep key n = { s.keepOld lid superstep key n with focus := t } := by
  unfold State.keepOld
  rw [show ({ s with focus := t } : State).launch? lid = s.launch? lid from rfl]
  cases s.launch? lid with
  | none => rfl
  | some l => dsimp only; split <;> rfl

/-- A quiet local write is the statements' `stored`. -/
theorem writeLocal_quiet {s : State} {t : Thread} {key : Nat} {bytes : List (Option Byte)} (ht : OperandsOnly s.focus t)
    (hq : Quiet s key bytes.length) : writeLocal key bytes { s with focus := t } = .ok () { stored s key bytes with focus := t } := by
  have hsuper : t.superstep = s.focus.superstep := by rw [ht]
  refine (M.bind_ok (orderLocal_quiet (quiet_sameHart ht.sameHart hq))).trans ?_
  simp only [M.modify_run, stored, ht.lid_eq, hsuper, State.keepOld_of_focus]
  rfl

/-! ### Blocks (R105, R252) -/

/-- An access whose address is good, aligned to less than its length, goes on with its place. -/
theorem inRange_aligned_run {α : Type} {s : State} {t : Thread} {ea : Word} {n align : Nat} {write : Bool} (ht : OperandsOnly s.focus t)
    (hin : InRange s ea n align write) (k : Place → M α) :
    (do openGate; let p ← placeRange ea n write; aligned ea align; k p : M α) { s with focus := t } =
      k (placeOf s.focus.id (s.launchOf s.focus) ea) { s with focus := t } := by
  obtain ⟨hopen, hrange, halign⟩ := hin
  exact (M.bind_ok (openGate_run ht hopen)).trans ((M.bind_ok ((placeRange_run ht ea n write).trans (if_pos hrange))).trans
    (M.bind_ok ((aligned_run ea align _).trans (if_pos halign))))

section
variable {s : State} {t : Thread} {ea : Word} {bs : List Byte} {align : Nat} (ht : OperandsOnly s.focus t) (hin : InRange s ea bs.length align true)
include ht hin

theorem writeBlock_local {key : Nat} (c : BitVec 2) (hlocal : IsLocal s ea key) (hq : Quiet s key bs.length) :
    writeBlock ea align bs c { s with focus := t } = .ok () { stored s key (bs.map some) with focus := t } := by
  refine (inRange_aligned_run ht hin _).trans ?_
  rw [show placeOf s.focus.id (s.launchOf s.focus) ea = .loc key from hlocal]
  exact writeLocal_quiet ht (by rwa [List.length_map])

theorem writeBlock_remote {c : BitVec 2} (hremote : IsRemote s ea)
    (hmay : MaySend s (asPackets c) ((pieces bs.length ea bs).map fun q => (q.1, .store (q.2.map some)))) :
    writeBlock ea align bs c { s with focus := t } =
      .ok () (sent s t (asPackets c) ((pieces bs.length ea bs).map fun q => (q.1, .store (q.2.map some)))) := by
  have hsend := send_run ht hmay
  rw [List.map_map] at hsend
  refine (inRange_aligned_run ht hin _).trans ?_
  cases hplace : placeOf s.focus.id (s.launchOf s.focus) ea with
  | loc key => exact absurd hplace (hremote key)
  | _ => exact hsend

end

/-! ### Flags after sending -/

theorem State.enter_mapFocus (s : State) (f : Thread → Thread) (h : HartId) (buffered : Bool) (r : Req) :
    (s.mapFocus f).enter h buffered r = (s.enter h buffered r).mapFocus f := by
  unfold State.enter State.inject
  split
  · rfl
  · split <;> rfl

theorem State.foldl_enter_mapFocus (f : Thread → Thread) (h : HartId) (buffered : Bool) (rs : List Req) : ∀ s : State,
    rs.foldl (fun s r => s.enter h buffered r) (s.mapFocus f) = (rs.foldl (fun s r => s.enter h buffered r) s).mapFocus f := by
  induction rs with
  | nil => intro s; rfl
  | cons r rs ih => intro s; rw [List.foldl_cons, List.foldl_cons, State.enter_mapFocus, ih]

/-- Flags that the issuing hart raises after it has sent its requests. -/
theorem raiseFlags_sent {s : State} {t : Thread} (hid : t.id = s.focus.id) (m : Manner) (asks : List (Word × Body)) (fl : FFlags) :
    raiseFlags fl (sent s t m asks) = .ok () (sent s (t.raiseFlags fl) m asks) := by
  have hbooked : booked s (t.raiseFlags fl) m asks = (booked s t m asks).raiseFlags fl := by
    unfold booked
    cases m.dc <;> rfl
  have hbid (u : Thread) (hu : u.id = s.focus.id) : (booked s u m asks).id = s.focus.id := by
    unfold booked
    cases m.dc <;> exact hu
  simp only [raiseFlags, setFocus_run, sent, hbooked]
  split
  · rfl
  · rw [foldl_enter_focus (h := s.focus.id) _ _ (hbid t hid), foldl_enter_focus (h := s.focus.id) _ _ (hbid t hid)]
    exact congrArg (EStateM.Result.ok ()) (State.foldl_enter_mapFocus _ _ _ _ _).symm

end Sys2Proof.Machine
end

section
/-! SUPPORT. Tiles read out (R58, R80, R105, R252). -/

namespace Sys2Proof.Machine

open Sys2Proof.Claim

/-- R58: a tile that the thread owns is not refused. -/
theorem needTile_owned {s : State} {c : BitVec 1} (h : OwnsTile s c) : needTile c s = none := by
  have hc : c = 1 → c.toNat = 1 := by rintro rfl; rfl
  unfold needTile
  rw [if_neg]
  rintro (h0 | ⟨h1, hone⟩)
  · omega
  · have := hc h1; omega

theorem OperandsOnly.tile_eq {t₀ t : Thread} (h : OperandsOnly t₀ t) (c : BitVec 1) : t.tile c = tileOf t₀ c := by rw [h]; rfl

/-- R80: an element of a tile that is read out. -/
theorem Tile.element_eq (x : Tile) (f : Fmt) (rm : RM) (i : Nat) : x.element f rm i =
    if x.nan then (f.canon, .none) else if x.empty then (0, .none)
    else if (x.sums.toArray.getD i 0).toInt = 0 then (0, .none)
    else f.round rm (decide ((x.sums.toArray.getD i 0).toInt < 0)) (x.sums.toArray.getD i 0).toInt.natAbs x.exp.toInt := by
  simp [Tile.element, Fmt.ofInt, Fmt.zeroBits, flag]

/-- The bytes of a tile that is read out, and the union of the flags (R252). -/
def readOut (x : Tile) (f : Fmt) (rm : RM) (n : Nat) : List Byte := (List.range 64).flatMap fun i => leBytes n (x.element f rm i).1

theorem length_readOut (x : Tile) (f : Fmt) (rm : RM) (n : Nat) : (readOut x f rm n).length = 64 * n := by
  rw [readOut, length_flatMap_const (fun _ => length_leBytes _ _), List.length_range, Nat.mul_comm]

/-- The three MRD instructions are one form. -/
theorem exec_mrd {e : (Guard → BitVec 1 → BitVec 5 → BitVec 2 → Instr) × Fmt × Nat}
    (he : e ∈ ([(.mrdF32, .f32, 4), (.mrdBf16, .bf16, 2), (.mrdF16, .f16, 2)] :
      List ((Guard → BitVec 1 → BitVec 5 → BitVec 2 → Instr) × Fmt × Nat))) (g : Guard) (c : BitVec 1) (a : BitVec 5) (k : BitVec 2)
    (s : State) : exec (e.1 g c a k) s = .next (s.scalar .core g (mrd e.2.1 e.2.2 c a k) (needTile c)) := by
  simp only [List.mem_cons, List.not_mem_nil, or_false] at he
  rcases he with rfl | rfl | rfl <;> rfl

/-- The operands of MRD come first; then its block is written and its flags are raised. -/
theorem mrd_operands {s : State} {c : BitVec 1} {a : BitVec 5} {ea : Word} {t : Thread} (f : Fmt) (n : Nat) (k : BitVec 2)
    (hports : PortsOk s [a]) (hx : take s (start s 4) a = some (ea, t)) :
    mrd f n c a k { s with focus := start s 4 } =
      (do writeBlock ea 32 (readOut (tileOf s.focus c) f (rmOf s.focus.fcsr) n) k
          raiseFlags (unionFlags ((List.range 64).map fun i => ((tileOf s.focus c).element f (rmOf s.focus.fcsr) i).2)) : M Unit)
        { s with focus := t } := by
  have ht := (operands_start s 4).trans (operands_take hx)
  refine (M.bind_ok (checkPorts_run (operands_start s 4) hports)).trans ((M.bind_ok (readX_of_take hx)).trans
    ((M.bind_ok (roundingMode_run ht)).trans ((M.bind_ok (focus_run _)).trans ?_)))
  rw [foldl_or_none]
  simp only [ht.tile_eq, List.flatMap_map, List.map_map]
  rfl

/-- R80, R252: MRD. -/
theorem tilesAreReadOut : Claim.TilesAreReadOut := by
  intro e he s g c a k ea t hen hown hports hx x res bytes u asks hin
  have ht := (operands_start s 4).trans (operands_take hx)
  have hres : (fun i => x.element e.2.1 (rmOf s.focus.fcsr) i) = res := funext fun i => x.element_eq _ _ i
  have hbytes : readOut x e.2.1 (rmOf s.focus.fcsr) e.2.2 = bytes := by
    simp only [readOut, bytes, ← hres]
  have hu : u = t.raiseFlags (unionFlags ((List.range 64).map fun i => (x.element e.2.1 (rmOf s.focus.fcsr) i).2)) := by
    simp only [u, ← hres]
  have hlen : bytes.length = 64 * e.2.2 := by rw [← hbytes, length_readOut]
  have hrun := mrd_operands (c := c) e.2.1 e.2.2 k hports hx
  rw [show tileOf s.focus c = x from rfl, hbytes] at hrun
  rw [← hlen] at hin
  have hexec := exec_mrd he g c a k s
  refine ⟨fun key hlocal hq => ?_, fun hremote hmay => ?_⟩
  · rw [← hlen] at hq
    rw [CompletesIn, hu]
    exact hexec.trans (congrArg _ (State.scalar_ok hen (needTile_owned hown) (hrun.trans (M.bind_ok (writeBlock_local ht hin k hlocal hq)))))
  · rw [Sends, hu]
    exact hexec.trans (congrArg _ (State.scalar_ok hen (needTile_owned hown) (hrun.trans
      ((M.bind_ok (writeBlock_remote ht hin hremote hmay)).trans (raiseFlags_sent ht.id_eq _ _ _)))))

end Sys2Proof.Machine
end

section
/-! SUPPORT. Reduction messages (R77, R79, R253 to R255): their bytes, what they do to a tile, MRED and MACC. -/

namespace Sys2Proof.Machine

open Sys2Proof.Claim

/-! ### Bytes of a message (R254) -/

/-- The first word of a message. -/
theorem Tile.message_word0 (x : Tile) (i : Nat) : numAt (x.message i) 0 8 =
    1 + (if x.empty then 2 ^ 8 else 0) + (if x.sat then 2 ^ 9 else 0) + (if x.nan then 2 ^ 10 else 0) + i % 2 ^ 32 * 2 ^ 32 := by
  rw [Tile.message, List.append_assoc, numAt_leBytes_append_left _ _ (by decide)]
  cases x.empty <;> cases x.sat <;> cases x.nan <;> simp [flag] <;> omega

/-- The exponent of a message. -/
theorem Tile.message_word8 (x : Tile) (i : Nat) :
    numAt (x.message i) 8 8 = if x.empty then 0 else (x.exp.signExtend 64).toNat := by
  rw [Tile.message, List.append_assoc, numAt_leBytes_append_right _ _ _ (by decide), numAt_leBytes_append_left _ _ (by decide),
    Nat.pow_zero, Nat.div_one, Nat.mod_eq_of_lt]
  split
  · decide
  · exact (x.exp.signExtend 64).isLt

/-- The sums of a message. -/
theorem Tile.message_sum (x : Tile) (i : Nat) {m : Nat} (hm : m < 64) :
    numAt (x.message i) (16 + 8 * m) 8 = if x.empty then 0 else ((x.sums.toArray.getD m 0).signExtend 64).toNat := by
  have hsum := numAt_flatMap (f := fun v : BitVec 36 => leBytes 8 (if x.empty then 0 else (v.signExtend 64).toNat))
    (fun _ => length_leBytes _ _) (l := x.sums.toList) (i := m) (by simpa using hm) (o := 0) (n := 8) (by decide)
  rw [Nat.add_zero] at hsum
  rw [Tile.message, List.append_assoc, numAt_leBytes_append_right _ _ _ (by omega), numAt_leBytes_append_right _ _ _ (by omega),
    show 16 + 8 * m - 8 - 8 = 8 * m by omega, hsum, numAt_leBytes _ (by decide), Nat.pow_zero, Nat.div_one, Nat.mod_eq_of_lt]
  · simp [hm]
  · split
    · decide
    · exact BitVec.isLt _

/-! ### What a message does to a tile (R255) -/

theorem fieldN_one_iff (v lo : Nat) : fieldN v lo 1 = 1 ↔ v.testBit lo = true := by
  rw [fieldN, Nat.pow_one, Nat.testBit_eq_decide_div_mod_eq, decide_eq_true_iff]

/-- R255: a message by its KIND, EMPTY, SAT and NAN. -/
theorem Tile.applyMessage_eq (x : Tile) (m : List Byte) : x.applyMessage m =
    if numAt m 0 8 % 256 ≠ 1 then x
    else if (numAt m 0 8).testBit 8 = true ∧ (numAt m 0 8).testBit 10 = false then x
    else ({ x with sat := x.sat || (numAt m 0 8).testBit 9 } : Tile).alignAdd
      ((List.range 64).map fun k => (BitVec.ofNat 36 (numAt m (16 + 8 * k) 8)).toInt) (BitVec.ofNat 16 (numAt m 8 8)) ((numAt m 0 8).testBit 10) := by
  have hkind : fieldN (numAt m 0 8) 0 8 = numAt m 0 8 % 256 := by simp [fieldN]
  have hsat : (if (numAt m 0 8).testBit 9 = true then { x with sat := true } else x) =
      ({ x with sat := x.sat || (numAt m 0 8).testBit 9 } : Tile) := by
    cases (numAt m 0 8).testBit 9 <;> simp
  simp only [Tile.applyMessage, fieldN_one_iff, hkind, hsat, Bool.decide_eq_true, Bool.not_eq_true']
  rfl

theorem setWidth_signExtend {w : Nat} (v : BitVec w) (hw : w ≤ 64) : (BitVec.ofNat w (v.signExtend 64).toNat) = v := by
  rw [BitVec.ofNat_toNat]
  refine BitVec.eq_of_getLsbD_eq fun i hi => ?_
  rw [BitVec.getLsbD_setWidth, BitVec.getLsbD_signExtend]
  simp [hi, show i < 64 by omega]

theorem Tile.alignAdd_empty {t : Tile} (xs : List Int) (e : BitVec 16) (hnan : t.nan = false) (hempty : t.empty = true) :
    t.alignAdd xs e false = t.putSums e xs := by
  simp [Tile.alignAdd, hnan, hempty]

theorem clampSum_toInt_self (v : BitVec 36) : clampSum v.toInt = (v, false) := by
  have hlo : -(2 ^ 35) ≤ v.toInt := BitVec.le_toInt v
  have hhi : v.toInt < 2 ^ 35 := BitVec.toInt_lt
  rw [clampSum, max_eq_right (by omega), min_eq_right (by omega), BitVec.ofInt_toInt]
  simp
  omega

/-- A tile whose sums are replaced by its own. -/
theorem Tile.putSums_values (x t : Tile) : t.putSums x.exp x.values = ⟨x.sums, x.exp, false, t.sat, t.nan⟩ := by
  have hclamp : x.values.map clampSum = x.sums.toList.map fun v => (v, false) := by
    rw [Tile.values, List.map_map]
    exact List.map_congr_left fun v _ => clampSum_toInt_self v
  simp only [Tile.putSums, hclamp, Tile.mk.injEq, true_and]
  have hlimit : ((x.sums.toList.map fun v => (v, false)).any fun y => y.2) = false := by
    rw [List.any_map, List.any_eq_false]
    exact fun _ _ => Bool.false_ne_true
  refine ⟨Vector.ext fun i _ => ?_, ?_, trivial⟩
  · simp
  · rw [hlimit, Bool.or_false]

/-- R255: a message of a tile that holds sums gives them to an empty tile. -/
theorem Tile.applyMessage_message (x : Tile) (i : Nat) (hempty : x.empty = false) (hnan : x.nan = false) :
    Tile.zero.applyMessage (x.message i) = x := by
  have hword := x.message_word0 i
  rw [hempty, hnan] at hword
  have hexp : BitVec.ofNat 16 (numAt (x.message i) 8 8) = x.exp := by
    rw [x.message_word8, hempty]
    exact setWidth_signExtend x.exp (by decide)
  have hsums : ((List.range 64).map fun k => (BitVec.ofNat 36 (numAt (x.message i) (16 + 8 * k) 8)).toInt) = x.values := by
    refine List.ext_getElem (by rw [x.length_values]; simp) fun k hk _ => ?_
    have hk : k < 64 := by simpa using hk
    rw [List.getElem_map, List.getElem_range, x.message_sum i hk, hempty]
    simp only [Bool.false_eq_true, if_false, setWidth_signExtend _ (show 36 ≤ 64 by decide)]
    simp [Tile.values, hk]
  have hflags : numAt (x.message i) 0 8 % 256 = 1 ∧ (numAt (x.message i) 0 8).testBit 8 = false ∧
      (numAt (x.message i) 0 8).testBit 9 = x.sat ∧ (numAt (x.message i) 0 8).testBit 10 = false := by
    rw [hword]
    simp only [Nat.testBit_eq_decide_div_mod_eq]
    cases x.sat <;> simp <;> omega
  obtain ⟨hkind, h8, h9, h10⟩ := hflags
  rw [Tile.applyMessage_eq, hexp, hsums, hkind, h8, h9, h10, if_neg (by decide), if_neg (by decide),
    Tile.alignAdd_empty (hnan := rfl) (hempty := rfl), Tile.putSums_values]
  obtain ⟨sums, exp, empty, sat, nan⟩ := x
  obtain rfl : empty = false := hempty
  obtain rfl : nan = false := hnan
  rfl

/-! ### MRED and MACC (R253, R255) -/

theorem State.lcore_operands {s : State} {t : Thread} (ht : OperandsOnly s.focus t) : ({ s with focus := t } : State).lcore = s.lcore := by
  unfold State.lcore State.launchOf
  rw [show ({ s with focus := t } : State).focus = t from rfl, ht.id_eq, ht.lid_eq]
  rfl

theorem mred_operands {s : State} {c : BitVec 1} {a : BitVec 5} {ea : Word} {t : Thread} (k : BitVec 2) (hports : PortsOk s [a])
    (hx : take s (start s 4) a = some (ea, t)) :
    (do checkPorts [a]
        let ea ← readX a
        let s ← get
        writeBlock ea 8 ((s.focus.tile c).message s.lcore) k : M Unit) { s with focus := start s 4 } =
      writeBlock ea 8 ((tileOf s.focus c).message s.lcore) k { s with focus := t } := by
  have ht := (operands_start s 4).trans (operands_take hx)
  refine (M.bind_ok (checkPorts_run (operands_start s 4) hports)).trans ((M.bind_ok (readX_of_take hx)).trans ((M.bind_ok (M.get_run _)).trans ?_))
  rw [State.lcore_operands ht, ← ht.tile_eq c]

/-- R92: the launch's area is a good range. -/
theorem tcmRange_run {s : State} {t : Thread} {a : Word} {n key : Nat} (ht : OperandsOnly s.focus t) (harea : InArea s a n key) :
    tcmRange a n { s with focus := t } = .ok key { s with focus := t } := by
  obtain ⟨l, hl, c, hc, hend, hfirst, hlast, rfl⟩ := harea
  have hlaunch : ({ s with focus := t } : State).launchOf t = some l := by
    unfold State.launchOf
    rw [ht.lid_eq]
    exact hl
  simp only [tcmRange, M.bind_run, M.get_run, hlaunch, ht.id_eq, show s.focus.id.core? = some c from hc, check_run, hend, hfirst, hlast,
    decide_true, Bool.and_self, if_true, M.pure_run]

theorem withTile_tileOf (t : Thread) (c : BitVec 1) : withTile t c (tileOf t c) = t := by
  unfold withTile tileOf; split <;> rfl

theorem tileOf_withTile (t : Thread) (c : BitVec 1) (x : Tile) : tileOf (withTile t c x) c = x := by
  unfold withTile tileOf; split <;> rfl

theorem withTile_withTile (t : Thread) (c : BitVec 1) (x y : Tile) : withTile (withTile t c x) c y = withTile t c y := by
  unfold withTile; split <;> rfl

theorem sameHart_withTile {t₀ t : Thread} (h : SameHart t₀ t) (c : BitVec 1) (x : Tile) : SameHart t₀ (withTile t c x) := by
  unfold withTile; split <;> exact h

/-- R255: messages in quiet slots are applied in order. -/
theorem maccMessages_run {s : State} (c : BitVec 1) (key : Nat) (slots : List Nat) : ∀ {t : Thread}, SameHart s.focus t →
    (∀ j ∈ slots, Quiet s (key + 528 * j) 528) → maccMessages c key slots { s with focus := t } =
      .ok () { s with focus := withTile t c (slots.foldl (fun x j => x.applyMessage (s.peek (key + 528 * j) 528)) (tileOf t c)) } := by
  induction slots with
  | nil =>
    intro t _ _
    rw [List.foldl_nil, withTile_tileOf]
    rfl
  | cons j slots ih =>
    intro t ht hq
    have hread := readLocal_quiet (quiet_sameHart ht (hq j List.mem_cons_self))
    have hrest := ih (sameHart_withTile ht c ((tileOf t c).applyMessage (s.peek (key + 528 * j) 528)))
      fun i hi => hq i (List.mem_cons_of_mem j hi)
    rw [withTile_withTile, tileOf_withTile] at hrest
    exact (M.bind_ok hread).trans ((M.bind_ok (setFocus_run _ _)).trans hrest)

/-- What MACC does once it has its operands. -/
def maccOf (c : BitVec 1) (ea n : Word) : M Unit := do
  if n = 0 then return ()
  check (n.toNat ≤ 64) ILLEGAL
  openGate
  let key ← tcmRange ea (528 * n.toNat)
  aligned ea 8
  maccMessages c key (List.range n.toNat)

theorem execMacc_eq (g : Guard) (c : BitVec 1) (a b : BitVec 5) (s : State) : execMacc g c a b s =
    .next (s.scalar .core g (do checkPorts [a, b]; let ea ← readX a; let n ← readX b; maccOf c ea n) (needTile c)) := rfl

theorem macc_operands {s : State} {c : BitVec 1} {a b : BitVec 5} {ea n : Word} {t₁ t₂ : Thread} (hports : PortsOk s [a, b])
    (hx : take s (start s 4) a = some (ea, t₁)) (hy : take s t₁ b = some (n, t₂)) :
    (do checkPorts [a, b]; let ea ← readX a; let n ← readX b; maccOf c ea n : M Unit) { s with focus := start s 4 } =
      maccOf c ea n { s with focus := t₂ } :=
  (M.bind_ok (checkPorts_run (operands_start s 4) hports)).trans ((M.bind_ok (readX_of_take hx)).trans (M.bind_ok (readX_of_take hy)))

/-- R79: no slot, no effect. -/
theorem maccOf_zero (c : BitVec 1) (ea : Word) (s : State) : maccOf c ea 0 s = .ok () s := rfl

/-- R255: more than 64 slots. -/
theorem maccOf_illegal (c : BitVec 1) (ea : Word) {n : Word} (s : State) (hn : 64 < n.toNat) :
    maccOf c ea n s = .error (.trap ILLEGAL 0) s := by
  have hn0 : n ≠ 0 := by rintro rfl; simp at hn
  exact (congrFun (if_neg hn0) s).trans (M.bind_error (check_fails ILLEGAL s (decide_eq_false (by omega))))

/-- R255: quiet slots of the launch's area. -/
theorem maccOf_run {s : State} {t : Thread} (c : BitVec 1) {ea n : Word} {key : Nat} (ht : OperandsOnly s.focus t) (hn : n ≠ 0)
    (hle : n.toNat ≤ 64) (hopen : s.focus.acquires = []) (harea : InArea s ea (528 * n.toNat) key) (halign : ea.toNat % 8 = 0)
    (hq : Quiet s key (528 * n.toNat)) : maccOf c ea n { s with focus := t } =
      .ok () { s with focus := withTile t c ((List.range n.toNat).foldl
        (fun x j => x.applyMessage (s.peek (key + 528 * j) 528)) (tileOf s.focus c)) } := by
  have hslots : ∀ j ∈ List.range n.toNat, Quiet s (key + 528 * j) 528 := fun j hj => by
    have hj := List.mem_range.mp hj
    exact quiet_part hq (by omega) (by omega)
  have hrun := maccMessages_run c key (List.range n.toNat) ht.sameHart hslots
  rw [show tileOf t c = tileOf s.focus c from ht.tile_eq c] at hrun
  refine (congrFun (if_neg hn) _).trans ?_
  refine (M.bind_ok (check_passes ILLEGAL _ (decide_eq_true hle))).trans ((M.bind_ok (openGate_run ht hopen)).trans ?_)
  exact (M.bind_ok (tcmRange_run ht harea)).trans ((M.bind_ok ((aligned_run ea 8 _).trans (if_pos halign))).trans hrun)

/-- R253, R254, R255: reduction messages. -/
theorem reductionMessages : Claim.ReductionMessages := by
  refine ⟨fun s g c a k ea t hen hown hports hx => ?_, fun s g c a b ea n t₁ t₂ hen hown hports hx hy => ?_, fun x i hempty hnan =>
    x.applyMessage_message i hempty hnan, fun x i => ⟨x.message_word0 i, x.message_word8 i, fun m hm => x.message_sum i hm⟩,
    fun x m _ => ?_⟩
  · intro bytes asks
    have ht := (operands_start s 4).trans (operands_take hx)
    have hlen : bytes.length = 528 := Tile.length_message _ _
    have hrun := mred_operands (c := c) k hports hx
    refine ⟨hlen, fun hin => ?_⟩
    rw [← hlen] at hin
    refine ⟨fun key hlocal hq => ?_, fun hremote hmay => ?_⟩
    · rw [← hlen] at hq
      exact congrArg _ (State.scalar_ok hen (needTile_owned hown) (hrun.trans (writeBlock_local ht hin k hlocal hq)))
    · exact congrArg _ (State.scalar_ok hen (needTile_owned hown) (hrun.trans (writeBlock_remote ht hin hremote hmay)))
  · have ht := ((operands_start s 4).trans (operands_take hx)).trans (operands_take hy)
    have hrun := macc_operands (c := c) hports hx hy
    refine ⟨fun hn => ?_, fun hn => ?_, fun key hn hle hopen harea halign hq => ?_⟩
    · subst hn
      exact congrArg _ (State.scalar_completes hen (needTile_owned hown) (hrun.trans (maccOf_zero c ea _)))
    · exact congrArg _ (State.scalar_trap hen (needTile_owned hown) (hrun.trans (maccOf_illegal c ea _ hn)))
    · exact congrArg _ (State.scalar_completes hen (needTile_owned hown)
        (hrun.trans (maccOf_run c ht hn hle hopen harea halign hq)))
  · refine ⟨fun hkind => ?_, fun hkind h8 h10 => ?_, fun hkind happly => ?_⟩ <;> rw [Tile.applyMessage_eq]
    · exact if_pos hkind
    · exact (if_neg (not_not_intro hkind)).trans (if_pos ⟨h8, h10⟩)
    · refine (if_neg (not_not_intro hkind)).trans (if_neg ?_)
      rintro ⟨h8, h10⟩
      exact happly.elim (fun h => Bool.false_ne_true (h.symm.trans h8)) fun h => Bool.false_ne_true (h10.symm.trans h)

/-- Settles O25: what MRD writes, what a message holds and does, and the messages that MRED sends and MACC applies. -/
theorem tilesAreReadAndReduced : Obligations.TilesAreReadAndReduced := ⟨tilesAreReadOut, reductionMessages⟩

end Sys2Proof.Machine
end
